-- ==== Sys2Proof/Word.lean ====
section
/-! DEFINITION. The word types of the UL-7160 model and their plainest arithmetic (00 R3, R4, R7). -/

namespace Sys2Proof

/-- One byte of a format (00 R3). -/
abbrev Byte := BitVec 8
/-- One 32-bit register or data word (00 R4, 20 R562). -/
abbrev Word := BitVec 32
/-- One 64-bit slot or count. -/
abbrev DWord := BitVec 64
/-- A byte string: a frame, a record, a flash range; offset 0 first (00 R3). -/
abbrev Bytes := List Byte

/-- A count that stays at its all-ones value (a "saturating" counter of the manual). -/
def satInc {w : Nat} (x : BitVec w) : BitVec w :=
  if x = BitVec.allOnes w then x else x + 1

/-- A natural number cut at the all-ones value of a field of `w` bits. -/
def satNat (w n : Nat) : BitVec w :=
  BitVec.ofNat w (min n (2 ^ w - 1))

/-- The word with a single bit set. -/
def bitAt (w n : Nat) : BitVec w := BitVec.ofNat w (2 ^ n)

/-- A truth value as a number. -/
def boolNat (b : Bool) : Nat := if b then 1 else 0

/-- Replace the element at position `i` of a list (no effect beyond its end). -/
def setAt {α : Type} (l : List α) (i : Nat) (f : α → α) : List α :=
  l.modify i f

end Sys2Proof
end

