-- ==== Sys2Proof/Machine/Operand.lean ====
section
/-! DEFINITION. What a command carries: the operand types of Sys2Proof.Instr (measurements from outside the package,
frames, crossing-link messages, and the fields of a TIC instruction word). -/

namespace Sys2Proof

/-- The two access paths to the register space (20 R562). -/
inductive Path where
  | spi | mgmt
  deriving DecidableEq, Repr

/-- TIC type codes 0x1 to 0xD (09 R243). -/
inductive Ty where
  | bool | sint | int | dint | lint | usint | uint | udint | ulint | real | lreal | time | ldt
  deriving DecidableEq, Repr

/-- Measured rotation of the phases (02 R25). -/
inductive Rotation where
  | none | abc | acb
  deriving DecidableEq, Repr

/-- What the phase tracker measured over one tide cycle (02 R25 to R27): frequencies in micro-hertz (lowest,
highest and last of the cycle), peak amplitude of the reference in converter codes, rotation, the phases present,
the tracker's angle at the boundary, and the four RMS values in Q8.24. -/
structure Tracker where
  freqLo : Nat := 0
  freqHi : Nat := 0
  freq : Nat := 0
  amplitude : Nat := 0
  rotation : Rotation := .none
  phA : Bool := false
  phB : Bool := false
  phC : Bool := false
  angle : BitVec 16 := 0
  vrmsA : Word := 0
  vrmsB : Word := 0
  vrmsC : Word := 0
  vrmsPs : Word := 0
  deriving DecidableEq, Repr

/-- The snapshots that registers define (02 R51, R54; 13 R392; 16 R471; 17 R495; 19 R543). -/
inductive SnapKind where
  | tide | stamp | ntime | meter | optime | calendar
  deriving DecidableEq, Repr

/-- A clock monitored by the clock monitors (19 R531). -/
inductive MonClock where
  | xtal1 | pllSys | pllSol | pllNet
  deriving DecidableEq, Repr

/-- A wake source (19 R534). -/
inductive WakeSource where
  | hspiCs | alarm0 | alarm1
  deriving DecidableEq, Repr

/-- Where scrubbing found a bad word (14 R414). -/
inductive EccPlace where
  | tile (n : BitVec 6)
  | other
  deriving DecidableEq, Repr

/-- A tile or a core pair, as a self-test or comparator names it (05 R131). -/
inductive HwUnit where
  | tile (n : BitVec 6)
  | core (n : BitVec 3)
  deriving DecidableEq, Repr

/-- A time on NTIME: seconds and nanoseconds (13 R377). -/
structure Stamp where
  sec : BitVec 48 := 0
  ns : BitVec 30 := 0
  deriving DecidableEq, Repr

/-- A tide time c:a (00 R8). -/
structure TideTime where
  cycle : BitVec 48 := 0
  angle : BitVec 16 := 0
  deriving DecidableEq, Repr

/-- What a port's link shows: nothing; on an ETH port, an SGMII in-band link codeword of a speed in Mb/s and a duplex; on a T1L
port, a link to its partner (13 R365, R366). -/
inductive LinkSignal where
  | none
  | codeword (mbps : Nat) (full : Bool)
  | t1l
  deriving DecidableEq, Repr

/-- What the IEEE 1588 firmware decides on a message or a timeout (13 R382): the servo's new state, the measured
offset in ns, an increment it writes (integer, fraction), a step it issues (negative, seconds, ns), the
grandmaster's UTC offset with its validity, and a message it submits in answer with its frame identifier. -/
structure PtpAction where
  servo : BitVec 2 := 0
  offset : Int := 0
  incr : Option (BitVec 8 × BitVec 32) := none
  step : Option (Bool × BitVec 48 × BitVec 30) := none
  utc : Option (BitVec 16 × Bool) := none
  reply : Option (BitVec 16 × Bytes) := none
  deriving DecidableEq, Repr

/-- The LDS values that the active unit sends with an image (09 R268, R269). -/
structure LdsValues where
  cycle : Word := 0
  angle : BitVec 16 := 0
  ntime : DWord := 0
  first : Bool := false
  stage : BitVec 8 := 0
  pair : BitVec 8 := 0
  forced : Bool := false
  period : DWord := 0
  faultCode : Word := 0
  faultTask : BitVec 8 := 0
  faultOff : Word := 0
  clamps : Word := 0
  deriving DecidableEq, Repr

/-- A change of force: set a slot to a variable's value, or clear a slot, or clear all (10 R296, R297). -/
inductive ForceChange where
  | set (slot : BitVec 8) (index : BitVec 20) (lo hi : Word)
  | clear (slot : BitVec 8)
  | clearAll
  deriving DecidableEq, Repr

/-- The settings of a test signal (11 R324, R328). -/
structure TestSetting where
  kind : BitVec 3 := 0
  output : Bool := false
  hold : BitVec 8 := 0
  amp : Word := 0
  len : Word := 0
  f0 : Word := 0
  f1 : Word := 0
  deriving DecidableEq, Repr

/-- A start or stop of a loop test (11 R324). -/
inductive TestChange where
  | start (loop : BitVec 9) (t : TestSetting)
  | stop (loop : BitVec 9)
  deriving DecidableEq, Repr

/-- A station outcome that the active unit forwards (12 R350). -/
inductive StationOutcome where
  | accepted (station : BitVec 11) (pathB : Bool) (failsafe : Bool) (words : List Word)
  | missed (station : BitVec 11)
  | pathLost (station : BitVec 11) (pathB : Bool)
  | dropped (station : BitVec 11)
  | rejoined (station : BitVec 11)
  | rejoinPermitted (station : BitVec 11)
  deriving DecidableEq, Repr

/-- The IMAGE message of an input freeze (14 R399). -/
structure ImageMsg where
  task : BitVec 5
  scan : Word := 0
  start : TideTime := {}
  commitSeen : Word := 0
  timerNow : Nat := 0
  lds : LdsValues := {}
  decisions : List (BitVec 5 × Bool) := []
  forces : List ForceChange := []
  tests : List TestChange := []
  hostDelta : List Bytes := []
  outcomes : List StationOutcome := []
  words : List (Nat × Word) := []
  deriving DecidableEq, Repr

/-- A forwarded loop measurement: the loop and its captured local value as a quotient (11 R323). -/
structure SampleMeas where
  loop : BitVec 9
  num : Nat
  den : Nat
  deriving DecidableEq, Repr

/-- The SAMPLE message of a loop sample (14 R399): its mark, V, local measurements, pending test changes. -/
structure SampleMsg where
  time : TideTime
  mark : BitVec 8
  volt : Int
  meas : List SampleMeas
  tests : List TestChange := []
  deriving DecidableEq, Repr

/-- The DIGEST message (14 R403). -/
structure DigestMsg where
  fix : Bool
  task : BitVec 5 := 0
  scan : Word := 0
  cycle : Word := 0
  digest : Bytes := []
  deriving DecidableEq, Repr

/-- The HEALTH message (14 R399): both exclusion sets, tiles then core pairs, and the self-test state. -/
structure HealthMsg where
  e0Tiles : BitVec 64 := 0
  e0Cores : BitVec 5 := 0
  e1Tiles : BitVec 64 := 0
  e1Cores : BitVec 5 := 0
  selfTest : Word := 0
  deriving DecidableEq, Repr

/-- The SOLVER message (14 R399): rounds per tile, rounds per class P span (by problem), and the counts of each
problem stopped (problem, iterations, factor steps). -/
structure SolverMsg where
  tiles : List (BitVec 6 × Nat) := []
  spans : List (BitVec 11 × Nat) := []
  stopped : List (BitVec 11 × Nat × Nat) := []
  deriving DecidableEq, Repr

/-- A management request's envelope after its frame is taken apart (20 R557, R560). -/
structure MgmtHead where
  port : BitVec 3
  session : Word
  counter : Word
  raw : Bytes
  tag : Bytes
  deriving DecidableEq, Repr

end Sys2Proof
end

