-- ==== Sys2Proof/Syntax.lean ====
section
/-! DEFINITION. The commands of the UL-7160, one constructor per row of spec/opcode_table.json, in the table's order;
each docstring gives the row's mnemonic and governing rule. -/

namespace Sys2Proof

/-- A command to the block: an operation, an event or a TIC instruction (95). -/
inductive Instr where
  /-- VIN_VALID (21 R580). -/
  | vinValid
  /-- RESET_N_ASSERT (04 R104). -/
  | resetNAssert
  /-- RESET_N_RELEASE (21 R580). -/
  | resetNRelease
  /-- WATCHDOG_EXPIRY (04 R104). -/
  | watchdogExpiry
  /-- PFAIL_WARN (04 R105). -/
  | pfailWarn (vinMv : BitVec 16) (holdLow : Bool)
  /-- FLUSH_COMPLETE (04 R106). -/
  | flushComplete (time10us : Nat)
  /-- VIN_BELOW_RESET (21 R581). -/
  | vinBelowReset
  /-- HOST_WARM (04 R110). -/
  | hostWarm (path : Path) (key : BitVec 16)
  /-- HOST_COLD (04 R110). -/
  | hostCold (path : Path) (key : BitVec 16)
  /-- HOST_DEFAULT (04 R110). -/
  | hostDefault (path : Path) (key : BitVec 16)
  /-- HFIO_QUALIFIED (19 R529). -/
  | hfioQualified
  /-- SAFE_PATTERN_LOADED (04 R83). -/
  | safePatternLoaded
  /-- MOORING_EVALUATE (04 R90). -/
  | mooringEvaluate (failFrom : Option Nat)
  /-- MOORING_LOOP_SAMPLE (04 R95). -/
  | mooringLoopSample (loop : BitVec 4)
  /-- MOORING_PULSE_END (04 R95). -/
  | mooringPulseEnd (loop : BitVec 4)
  /-- INTERLOCK_EVALUATION (04 R97). -/
  | interlockEvaluation
  /-- XTAL_QUALIFIED (19 R530). -/
  | xtalQualified (xtal2Ok : Bool)
  /-- XTAL_RETRY (04 R99). -/
  | xtalRetry (xtal2Ok : Bool)
  /-- FIRMWARE_VERIFY (18 R507). -/
  | firmwareVerify (failFrom : Option Nat)
  /-- MANIFEST_VERIFY (03 R71). -/
  | manifestVerify (failFrom : Option Nat)
  /-- HOLD_OK (04 R100). -/
  | holdOk
  /-- TIDE_CYCLE_BOUNDARY (02 R36). -/
  | tideCycleBoundary (t : Tracker)
  /-- TIDE_LOCK (02 R29). -/
  | tideLock
  /-- ACQUISITION_TIMEOUT (02 R29). -/
  | acquisitionTimeout
  /-- COAST_START (02 R42). -/
  | coastStart
  /-- RELOCK_START (02 R43). -/
  | relockStart (trackerAngle : BitVec 16)
  /-- PHASE_JUMP (02 R28). -/
  | phaseJump (trackerAngle : BitVec 16)
  /-- SLEW_END (02 R43). -/
  | slewEnd
  /-- TIDE_CYCLE_READ (02 R51). -/
  | tideCycleRead (path : Path)
  /-- TIDE_ZC_CYCLE_READ (02 R54). -/
  | tideZcCycleRead (path : Path)
  /-- SNAPSHOT_END_READ (19 R543). -/
  | snapshotEndRead (path : Path) (snap : SnapKind)
  /-- SNAPSHOT_TIMEOUT (19 R543). -/
  | snapshotTimeout (path : Path) (snap : SnapKind)
  /-- TIDE_CONV_GO (02 R55). -/
  | tideConvGo (path : Path) (angle : BitVec 16)
  /-- TIDE_CONV_DONE (02 R55). -/
  | tideConvDone
  /-- OPTIMISATION_PERIOD_BOUNDARY (01 R22). -/
  | optimisationPeriodBoundary (mark : BitVec 8)
  /-- SCAN_TASK_START (10 R281). -/
  | scanTaskStart (mark : BitVec 8)
  /-- LOOP_GROUP_SAMPLE (11 R311). -/
  | loopGroupSample (mark : BitVec 8)
  /-- LOOP_PULSE_END (11 R319). -/
  | loopPulseEnd (loop : BitVec 9)
  /-- FERRY_FRAME_LAUNCH (12 R343). -/
  | ferryFrameLaunch (mark : BitVec 8)
  /-- RUN_AHEAD_START (08 R229). -/
  | runAheadStart (mark : BitVec 8)
  /-- SOLVER_DEADLINE (07 R204). -/
  | solverDeadline (mark : BitVec 8) (rates : List (Option Nat))
  /-- UNIT_SLOW (05 R130). -/
  | unitSlow (tile : BitVec 6)
  /-- METER_TARIFF_CHECK (16 R464). -/
  | meterTariffCheck (mark : BitVec 8)
  /-- ITERATION (07 R187). -/
  | iteration (problem : BitVec 11)
  /-- FACTOR_STEP (07 R197). -/
  | factorStep (problem : BitVec 11)
  /-- OUTER_ITERATION_END (08 R225). -/
  | outerIterationEnd
  /-- DELIVERY_PASS (07 R207). -/
  | deliveryPass
  /-- RESULTS_FIXED (07 R207). -/
  | resultsFixed
  /-- CHECKPOINT_DONE (08 R236). -/
  | checkpointDone
  /-- SUBMIT (06 R172). -/
  | submit (path : Path)
  /-- SOL_VDATA_READ (06 R183). -/
  | solVdataRead (path : Path)
  /-- EVENT_TASK_DISPATCH (10 R277). -/
  | eventTaskDispatch (task : BitVec 5)
  /-- ERROR_TASK_DISPATCH (10 R278). -/
  | errorTaskDispatch
  /-- SCAN_COMMIT (10 R284). -/
  | scanCommit (task : BitVec 5)
  /-- RESOLUTION (10 R287). -/
  | resolution (task : BitVec 5)
  /-- CORE_MISMATCH (10 R289). -/
  | coreMismatch (task : BitVec 5)
  /-- RETAIN_COPY (10 R294). -/
  | retainCopy
  /-- FORCE_SET (10 R296). -/
  | forceSet (path : Path) (key : BitVec 16)
  /-- FORCE_CLEAR (10 R296). -/
  | forceClear (path : Path) (key : BitVec 16)
  /-- FORCE_CLEAR_ALL (10 R302). -/
  | forceClearAll (path : Path) (key : BitVec 16)
  /-- SCAN_FRC_SEL_WRITE (10 R302). -/
  | scanFrcSelWrite (path : Path) (slot : BitVec 8)
  /-- SCAN_T_EXECMAX_READ (10 R301). -/
  | scanTExecmaxRead (path : Path)
  /-- LD (09 R255). -/
  | ld (task : BitVec 5) (ty : Ty) (index : BitVec 20)
  /-- LDF (09 R255). -/
  | ldf (task : BitVec 5) (ty : Ty) (off : BitVec 20)
  /-- ST (09 R255). -/
  | st (task : BitVec 5) (ty : Ty) (index : BitVec 20)
  /-- STF (09 R255). -/
  | stf (task : BitVec 5) (ty : Ty) (off : BitVec 20)
  /-- LDI (09 R255). -/
  | ldi (task : BitVec 5) (ty : Ty) (imm : BitVec 20)
  /-- LDX (09 R255). -/
  | ldx (task : BitVec 5) (ty : Ty) (value : BitVec 64)
  /-- LDIX (09 R262). -/
  | ldix (task : BitVec 5) (ty : Ty) (index : BitVec 20)
  /-- STIX (09 R262). -/
  | stix (task : BitVec 5) (ty : Ty) (index : BitVec 20)
  /-- DUP (09 R255). -/
  | dup (task : BitVec 5)
  /-- DROP (09 R255). -/
  | drop (task : BitVec 5)
  /-- SWAP (09 R255). -/
  | swap (task : BitVec 5)
  /-- ADD (09 R256). -/
  | add (task : BitVec 5) (ty : Ty)
  /-- SUB (09 R256). -/
  | sub (task : BitVec 5) (ty : Ty)
  /-- MUL (09 R256). -/
  | mul (task : BitVec 5) (ty : Ty)
  /-- DIV (09 R256). -/
  | div (task : BitVec 5) (ty : Ty)
  /-- MOD (09 R256). -/
  | mod (task : BitVec 5) (ty : Ty)
  /-- NEG (09 R256). -/
  | neg (task : BitVec 5) (ty : Ty)
  /-- ABS (09 R256). -/
  | abs (task : BitVec 5) (ty : Ty)
  /-- MIN (09 R255). -/
  | min (task : BitVec 5) (ty : Ty)
  /-- MAX (09 R255). -/
  | max (task : BitVec 5) (ty : Ty)
  /-- LIMIT (09 R255). -/
  | limit (task : BitVec 5) (ty : Ty)
  /-- MATH (09 R257). -/
  | math (task : BitVec 5) (ty : Ty) (fn : BitVec 4)
  /-- SEL (09 R255). -/
  | sel (task : BitVec 5) (ty : Ty)
  /-- AND (09 R255). -/
  | andB (task : BitVec 5) (ty : Ty)
  /-- OR (09 R255). -/
  | orB (task : BitVec 5) (ty : Ty)
  /-- XOR (09 R255). -/
  | xor (task : BitVec 5) (ty : Ty)
  /-- NOT (09 R255). -/
  | notB (task : BitVec 5) (ty : Ty)
  /-- SHL (09 R258). -/
  | shl (task : BitVec 5) (ty : Ty)
  /-- SHR (09 R258). -/
  | shr (task : BitVec 5) (ty : Ty)
  /-- ROL (09 R258). -/
  | rol (task : BitVec 5) (ty : Ty)
  /-- ROR (09 R258). -/
  | ror (task : BitVec 5) (ty : Ty)
  /-- EQ (09 R255). -/
  | eq (task : BitVec 5) (ty : Ty)
  /-- NE (09 R255). -/
  | ne (task : BitVec 5) (ty : Ty)
  /-- LT (09 R255). -/
  | lt (task : BitVec 5) (ty : Ty)
  /-- LE (09 R255). -/
  | le (task : BitVec 5) (ty : Ty)
  /-- GT (09 R255). -/
  | gt (task : BitVec 5) (ty : Ty)
  /-- GE (09 R255). -/
  | ge (task : BitVec 5) (ty : Ty)
  /-- CVT (09 R259). -/
  | cvt (task : BitVec 5) (ty target : Ty)
  /-- JMP (09 R255). -/
  | jmp (task : BitVec 5) (off : BitVec 20)
  /-- JMPC (09 R255). -/
  | jmpc (task : BitVec 5) (off : BitVec 20)
  /-- JMPCN (09 R255). -/
  | jmpcn (task : BitVec 5) (off : BitVec 20)
  /-- CALL (09 R254). -/
  | call (task : BitVec 5) (rel : Bool) (base : BitVec 20) (pou : BitVec 12)
  /-- RET (09 R254). -/
  | ret (task : BitVec 5)
  /-- TON (09 R261). -/
  | ton (task : BitVec 5) (rel : Bool) (base : BitVec 20)
  /-- TOF (09 R261). -/
  | tof (task : BitVec 5) (rel : Bool) (base : BitVec 20)
  /-- TP (09 R261). -/
  | tp (task : BitVec 5) (rel : Bool) (base : BitVec 20)
  /-- CTU (09 R261). -/
  | ctu (task : BitVec 5) (rel : Bool) (base : BitVec 20)
  /-- CTD (09 R261). -/
  | ctd (task : BitVec 5) (rel : Bool) (base : BitVec 20)
  /-- CTUD (09 R261). -/
  | ctud (task : BitVec 5) (rel : Bool) (base : BitVec 20)
  /-- R_TRIG (09 R261). -/
  | rTrig (task : BitVec 5) (rel : Bool) (base : BitVec 20)
  /-- F_TRIG (09 R261). -/
  | fTrig (task : BitVec 5) (rel : Bool) (base : BitVec 20)
  /-- DFW (09 R264). -/
  | dfw (task : BitVec 5) (rel : Bool) (base : BitVec 20) (capacity : Word)
  /-- SRD (09 R265). -/
  | srd (task : BitVec 5) (ty : Ty) (problem : BitVec 20) (vec : BitVec 4) (scen : BitVec 3)
  /-- LPR (09 R266). -/
  | lpr (task : BitVec 5) (ty : Ty) (loop : BitVec 9) (param : BitVec 8)
  /-- LPW (09 R266). -/
  | lpw (task : BitVec 5) (ty : Ty) (loop : BitVec 9) (param : BitVec 8)
  /-- JRN (09 R267). -/
  | jrn (task : BitVec 5) (src : BitVec 5) (severity : BitVec 3) (code : BitVec 16) (sub : BitVec 8)
  /-- EVR (09 R267). -/
  | evr (task : BitVec 5) (src : BitVec 5)
  /-- LDS (09 R268). -/
  | lds (task : BitVec 5) (ty : Ty) (sel : BitVec 20)
  /-- TEST_START (11 R324). -/
  | testStart (path : Path) (key : BitVec 16)
  /-- TEST_STOP (11 R324). -/
  | testStop (path : Path) (key : BitVec 16)
  /-- CAPTURE_ARM (11 R325). -/
  | captureArm (path : Path) (key : BitVec 16)
  /-- CAPTURE_STOP (11 R329). -/
  | captureStop (path : Path) (key : BitVec 16)
  /-- LOOP_CAP_TAG_READ (11 R329). -/
  | loopCapTagRead (path : Path)
  /-- FERRY_REPLY (12 R345). -/
  | ferryReply (port : BitVec 3) (frame : Bytes)
  /-- POLL_REPLY (12 R352). -/
  | pollReply (port : BitVec 3) (frame : Bytes)
  /-- POLL_TIMEOUT (12 R352). -/
  | pollTimeout (station : BitVec 11)
  /-- REJOIN (12 R360). -/
  | rejoin (path : Path) (key : BitVec 16)
  /-- FRAME_RECEIVED (13 R367). -/
  | frameReceived (port : BitVec 3) (frame : Bytes) (fcsOk : Bool)
  /-- PTP_MESSAGE (13 R382). -/
  | ptpMessage (port : BitVec 3) (msg : Bytes) (act : PtpAction)
  /-- LINK_CHANGE (13 R365). -/
  | linkChange (port : BitVec 3) (signal : LinkSignal) (offers24 : Bool)
  /-- FRAME_LAUNCH (13 R387). -/
  | frameLaunch (port : BitVec 3)
  /-- TXAN_CHANGE (13 R375). -/
  | txanChange (path : Path) (key : BitVec 16) (an : BitVec 2)
  /-- NTIME_INCR_FRAC_WRITE (13 R378). -/
  | ntimeIncrFracWrite (path : Path) (frac : Word)
  /-- NTIME_STEP (13 R379). -/
  | ntimeStep (path : Path) (key : BitVec 16)
  /-- LEASE_SEND (14 R406). -/
  | leaseSend
  /-- LEASE (14 R402). -/
  | lease (seq : Word) (lease : Word) (epoch : BitVec 64) (t1 t4 : Stamp)
  /-- LEASE_ACK (14 R407). -/
  | leaseAck (seq : Word) (lease : Word) (t2 t3 : Stamp)
  /-- FENCE_OUT_DROP (14 R407). -/
  | fenceOutDrop
  /-- SELF_FENCE (14 R408). -/
  | selfFence
  /-- FENCE_IN_HIGH (14 R410). -/
  | fenceInHigh
  /-- FENCE_RESTART (14 R408). -/
  | fenceRestart
  /-- PAIR_TAKEOVER (14 R409). -/
  | pairTakeover
  /-- IMAGE (14 R400). -/
  | image (seq : Word) (m : ImageMsg)
  /-- SAMPLE (11 R323). -/
  | sample (seq : Word) (m : SampleMsg)
  /-- TIDE_MESSAGE (02 R46). -/
  | tideMessage (seq : Word) (t : Tracker)
  /-- EVENTS (17 R482). -/
  | events (seq : Word) (sources : List (BitVec 8 × Nat))
  /-- SOLVER (01 R23). -/
  | solver (seq : Word) (m : SolverMsg)
  /-- DIGEST (14 R404). -/
  | digest (seq : Word) (m : DigestMsg)
  /-- HEALTH (05 R135). -/
  | health (seq : Word) (m : HealthMsg)
  /-- RESYNC (14 R417). -/
  | resync (seq : Word) (region page : Word) (contents : Bytes)
  /-- SWITCH (14 R412). -/
  | switchMsg (seq : Word) (time : TideTime)
  /-- TAKE (14 R413). -/
  | take (seq : Word)
  /-- CROSSING_LINK_DOWN (14 R399). -/
  | crossingLinkDown
  /-- LANE_RECOVER (14 R399). -/
  | laneRecover (lane : Bool)
  /-- PEER_OK_IN_LOW (14 R397). -/
  | peerOkInLow
  /-- PEER_OK_TIMEOUT (14 R396). -/
  | peerOkTimeout
  /-- PAIR_CTRL_SWITCH (14 R412). -/
  | pairCtrlSwitch (path : Path) (key : BitVec 16)
  /-- PAIR_CTRL_RESYNC (14 R404). -/
  | pairCtrlResync (path : Path) (key : BitVec 16)
  /-- HEALTH_FRAME (14 R415). -/
  | healthFrame
  /-- TILE_BIST (14 R414). -/
  | tileBist (tile : BitVec 6) (passed : Bool)
  /-- CORE_PAIR_BIST (14 R414). -/
  | corePairBist (pair : BitVec 3) (passed : Bool)
  /-- ECC_SCRUB_ERROR (14 R414). -/
  | eccScrubError (place : EccPlace) (corrected : Bool)
  /-- OUTPUT_STAGE_TEST (15 R443). -/
  | outputStageTest (channel : BitVec 5) (readback : Bool)
  /-- CLEAR_FAULT (05 R140). -/
  | clearFault (path : Path) (key : BitVec 16)
  /-- IO_DIE_UPDATE (15 R426). -/
  | ioDieUpdate
  /-- INPUT_FILTER_CHANGE (15 R431). -/
  | inputFilterChange (channel : BitVec 5) (state : Bool)
  /-- PULSE_INPUT_CHANGE (16 R449). -/
  | pulseInputChange (channel : BitVec 5) (state : Bool)
  /-- PULSE_MERGE_END (16 R449). -/
  | pulseMergeEnd (channel : BitVec 5)
  /-- METER_EDGE_QUALIFIED (16 R450). -/
  | meterEdgeQualified (meter : BitVec 4)
  /-- METER_COUNT_BEGIN (16 R451). -/
  | meterCountBegin (meter : BitVec 4)
  /-- METER_RATE_UPDATE (16 R461). -/
  | meterRateUpdate
  /-- METER_CLEAR (16 R463). -/
  | meterClear (path : Path) (key : BitVec 16)
  /-- METER_PRESET (16 R463). -/
  | meterPreset (path : Path) (key : BitVec 16) (target : BitVec 3)
  /-- READBACK_MISMATCH (15 R437). -/
  | readbackMismatch (channel : BitVec 5)
  /-- THERMAL_SHUTDOWN (15 R434). -/
  | thermalShutdown (channel : BitVec 5)
  /-- THERMAL_RESTART (15 R434). -/
  | thermalRestart (channel : BitVec 5)
  /-- IO_WATCHDOG_TRIP (15 R440). -/
  | ioWatchdogTrip (group : BitVec 2)
  /-- GROUP_TIMER_EXPIRY (15 R440). -/
  | groupTimerExpiry (group : BitVec 2)
  /-- VFLD_FAULT (15 R440). -/
  | vfldFault (group : BitVec 2)
  /-- VFLD_RETURN (15 R441). -/
  | vfldReturn (group : BitVec 2)
  /-- JOURNAL_FLUSH_END (17 R488). -/
  | journalFlushEnd
  /-- FLUSH (17 R488). -/
  | flush (path : Path) (key : BitVec 16)
  /-- EXTRACT (17 R493). -/
  | extract (path : Path) (key : BitVec 16)
  /-- JRN_EXTRACT_DONE (17 R493). -/
  | jrnExtractDone
  /-- JOURNAL_REBUILD_END (17 R489). -/
  | journalRebuildEnd
  /-- OPTIME_STORE (17 R485). -/
  | optimeStore
  /-- DAILY_ANCHOR (17 R492). -/
  | dailyAnchor
  /-- JRN_DATA7_READ (17 R495). -/
  | jrnData7Read (path : Path)
  /-- ATTEST (18 R520). -/
  | attest (path : Path) (key : BitVec 16)
  /-- ENDORSE (18 R522). -/
  | endorse (path : Path) (key : BitVec 16)
  /-- KEY_ORIGIN (18 R521). -/
  | keyOrigin (path : Path) (key : BitVec 16)
  /-- GENERATE (18 R518). -/
  | generate (path : Path) (key : BitVec 16)
  /-- IMPORT (18 R518). -/
  | importKey (path : Path) (key : BitVec 16)
  /-- INSTALL (18 R518). -/
  | install (path : Path) (key : BitVec 16)
  /-- LOAD (18 R518). -/
  | load (path : Path) (key : BitVec 16)
  /-- ENROL_ARM (18 R512). -/
  | enrolArm (path : Path) (key : BitVec 16)
  /-- FUSE_COMMIT (18 R508). -/
  | fuseCommit (path : Path) (key : BitVec 16)
  /-- READ_CHAIN (18 R526). -/
  | readChain (path : Path) (key : BitVec 16)
  /-- READ_BLOB (18 R526). -/
  | readBlob (path : Path) (key : BitVec 16)
  /-- KEY_COMMAND_DONE (18 R523). -/
  | keyCommandDone
  /-- CLK_MON_TRIP (19 R532). -/
  | clkMonTrip (clock : MonClock)
  /-- LOOP_REFERENCE_SWITCH (19 R532). -/
  | loopReferenceSwitch
  /-- CLK_LOOP_FAIL (19 R532). -/
  | clkLoopFail (clock : MonClock)
  /-- HFIO_TRIM (19 R529). -/
  | hfioTrim
  /-- SLEEP (19 R534). -/
  | sleep (path : Path) (key : BitVec 16)
  /-- DEEP (19 R534). -/
  | deep (path : Path) (key : BitVec 16)
  /-- WAKE (19 R534). -/
  | wake (src : WakeSource)
  /-- CLK_RUN_EN_WRITE (19 R535). -/
  | clkRunEnWrite (path : Path) (value : BitVec 12)
  /-- FMEAS_START (19 R536). -/
  | fmeasStart (path : Path)
  /-- FMEAS_DONE (19 R536). -/
  | fmeasDone (count : Nat)
  /-- FMEAS_ERR (19 R536). -/
  | fmeasErr
  /-- CALENDAR_SECOND (19 R540). -/
  | calendarSecond
  /-- CAL_ALARM (19 R547). -/
  | calAlarm (alarm : Bool)
  /-- XTAL2_STOP (19 R539). -/
  | xtal2Stop
  /-- BACKUP_BROWNOUT (19 R538). -/
  | backupBrownout
  /-- BACKUP_POWER_ON_RESET (19 R538). -/
  | backupPowerOnReset
  /-- VBAT_SWITCH (19 R537). -/
  | vbatSwitch (toVbat : Bool)
  /-- VBAT_CHECK (19 R550). -/
  | vbatCheck (low : Bool)
  /-- SET (19 R544). -/
  | calSet (path : Path) (key : BitVec 16)
  /-- SHIFT (19 R542). -/
  | shift (path : Path) (key : BitVec 16)
  /-- PTP_SET (19 R545). -/
  | ptpSet (path : Path) (key : BitVec 16)
  /-- AUTOMATIC_SETTING (19 R548). -/
  | automaticSetting
  /-- HSPI_READ (20 R554). -/
  | hspiRead (addr : Word) (words : Nat)
  /-- HSPI_READ_TIMEOUT (20 R554). -/
  | hspiReadTimeout (addr : Word)
  /-- HSPI_WRITE (20 R555). -/
  | hspiWrite (addr : Word) (words : List Word) (partialWord : Bool)
  /-- HSPI_STATUS (20 R556). -/
  | hspiStatus
  /-- HELLO (20 R559). -/
  | hello (port : BitVec 3) (nonce : Bytes)
  /-- PROVE (20 R558). -/
  | prove (port : BitVec 3) (sid : Word) (tag : Bytes)
  /-- MGMT_READ (20 R561). -/
  | mgmtRead (h : MgmtHead) (addr : Word) (count : BitVec 16)
  /-- MGMT_WRITE (20 R561). -/
  | mgmtWrite (h : MgmtHead) (addr : Word) (count : BitVec 16) (words : List Word)
  /-- CLOSE (20 R560). -/
  | close (h : MgmtHead)
  /-- FL_READ (20 R570). -/
  | flRead (path : Path) (key : BitVec 16)
  /-- FL_PROGRAM (20 R570). -/
  | flProgram (path : Path) (key : BitVec 16)
  /-- FL_ERASE (20 R570). -/
  | flErase (path : Path) (key : BitVec 16)
  /-- ACCEPT_OTHER (03 R76). -/
  | acceptOther (path : Path) (key : BitVec 16) (failFrom : Option Nat) (writeOk : Bool)
  /-- FLASH_DONE (20 R570). -/
  | flashDone (ok : Bool)
  /-- REGISTER_WRITE (00 R6). -/
  | registerWrite (path : Path) (addr value : Word)
  /-- CROSSING_LINK_UP (14 R398). -/
  | crossingLinkUp
  /-- BAD_CRC_COPY (14 R399). -/
  | badCrcCopy (lane : Bool)
  /-- PEER_OK_IN_CHANGE (04 R89). -/
  | peerOkInChange (level : Bool)
  /-- ANNOUNCE_RECEIPT_TIMEOUT (13 R382). -/
  | announceReceiptTimeout
  /-- HOLD_LOW (04 R100). -/
  | holdLow
  /-- UNCORRECTABLE_ERROR (05 R131). -/
  | uncorrectableError (tile : BitVec 6)
  /-- METER_SAVE_DONE (16 R465). -/
  | meterSaveDone
  /-- RETAINED_COPY_SEALED (10 R294). -/
  | retainedCopySealed
  /-- NTIME_SEC_LO_READ (13 R392). -/
  | ntimeSecLoRead (path : Path)
  /-- MTR_TOTAL_LO_READ (16 R471). -/
  | mtrTotalLoRead (path : Path)
  /-- JRN_OPTIME_LO_READ (17 R495). -/
  | jrnOptimeLoRead (path : Path)
  /-- CAL_SUBSEC_READ (19 R543). -/
  | calSubsecRead (path : Path)
  /-- HSPI_IGNORED_TRANSACTION (20 R553). -/
  | hspiIgnoredTransaction (command : Byte)
  deriving DecidableEq, Repr

end Sys2Proof
end

