-- ==== Sys2Proof/Config.lean ====
section
/-! DEFINITION. What the manual leaves to a published standard, to the individual unit or to no rule at all: opaque
constants without a body, so that a claim holds for every value. -/

namespace Sys2Proof.Config

open Sys2Proof

/-- KMAC256 of a key, a message, an output length in bytes and a customisation string (16 R467, 17 R493, 18 R498). -/
opaque kmac256 (key msg : Bytes) (n : Nat) (custom : Bytes) : Bytes
/-- SHA-512 (03 R70). -/
opaque sha512 (msg : Bytes) : Bytes
/-- SHA-256 (14 R403). -/
opaque sha256 (msg : Bytes) : Bytes
/-- Ed25519 verification: public key, message, signature (03 R70). -/
opaque edVerify (pub msg sig : Bytes) : Bool
/-- ML-DSA-65 verification: public key, context string, message, signature (03 R70). -/
opaque mlVerify (pub ctx msg sig : Bytes) : Bool
/-- The encoding and order tests of an Ed25519 public key (18 R503). -/
opaque edKeyOk (pub : Bytes) : Bool
/-- Ed25519 public key of a private key, and the signature of a message (18 R499, RFC 8032). -/
opaque edPublic (priv : Bytes) : Bytes
opaque edSign (priv msg : Bytes) : Bytes
/-- ML-DSA-65 public key of a seed, and the signature of a message under a context (18 R499, FIPS 204). -/
opaque mlPublic (seed : Bytes) : Bytes
opaque mlSign (seed ctx msg : Bytes) (draw : Nat) : Bytes
/-- AES-GCM: ciphertext with its 16-byte tag, and the plaintext of a ciphertext whose tag holds (13 R373, 18 R513). -/
opaque gcmSeal (key iv aad text : Bytes) : Bytes
opaque gcmOpen (key iv aad sealed : Bytes) : Option Bytes
/-- AES-KWP: the key that a wrapped key holds, none where the unwrap fails (18 R518). -/
opaque kwpUnwrap (key wrapped : Bytes) : Option Bytes
/-- PUF key and fuse secret of the unit (18 R497). -/
opaque pufKey : Bytes
opaque fuseSecret : Bytes
/-- SHA-512 of the boot ROM (18 R520). -/
opaque romDigest : Bytes
/-- SHA-512 of the Nalsekel public keys that the boot ROM holds: Ed25519, ML-DSA-65 (18 R507). -/
opaque vendorEd : Bytes
opaque vendorMl : Bytes
/-- DER encodings of the four identity certificates (18 R500, R526). -/
opaque certificate (n : Nat) : Bytes
/-- Lifecycle code of the unit (18 R520). -/
opaque lifecycle : Byte
/-- The n-th byte string of a length drawn from the DRBG (18 R518). -/
opaque drbg (draw n : Nat) : Bytes
/-- A value that the manual leaves open, by the number of the draw. -/
opaque free (draw : Nat) : Nat
/-- The unit's fused device identifier, 16 bytes (18 R497, 20 R567). -/
opaque deviceId : Bytes
/-- The unit's own port address, held since manufacture (13 R372). -/
opaque portAddress (port : Nat) : Bytes
/-- GCM-AES-256 and GCM-AES-XPN-256 on a frame, by key, salt, extended numbering, SCI and packet number: the keystream byte at
a position, and the ICV of what is only authenticated and of what is encrypted (13 R373, IEEE 802.1AE). -/
opaque macsecStream (key salt : Bytes) (xpn : Bool) (sci : Bytes) (pn : Nat) (pos : Nat) : Byte
opaque macsecIcv (key salt : Bytes) (xpn : Bool) (sci : Bytes) (pn : Nat) (aad text : Bytes) : Bytes
/-- What a resynchronisation region's pages (number and contents) carry, by object, field and position (14 R417). -/
opaque resyncValue (region : Nat) (pages : List (Nat × Bytes)) (object field pos : Nat) : Nat
/-- Contents of an outgoing page of such a region, by the number of the draw (14 R417). -/
opaque resyncPage (draw : Nat) : Bytes
/-- Payload of a crossing-link message that the manual gives no layout, by type and sequence (14 R399). -/
opaque linkPayload (type seq : Nat) : Bytes
/-- Pages of the counter state beyond one, by the number of the draw (14 R417). -/
opaque counterPages (draw : Nat) : Nat
/-- What the two units of a pair know of each other's manifest, by the number of the draw: the digest, the tide record and
the pair setup record (03 R81, R82). No message of the crossing link carries them. -/
opaque partnerDigest (draw : Nat) : Bytes
opaque partnerTide (draw : Nat) : Bytes
opaque partnerPair (draw : Nat) : Bytes
/-- What the attached configuration flash holds beyond 2 Gbit, in MiB (03 R58). -/
opaque flashBeyond : Nat
/-- Capacity of the attached configuration flash in MiB, at least 2 Gbit, from its SFDP table (03 R58, 20 R569). -/
def flashMiB : Nat := 256 + flashBeyond

end Sys2Proof.Config
end

