-- ==== Sys2Proof/Machine/Records.lean ====
section
/-! DEFINITION. The records of an adopted manifest and of the mooring record, as plain data (03 R67): each
structure holds what its record's layout gives, after the checks of its chapter. -/

namespace Sys2Proof.Machine

open Sys2Proof

/-- Start and restart policy, type 0x0002 (04 R101). `true` is cold. -/
structure Policy where
  coldPowerOn : Bool := false
  coldResetPin : Bool := false
  coldWatchdog : Bool := false
  coldPowerFail : Bool := false
  coldHostDefault : Bool := false
  wdogLimit : Nat := 15
  pfailMv : Nat := 2600
  deriving DecidableEq, Repr

/-- One tide mark (02 R32). -/
structure TideMark where
  modulus : Nat
  offset : Nat
  angle : Nat
  action : Nat
  param : Nat
  deriving DecidableEq, Repr

/-- Sense mode of the grid inputs (02 R30). -/
inductive SenseMode where
  | single | abc | acb
  deriving DecidableEq, Repr

/-- Tide record, type 0x0003 (02 R30 to R33). -/
structure TideSetup where
  nominal : Nat := 50000
  mode : SenseMode := .single
  amplitude : Nat := 16384
  marks : List TideMark := []
  deriving DecidableEq, Repr

/-- Pair setup record, type 0x0004 (14 R394). -/
structure PairSetup where
  healthFrames : Bool
  mismatchLimit : Nat
  healthDst : Bytes
  healthEtype : Nat
  healthPorts : Nat
  healthInterval : Nat
  minTsafe : Nat
  raw : Bytes
  deriving DecidableEq, Repr

/-- Clock and calendar setup record, type 0x0005 (19 R548). -/
structure ClockSetup where
  auto : Bool
  applyTrim : Bool
  interval : Nat
  trim : Int
  deriving DecidableEq, Repr

/-- A region of the data area (09 R246). -/
structure Region where
  first : Nat
  count : Nat
  ty : Nat
  kind : Nat
  deriving DecidableEq, Repr

/-- Data area and initial values, type 0x0012 (09 R245 to R248). -/
structure DataArea where
  varCount : Nat := 0
  regions : List Region := []
  runs : List (Nat × List Word) := []
  deriving DecidableEq, Repr

/-- One program organisation unit (09 R252). -/
structure Pou where
  first : Nat
  words : Nat
  frame : Nat
  kind : Nat
  result : Nat
  depth : Nat
  deriving DecidableEq, Repr

/-- Code image, type 0x0010 (09 R251). -/
structure CodeImage where
  pous : List Pou := []
  code : List Word := []
  deriving DecidableEq, Repr

/-- One task entry (10 R275). `trigger` 1 tide mark, 2 event, 3 error task. -/
structure TaskCfg where
  num : Nat
  prio : Nat
  trigger : Nat
  spec : Bool
  entry : Nat
  await : Option Nat
  frameBase : Nat
  worst : Nat
  minInterval : Nat
  imageSize : Nat
  storeSize : Nat
  deltaSize : Nat
  deriving DecidableEq, Repr

/-- Task table, type 0x0011 (10 R274). -/
structure TaskTable where
  stateTask : Nat := 0
  tasks : List TaskCfg := []
  deriving DecidableEq, Repr

/-- Force permission record, type 0x0014 (10 R295). Entries are first index and element count. -/
structure ForcePerm where
  spi : Bool
  mgmt : Bool
  entries : List (Nat × Nat)
  deriving DecidableEq, Repr

/-- One entry of the problem table (06 R146). Fixed-point fields are held raw. -/
structure ProblemCfg where
  num : Nat
  template : Nat
  scenarios : Nat
  runAhead : Bool
  hostDelta : Bool
  itMax : Nat
  rho0 : Int
  rhoMin : Int
  rhoMax : Int
  sigma : Int
  alpha : Int
  epsAbs : Int
  epsRel : Int
  deltaMin : Int
  deltaReg : Int
  regLimit : Nat
  checkInterval : Nat
  trust : Int
  weights : List Int
  deriving DecidableEq, Repr

/-- A matrix in compressed-column form (06 R149): per column, the row indices in increasing order. -/
abbrev Pattern := List (List Nat)

/-- One problem structure record, type 0x0021, with its certificate boxes (06 R148 to R154), and the factor
pattern that its checks compute (06 R150): `lcols j` lists the rows below `j` in column `j` of L. -/
structure Template where
  recIndex : Nat
  classP : Bool
  n : Nat
  m : Nat
  nu : Nat
  nx : Nat
  v : Nat
  nnzE : Nat
  nnzP : Nat
  nnzA : Nat
  nnzL : Nat
  fmts : List Nat
  boxes : List (Int × Int)
  perm : List Nat
  pPat : Pattern
  aPat : Pattern
  pVal : List Int
  aVal : List Int
  q : List Int
  lo : List Int
  hi : List Int
  scenList : List Nat
  scenVal : List Int
  stateMap : List (Nat × Nat × Int)
  x0 : List Int
  lcols : Pattern
  deriving DecidableEq, Repr

/-- Prediction model, type 0x0022 (06 R173); both matrices row-major. -/
structure PredModel where
  template : Nat
  nx : Nat
  nu : Nat
  fmtA : Nat
  fmtB : Nat
  a : List Int
  b : List Int
  deriving DecidableEq, Repr

/-- One term of a coupling constraint (08 R218). -/
structure CTerm where
  problem : Nat
  var : Nat
  recoverable : Bool
  coef : Int
  deriving DecidableEq, Repr

/-- One coupling constraint (08 R217). -/
structure CConstraint where
  fmtG : Nat
  fmtPrice : Nat
  lower : Int
  upper : Int
  tol : Int
  beta : Int
  lmax : Int
  priceVar : Option Nat
  terms : List CTerm
  deriving DecidableEq, Repr

/-- One handover entry (08 R219). -/
structure Handover where
  problem : Nat
  var : Nat
  kind : Nat
  dest : Nat
  scale : Int
  offset : Int
  deriving DecidableEq, Repr

/-- Coupling and run-ahead record, type 0x0023 (08 R215, R216). -/
structure Coupling where
  recIndex : Nat := 0
  outerLimit : Nat := 1
  innerLimit : Nat := 1
  statusVar : Option Nat := none
  cons : List CConstraint := []
  handover : List Handover := []
  deriving DecidableEq, Repr

/-- A measure of a loop (11 R305 byte 4). -/
inductive MeasureKind where
  | variable | frequency | duty
  deriving DecidableEq, Repr

/-- One loop entry (11 R305). Real-valued ranges are held as the record's binary64 bits. -/
structure LoopCfg where
  num : Nat
  group : Nat
  direct : Bool
  startManual : Bool
  measure : MeasureKind
  channel : Nat
  window : Nat
  outKind : Nat
  measVar : Nat
  rangeLow : BitVec 64
  rangeHigh : BitVec 64
  spt : Int
  kp : Int
  ti : Nat
  td : Nat
  lo : Int
  hi : Int
  ramp : Int
  tr : Nat
  kv : Int
  init : Int
  dest : Nat
  cycleTime : Nat
  minPulse : Nat
  scaleLow : BitVec 64
  scaleHigh : BitVec 64
  gains : List (Int × Int)
  deriving DecidableEq, Repr

/-- Station entry (12 R336). `cfgC` is class C. -/
structure StationCfg where
  num : Nat
  cfgC : Bool
  dual : Bool
  autoRejoin : Bool
  tagged : Bool
  addrA : Bytes
  addrB : Bytes
  portsA : Nat
  portsB : Nat
  missLimit : Nat
  rejoinCount : Nat
  group : Nat
  tci : Nat
  outputs : List (Nat × Nat)
  inputs : List (Nat × Nat × Nat)
  statusVar : Option Nat
  modules : Nat
  deriving DecidableEq, Repr

/-- Substitute values of one class C station (12 R340): `none` holds the last values. -/
structure SubstCfg where
  station : Nat
  values : Option (List Word)
  deriving DecidableEq, Repr

/-- Station table, type 0x0040 (12 R334, R335), with the substitute values record, type 0x0041. -/
structure StationTable where
  etype : Nat := 0x88B5
  pollBudget : Nat := 0
  pollTimeout : Nat := 0
  groups : List Nat := []
  stations : List StationCfg := []
  subst : List SubstCfg := []
  deriving DecidableEq, Repr

/-- One port entry (13 R369). -/
structure PortCfg where
  enabled : Bool := false
  ampl : Nat := 0
  ptp : Bool := false
  macsec : Nat := 0
  xpn : Bool := false
  mgmt : Bool := false
  ptpBypass : Bool := false
  addr : Bytes := []
  txLat : Nat := 0
  rxLat : Nat := 0
  txKeys : List Nat := []
  window : Nat := 0
  deriving DecidableEq, Repr

/-- One receive secure channel (13 R370). -/
structure SecChan where
  port : Nat
  sci : Bytes
  keys : List Nat
  deriving DecidableEq, Repr

/-- Network and time setup record, type 0x0050 (13 R368). -/
structure NetSetup where
  domain : Nat := 0
  profile : Nat := 1
  priority1 : Nat := 0
  priority2 : Nat := 0
  slaveOnly : Bool := false
  logSync : Int := 0
  logDelay : Int := 0
  announceTimeout : Nat := 3
  ports : List PortCfg := []
  chans : List SecChan := []
  deriving DecidableEq, Repr

/-- Mode of a field channel (15 R423). -/
inductive ChMode where
  | unused | input | output
  deriving DecidableEq, Repr

/-- Watchdog state of an output (15 R428). -/
inductive WState where
  | off | on | hold
  deriving DecidableEq, Repr

/-- One channel of the field I/O setup record or of the mooring channel table (15 R428, 04 R93). -/
structure ChannelCfg where
  mode : ChMode := .unused
  itype : Nat := 0
  filter : Nat := 0
  wstate : WState := .off
  pset : Nat := 0
  bind : Option Nat := none
  sbind : Option Nat := none
  safeOn : Bool := false
  deriving DecidableEq, Repr

/-- Field I/O setup record, type 0x0060 (15 R427). -/
structure FieldSetup where
  faultVar : Option Nat := none
  tsafe : List Nat := [100, 100, 100, 100]
  chans : List ChannelCfg := []
  deriving DecidableEq, Repr

/-- One meter entry (16 R453). -/
structure MeterCfg where
  chan : Nat
  input : Nat
  onToOff : Bool
  table : Option Nat
  weight : Nat
  tOn : Nat
  tOff : Nat
  fallback : Nat
  unit : Nat
  totalVar : Option Nat
  accVar : Option Nat
  tariffVar : Option Nat
  deriving DecidableEq, Repr

/-- One special date of a tariff table (16 R454). -/
structure SpecialDate where
  year : Nat
  month : Nat
  day : Nat
  dayType : Nat
  deriving DecidableEq, Repr

/-- One tariff table (16 R454): per day type the used switch points (minute, tariff). -/
structure TariffTable where
  dayTypes : List (List (Nat × Nat))
  weekly : List Nat
  special : List SpecialDate
  deriving DecidableEq, Repr

/-- Meter and tariff tables record, type 0x0070 (16 R452, R455). -/
structure MeterSetup where
  saveInterval : Nat
  baseOffset : Int
  meters : List MeterCfg
  tables : List TariffTable
  offsets : List (Nat × Int)
  deriving DecidableEq, Repr

/-- One entry of the routing record (17 R477). -/
structure RouteCfg where
  journal : Bool
  pair : Bool
  irq : BitVec 4
  severity : Nat
  task : Option Nat
  deriving DecidableEq, Repr

/-- A wrapped key blob (18 R513), held as its bytes with its decoded header. -/
structure Blob where
  num : Nat
  usage : Nat
  purpose : Nat
  provable : Bool
  generated : Bool
  keyLen : Nat
  raw : Bytes
  deriving DecidableEq, Repr

/-- Trust record, type 0x0001 (18 R510). -/
structure Trust where
  sealBlob : Nat := 0xFF
  hostBlob : Nat := 0xFF
  edPub : Bytes := []
  mlPub : Bytes := []
  rotation : Option Bytes := none
  deriving DecidableEq, Repr

/-- One placement constraint (05 R118). -/
structure PlaceCons where
  separation : Bool
  subject : Nat
  a : Nat
  b : Nat
  deriving DecidableEq, Repr

/-- An adopted manifest: every record of 03 R67, in the form the blocks use. An absent optional record is `none`
or empty, and its function is unused (03 R68). -/
structure Manifest where
  trust : Trust := {}
  policy : Policy := {}
  tide : TideSetup := {}
  pair : Option PairSetup := none
  pairRaw : Bytes := []
  clock : Option ClockSetup := none
  code : CodeImage := {}
  tasks : TaskTable := {}
  data : DataArea := {}
  retain : Option (List (Nat × Nat)) := none
  retainRaw : Bytes := []
  tideRaw : Bytes := []
  force : Option ForcePerm := none
  problems : List ProblemCfg := []
  templates : List Template := []
  models : List PredModel := []
  coupling : Option Coupling := none
  loops : List LoopCfg := []
  overrides : List (List Nat) := []
  stations : Option StationTable := none
  net : Option NetSetup := none
  field : Option FieldSetup := none
  meters : Option MeterSetup := none
  routes : Option (List RouteCfg) := none
  blobs : List Blob := []
  cons : List PlaceCons := []
  deriving DecidableEq, Repr

/-- One mooring loop entry (04 R94). -/
structure MoorLoop where
  pi : Bool
  input : Nat
  duty : Bool
  direct : Bool
  mask : BitVec 32
  low : Int
  high : Int
  sp : Int
  hyst : Int
  kp : Int
  ti : Nat
  cycle : Nat
  lo : Int
  hi : Int
  sample : Nat
  window : Nat
  deriving DecidableEq, Repr

/-- One interlock entry (04 R96). -/
structure Interlock where
  cond : Nat
  subject : Nat
  forceOn : Bool
  latching : Bool
  persistent : Bool
  threshold : Int
  mask : BitVec 32
  delay : Nat
  deriving DecidableEq, Repr

/-- A mooring record (04 R91, R93, R94, R96), with its bytes. -/
structure Mooring where
  slot : Nat
  mgmtPorts : Nat
  seq : Nat
  owner : Bytes
  digest : Bytes
  chans : List ChannelCfg
  loops : List MoorLoop
  ilks : List Interlock
  raw : Bytes
  deriving DecidableEq, Repr

/-- One pointer block copy's selection (03 R61). -/
structure Pointer where
  seq : Nat
  fwSlot : Nat
  manSlot : Nat
  moorSlot : Nat
  fwSeq : Nat
  manSeq : Nat
  moorSeq : Nat
  deriving DecidableEq, Repr

end Sys2Proof.Machine
end

