-- ==== Sys2Proof/Machine/StateTime.lean ====
section
/-! DEFINITION. State of the event router, the journal, the clocks, the backup domain, the tide and the start
sequencer. Each field's docstring ends with (file rule; width; value at reset). -/

namespace Sys2Proof.Machine

open Sys2Proof

/-- A table by number: pairs of a key and an entry, keys rising, no entry equal to the table's default. -/
abbrev Store (α : Type) := List (Nat × α)

/-- One journal record (17 R483). -/
structure JRec where
  optime : BitVec 48 := 0
  pcyc : BitVec 24 := 0
  sev : BitVec 3 := 0
  peer : Bool := false
  order : BitVec 4 := 0
  source : BitVec 8 := 0
  sub : BitVec 8 := 0
  code : BitVec 16 := 0
  count : BitVec 16 := 1
  span : Word := 0
  payload : DWord := 0
  deriving DecidableEq, Repr

/-- A record that a command wants created on its edge (17 R484, R486). -/
structure NewRec where
  source : Nat
  sev : Nat
  sub : Nat := 0
  code : Nat := 0
  payload : DWord := 0
  peer : Bool := false
  prog : Bool := false
  deriving DecidableEq, Repr

/-- Event router (17 R475 to R482, R494). -/
structure Evt where
  /-- Pending bits of the 256 sources. (17 R494; 256; 0) -/
  pend : BitVec 256 := 0
  /-- Raises of each source since the start, wrapping. (17 R494; 256 x 32; 0) -/
  count : Store Word := []
  /-- Low OPTIME bits of each source's latest raise. (17 R494; 256 x 32; 0) -/
  last : Store Word := []
  /-- EVT_IRQ_EN. (17 R494; 4; 0xF) -/
  irqEn : BitVec 4 := 0xF
  /-- The routing in force: the adopted record, or none for the routes before adoption. (17 R479; 256 entries; none) -/
  routes : Option (List RouteCfg) := none
  /-- Raises of the present edge, source and subject. (17 R475; list; empty) -/
  edge : List (Nat × Nat) := []
  /-- Raises forwarded by the partner on the present edge. (17 R482; list; empty) -/
  edgePeer : List (Nat × Nat) := []
  /-- Raises that await the next EVENTS message. (17 R482; list; empty) -/
  forward : List (Nat × Nat) := []
  deriving DecidableEq, Repr

/-- Journal control and view (17 R485 to R495). -/
structure Jrn where
  /-- OPTIME in ms. (17 R485; 48; 0) -/
  optime : BitVec 48 := 0
  /-- Fraction of the present ms: nanoseconds of HFIO, or microseconds once XTAL1 is qualified. (17 R485; count; 0) -/
  sub : Nat := 0
  /-- Power-cycle count. (17 R483, R495; 24; 0) -/
  pcyc : BitVec 24 := 0
  /-- OPTIME of the last record's order key. (17 R486; 48; 0) -/
  keyOptime : BitVec 48 := 0
  /-- ORDER of the next record with that OPTIME. (17 R486; 0 to 16; 0) -/
  keyOrder : Nat := 0
  /-- Records in the buffer, oldest first, not taken by a flush. (17 R488; at most 2,048 with those taken; empty) -/
  buffer : List JRec := []
  /-- Records that the running flush has taken. (17 R488; list; empty) -/
  taken : List JRec := []
  /-- JRN_BUF.FLUSHING. (17 R495; 1; 0) -/
  flushing : Bool := false
  /-- A further flush was triggered during the running one. (17 R488; 1; 0) -/
  again : Bool := false
  /-- The start-time rebuild has ended. (17 R489; 1; 0) -/
  rebuilt : Bool := false
  /-- Records that explicit rules create on the present edge. (17 R486; list; empty) -/
  edge : List NewRec := []
  /-- JRN_OVERWRITES. (17 R495; 32; 0) -/
  overwrites : Word := 0
  /-- JRN_CORRUPT. (17 R495; 32; 0) -/
  corrupt : Word := 0
  /-- JRN_CTRL_STAT.REASON. (17 R495; 8; 0) -/
  reason : Byte := 0
  /-- JRN_CTRL_STAT.DONE. (17 R495; 1; 0) -/
  done : Bool := false
  /-- JRN_CTRL_STAT.BUSY. (17 R495; 1; 0) -/
  busy : Bool := false
  /-- The running flush is the accepted host command's. (17 R495; 1; 0) -/
  hostFlush : Bool := false
  /-- The accepted host command awaits the end of the running flush. (17 R488; 1; 0) -/
  hostNext : Bool := false
  /-- JRN_EXT_FIRST. (17 R495; 20; 0) -/
  extFirst : BitVec 20 := 0
  /-- JRN_EXT_COUNT. (17 R495; 11; 0) -/
  extCount : BitVec 11 := 0
  /-- JRN_EXT_NONCE0 to 3. (17 R495; 128; 0) -/
  extNonce : BitVec 128 := 0
  /-- The extract being sealed, taken when the command was accepted. (17 R493; bytes; empty) -/
  extNext : Bytes := []
  /-- JRN_EXT_BUF; a byte beyond its end reads 0. (17 R495; 32,864 bytes; 0) -/
  extBuf : Bytes := []
  deriving DecidableEq, Repr

/-- Mode of the device's clocks (19 R534). -/
inductive PowerMode where
  | run | sleep | deep
  deriving DecidableEq, Repr

/-- Clocks (19 R528 to R536, R549). -/
structure Clk where
  /-- CLK_STATUS.QUAL: HFIO, LFIO, XTAL1, XTAL2. (19 R549; 4; 0) -/
  qual : BitVec 4 := 0
  /-- CLK_STATUS.LOCK: PLL_SYS, PLL_SOL, PLL_NET. (19 R549; 3; 0) -/
  lock : BitVec 3 := 0
  /-- CLK_STATUS.ON_HFIO. (19 R549; 3; 0) -/
  onHfio : BitVec 3 := 0
  /-- Loops opened by a trip and coasting at their floor. (19 R532; 3; 0) -/
  opened : BitVec 3 := 0
  /-- Loops relocking to HFIO since the switch. (19 R532; 3; 0) -/
  relocking : BitVec 3 := 0
  /-- CLK_STATUS.MODE. (19 R549; 2; 0) -/
  mode : PowerMode := .run
  /-- Clock monitors armed. (19 R531; 1; 0) -/
  armed : Bool := false
  /-- HFIO was trimmed against XTAL1. (19 R529; 1; 0) -/
  trimmed : Bool := false
  /-- CLK_MON.TRIPS. (19 R549; 16; 0) -/
  trips : BitVec 16 := 0
  /-- CLK_MON.FAIL. (19 R549; 3; 0) -/
  fail : BitVec 3 := 0
  /-- CLK_MON.TRIP. (19 R549; 4; 0) -/
  trip : BitVec 4 := 0
  /-- Trip flags that stay until the next start. (19 R532; 4; 0) -/
  tripHeld : BitVec 4 := 0
  /-- CLK_RUN_EN. (19 R549; 12; 0xFFF) -/
  runEn : BitVec 12 := 0xFFF
  /-- CLK_SLEEP_EN. (19 R549; 12; 0xE00) -/
  sleepEn : BitVec 12 := 0xE00
  /-- CLK_DEEP_EN. (19 R549; 12; 0) -/
  deepEn : BitVec 12 := 0
  /-- CLK_WAKE.CAUSE. (19 R549; 3; 0) -/
  wakeCause : BitVec 3 := 0
  /-- CLK_WAKE.EN. (19 R549; 3; 1) -/
  wakeEn : BitVec 3 := 1
  /-- CLK_FMEAS_CFG: CNT_SRC, GATE_SRC, GATE. (19 R549; 32; 0) -/
  fmCfg : Word := 0
  /-- CLK_FMEAS_COUNT. (19 R549; 32; 0) -/
  fmCount : Word := 0
  /-- CLK_FMEAS_STAT.ERR. (19 R549; 1; 0) -/
  fmErr : Bool := false
  /-- CLK_FMEAS_STAT.OVF. (19 R549; 1; 0) -/
  fmOvf : Bool := false
  /-- CLK_FMEAS_STAT.DONE. (19 R549; 1; 0) -/
  fmDone : Bool := false
  /-- CLK_FMEAS_STAT.BUSY. (19 R549; 1; 0) -/
  fmBusy : Bool := false
  /-- Nanoseconds of HFIO since the start. (19 R528; count; 0) -/
  hfNs : Nat := 0
  /-- The microsecond counter. (10 R292; 64; 0) -/
  us : DWord := 0
  /-- PLL_NET cycles of the present microsecond. (10 R292; 0 to 249; 0) -/
  usSub : Nat := 0
  deriving DecidableEq, Repr

/-- Calendar fields (19 R540). -/
structure CalTime where
  year : Nat := 2000
  month : Nat := 1
  day : Nat := 1
  hour : Nat := 0
  min : Nat := 0
  sec : Nat := 0
  sub : Nat := 0
  deriving DecidableEq, Repr

/-- The backup domain: nothing in it is cleared by a start (19 R550). -/
structure Cal where
  /-- The calendar. (19 R540, R550; date, time and 15-bit sub-second; 2000-01-01 00:00:00) -/
  now : CalTime := {}
  /-- Trim accumulator. (19 R541; 20; 0) -/
  acc : BitVec 20 := 0
  /-- Part of an XTAL2 cycle elapsed, in 1/10^9 cycle. (19 R541; count; 0) -/
  phase : Nat := 0
  /-- CAL_SHIFT. (19 R550; 18; 0) -/
  shift : BitVec 18 := 0
  /-- CAL_TRIM. (19 R550; 11; 0) -/
  trim : BitVec 11 := 0
  /-- CAL_STATUS.OSF. (19 R550; 1; 1) -/
  osf : Bool := true
  /-- CAL_STATUS.OSF_CAUSE: FIRST, STOP, BROWNOUT. (19 R550; 3; 0b001) -/
  cause : BitVec 3 := 1
  /-- CAL_STATUS.ALM. (19 R550; 2; 0) -/
  alm : BitVec 2 := 0
  /-- CAL_STATUS.VBAT_LOW. (19 R550; 1; 0) -/
  vbatLow : Bool := false
  /-- CAL_STATUS.ON_VBAT. (19 R550; 1; 0) -/
  onVbat : Bool := false
  /-- CAL_STATUS.CMD_REJ. (19 R550; 1; 0) -/
  cmdRej : Bool := false
  /-- CAL_UTCOFF.VALID. (19 R550; 1; 0) -/
  utcValid : Bool := false
  /-- CAL_UTCOFF.OFFSET. (19 R550; 16; 0) -/
  utcOff : BitVec 16 := 0
  /-- CAL_BKP_SWITCH. (19 R550; 16; 0) -/
  bkpSwitch : BitVec 16 := 0
  /-- CAL_BKP_SECS. (19 R550; 32; 0) -/
  bkpSecs : Word := 0
  /-- CAL_ALM0_TIME. (19 R550; 32; 0) -/
  alm0Time : Word := 0
  /-- CAL_ALM0_DATE. (19 R550; 32; 0) -/
  alm0Date : Word := 0
  /-- CAL_ALM1_TIME. (19 R550; 32; 0) -/
  alm1Time : Word := 0
  /-- CAL_ALM1_DATE. (19 R550; 32; 0) -/
  alm1Date : Word := 0
  /-- The seconds that alarm 0 has matched since the last setting. (19 R547; list of seconds since 1970; empty) -/
  alm0Met : List Nat := []
  /-- The seconds that alarm 1 has matched since the last setting. (19 R547; list of seconds since 1970; empty) -/
  alm1Met : List Nat := []
  deriving DecidableEq, Repr

/-- Staging registers of the calendar, in the main domain (19 R544, R550). -/
structure CalStg where
  /-- CAL_STG_SUBSEC. (19 R550; 15; 0) -/
  sub : BitVec 15 := 0
  /-- CAL_STG_TIME without WDAY. (19 R550; 32; 0) -/
  time : Word := 0
  /-- CAL_STG_DATE. (19 R550; 32; 0) -/
  date : Word := 0
  /-- CAL_STG_YEAR. (19 R550; 12; 0) -/
  year : BitVec 12 := 0
  deriving DecidableEq, Repr

/-- The tide's mode (02 R26 to R29, R42, R43, R47). -/
inductive TideMode where
  | off | acquire | locked | holdover | coast | slew | follow
  deriving DecidableEq, Repr

/-- What converts a launch mark of a cycle: the stamp and P used (02 R39). -/
structure LaunchRef where
  cycle : BitVec 48
  c0 : BitVec 48
  z0 : Stamp
  p : Word
  deriving DecidableEq, Repr

/-- The tide (02 R25 to R57). Frequencies are in nHz. -/
structure Tide where
  /-- Mode. (02 R50; 7 modes; off) -/
  mode : TideMode := .off
  /-- Cycle count. (02 R26; 48; 0) -/
  cycle : BitVec 48 := 0
  /-- Angle. (02 R26; 16; 0) -/
  angle : BitVec 16 := 0
  /-- Part of an angle step elapsed. (02 R598; count; 0) -/
  sub : Nat := 0
  /-- Tide rate in nHz, shown in TIDE_RATE. (02 R52; Q16.16 register; 0) -/
  rate : Nat := 0
  /-- Last measured frequency of a valid cycle, nHz. (02 R42; count; 0) -/
  meas : Nat := 0
  /-- Measured frequency of the last cycle, zero when not valid, shown in TIDE_FREQ. (02 R52; Q16.16 register; 0) -/
  freq : Nat := 0
  /-- TIDE_PHERR. (02 R52; 16; 0) -/
  pherr : BitVec 16 := 0
  /-- P in 1/64 ns, TIDE_PERIOD. (02 R37, R52; 32; 0) -/
  period : Word := 0
  /-- Latest stamp: cycle and NTIME. (02 R36, R54; 48 + 78; none) -/
  stamp : Option (BitVec 48 × Stamp) := none
  /-- The last eight stamped lengths in ns, newest first. (02 R37; 8 counts; empty) -/
  lengths : List Nat := []
  /-- The slewing tide is ahead of its source. (02 R43; 1; 0) -/
  ahead : Bool := false
  /-- A following standby steers its angle: true where it is ahead. (02 R47; 1; none) -/
  steer : Option Bool := none
  /-- Consecutive valid cycles. (02 R29, R43; count; 0) -/
  validRun : Nat := 0
  /-- Consecutive invalid cycles. (02 R42; count; 0) -/
  invalidRun : Nat := 0
  /-- TIDE_STATUS.ROT_ERR. (02 R50; 1; 0) -/
  rotErr : Bool := false
  /-- TIDE_STATUS.PH_PRESENT. (02 R50; 3; 0) -/
  phases : BitVec 3 := 0
  /-- TIDE_STATUS.PEER_SRC. (02 R50; 1; 0) -/
  peerSrc : Bool := false
  /-- The partner's latest tracker measurement. (02 R46; record; none) -/
  peerTracker : Option Tracker := none
  /-- TIDE_VRMS_A. (02 R53; 32; 0) -/
  vrmsA : Word := 0
  /-- TIDE_VRMS_B. (02 R53; 32; 0) -/
  vrmsB : Word := 0
  /-- TIDE_VRMS_C. (02 R53; 32; 0) -/
  vrmsC : Word := 0
  /-- TIDE_VRMS_PS. (02 R53; 32; 0) -/
  vrmsPs : Word := 0
  /-- TIDE_CONV_CYCLE. (02 R55; 32; 0) -/
  convCycle : Word := 0
  /-- TIDE_CONV_CTRL.ANGLE. (02 R55; 16; 0) -/
  convAngle : BitVec 16 := 0
  /-- Cycle and angle of a running conversion. (02 R55; 48; none) -/
  convReq : Option (Word × BitVec 16) := none
  /-- TIDE_CONV_NS.DONE. (02 R55; 1; 0) -/
  convDone : Bool := false
  /-- TIDE_CONV_NS.ERR. (02 R55; 1; 0) -/
  convErr : Bool := false
  /-- Conversion result. (02 R55; 30 + 48; 0) -/
  convOut : Stamp := {}
  /-- TIDE_COAST_CNT.CYCLES. (02 R56; 16; 0) -/
  coastCycles : BitVec 16 := 0
  /-- TIDE_COAST_CNT.ENTRIES. (02 R56; 16; 0) -/
  coastEntries : BitVec 16 := 0
  /-- Times each mark fired since the tide started, wrapping. (02 R57; 256 x 32; 0) -/
  fired : Store Word := []
  /-- Cycle in which each mark last fired, plus one. (02 R34; 256 x 49; never) -/
  lastFired : Store Nat := []
  /-- Launch conversions made one cycle ahead, per mark, newest first. (02 R39; 256 lists; none) -/
  launchAt : Store (List LaunchRef) := []
  deriving DecidableEq, Repr

/-- Supply and reset condition of the logic die (04 R83, R104 to R106; 21 R580, R581). -/
inductive Power where
  /-- No valid VIN. -/
  | off
  /-- VIN valid, RESET_N asserted. -/
  | held
  /-- A start is in progress or complete. -/
  | on
  /-- A power-fail flush runs. -/
  | flush
  /-- The logic has halted after a flush. -/
  | halted
  deriving DecidableEq, Repr

/-- SYS_RESET_CAUSE.CAUSE (04 R109). -/
inductive Cause where
  | powerOn | resetPin | watchdog | powerFail | hostWarm | hostCold | hostDefault
  deriving DecidableEq, Repr

/-- Start sequencer and SYS stage registers (04 R83 to R112). -/
structure Start where
  /-- Supply and reset condition. (04 R83, 21 R581; 5 states; off) -/
  power : Power := .off
  /-- SYS_STAGE.STAGE and pins STAGE[1:0]. (04 R86, R108; 2; 0) -/
  stage : BitVec 2 := 0
  /-- SYS_STAGE.STEP. (04 R99, R108; 8; 0) -/
  step : Byte := 0
  /-- SYS_STAGE.MOORING. (04 R108; 2; 0) -/
  mooring : BitVec 2 := 0
  /-- SYS_STAGE.STAGE3_LATE. (04 R108; 1; 0) -/
  late3 : Bool := false
  /-- SYS_STAGE.HOLD_OK. (04 R108; 1; 0) -/
  holdOk : Bool := false
  /-- SYS_RESET_CAUSE.CAUSE. (04 R109; 8; 0x01) -/
  cause : Cause := .powerOn
  /-- SYS_RESET_CAUSE.KIND, true cold. (04 R109; 1; 0) -/
  kind : Bool := false
  /-- A flush began before this start and did not complete. (04 R107; 1; 0) -/
  incompleteAtStart : Bool := false
  /-- Solver deadline marks since stage 2 entry. (04 R83; count; 0) -/
  deadlines : Nat := 0
  /-- Held by the watchdog restart limit. (04 R102; 1; 0) -/
  limited : Bool := false
  /-- SYS_PFAIL_CFG.THRESHOLD. (04 R111; 13; 0x0A28) -/
  threshold : BitVec 13 := 0x0A28
  /-- SYS_PFAIL_STAT.INCOMPLETE. (04 R112; 1; 0) -/
  incomplete : Bool := false
  /-- SYS_PFAIL_STAT.HOLD_LOW. (04 R112; 1; 0) -/
  holdLow : Bool := false
  /-- SYS_PFAIL_STAT.WARN. (04 R112; 1; 0) -/
  warn : Bool := false
  /-- VIN in mV at the power-fail warning. (17 R491; 16; 0) -/
  vinMv : BitVec 16 := 0
  /-- The manifest of this start was adopted. (04 R98; 1; 0) -/
  adopted : Bool := false
  /-- A manifest refusal holds the start at stage 1; SYS_STATUS.REFUSED. (03 R74, 20 R567; 1; 0) -/
  refused : Bool := false
  /-- The pointer block in use. (03 R62; record; none) -/
  pointer : Option Pointer := none
  /-- The pointer block copy in use is copy 1. (03 R62; 1; 0) -/
  copy1 : Bool := false
  /-- Manifest reason of an unusable pointer block. (03 R62, R72; 8; 0) -/
  pointerBad : Nat := 0
  deriving DecidableEq, Repr

/-- A running mooring loop (04 R95). -/
structure MoorRun where
  /-- Integral term, Q8.24. -/
  i : Int := 0
  /-- Measurement pv, Q8.24. -/
  pv : Int := 0
  /-- Output commanded on. -/
  out : Bool := false
  /-- Milliseconds in the present output state (two-position). -/
  inState : Nat := 0
  /-- Milliseconds into the present cycle at the last sample (PI). -/
  phase : Nat := 0
  /-- u of the last sample, Q8.24 (PI); none before the first. -/
  u : Option Int := none
  /-- HFIO time of the last sample, ns (PI). -/
  sampled : Nat := 0
  /-- Cycles begun since the last sample (PI). -/
  begun : Nat := 0
  /-- On-time of the present cycle, ms (PI). -/
  onMs : Nat := 0
  deriving DecidableEq, Repr

/-- The mooring function and the interlocks (04 R90 to R97, R112). -/
structure Moor where
  /-- The mooring record in use. (04 R90; record; none) -/
  record : Option Mooring := none
  /-- Each loop's state. (04 R95; up to 16; default) -/
  loops : Store MoorRun := []
  /-- The mooring loops run. (04 R83, R88; 1; 0) -/
  running : Bool := false
  /-- SYS_ILK_ACTIVE. (04 R112; 32; 0) -/
  ilk : BitVec 32 := 0
  /-- How long each interlock's condition has held, in 10 ms. (04 R97; 32 counts; 0) -/
  held : Store Nat := []
  deriving DecidableEq, Repr

end Sys2Proof.Machine
end

