-- ==== Sys2Proof/Machine/StateField.lean ====
section
/-! DEFINITION. State of the field I/O, the meter channels and the host access. -/

namespace Sys2Proof.Machine

open Sys2Proof

/-- Field I/O (15 R423 to R447). Bit n of each word is channel n, bit g of each nibble is group g. -/
structure Fio where
  /-- The safe pattern has been loaded. (04 R83, R87; 1; 0) -/
  loaded : Bool := false
  /-- The safe pattern in effect. (04 R83; 32; 0) -/
  safe : BitVec 32 := 0
  /-- Raw state of each channel, as last reported. (15 R431, R432; 32; 0) -/
  raw : BitVec 32 := 0
  /-- Microsecond stamp of the latest raw change of a pulse input. (16 R449, R451; 32 x 64; 0) -/
  rawAt : Store DWord := []
  /-- Filtered state of inputs and readback state of outputs; FIO_IN, FIO_RDBK. (15 R431, R436, R445; 32; 0) -/
  filtered : BitVec 32 := 0
  /-- Filtered changes, newest first: HFIO time in ns and the new state. (11 R308, 04 R95; 32 lists; empty) -/
  hist : Store (List (Nat × Bool)) := []
  /-- Applied command of each switch, as last sent to the I/O dies. (15 R425, R426; 32; 0) -/
  cmd : BitVec 32 := 0
  /-- Applied state; FIO_CMD. (15 R445; 32; 0) -/
  applied : BitVec 32 := 0
  /-- TAKE was sent before a reset or a flush: the I/O dies keep every output as it stands. (14 R413; 1; 0) -/
  kept : Bool := false
  /-- The outputs of a flush that TAKE preceded: released once they are no longer kept. (14 R413; 1; 0) -/
  given : Bool := false
  /-- Readback differs from the applied command since 1 ms. (15 R437; 32; 0) -/
  mismatch : BitVec 32 := 0
  /-- Channels in thermal shutdown. (15 R434; 32; 0) -/
  thermal : BitVec 32 := 0
  /-- Outputs awaiting an off command after a supply fault. (15 R441; 32; 0) -/
  await : BitVec 32 := 0
  /-- FIO_CH_EDGES. (15 R446; 32 x 32; 0) -/
  edges : Store Word := []
  /-- Die watchdog tripped, until the next start. (15 R440; 4; 0) -/
  wdog : BitVec 4 := 0
  /-- Applied states held by a group's watchdog trip. (15 R440; 32; 0) -/
  wdogOut : BitVec 32 := 0
  /-- Group timer expired, until the next start. (15 R440; 4; 0) -/
  expired : BitVec 4 := 0
  /-- VFLD of the group out of range. (15 R440; 4; 0) -/
  supply : BitVec 4 := 0
  /-- FIO_STATUS.FAULT. (15 R444; 1; 0) -/
  fault : Bool := false
  /-- FIO_FAULTS. (15 R447; 16; 0) -/
  faults : BitVec 16 := 0
  deriving DecidableEq, Repr

/-- The values of one meter channel that a save holds (16 R459, R463, R466). -/
structure MeterVals where
  /-- Total. -/
  total : DWord := 0
  /-- Tariff accumulators. -/
  acc0 : DWord := 0
  acc1 : DWord := 0
  acc2 : DWord := 0
  acc3 : DWord := 0
  /-- Wrap counts of the total and of the accumulators. -/
  wTotal : BitVec 16 := 0
  w0 : BitVec 16 := 0
  w1 : BitVec 16 := 0
  w2 : BitVec 16 := 0
  w3 : BitVec 16 := 0
  /-- Command count. -/
  cmds : BitVec 16 := 0
  /-- Pulses counted since the previous save. -/
  since : Word := 0
  deriving DecidableEq, Repr

/-- One meter channel (16 R449 to R463). -/
structure Meter where
  /-- Counted or restored at this start. (16 R470; 1; 0) -/
  known : Bool := false
  /-- Last forwarded raw state. (16 R449; 1; 0) -/
  fwd : Bool := false
  /-- Stamp of that change, µs. (16 R449; 64; 0) -/
  fwdAt : DWord := 0
  /-- Instant of the latest forwarding on the channel, µs. (16 R449; 64; none) -/
  fwdTime : Option DWord := none
  /-- Changes arrived inside the running 200 µs window. (16 R449; 1; 0) -/
  merging : Bool := false
  /-- MTR_MERGE.MERGED. (16 R471; 16; 0) -/
  merged : BitVec 16 := 0
  /-- Qualified state. (16 R450; 1; 0) -/
  qs : Bool := false
  /-- Counting has begun. (16 R451; 1; 0) -/
  begun : Bool := false
  /-- Values. (16 R459; record; 0) -/
  vals : MeterVals := {}
  /-- Rate. (16 R461; 64; 0) -/
  rate : DWord := 0
  /-- Interval in µs; 0 none. (16 R461; count; 0) -/
  interval : Nat := 0
  /-- Time of the previous counted pulse, µs. (16 R461; 64; none) -/
  tp : Option DWord := none
  /-- MTR_PULSES. (16 R471; 32; 0) -/
  pulses : Word := 0
  /-- Tariff at the previous check. (16 R464; 2; none) -/
  tariff : Option Nat := none
  deriving DecidableEq, Repr

/-- A save in progress: its second B, flags, and the values counted before B (16 R465). -/
structure Saving where
  b : Nat
  optime : BitVec 48 := 0
  pcyc : BitVec 24 := 0
  calValid : Bool
  vals : Store MeterVals
  tariffs : Store Nat
  deriving DecidableEq, Repr

/-- Metering (16 R449 to R473). -/
structure Mtr where
  /-- Meter channels. (16 R459; 16 records; 0) -/
  ch : Store Meter := []
  /-- Captures c(S), newest first: S in seconds since 1970 and the microsecond counter. (16 R457; list; empty) -/
  caps : List (Nat × Nat) := []
  /-- MTR_PRESET_LO and HI. (16 R472; 64; 0) -/
  preset : DWord := 0
  /-- MTR_CTRL_STAT.DONE. (16 R472; 1; 0) -/
  done : Bool := false
  /-- MTR_SAVE_SEQ. (16 R473; 32; 0) -/
  saveSeq : Word := 0
  /-- MTR_SAVE_B. (16 R473; 64; 0) -/
  saveB : DWord := 0
  /-- MTR_SAVE_STAT.SLOT. (16 R473; 4; 0) -/
  saveSlot : BitVec 4 := 0
  /-- MTR_SAVE_STAT.ABANDONED. (16 R473; 1; 0) -/
  abandoned : Bool := false
  /-- MTR_SAVE_STAT.RESTORED. (16 R473; 1; 0) -/
  restored : Bool := false
  /-- A save was made since the start. (16 R466; 1; 0) -/
  savedOnce : Bool := false
  /-- B of the save restored at adoption. (16 R468; 64; 0) -/
  restoredB : DWord := 0
  /-- Saves in progress, oldest first. (16 R465; list; empty) -/
  saving : List Saving := []
  deriving DecidableEq, Repr

/-- What one access path selects and holds (20 R563; 02 R51, R54; 13 R392; 16 R471; 17 R495; 19 R543). -/
structure PathSt where
  /-- TIDE_SEL. (20 R563; 8; 0) -/
  tide : BitVec 8 := 0
  /-- EVT_SEL. (20 R563; 8; 0) -/
  evt : BitVec 8 := 0
  /-- KEY_SEL. (20 R563; 6; 0) -/
  key : BitVec 6 := 0
  /-- NET_SEL. (20 R563; 3; 0) -/
  net : BitVec 3 := 0
  /-- STN_SEL. (20 R563; 11; 0) -/
  stn : BitVec 11 := 0
  /-- FIO_SEL. (20 R563; 5; 0) -/
  fio : BitVec 5 := 0
  /-- MTR_SEL. (20 R563; 4; 0) -/
  mtr : BitVec 4 := 0
  /-- SCAN_SEL. (20 R563; 5; 0) -/
  scan : BitVec 5 := 0
  /-- LOOP_SEL. (20 R563; 9; 0) -/
  loop : BitVec 9 := 0
  /-- SOL_SEL: SCEN and PROBLEM in their register places. (20 R563, 06 R179; 32; 0) -/
  sol : Word := 0
  /-- PLACE_SEL: MAP and INDEX in their register places. (20 R563, 05 R137; 32; 0) -/
  place : Word := 0
  /-- SOL_VSEL: VEC, AUTO, INDEX in their register places. (20 R563, 06 R183; 32; 0) -/
  solV : Word := 0
  /-- LOOP_CAP_SEL. (20 R563, 11 R329; 2; 0) -/
  cap : BitVec 2 := 0
  /-- LOOP_CAP_IDX: AUTO and INDEX in their register places. (20 R563, 11 R329; 32; 0) -/
  capIdx : Word := 0
  /-- JRN_SLOT: AUTO and SLOT in their register places. (20 R563, 17 R495; 32; 0) -/
  jrnSlot : Word := 0
  /-- Tide time snapshot. (02 R51; 64; none) -/
  snTide : Option TideTime := none
  /-- Stamp snapshot. (02 R54; 126; none) -/
  snStamp : Option (BitVec 48 × Stamp) := none
  /-- NTIME snapshot: seconds, nanoseconds and fraction. (13 R392; 110; none) -/
  snNtime : Option (Stamp × Word) := none
  /-- Meter value snapshot. (16 R471; record; none) -/
  snMeter : Option MeterVals := none
  /-- OPTIME snapshot. (17 R495; 16; none) -/
  snOptime : Option (BitVec 16) := none
  /-- Calendar snapshot. (19 R543; record; none) -/
  snCal : Option CalTime := none
  /-- The words that the last read through this path returned. (20 R554; list; empty) -/
  out : List Word := []
  deriving DecidableEq, Repr

/-- A management session set up by HELLO and not yet proved (20 R558). -/
structure Setup where
  sid : Word
  nh : Bytes
  nd : Bytes
  deriving DecidableEq, Repr

/-- An open management session (20 R558 to R560). -/
structure Session where
  sid : Word
  key : Bytes
  /-- Counter of the last accepted request; none before the first. -/
  last : Option Word := none
  /-- OPTIME of the last accepted request. -/
  lastAt : BitVec 48 := 0
  deriving DecidableEq, Repr

/-- A running flash command (20 R569, R570). -/
inductive FlashOp where
  | read | program | erase
  deriving DecidableEq, Repr

/-- Host access (20 R552 to R570). -/
structure Hst where
  /-- The host SPI path. (20 R563; record; 0) -/
  spi : PathSt := {}
  /-- The management path. (20 R563; record; 0) -/
  mgmt : PathSt := {}
  /-- Host SPI port status: TIMEOUT, ALIGN, ignored, partial. (20 R556; 4; 0) -/
  port : BitVec 4 := 0
  /-- Bytes that the host SPI port last sent. (20 R554; list; empty) -/
  spiOut : Bytes := []
  /-- SYS_MGMT.AUTH_FAIL. (20 R568; 16; 0) -/
  authFail : BitVec 16 := 0
  /-- Session setup in progress. (20 R558; record; none) -/
  setup : Option Setup := none
  /-- Open session. (20 R559; record; none) -/
  session : Option Session := none
  /-- HELLO frames answered in the present second, and that second's OPTIME. (20 R559; count; 0) -/
  hellos : Nat := 0
  helloAt : Nat := 0
  /-- SYS_FL_ADDR. (20 R569; 32; 0) -/
  flAddr : Word := 0
  /-- SYS_FL_LEN. (20 R569; 13; 0) -/
  flLen : BitVec 13 := 0
  /-- SYS_FL_STAT.SIZE. (20 R569; 12; 0) -/
  flSize : BitVec 12 := 0
  /-- SYS_FL_STAT.REASON. (20 R569; 8; 0) -/
  flReason : Byte := 0
  /-- SYS_FL_STAT.DONE. (20 R569; 1; 0) -/
  flDone : Bool := false
  /-- SYS_FL_STAT.BUSY. (20 R569; 1; 0) -/
  flBusy : Bool := false
  /-- The running flash command. (20 R570; 3 kinds; none) -/
  flOp : Option FlashOp := none
  /-- Address and length of the running flash command. (20 R570; 32 + 13; 0) -/
  flAt : Nat := 0
  flCount : Nat := 0
  /-- SYS_FL_SEQ. (20 R569; 32; 0) -/
  flSeq : Word := 0
  /-- SYS_FL_BUF, by byte. (20 R569; 4,096 bytes; 0) -/
  flBuf : Store Byte := []
  /-- SYS_BOOT_STATUS.OTHER. (20 R567; 1; 0) -/
  bootOther : Bool := false
  /-- SYS_BOOT_STATUS.SLOT. (20 R567; 1; 0) -/
  bootSlot : Bool := false
  /-- SYS_BOOT_STATUS.ML_FAIL. (20 R567; 1; 0) -/
  bootMl : Bool := false
  /-- SYS_BOOT_STATUS.ED_FAIL. (20 R567; 1; 0) -/
  bootEd : Bool := false
  /-- SYS_BOOT_STATUS.INDEX. (20 R567; 12; 0) -/
  bootIndex : BitVec 12 := 0
  /-- SYS_BOOT_STATUS.REASON. (20 R567; 8; 0) -/
  bootReason : Byte := 0
  deriving DecidableEq, Repr

end Sys2Proof.Machine
end

