-- ==== Sys2Proof/Machine/StateNet.lean ====
section
/-! DEFINITION. State of the Ethernet ports, MACsec and network time. -/

namespace Sys2Proof.Machine

open Sys2Proof

/-- A frame in a launch queue: without FCS and MACsec, with its launch time when it has one (13 R386). -/
structure QFrame where
  bytes : Bytes
  /-- Launch time on NTIME; none starts as soon as possible. -/
  launch : Option Stamp := none
  /-- The launch time was converted from a tide mark (02 R40). -/
  fromMark : Bool := false
  /-- Frame identifier for a transmit stamp (13 R383). -/
  ident : Option (BitVec 16) := none
  /-- The station and path of a ferry frame; true is path B (12 R346). -/
  station : Option (Nat × Bool) := none
  /-- A ferry frame that is built but marked dropped or suppressed on the standby (14 R401). -/
  suppressed : Bool := false
  deriving DecidableEq, Repr

/-- A secure association: its key and its next packet number, or the lowest number not yet seen (13 R375, R376). -/
structure SecAssoc where
  key : Bytes := []
  salt : Bytes := []
  pn : DWord := 1
  deriving DecidableEq, Repr

/-- One port (13 R363 to R391). -/
structure Port where
  /-- Setup in force. (13 R369, R372; record; disabled) -/
  cfg : PortCfg := {}
  /-- NET_LINK.UP. (13 R389; 1; 0) -/
  up : Bool := false
  /-- NET_LINK.CHANGED. (13 R389; 1; 0) -/
  changed : Bool := false
  /-- NET_LINK.AMPL. (13 R389; 2; 0) -/
  ampl : BitVec 2 := 0
  /-- NET_TX. (13 R390; 32; 0) -/
  tx : Word := 0
  /-- NET_RX. (13 R390; 32; 0) -/
  rx : Word := 0
  /-- NET_RX_ERR.FCS. (13 R390; 16; 0) -/
  fcs : BitVec 16 := 0
  /-- NET_RX_ERR.FILTER. (13 R390; 16; 0) -/
  filter : BitVec 16 := 0
  /-- NET_MS_ERR.ICV. (13 R390; 16; 0) -/
  icv : BitVec 16 := 0
  /-- NET_MS_ERR.OTHER. (13 R390; 16; 0) -/
  other : BitVec 16 := 0
  /-- NET_MS_STAT.REJ. (13 R390; 1; 0) -/
  rej : Bool := false
  /-- NET_MS_STAT.TXAN. (13 R390; 2; 0) -/
  txAn : BitVec 2 := 0
  /-- Transmit associations by AN; none has no key. (13 R373; 4; none) -/
  txSa : Store (Option SecAssoc) := []
  /-- Receive associations by 4 x channel + AN; none has no key. (13 R373; 28; none) -/
  rxSa : Store (Option SecAssoc) := []
  /-- Transmit time-stamp queue, oldest first. (13 R385; 16 x 94; empty) -/
  tsq : List (BitVec 16 × Stamp) := []
  /-- NET_TSQ_STAT.OVF. (13 R391; 1; 0) -/
  ovf : Bool := false
  /-- NET_TSQ_STAT.LOST. (13 R391; 16; 0) -/
  lost : BitVec 16 := 0
  /-- Launch queue 0. (13 R386; 256 frames; empty) -/
  q0 : List QFrame := []
  /-- Launch queue 1. (13 R386; 32 frames; empty) -/
  q1 : List QFrame := []
  /-- Launch queue 2. (13 R386; 32 frames; empty) -/
  q2 : List QFrame := []
  /-- Launch queue 3. (13 R386; 32 frames; empty) -/
  q3 : List QFrame := []
  /-- NET_LQ_STAT.LATE. (13 R391; 16; 0) -/
  late : BitVec 16 := 0
  /-- NET_LQ_STAT.LINKDOWN. (13 R391; 16; 0) -/
  linkdown : BitVec 16 := 0
  /-- NET_LATE_LIMIT. (13 R391; 20; 50) -/
  lateLimit : BitVec 20 := 50
  /-- Instant on the nanosecond count at which the frame on the wire and its interframe gap end. (13 R387; ns; 0) -/
  busyTill : Nat := 0
  /-- PTP messages that the firmware has not yet taken, oldest first, with the receive stamp of an event message.
  (13 R367, R383; list; empty) -/
  ptpIn : List (Bytes × Option Stamp) := []
  /-- Receive stamp of the event message that the firmware took last. (13 R383; 78; none) -/
  rxStamp : Option Stamp := none
  /-- Sync and delay request messages that the firmware has submitted within the last second: a Sync or not, and its instant
  in ns. (13 R382; list; empty) -/
  ptpOut : List (Bool × Nat) := []
  /-- The frame last sent, as it stands on the wire without its FCS. (13 R387; bytes; empty) -/
  sent : Bytes := []
  deriving DecidableEq, Repr

/-- Network time (13 R377 to R382, R392). -/
structure Ntime where
  /-- NTIME has started. (13 R380; 1; 0) -/
  started : Bool := false
  /-- Seconds. (13 R377; 48; 0) -/
  sec : BitVec 48 := 0
  /-- Nanoseconds. (13 R377; 30; 0) -/
  ns : BitVec 30 := 0
  /-- Fraction of a nanosecond. (13 R377; 32; 0) -/
  frac : Word := 0
  /-- NTIME_INCR_INT. (13 R392; 8; 0x04) -/
  incrInt : Byte := 4
  /-- NTIME_INCR_FRAC. (13 R392; 32; 0) -/
  incrFrac : Word := 0
  /-- Increment in force, 8.32 ns. (13 R378; 40; 4.0) -/
  incr : BitVec 40 := 0x400000000
  /-- NTIME_STEP_SEC. (13 R392; 48; 0) -/
  stepSec : BitVec 48 := 0
  /-- NTIME_STEP_NS.NS. (13 R392; 30; 0) -/
  stepNs : BitVec 30 := 0
  /-- NTIME_STEP_NS.NEG. (13 R392; 1; 0) -/
  stepNeg : Bool := false
  /-- NTIME_STAT.HOST_REJ. (13 R392; 1; 0) -/
  hostRej : Bool := false
  /-- NTIME_STAT.STEP_REJ. (13 R392; 1; 0) -/
  stepRej : Bool := false
  /-- NTIME_STAT.SERVO. (13 R392; 2; 0) -/
  servo : BitVec 2 := 0
  /-- NTIME_STAT.SET. (13 R392; 1; 0) -/
  set : Bool := false
  /-- NTIME_OFFSET. (13 R392; 32; 0) -/
  offset : Word := 0
  /-- NTIME_STEPS. (13 R392; 32; 0) -/
  steps : Word := 0
  /-- NTIME_UTC.VALID. (13 R392; 1; 0) -/
  utcValid : Bool := false
  /-- NTIME_UTC.OFFSET. (13 R392; 16; 0) -/
  utcOff : BitVec 16 := 0
  /-- The grandmaster announces its UTC offset valid, and that offset. (19 R545; 16; none) -/
  gmUtc : Option (BitVec 16) := none
  deriving DecidableEq, Repr

end Sys2Proof.Machine
end

