-- ==== Sys2Proof/Machine/StatePair.lean ====
section
/-! DEFINITION. State of the redundant pair. -/

namespace Sys2Proof.Machine

open Sys2Proof

/-- PAIR_STATUS.STATE (14 R419); `none` is 0, a single unit or a pair unit whose role is not decided. -/
inductive PairRole where
  | none | activeLockstep | activeStaging | activeAlone | lockstep | staging | resync | notReady | heldOut | waiting
  deriving DecidableEq, Repr

/-- A crossing-link message that the unit sends (14 R399). -/
inductive LinkMsg where
  | lease (seq : Word) (epoch : DWord) (t1 t4 : Stamp)
  | leaseAck (seq : Word) (t2 t3 : Stamp)
  | image (m : ImageMsg)
  | sample (m : SampleMsg)
  | tide (t : Tracker)
  | events (l : List (Nat × Nat))
  | solver (m : SolverMsg)
  | digest (m : DigestMsg)
  | health (m : HealthMsg)
  | resync (region page : Nat) (contents : Bytes)
  | switch (t : TideTime)
  | take
  deriving DecidableEq, Repr

/-- What decides how a unit joins a pair: the digest of an adopted manifest, its tide record and its pair setup record
(03 R81, R82). -/
structure PartnerRec where
  /-- Digest of the manifest. (03 R81; 512; DESIGN CHOICE empty) -/
  digest : Bytes := []
  /-- Tide setup record. (03 R82; bytes; DESIGN CHOICE empty) -/
  tide : Bytes := []
  /-- Pair setup record. (03 R82; bytes; DESIGN CHOICE empty) -/
  pairSetup : Bytes := []
  deriving DecidableEq, Repr

/-- The redundant pair (14 R394 to R421). -/
structure Pair where
  /-- PAIR_STATUS.STATE. (14 R419; 4; 0) -/
  role : PairRole := .none
  /-- FENCE_OUT. (14 R407; 1; 0) -/
  fenceOut : Bool := false
  /-- PEER_OK_OUT. (14 R396; 1; 0) -/
  peerOkOut : Bool := false
  /-- The unit self-fenced or was fenced and drives nothing until it restarts. (14 R408, R410; 1; 0) -/
  fenced : Bool := false
  /-- The crossing link is up. (14 R399; 1; 0) -/
  linkUp : Bool := false
  /-- PAIR_LINKn.UP. (14 R420; 2; 0) -/
  laneUp : BitVec 2 := 0
  /-- PAIR_LINKn.BAD. (14 R420; 2; 0) -/
  laneBad : BitVec 2 := 0
  /-- PAIR_LINK0.CRC_ERR. (14 R420; 16; 0) -/
  crc0 : BitVec 16 := 0
  /-- PAIR_LINK1.CRC_ERR. (14 R420; 16; 0) -/
  crc1 : BitVec 16 := 0
  /-- HFIO times of the bad copies of the last second, lane 0 and lane 1, ns. (14 R399; lists; empty) -/
  bad0 : List Nat := []
  bad1 : List Nat := []
  /-- Sequence of the last message sent. (14 R398; 32; 0) -/
  txSeq : Word := 0
  /-- Sequence of the last message delivered. (14 R398; 32; 0) -/
  rxSeq : Word := 0
  /-- The partner is known to be active: a LEASE came since the link came up. (14 R397; 1; 0) -/
  peerActive : Bool := false
  /-- Messages sent by the latest command, oldest first. (14 R399; list; empty) -/
  sent : List LinkMsg := []
  /-- The SOLVER report that gathers what its 10 µs bring, and the HFIO time of its beginning in ns. (14 R399; message; none) -/
  held : Option (Nat × SolverMsg) := none
  /-- Sequence of the last LEASE sent, and its HFIO time in ns. (14 R406; 32; 0) -/
  leaseSeq : Word := 0
  /-- HFIO send times of unacknowledged leases, by sequence. (14 R406; list; empty) -/
  leases : List (Word × Nat) := []
  /-- Acknowledged send time t_a, HFIO ns. (14 R406; count; none) -/
  ta : Option Nat := none
  /-- HFIO time of the last LEASE received, ns. (14 R409; count; none) -/
  leaseAt : Option Nat := none
  /-- t4 of the last acknowledgement received. (14 R399; 78; 0) -/
  t4 : Stamp := {}
  /-- t2 and t3 of the last acknowledgement sent, with its lease's t1. (14 R402; 3 x 78; none) -/
  exch : Option (Stamp × Stamp × Stamp) := none
  /-- Own digests that await the partner's. (14 R403; list; empty) -/
  own : List DigestMsg := []
  /-- The partner's digests that await this unit's. (14 R403; list; empty) -/
  peer : List DigestMsg := []
  /-- PAIR_DIGEST.COMPARED. (14 R420; 16; 0) -/
  compared : BitVec 16 := 0
  /-- PAIR_DIGEST.MISMATCH. (14 R420; 16; 0) -/
  mismatch : BitVec 16 := 0
  /-- OPTIME of the mismatches, newest first; PAIR_HEALTH.MISMATCH_HR counts the last hour's. (14 R419; list; empty) -/
  mismatchAt : List (BitVec 48) := []
  /-- PAIR_HEALTH.DIGEST_DIFF. (14 R419; 1; 0) -/
  digestDiff : Bool := false
  /-- PAIR_HEALTH.PEER_FAIL. (14 R419; 1; 0) -/
  peerFail : Bool := false
  /-- PAIR_HEALTH.FENCE_FAULT. (14 R419; 1; 0) -/
  fenceFault : Bool := false
  /-- PAIR_HEALTH.PEER_LOST. (14 R419; 1; 0) -/
  peerLost : Bool := false
  /-- The partner's adopted manifest, as known since it joined. (03 R81, R82; record; empty) -/
  partner : PartnerRec := {}
  /-- The tide or pair setup records of the two manifests differ: the standby stays out of the pair. (03 R82; 1; 0) -/
  apart : Bool := false
  /-- Standby: the lease has run out since the last LEASE. (14 R409; 1; 0) -/
  expired : Bool := false
  /-- Placed tile from which the next tile BIST is due. (14 R414; 0 to 64; 0) -/
  bistNext : Nat := 0
  /-- Active: data memory and retained area as sent in the round before. (14 R417; 4 KiB pages; none) -/
  snap : Option (Store Word × List Word) := none
  /-- PAIR_RESYNC.ROUNDS. (14 R420; 8; 0) -/
  rounds : Byte := 0
  /-- PAIR_RESYNC.PAGES. (14 R420; 24; 0) -/
  pages : BitVec 24 := 0
  /-- Pages received, region and page, newest contents first. (14 R417; 4 KiB pages; empty) -/
  received : List (Word × Word × Bytes) := []
  /-- A resynchronisation completed since the last start. (14 R409; 1; 0) -/
  resynced : Bool := false
  /-- Lockstep is entered at the next period boundary. (14 R417; 1; 0) -/
  joinNext : Bool := false
  /-- Active: a partner out of lockstep takes resynchronisation from this unit. (14 R417, R418; 1; 0) -/
  joining : Bool := false
  /-- Standby: the active unit's tide count and angle were adopted. (02 R47; 1; 0) -/
  tideTaken : Bool := false
  /-- Standby: images that wait for an earlier scan or commit, oldest first. (14 R400, 10 R282; list; empty) -/
  images : List ImageMsg := []
  /-- Active: the unit has switched over and starts no frame and sends no lease. (14 R412; 1; 0) -/
  handed : Bool := false
  /-- PAIR_NTOFF. (14 R420; 32; 0) -/
  ntoff : Word := 0
  /-- PAIR_SELFTEST.ECC_CORR. (14 R420; 16; 0) -/
  eccCorr : BitVec 16 := 0
  /-- PAIR_SELFTEST.LAST_TILE. (14 R420; 6; 0) -/
  lastTile : BitVec 6 := 0
  /-- PAIR_SELFTEST.OUT_FAIL. (14 R420; 1; 0) -/
  outFail : Bool := false
  /-- PAIR_SELFTEST.UNCORR. (14 R420; 1; 0) -/
  uncorr : Bool := false
  /-- PAIR_SELFTEST.CORE_FAIL. (14 R420; 1; 0) -/
  coreFail : Bool := false
  /-- PAIR_SELFTEST.TILE_FAIL. (14 R420; 1; 0) -/
  tileFail : Bool := false
  /-- PAIR_CTRL_STAT.REASON. (14 R421; 8; 0) -/
  reason : Byte := 0
  /-- PAIR_CTRL_STAT.DONE. (14 R421; 1; 0) -/
  done : Bool := false
  /-- PAIR_CTRL_STAT.BUSY: a switch-over is pending. (14 R421; 1; 0) -/
  busy : Bool := false
  deriving DecidableEq, Repr

end Sys2Proof.Machine
end

