-- ==== Sys2Proof/Machine/StateKey.lean ====
section
/-! DEFINITION. State of the key block. -/

namespace Sys2Proof.Machine

open Sys2Proof

/-- What a pending key command does when it completes (18 R518, R512, R508). -/
inductive KeyEffect where
  | none
  | blob (b : Blob)
  | install (port : Nat) (rx : Bool) (sc an : Nat) (key : Bytes)
  | load (b : Blob) (key : Bytes)
  | arm (hash : Bytes)
  | fuse
  deriving DecidableEq, Repr

/-- A pending key command: what it places in KEY_OUT and what it does (18 R518 to R523). -/
structure KeyJob where
  out : Bytes := []
  effect : KeyEffect := .none
  deriving DecidableEq, Repr

/-- Key block (18 R497 to R526). -/
structure Keys where
  /-- Blob number in the SEAL channel. (18 R524; 8; 0xFF) -/
  sealBlob : Byte := 0xFF
  /-- Key of the SEAL channel. (18 R516; 256; none) -/
  sealKey : Option Bytes := none
  /-- Blob number in the HOST channel. (18 R524; 8; 0xFF) -/
  hostBlob : Byte := 0xFF
  /-- Key of the HOST channel. (18 R516; 256; none) -/
  hostKey : Option Bytes := none
  /-- Slots that the adopted manifest holds. (18 R515; 64; 0) -/
  held : BitVec 64 := 0
  /-- KEY_BOOT.FW_REASON. (18 R525; 8; 0) -/
  fwReason : Byte := 0
  /-- KEY_BOOT.FW_SLOT, true B. (18 R525; 1; 0) -/
  fwSlot : Bool := false
  /-- KEY_BOOT.FW_OK. (18 R525; 1; 0) -/
  fwOk : Bool := false
  /-- KEY_FUSE.FW_SV. (18 R525; 8; 0) -/
  fwSv : Byte := 0
  /-- Digest field of the running firmware's signature block. (18 R520; 512; empty) -/
  fwDigest : Bytes := []
  /-- KEY_SIGRES.MANIFEST. (18 R525; 2; 0) -/
  sigMan : BitVec 2 := 0
  /-- KEY_SIGRES.MOORING. (18 R525; 2; 0) -/
  sigMoor : BitVec 2 := 0
  /-- KEY_SIGRES.FIRMWARE. (18 R525; 2; 0) -/
  sigFw : BitVec 2 := 0
  /-- KEY_ENROL_HASH0 to 7. (18 R526; 8 x 32; 0) -/
  enrolHash : Store Word := []
  /-- KEY_NONCE0 to 7. (18 R526; 8 x 32; 0) -/
  nonce : Store Word := []
  /-- KEY_ARGS. (18 R526; 30; 0) -/
  args : Word := 0
  /-- KEY_ARGS2. (18 R526; 11; 0) -/
  args2 : Word := 0
  /-- KEY_IN_LEN. (18 R526; 6; 0) -/
  inLen : BitVec 6 := 0
  /-- KEY_IN0 to 15. (18 R526; 16 x 32; 0) -/
  keyIn : Store Word := []
  /-- KEY_OUT. (18 R526; 16,384 bytes; 0) -/
  out : Bytes := []
  /-- KEY_CMD_STAT.LENGTH. (18 R526; 16; 0) -/
  length : BitVec 16 := 0
  /-- KEY_CMD_STAT.REASON. (18 R526; 8; 0) -/
  reason : Byte := 0
  /-- KEY_CMD_STAT.DONE. (18 R526; 1; 0) -/
  done : Bool := false
  /-- The pending command; KEY_CMD_STAT.BUSY. (18 R526; record; none) -/
  job : Option KeyJob := none
  deriving DecidableEq, Repr

end Sys2Proof.Machine
end

