-- ==== Sys2Proof/Machine/StateLoop.lean ====
section
/-! DEFINITION. State of the closed-loop engine. -/

namespace Sys2Proof.Machine

open Sys2Proof

/-- One loop (11 R305 to R322). Q8.24 values are held raw. -/
structure LoopSt where
  /-- A sample was taken since the start. (11 R313; 1; 0) -/
  started : Bool := false
  /-- Target setpoint; LOOP_SPT. (11 R310, R327; Q8.24; the table's) -/
  spt : Int := 0
  /-- Gain Kp. (11 R305, R322; Q8.24; the table's) -/
  kp : Int := 0
  /-- Integral time, ms. (11 R305, R322; count; the table's) -/
  ti : Nat := 0
  /-- Derivative time, ms. (11 R305, R322; count; the table's) -/
  td : Nat := 0
  /-- Output low limit. (11 R305, R322; Q8.24; the table's) -/
  lo : Int := 0
  /-- Output high limit. (11 R305, R322; Q8.24; the table's) -/
  hi : Int := 0
  /-- Setpoint ramp rate per second. (11 R305, R322; Q8.24; the table's) -/
  ramp : Int := 0
  /-- Manual mode. (11 R313, R326; 1; the table's) -/
  manual : Bool := false
  /-- Manual output. (11 R313, R322; Q8.24; the table's initial output) -/
  man : Int := 0
  /-- Process value; LOOP_PV. (11 R309, R327; Q8.24; 0) -/
  pv : Int := 0
  /-- Working setpoint; LOOP_SPW. (11 R311, R327; Q8.24; 0) -/
  spw : Int := 0
  /-- The loop's own output u; LOOP_OUT. (11 R311, R327; Q8.24; 0) -/
  u : Int := 0
  /-- Control error e. (11 R311; Q8.24; 0) -/
  e : Int := 0
  /-- Applied output a; LOOP_APPLIED. (11 R318, R327; Q8.24; 0) -/
  a : Int := 0
  /-- Integral term i; LOOP_INT. (11 R311, R327; Q8.24; 0) -/
  i : Int := 0
  /-- Derivative term d. (11 R311; Q8.24; 0) -/
  d : Int := 0
  /-- Gain in effect kk; LOOP_GAIN. (11 R311, R327; Q8.24; 0) -/
  kk : Int := 0
  /-- Voltage factor c; LOOP_VFAC. (11 R315, R327; Q8.24; 0) -/
  c : Int := 0
  /-- LOOP_CNT.SATS. (11 R327; 16; 0) -/
  sats : BitVec 16 := 0
  /-- LOOP_CNT.BAD. (11 R327; 16; 0) -/
  bad : BitVec 16 := 0
  /-- LOOP_LAST. (11 R327; 32; 0) -/
  last : Word := 0
  /-- LOOP_STATUS.PV_CLAMP. (11 R326; 1; 0) -/
  clamped : Bool := false
  /-- LOOP_STATUS.PV_BAD. (11 R326; 1; 0) -/
  pvBad : Bool := false
  /-- LOOP_STATUS.ILK. (11 R326; 1; 0) -/
  ilk : Bool := false
  /-- LOOP_STATUS.FORCED. (11 R326; 1; 0) -/
  forced : Bool := false
  /-- LOOP_STATUS.LIMITED. (11 R326; 1; 0) -/
  limited : Bool := false
  /-- Samples taken in the present output cycle. (11 R319; count; 0) -/
  phase : Nat := 0
  /-- t_on of the present output cycle, µs. (11 R319; count; 0) -/
  onUs : Nat := 0
  /-- State of the destination channel at the handover to program control, until the next sample. (11 R313, 04 R88; 1; none) -/
  hand : Option Bool := none
  /-- The loop commands its local channels on. (11 R319; 1; 0) -/
  drive : Bool := false
  deriving DecidableEq, Repr

/-- A running test (11 R324). -/
structure LoopTest where
  loop : Nat
  set : TestSetting
  /-- Sample index k. -/
  k : Nat := 0
  /-- PRBS register s. -/
  s : BitVec 15 := 0x7FFF
  /-- Sweep phase φ. -/
  phi : Word := 0
  deriving DecidableEq, Repr

/-- LOOP_CAP_STAT.STATE (11 R329). -/
inductive CapState where
  | idle | armed | recording | stopped
  deriving DecidableEq, Repr

/-- One record of a capture (11 R325). -/
structure CapRec where
  value : Int
  time : TideTime
  deriving DecidableEq, Repr

/-- One capture channel (11 R325, R329). -/
structure Capture where
  /-- LOOP_CAP_CFG. (11 R329; 32; 0) -/
  cfg : Word := 0
  /-- LOOP_CAP_STAT.STATE. (11 R329; 2; 0) -/
  state : CapState := .idle
  /-- Records, oldest first. (11 R325; 16,384; empty) -/
  recs : List CapRec := []
  /-- LOOP_CAP_STAT.WRAP. (11 R329; 1; 0) -/
  wrap : Bool := false
  deriving DecidableEq, Repr

/-- The loop engine (11 R304 to R331). -/
structure LoopEng where
  /-- Loops by number. (11 R304; 512 records; 0) -/
  loops : Store LoopSt := []
  /-- Winner of each override group: its loop number plus one. (11 R317; 64; none) -/
  winners : Store Nat := []
  /-- V of the last valid tide cycle, before the clamp of R315. (11 R315; Q8.24; 1.0) -/
  volt : Int := 0x1000000
  /-- Running tests. (11 R324; at most 4; none) -/
  tests : List LoopTest := []
  /-- An accepted start or stop that is pending. (11 R324; record; none) -/
  tstPending : Option TestChange := none
  /-- LOOP_TST_CFG: HOLD, POINT and KIND in their register places. (11 R328; 32; 0) -/
  tstCfg : Word := 0
  /-- LOOP_TST_AMP. (11 R328; 32; 0) -/
  tstAmp : Word := 0
  /-- LOOP_TST_LEN. (11 R328; 32; 0) -/
  tstLen : Word := 0
  /-- LOOP_TST_F0. (11 R328; 32; 0) -/
  tstF0 : Word := 0
  /-- LOOP_TST_F1. (11 R328; 32; 0) -/
  tstF1 : Word := 0
  /-- LOOP_TST_STAT.REASON. (11 R328; 8; 0) -/
  tstReason : Byte := 0
  /-- LOOP_TST_STAT.DONE. (11 R328; 1; 0) -/
  tstDone : Bool := false
  /-- Capture channels. (11 R325; 4 records; 0) -/
  caps : Store Capture := []
  deriving DecidableEq, Repr

end Sys2Proof.Machine
end

