-- ==== Sys2Proof/Machine/StateScan.lean ====
section
/-! DEFINITION. State of the tasks, scans, landing buffers, data memory and forces. -/

namespace Sys2Proof.Machine

open Sys2Proof

/-- SCAN_T_STATE.PHASE (10 R300). -/
inductive Phase where
  | idle | ready | running | speculating | ended | replaying | reexecuting | awaiting
  deriving DecidableEq, Repr

/-- One 16-byte entry of the store area, in write order (10 R283). -/
inductive Landing where
  /-- A store: first word's index, the element's type and its slot. -/
  | store (index : Nat) (ty : Ty) (value : DWord)
  /-- A loop parameter write. -/
  | lpw (loop : Nat) (param : Nat) (ty : Ty) (value : DWord)
  /-- A journal record: source, severity, code, subsource, payload. -/
  | jrn (src sev code sub : Nat) (payload : DWord)
  deriving DecidableEq, Repr

/-- A cause of the error task: LDS selectors 8, 9 and 10 (10 R278). -/
structure ErrCause where
  code : Nat
  task : Nat
  off : Nat := 0
  deriving DecidableEq, Repr

/-- An open call: where its RET returns to, and the caller's share of the evaluation stack (09 R254). -/
structure OpenCall where
  /-- Return word. -/
  pc : Nat
  /-- The caller's frame base. -/
  base : Nat
  /-- The caller's slots, top first, which the callee cannot reach. -/
  stack : List DWord := []
  /-- The callee is a function with a result, which RET pushes onto the caller's slots. -/
  gives : Bool := false
  deriving DecidableEq, Repr

/-- A scan from its input freeze to its commit (10 R281 to R292, 09 R244, R254, R270). -/
structure Run where
  /-- Phase. -/
  phase : Phase := .ready
  /-- Order in which scans became ready. -/
  readyNo : Nat := 0
  /-- Tide time of the input freeze. -/
  start : TideTime := {}
  /-- NTIME of the input freeze. -/
  ntime : Stamp := {}
  /-- Microsecond counter of the input freeze. -/
  us : DWord := 0
  /-- Timer time in ns. -/
  now : Nat := 0
  /-- Scan count that its commit will show. -/
  scan : Word := 0
  /-- Commit sequence number that the scan sees. -/
  seen : Word := 0
  /-- What the scan sees of the data memory: the frozen input image and the values committed by the freeze. -/
  image : Store Word := []
  /-- The loops as they stood at the freeze. -/
  loops : Store LoopSt := []
  /-- System values captured at the freeze. -/
  lds : LdsValues := {}
  /-- The cause that an error task's scan handles. -/
  cause : Option ErrCause := none
  /-- The running POU's share of the evaluation stack, top first. -/
  stack : List DWord := []
  /-- Open calls, innermost first. -/
  calls : List OpenCall := []
  /-- Frame base. -/
  base : Nat := 0
  /-- Code word that executes next. -/
  pc : Nat := 0
  /-- Instruction count in units. -/
  units : Nat := 0
  /-- Store area, in write order. -/
  entries : List Landing := []
  /-- Delta area: accepted delta frames in order. -/
  delta : List Bytes := []
  /-- Program events to raise at commit. -/
  events : List Nat := []
  /-- Stations of the awaited launch whose replies are outstanding. -/
  outstanding : List Nat := []
  /-- Cycle of the awaited launch. -/
  awaited : Option (BitVec 48) := none
  /-- Words of the awaited inputs that were outstanding at the freeze, unforced, and whose station has not missed since. -/
  watch : List Nat := []
  /-- Outstanding inputs that the scan loaded, with the word used. -/
  loads : List (Nat × Word) := []
  /-- Speculation past remote inputs is not resolved. -/
  spec : Bool := false
  /-- The boundary scan of a period. -/
  boundary : Bool := false
  /-- Solver deadline marks at or before the start of the scan. -/
  marks : Nat := 0
  /-- Rejected delta frames of the scan, problem and reason, in write order. -/
  rejects : List (Nat × Nat) := []
  /-- A solution read waits for the fix instant. -/
  waitFix : Bool := false
  /-- A fault held until resolution. -/
  held : Option ErrCause := none
  /-- The entry program has returned. -/
  done : Bool := false
  /-- The scan replays after a resolution. -/
  replay : Bool := false
  /-- The scan re-executes after a mismatch. -/
  again : Bool := false
  deriving DecidableEq, Repr

/-- One task (10 R275, R300, R301). -/
structure Task where
  /-- The scan in progress. (10 R281; record; none) -/
  run : Option Run := none
  /-- SCAN_T_STATE.PENDING. (10 R300; 1; 0) -/
  trig : Bool := false
  /-- Microsecond counter of the last input freeze. (10 R277; 64; none) -/
  frozen : Option DWord := none
  /-- SCAN_T_SCANS. (10 R301; 32; 0) -/
  scans : Word := 0
  /-- SCAN_T_OVR.OVERRUNS. (10 R301; 16; 0) -/
  overruns : BitVec 16 := 0
  /-- SCAN_T_OVR.FAULTS. (10 R301; 16; 0) -/
  faults : BitVec 16 := 0
  /-- SCAN_T_SPEC.REPLAYS. (10 R301; 16; 0) -/
  replays : BitVec 16 := 0
  /-- SCAN_T_SPEC.CONFIRMS. (10 R301; 16; 0) -/
  confirms : BitVec 16 := 0
  /-- SCAN_T_EXEC. (10 R301; 32; 0) -/
  exec : Word := 0
  /-- SCAN_T_EXECMAX. (10 R301; 32; 0) -/
  execMax : Word := 0
  /-- SCAN_T_INSTR. (10 R301; 32; 0) -/
  instr : Word := 0
  /-- SCAN_T_LAND.STORE_HW. (10 R301; 16; 0) -/
  storeHw : BitVec 16 := 0
  /-- SCAN_T_LAND.DELTA_HW. (10 R301; 16; 0) -/
  deltaHw : BitVec 16 := 0
  /-- SCAN_T_MISC.MERGED. (10 R301; 16; 0) -/
  merged : BitVec 16 := 0
  /-- SCAN_T_MISC.MISMATCH. (10 R301; 16; 0) -/
  mismatch : BitVec 16 := 0
  /-- SCAN_T_LAST. (10 R301; 32; 0) -/
  last : Word := 0
  /-- A scan has committed since the start. (09 R268; 1; 0) -/
  committed : Bool := false
  /-- Out-of-range values clamped so far, LDS selector 11. (09 R268; 32; 0) -/
  clamps : Word := 0
  /-- Standby: a start mark has fired whose image has not come. (14 R410; tide time; none) -/
  due : Option TideTime := none
  /-- A confirm-or-replay decision not yet forwarded with the task's next image: true confirms. (10 R288; 1; none) -/
  decision : Option Bool := none
  /-- Standby: the active unit's decision for a scan that has not begun here: scan count, and true confirms.
  (10 R288; 33; none) -/
  told : Option (Word × Bool) := none
  deriving DecidableEq, Repr

/-- Tasks, scans, data memory and forces (10 R274 to R302). -/
structure Scan where
  /-- Data memory: the live input area and the committed values of the other regions. (01 R9; 1,048,576 x 32; 0) -/
  data : Store Word := []
  /-- Input variables at the latest freeze of any task. (11 R308; 1,048,576 x 32; the initial values) -/
  frozen : Store Word := []
  /-- SCAN_COMMIT. (10 R299; 32; 0) -/
  seq : Word := 0
  /-- Tasks. (10 R274; 32 records; 0) -/
  tasks : Store Task := []
  /-- Clock edges so far on which scans became ready. (10 R279; count; 0) -/
  readies : Nat := 0
  /-- The latest such edge: its instant in ns and µs, and its tide time. (10 R279; record; none) -/
  readyEdge : Option (Nat × DWord × TideTime) := none
  /-- Causes queued for the error task, oldest first. (10 R278; up to 32; empty) -/
  errq : List ErrCause := []
  /-- SCAN_ERRQ.DROPPED. (10 R301; 16; 0) -/
  errDropped : BitVec 16 := 0
  /-- SCAN_MISMATCH.RECOVERED. (10 R299; 16; 0) -/
  recovered : BitVec 16 := 0
  /-- SCAN_MISMATCH.ABANDONED. (10 R299; 16; 0) -/
  abandoned : BitVec 16 := 0
  /-- SCAN_STATUS.HW_TIMERS. (10 R299; 11; 0) -/
  hwTimers : BitVec 11 := 0
  /-- Tasks whose timers are hardware timers. (10 R291; list; empty) -/
  hwTasks : List Nat := []
  /-- Forces in effect by slot: index and value words. (10 R296; 256 x 84; none) -/
  forces : Store (Option (BitVec 20 × Word × Word)) := []
  /-- Force changes that are pending. (10 R297; list; empty) -/
  frcPending : List ForceChange := []
  /-- SCAN_FRC_SEL. (10 R302; 8; 0) -/
  frcSel : BitVec 8 := 0
  /-- SCAN_FRC_INDEX.INDEX. (10 R302; 20; 0) -/
  frcIndex : BitVec 20 := 0
  /-- SCAN_FRC_VAL_LO. (10 R302; 32; 0) -/
  frcLo : Word := 0
  /-- SCAN_FRC_VAL_HI. (10 R302; 32; 0) -/
  frcHi : Word := 0
  /-- SCAN_FRC_STAT.REASON. (10 R302; 8; 0) -/
  frcReason : Byte := 0
  /-- SCAN_FRC_STAT.DONE. (10 R302; 1; 0) -/
  frcDone : Bool := false
  /-- SCAN_FRC_STAT.BUSY. (10 R302; 1; 0) -/
  frcBusy : Bool := false
  /-- The period's boundary scan has committed. (01 R15; 1; 0) -/
  boundaryDone : Bool := false
  deriving DecidableEq, Repr

/-- One retained copy in MRAM (10 R293, R294; 04 R107). -/
structure Retained where
  /-- OPTIME at which it was sealed. -/
  optime : BitVec 48
  /-- Commit sequence number. -/
  seq : Word
  /-- Committed scan counts by task. -/
  scans : Store Word
  /-- The packed words of the retained area. -/
  words : List Word
  deriving DecidableEq, Repr

end Sys2Proof.Machine
end

