-- ==== Sys2Proof/Machine/StatePlace.lean ====
section
/-! DEFINITION. State of the placement engine and of the health map. -/

namespace Sys2Proof.Machine

open Sys2Proof

/-- Placement of one station: ports, and launch offsets and wire times in 4 ns (05 R125, R126). -/
structure StnPlace where
  portA : Nat := 0
  offA : Nat := 0
  portB : Nat := 0
  offB : Nat := 0
  wire : Nat := 0
  wireB : Nat := 0
  deriving DecidableEq, Repr

/-- Placement of one problem: its tiles in increasing number (none when shed), whether its data are in the shared
store, and whether the last change moved it (05 R121, R133, R141). -/
structure ProbPlace where
  tiles : List Nat := []
  store : Bool := false
  moved : Bool := false
  deriving DecidableEq, Repr

/-- The part of a placement that a change of the health map can alter (05 R121, R123, R133). -/
structure WorkMap where
  /-- Tiles of each problem. (05 R121; 1,040 records; none) -/
  probs : Store ProbPlace := []
  /-- Core pair of each task. (05 R123; 32 x 3; 0) -/
  taskPair : Store Nat := []
  /-- Tiles excluded: PLACE_EXCL or PLACE_NEXT. (05 R139; 64; 0) -/
  exclTiles : BitVec 64 := 0
  /-- Core pairs excluded: PLACE_CORE.EXCL or NEXT. (05 R139; 5; 0) -/
  exclCores : BitVec 5 := 0
  /-- Spare tiles not yet used. (05 R120, R133; up to 8; empty) -/
  spareTiles : List Nat := []
  /-- The spare core pair. (05 R123, R138; 3; none) -/
  sparePair : Option Nat := none
  /-- The spare core pair runs tasks. (05 R133, R138; 1; 0) -/
  spareUsed : Bool := false
  /-- PLACE_STATUS.UNION. (05 R138; 1; 0) -/
  union : Bool := false
  deriving DecidableEq, Repr

/-- What a joining standby's full placement holds beside the work map (05 R116, R135). -/
structure JoinPlace where
  /-- Placement epoch. -/
  epoch : Word
  /-- Places of the stations, by station. -/
  stns : Store StnPlace
  /-- Slots of the loops, by loop. -/
  slots : Store Nat
  /-- Buffers of the tasks, by task. -/
  buf : Store (Nat × Nat)
  /-- No spare core pair is left. -/
  nospare : Bool
  /-- Footprint of the placed problems. -/
  foot : Word
  deriving DecidableEq, Repr

/-- The placement engine and the health map (05 R114 to R141). -/
structure Place where
  /-- The effective placement. (05 R121, R123; record; empty) -/
  cur : WorkMap := {}
  /-- The placement that awaits the next boundary; PLACE_STATUS.PENDING. (05 R132, R138; record; none) -/
  next : Option WorkMap := none
  /-- The rest of a joining standby's full placement that awaits the next boundary. (05 R135, 01 R24; record; none) -/
  joined : Option JoinPlace := none
  /-- Station ports and offsets. (05 R125, R126; 1,280 records; 0) -/
  stns : Store StnPlace := []
  /-- Slot of each loop. (05 R124; 512 x 9; 0) -/
  loopSlot : Store Nat := []
  /-- Offset and length of each task's process image memory. (05 R127; 32 records; 0) -/
  taskBuf : Store (Nat × Nat) := []
  /-- PLACE_EPOCH. (05 R138; 32; 0) -/
  epoch : Word := 0
  /-- PLACE_STATUS.NOSPARE. (05 R138; 1; 0) -/
  nospare : Bool := false
  /-- PLACE_STATUS.OVERLOAD. (05 R138; 1; 0) -/
  overload : Bool := false
  /-- PLACE_LAST. (05 R139; 32; 0) -/
  last : Word := 0
  /-- PLACE_FOOT. (05 R140; 32; 0) -/
  foot : Word := 0
  /-- PLACE_FAULT: this unit's faulty tile marks. (05 R131, R139; 64; from the device records) -/
  tileFault : BitVec 64 := 0
  /-- PLACE_SLOW: this unit's slow tile marks. (05 R130, R139; 64; 0) -/
  tileSlow : BitVec 64 := 0
  /-- PLACE_CORE.FAULT: this unit's faulty core pair marks. (05 R129, R139; 5; from the device records) -/
  coreFault : BitVec 5 := 0
  /-- This unit's faulty marks at adoption. (05 R129; 64 and 5; 0) -/
  e0Tiles : BitVec 64 := 0
  e0Cores : BitVec 5 := 0
  /-- The partner's exclusion sets. (05 R129, R135; record; 0) -/
  peer : HealthMsg := {}
  /-- A HEALTH message of the partner has come since the start: the placement is made on the union. (05 R129, R138; 1; 0) -/
  peerSeen : Bool := false
  /-- Standby: the active unit's epoch and e0 were taken since it joined. (05 R116, R135; 1; 0) -/
  taken : Bool := false
  /-- SLOW_RUN of each tile. (05 R130, R141; 64 x 4; 0) -/
  slowRun : Store Nat := []
  /-- RATE of each tile, in 0.1 % of the median. (05 R130, R141; 64 x 16; 0) -/
  rate : Store Nat := []
  /-- Scan numbers at which each core pair mismatched, newest first. (05 R131; 5 lists; empty) -/
  mismatches : Store (List Nat) := []
  /-- Scans that each core pair has run. (05 R131; 5 counts; 0) -/
  pairScans : Store Nat := []
  deriving DecidableEq, Repr

end Sys2Proof.Machine
end

