-- ==== Sys2Proof/Machine/StateStn.lean ====
section
/-! DEFINITION. State of the station engine. -/

namespace Sys2Proof.Machine

open Sys2Proof

/-- Exchange state of a station (12 R347, R349). -/
inductive StnPhase where
  | exchanging | dropped | rejoining
  deriving DecidableEq, Repr

/-- A poll that awaits its reply (12 R351, R352). -/
structure Poll where
  mod : Nat
  pathB : Bool
  /-- Instant on the nanosecond count at which its timeout passes. -/
  till : Nat := 0
  deriving DecidableEq, Repr

/-- One station (12 R336 to R360). -/
structure Stn where
  /-- STN_SEQ. (12 R343, R360; 32; 0) -/
  seq : Word := 0
  /-- Epoch of the latest frame sent. (12 R345; 64; 0) -/
  epoch : DWord := 0
  /-- Launch mark's tide time of the exchange in progress. (12 R344; 64; none) -/
  launch : Option TideTime := none
  /-- A reply of the present sequence was accepted, on path A, on path B. (12 R345; 2; 0) -/
  gotA : Bool := false
  gotB : Bool := false
  /-- Path A, path B carried the present sequence's frame. (12 R346; 2; 0) -/
  wentA : Bool := false
  wentB : Bool := false
  /-- Consecutive misses. (12 R346; count; 0) -/
  misses : Nat := 0
  /-- Exchanging, dropped or rejoining. (12 R347, R349; 3 states; exchanging) -/
  phase : StnPhase := .exchanging
  /-- One rejoin is permitted. (12 R349; 1; 0) -/
  permitted : Bool := false
  /-- Consecutive replies while rejoining. (12 R349; count; 0) -/
  run : Nat := 0
  /-- Input words that replace the station's inputs in every image. (12 R347; words; none) -/
  subst : Option (List Word) := none
  /-- Stale age. (12 R353; 16; 0) -/
  stale : BitVec 16 := 0
  /-- A reply was accepted since the last state task start mark. (12 R353; 1; 0) -/
  fresh : Bool := false
  /-- A reply was accepted since the start. (12 R362; 1; 0) -/
  heard : Bool := false
  /-- The last accepted reply reported fail-safe. (12 R353; 1; 0) -/
  failsafe : Bool := false
  /-- Path A, path B lost at the last exchange. (12 R353; 2; 0) -/
  lostA : Bool := false
  lostB : Bool := false
  /-- STN_STATE. (12 R353, R359; 32; 0) -/
  status : Word := 0
  /-- STN_RX. (12 R360; 32; 0) -/
  rx : Word := 0
  /-- STN_MISS.MISSES. (12 R360; 16; 0) -/
  missTotal : BitVec 16 := 0
  /-- STN_MISS.DROPS. (12 R360; 16; 0) -/
  drops : BitVec 16 := 0
  /-- STN_PATH.LOST_A. (12 R360; 16; 0) -/
  lossA : BitVec 16 := 0
  /-- STN_PATH.LOST_B. (12 R360; 16; 0) -/
  lossB : BitVec 16 := 0
  /-- STN_LAST. (12 R360; 32; 0) -/
  last : Word := 0
  /-- The poll outstanding. (12 R351; record; none) -/
  poll : Option Poll := none
  /-- Module that the next poll requests. (12 R351; 4; 0) -/
  nextMod : Nat := 0
  /-- The next poll goes on path B. (12 R351; 1; 0) -/
  nextB : Bool := false
  /-- The last poll timed out. (12 R353; 1; 0) -/
  timedOut : Bool := false
  deriving DecidableEq, Repr

/-- The station engine (12 R332 to R362). -/
structure StnEng where
  /-- Stations by number. (12 R336; 1,280 records; 0) -/
  stns : Store Stn := []
  /-- STN_RX_BAD. (12 R361; 32; 0) -/
  rxBad : Word := 0
  /-- STN_POLL. (12 R361; 32; 0) -/
  rounds : Word := 0
  /-- Position in the class M stations at which polling goes on. (12 R351; count; 0) -/
  pollAt : Nat := 0
  /-- Standby: a state task start mark whose statuses and polls await the active unit's image. (12 R350, R351; tide time;
  none) -/
  roundDue : Option TideTime := none
  /-- Standby: the state task start mark of the latest image whose statuses and polls are done. (12 R350, R351; tide time;
  none) -/
  roundDone : Option TideTime := none
  /-- Outcomes that await the next image. (12 R350; list; empty) -/
  forward : List StationOutcome := []
  deriving DecidableEq, Repr

end Sys2Proof.Machine
end

