-- ==== Sys2Proof/Machine/StateSol.lean ====
section
/-! DEFINITION. State of the solver array: problem data, iterate sets, factors, solves, the outer loop, run-ahead and
the solution checkpoints (06, 07, 08). Fixed-point values are held raw. -/

namespace Sys2Proof.Machine

open Sys2Proof

/-- Data of one problem; the master copy of 05 R122 holds the same values (06 R165, R171). -/
structure ProbData where
  /-- P values in pattern order. (06 R167; words; the template's) -/
  p : List Int := []
  /-- A values in pattern order. (06 R167; words; the template's) -/
  a : List Int := []
  /-- q of scenario 0. (06 R167; words; the template's) -/
  q : List Int := []
  /-- Lower bounds of scenario 0. (06 R167; words; the template's) -/
  lo : List Int := []
  /-- Upper bounds of scenario 0. (06 R167; words; the template's) -/
  hi : List Int := []
  /-- Values of the scenario-varying entries for scenarios from 1 on. (06 R144, R167; words; the template's) -/
  scen : List Int := []
  /-- The state x0. (06 R167; words; the template's) -/
  x0 : List Int := []
  /-- The predicted state of the latest prediction. (06 R174; words; 0) -/
  xPred : List Int := []
  deriving DecidableEq, Repr

/-- An iterate set: x and w of every scenario, and the ρ of its header (06 R161, 07 R200). -/
structure IterSet where
  x : List (List Int) := []
  w : List (List Int) := []
  rho : Int := 0
  deriving DecidableEq, Repr

/-- A factor: the columns of L over the pattern, D⁻¹, ρ and ρ⁻¹ (07 R187, R194). -/
structure Factor where
  l : List (List Int) := []
  dinv : List Int := []
  rho : Int := 0
  rinv : Int := 0
  regs : Nat := 0
  rangeSat : Bool := false
  deriving DecidableEq, Repr

/-- A factorisation that has been started (07 R194 to R200). -/
structure Build where
  /-- A ρ factorisation; otherwise a data or initial one. -/
  isRho : Bool := false
  /-- It overwrites the active factor. -/
  inPlace : Bool := false
  /-- It holds its buffer: in place, class P, or the slipway. -/
  holds : Bool := false
  /-- The columns computed so far, with ρ and ρ⁻¹. -/
  f : Factor := {}
  /-- Pivots of the columns computed so far. -/
  d : List Int := []
  /-- The last step is complete. -/
  done : Bool := false
  deriving DecidableEq, Repr

/-- A factorisation that waits for the problem's next work (07 R198, R600). -/
inductive Need where
  | none | data | inPlace
  deriving DecidableEq, Repr

/-- What a problem's live set is used for (07, 08 R229). -/
inductive Work where
  | idle | solve | ahead
  deriving DecidableEq, Repr

/-- Why a solve or run-ahead stopped (07 R192, R202, 05 R131, 08 R225). -/
inductive Stop where
  | none | converged | primal | dual | itMax | mark | outer | illPosed | faulty
  deriving DecidableEq, Repr

/-- An accepted result (06 R175 to R178). -/
structure SolResult where
  code : Nat := 0x0A
  warm : Bool := false
  iter : Nat := 0
  regs : Nat := 0
  sats : Nat := 0
  resP : Int := 0
  resD : Int := 0
  set : IterSet := {}
  /-- Effective q, l and u of the solve, per scenario (06 R175, 08 R221). -/
  q : List (List Int) := []
  l : List (List Int) := []
  u : List (List Int) := []
  deriving DecidableEq, Repr

/-- Where a released delta frame comes from: a task's scan, this unit's host, or the active unit's host (06 R170, R172). -/
inductive FrameSrc where
  | scan (task : Nat) | host | peerHost
  deriving DecidableEq, Repr

/-- One problem. -/
structure Problem where
  /-- Data. (06 R165; record; the template's) -/
  data : ProbData := {}
  /-- The accepted result with its iterate set. (06 R176; record; 07 R212) -/
  acc : SolResult := {}
  /-- The live iterate set. (06 R176; record; 07 R212) -/
  live : IterSet := {}
  /-- Effective q of the live work, per scenario. (08 R221; words; 0) -/
  qeff : List (List Int) := []
  /-- The active factor; none when no usable factor exists. (07 R200, R201; record; none) -/
  factor : Option Factor := none
  /-- ρ of the last factor that was active. (07 R600; Q16.16; ρ initial) -/
  lastRho : Int := 0
  /-- The factorisation in progress. (07 R198; record; none) -/
  build : Option Build := none
  /-- A factorisation that starts at the next work. (07 R198; 3 values; none) -/
  need : Need := .none
  /-- What the problem does. (07 R203; 3 values; idle) -/
  work : Work := .idle
  /-- The solve or run-ahead has not stopped. (07 R192; 1; 0) -/
  running : Bool := false
  /-- A mark has fired: at most the unit in progress completes. (07 R204; 1; 0) -/
  stopping : Bool := false
  /-- Why the latest solve or run-ahead stopped. (07 R192; 9 values; none) -/
  stop : Stop := .none
  /-- The factor step of the present turn is made. (07 R203; 1; 0) -/
  stepped : Bool := false
  /-- Iterations of the solve or run-ahead. (07 R192; count; 0) -/
  it : Nat := 0
  /-- Factor steps of the solve or run-ahead. (07 R205; count; 0) -/
  steps : Nat := 0
  /-- Saturations of the solve or run-ahead. (07 R209; count; 0) -/
  sats : Nat := 0
  /-- Largest regularisation count of a factor used. (07 R209; count; 0) -/
  regs : Nat := 0
  /-- A range-saturated factor was used. (07 R208; 1; 0) -/
  range : Bool := false
  /-- Adaptation of ρ is disabled. (07 R202; 1; 0) -/
  adaptOff : Bool := false
  /-- Iterations of the present outer iteration. (08 R225; count; 0) -/
  inner : Nat := 0
  /-- The share of the present outer iteration has ended. (08 R223; 1; 0) -/
  share : Bool := false
  /-- It ended with a converged check. (08 R225; 1; 0) -/
  shareConv : Bool := false
  /-- The solve started from an accepted run-ahead iterate. (06 R177; 1; 0) -/
  warm : Bool := false
  /-- Run-ahead ran in this period. (08 R229; 1; 0) -/
  ranAhead : Bool := false
  /-- Ill-posed. (07 R202; 1; 0) -/
  ill : Bool := false
  /-- Regularisation count of the refused factor. (07 R209; count; 0) -/
  illRegs : Nat := 0
  /-- The accepted set is a previous solution. (07 R208; 1; 0) -/
  prev : Bool := false
  /-- The problem was moved and has not begun a solve since. (05 R134; 1; 0) -/
  moved : Bool := false
  /-- First move of the accepted set at the latest boundary that handed over. (06 R174; words; none) -/
  handed : Option (List Int) := none
  /-- The delivery pass's result, and whether it is delivered from the live set. (07 R207; record; none) -/
  pend : Option (SolResult × Bool) := none
  /-- The active unit's iteration and factor step counts at the stop. (07 R205; 2 counts; none) -/
  stopAt : Option (Nat × Nat) := none
  /-- Solves and run-aheads begun, and stops that the active unit has reported, since lockstep began. (07 R205; 2 counts; 0) -/
  works : Nat := 0
  reports : Nat := 0
  /-- Reported stops of work that this unit has yet to begin. (07 R205; list; empty) -/
  stopQ : List (Nat × Nat) := []
  /-- SOL_RA.ACCEPTED. (06 R182; 16; 0) -/
  raAcc : BitVec 16 := 0
  /-- SOL_RA.DISCARDED. (06 R182; 16; 0) -/
  raDisc : BitVec 16 := 0
  /-- SOL_DREJ.LAST. (06 R182; 8; 0) -/
  rejLast : Byte := 0
  /-- SOL_DREJ.COUNT. (06 R182; 16; 0) -/
  rejCount : BitVec 16 := 0
  deriving DecidableEq, Repr

/-- Rounds of a tile or of a class P span (07 R203): a tile's number, or 1,024 and more the span's problem. -/
structure Rounds where
  /-- Rounds completed in the present solve or run-ahead. -/
  count : Nat := 0
  /-- The last problem that took its turn in the present round. -/
  pos : Option Nat := none
  /-- The slipway was granted for the present round. -/
  begun : Bool := false
  deriving DecidableEq, Repr

/-- One problem's block of a checkpoint: its status word and the vectors x, z and y of each scenario (08 R237). -/
structure CkBlock where
  status : Word
  x : List (List Int)
  z : List (List Int)
  y : List (List Int)
  deriving DecidableEq, Repr

/-- A solution checkpoint in MRAM (08 R236, R237): prices per constraint, and a block per problem. -/
structure Checkpoint where
  seq : Word
  cycle : Word
  digest : Bytes
  prices : List (Int × Int)
  probs : Store CkBlock
  deriving DecidableEq, Repr

/-- The solver array and its coordination (06 R165 to R185, 07, 08). -/
structure Sol where
  /-- Problems. (06 R145; up to 1,040 records; none) -/
  probs : Store Problem := []
  /-- Solver deadline marks fired since the start. (07 R210; count; 0) -/
  marks : Nat := 0
  /-- Fix instants since the start. (07 R210; count; 0) -/
  fixes : Nat := 0
  /-- Tide time and microsecond count of the latest deadline mark. (07 R207, R210; 64 + 64; none) -/
  mark : Option (TideTime × DWord) := none
  /-- A deadline mark awaits its fix instant. (07 R207; 1; 0) -/
  fixing : Bool := false
  /-- The delivery pass is done. (07 R207; 1; 0) -/
  delivered : Bool := false
  /-- The solves of the period have begun. (01 R15; 1; 0) -/
  started : Bool := false
  /-- A boundary has fired whose deadline mark has not. (01 R15; 1; 0) -/
  opened : Bool := false
  /-- Tide cycle of the latest boundary. (01 R15; 48; 0) -/
  openCycle : BitVec 48 := 0
  /-- Released delta frames that await an application point, oldest first, each with its source. (06 R171; list; empty) -/
  waiting : List (FrameSrc × Bytes) := []
  /-- A boundary commit's solver work awaits the fix instant, or on a standby the end of run-ahead: whether the scan is this
  period's, and its frames. (01 R15, 07 R205, R207; list; none) -/
  commitLater : Option (Bool × List (FrameSrc × Bytes)) := none
  /-- A run-ahead start mark awaits the fix instant. (07 R207; 1; 0) -/
  aheadLater : Bool := false
  /-- Rounds. (07 R203; 64 tiles and 16 spans; 0) -/
  rounds : Store Rounds := []
  /-- Rounds that the active unit has reported of the work that this unit is in, and of the work after it. (01 R23; 80 counts
  each; 0) -/
  reported : Store Nat := []
  reportedNext : Store Nat := []
  /-- Solve starts and fix instants of this unit, and of the active unit as its digests show them, since lockstep began.
  (01 R23; 2 counts; 0) -/
  phase : Nat := 0
  peerPhase : Nat := 0
  /-- Scan number of the latest boundary scan whose image has come. (01 R23; 32; none) -/
  boundaryScan : Option Word := none
  /-- A standby's problems as they stood before their last work units, newest first. (07 R205; records; empty) -/
  back : Store (List Problem) := []
  /-- Results before the accepted ones that scans in progress may still read, by fix count. (07 R210; lists; empty) -/
  older : List (Nat × Store SolResult) := []
  /-- SOL_HD_BUF by byte. (06 R185; 32,776 bytes; 0) -/
  hdBuf : Store Byte := []
  /-- The accepted host frame that waits for the state task's next commit. (06 R172; bytes; none) -/
  host : Option Bytes := none
  /-- The active unit has forwarded the host frame with an image. (06 R172; 1; 0) -/
  hostSent : Bool := false
  /-- Host frames received with an image, for the state task's commit. (06 R172; list; empty) -/
  hostPeer : List Bytes := []
  /-- SOL_HD_STAT.BUSY. (06 R184; 1; 0) -/
  hdBusy : Bool := false
  /-- SOL_HD_STAT.REASON. (06 R184; 8; 0) -/
  hdReason : Byte := 0
  /-- SOL_HD_STAT.DONE. (06 R184; 1; 0) -/
  hdDone : Bool := false
  /-- SOL_DREJ_ALL. (06 R184; 32; 0) -/
  rejAll : Word := 0
  /-- SOL_CYCLE. (06 R182; 32; 0) -/
  cycle : Word := 0
  /-- SOL_SUMMARY.NOT_GOOD. (06 R184; 11; 0) -/
  notGood : Nat := 0
  /-- Prices μU and μL in effect. (08 R225; 256 x 2 words; 0) -/
  prices : List (Int × Int) := []
  /-- The accepted prices. (08 R228; 256 x 2 words; 0) -/
  accPrices : List (Int × Int) := []
  /-- Outer iteration o of the running outer loop. (08 R225; count; none) -/
  outer : Option Nat := none
  /-- Outer iterations, unmet constraints and done of the present solve's outer loop. (08 R233; 3 values; 0) -/
  outerNow : Nat × Nat × Bool := (0, 0, false)
  /-- The outer loop of the solve has recovered. (08 R227; 1; 0) -/
  recovered : Bool := false
  /-- Outer iterations, unmet constraints and done of the accepted solve. (08 R233; 3 values; 0) -/
  outerAcc : Nat × Nat × Bool := (0, 0, false)
  /-- A result was fixed from its live set since the start. (08 R235; 1; 0) -/
  liveFixed : Bool := false
  /-- A handover has been made. (08 R235; 1; 0) -/
  handed : Bool := false
  /-- Fix instants since stage 2 entry. (08 R236; count; 0) -/
  fixes2 : Nat := 0
  /-- A checkpoint being written. (08 R236; record; none) -/
  draft : Option Checkpoint := none
  deriving DecidableEq, Repr

end Sys2Proof.Machine
end

