-- ==== Sys2Proof/Machine/State.lean ====
section
/-! DEFINITION. The state of the UL-7160 as plain data: one structure per block, the MRAM, the configuration flash,
the pins, and the queue of waiting commands. -/

namespace Sys2Proof.Machine

open Sys2Proof

/-- Reasons a step can stop with a fault. -/
inductive Fault where
  /-- Raised by no meaning: the manual gives every command of the table an effect. Safe. -/
  | none
  deriving DecidableEq, Repr

/-- Reasons a command has no meaning. -/
inductive Refusal where
  /-- Raised by a dispatch arm whose command is not modelled yet. Safe. -/
  | notModelled (mnemonic : String)
  deriving DecidableEq, Repr

/-- Pins that the outside drives (21 R580, R590; 14 R394). -/
structure Pins where
  /-- VIN is valid. (21 R580; 1; DESIGN CHOICE 0) -/
  vin : Bool := false
  /-- RESET_N is released (pulled up). (21 R580; 1; DESIGN CHOICE 1) -/
  resetN : Bool := true
  /-- ROLE strap: high on unit B. (14 R394; 1; pull-down 0) -/
  roleB : Bool := false
  /-- FENCE_IN. (14 R410; 1; pull-down 0) -/
  fenceIn : Bool := false
  /-- PEER_OK_IN. (14 R396; 1; pull-down 0) -/
  peerOkIn : Bool := false
  deriving DecidableEq, Repr

/-- Device records in MRAM (01 R10; 03 R73; 17 R485): kept by every restart. Blank MRAM reads zero. -/
structure DevRec where
  /-- OPTIME last stored. (17 R485; 48; DESIGN CHOICE 0) -/
  optime : BitVec 48 := 0
  /-- The last power-fail flush completed. (04 R106; 1; DESIGN CHOICE 0) -/
  flushDone : Bool := false
  /-- A power-fail flush began since the last start. (04 R101; 1; DESIGN CHOICE 0) -/
  flushBegan : Bool := false
  /-- Duration of the last flush in 10 µs. (04 R112; 8; DESIGN CHOICE 0) -/
  flushTime : Byte := 0
  /-- SYS_PFAIL_STAT.HOLD_LOW of the last warning. (04 R112; 1; DESIGN CHOICE 0) -/
  holdLow : Bool := false
  /-- OPTIME of the last power-fail warning. (04 R107; 48; DESIGN CHOICE 0) -/
  warnAt : BitVec 48 := 0
  /-- Journal records in the buffer when the last power-fail flush began, not yet written. (17 R490; count; DESIGN CHOICE 0) -/
  unwritten : Nat := 0
  /-- Drop tally. (17 R490; 32; DESIGN CHOICE 0) -/
  drops : Word := 0
  /-- Power-cycle count. (17 R483; 24; DESIGN CHOICE 0) -/
  pcyc : BitVec 24 := 0
  /-- PAIR_COUNT.TAKEOVERS. (14 R420; 16; DESIGN CHOICE 0) -/
  takeovers : BitVec 16 := 0
  /-- PAIR_COUNT.SWITCHES. (14 R420; 16; DESIGN CHOICE 0) -/
  switches : BitVec 16 := 0
  /-- Ownership epoch. (12 R341; 64; 0) -/
  epoch : DWord := 0
  /-- Digest of the adopted manifest. (03 R73; 512; DESIGN CHOICE empty) -/
  digest : Bytes := []
  /-- Slot of the adopted manifest, true B. (03 R73; 1; DESIGN CHOICE 0) -/
  manSlot : Bool := false
  /-- Sequence of the adopted manifest. (03 R73; 32; DESIGN CHOICE 0) -/
  manSeq : Word := 0
  /-- Stored sequence floor. (03 R64, R73; 32; DESIGN CHOICE 0) -/
  floor : Word := 0
  /-- Retained area layout record of the adopted manifest. (04 R103; bytes; DESIGN CHOICE empty) -/
  retainRaw : Bytes := []
  /-- Enrolled owner key pair, Ed25519 and ML-DSA-65. (18 R509; 32 + 1,952 bytes; DESIGN CHOICE none) -/
  owner : Option (Bytes × Bytes) := none
  /-- Predecessor pair. (18 R509; 32 + 1,952 bytes; DESIGN CHOICE none) -/
  predecessor : Option (Bytes × Bytes) := none
  /-- Armed hash. (18 R509; 256; DESIGN CHOICE none) -/
  armed : Option Bytes := none
  /-- Blob of the SEAL key last in force; none is SEAL-DEFAULT. (18 R517; record; DESIGN CHOICE none) -/
  sealBlob : Option Blob := none
  /-- Host blob that the last adopted manifest named. (20 R559; record; DESIGN CHOICE none) -/
  hostBlob : Option Blob := none
  /-- Placement epoch. (05 R116; 32; DESIGN CHOICE 0) -/
  placeEpoch : Word := 0
  /-- Stored faulty tile marks. (05 R129; 64; DESIGN CHOICE 0) -/
  faultTiles : BitVec 64 := 0
  /-- Stored faulty core pair marks. (05 R129; 5; DESIGN CHOICE 0) -/
  faultCores : BitVec 5 := 0
  /-- CLEAR_FAULT takes effect at the next start. (05 R140; 1; DESIGN CHOICE 0) -/
  clearFault : Bool := false
  /-- Oscillator record: the spec gives it no layout, and no rule reads or writes it. (01 R10; bytes; DESIGN CHOICE empty) -/
  osc : Bytes := []
  /-- OPTIME of the watchdog restarts. (04 R102; list; DESIGN CHOICE empty) -/
  wdog : List (BitVec 48) := []
  /-- Watchdog restart limit of the adopted policy. (04 R101, R102; 1 to 15; DESIGN CHOICE 15) -/
  wdogLimit : Nat := 15
  deriving DecidableEq, Repr

/-- The MRAM (01 R10): kept by every restart. -/
structure Mram where
  /-- Device records. (01 R10; 256 KiB; DESIGN CHOICE blank) -/
  dev : DevRec := {}
  /-- Journal slots of 32 bytes; an unlisted slot is all zero. (01 R10; 1,048,576 x 32 B; DESIGN CHOICE blank) -/
  journal : Store Bytes := []
  /-- Energy save slots, their 1,120 record bytes; an unlisted slot is blank. (01 R10; 16 x 4 KiB; DESIGN CHOICE blank) -/
  saves : Store Bytes := []
  /-- Mooring cache: the record. (01 R10, 04 R90; 64 KiB; DESIGN CHOICE blank) -/
  moorCache : Option Mooring := none
  /-- Retained copies 0 and 1; none is blank or not sealed. (01 R10, 10 R294; 2 x 1 MiB; DESIGN CHOICE blank) -/
  ret0 : Option Retained := none
  ret1 : Option Retained := none
  /-- The newest retained copy is copy 1. (04 R106; 1; DESIGN CHOICE 0) -/
  retNew : Bool := false
  /-- A background retained copy in progress, not yet sealed. (10 R294; record; none) -/
  retDraft : Option Retained := none
  /-- Solution checkpoint slots; none is not complete. (08 R236; 2 x 12 MiB; DESIGN CHOICE blank) -/
  ck0 : Option Checkpoint := none
  ck1 : Option Checkpoint := none
  /-- Wrapped key blobs by slot; an unlisted slot is blank. (01 R10, 18 R513; 64 x 2 KiB; DESIGN CHOICE blank) -/
  blobs : Store (Option Blob) := []
  /-- Safe pattern. (04 R83, R90; 32; DESIGN CHOICE blank) -/
  safe : Option (BitVec 32) := none
  deriving DecidableEq, Repr

/-- The state of the block. -/
structure State where
  /-- Commands that are waiting, first in, first out. (the model's own; list; empty) -/
  pending : List Instr := []
  pins : Pins := {}
  mram : Mram := {}
  /-- Configuration flash by byte; an unlisted byte is erased and reads 0xFF. (03 R59; bytes; DESIGN CHOICE erased) -/
  flash : Store Byte := []
  /-- Fuse steps blown: the anti-rollback count. (18 R508, R525; 0 to 64; 0) -/
  fuses : Nat := 0
  cal : Cal := {}
  start : Start := {}
  moor : Moor := {}
  evt : Evt := {}
  jrn : Jrn := {}
  clk : Clk := {}
  stg : CalStg := {}
  tide : Tide := {}
  fio : Fio := {}
  mtr : Mtr := {}
  hst : Hst := {}
  /-- The eight ports. (13 R363; 8 records; reset values of Port) -/
  ports : Store Port := []
  ntime : Ntime := {}
  pair : Pair := {}
  keys : Keys := {}
  scan : Scan := {}
  loop : LoopEng := {}
  place : Place := {}
  stn : StnEng := {}
  sol : Sol := {}
  /-- Draws of open values and of the DRBG so far: the model's own. (none; count; DESIGN CHOICE 0) -/
  draws : Nat := 0
  /-- The manifest adopted at this start. (03 R73; records; none) -/
  man : Option Manifest := none
  deriving DecidableEq, Repr

/-- The machine right after reset: every register at its reset value, VIN not yet valid, MRAM blank, flash erased. -/
def State.reset : State := {}

end Sys2Proof.Machine
end

