-- ==== Sys2Proof/Machine/Ops.lean ====
section
/-! DEFINITION. Operations shared by all blocks: tables and byte memories, byte strings, checks, and updates of one
block of the state. -/

namespace Sys2Proof.Machine

open Sys2Proof

/-- Read a table; `d` is what an unlisted key reads as. -/
def Store.get {α : Type} (d : α) : Store α → Nat → α
  | [], _ => d
  | (k, v) :: r, a => if k = a then v else Store.get d r a

/-- Put an entry into a list of entries in rising key order. -/
def Store.insert {α : Type} : Store α → Nat → α → Store α
  | [], a, v => [(a, v)]
  | (k, w) :: r, a, v =>
    if a < k then (a, v) :: (k, w) :: r
    else if a = k then (a, v) :: r
    else (k, w) :: Store.insert r a v

/-- Remove a key. -/
def Store.erase {α : Type} : Store α → Nat → Store α
  | [], _ => []
  | (k, w) :: r, a => if k = a then Store.erase r a else (k, w) :: Store.erase r a

/-- Write a table; writing the default removes the entry. -/
def Store.set {α : Type} [DecidableEq α] (d : α) (m : Store α) (a : Nat) (v : α) : Store α :=
  if v = d then Store.erase m a else Store.insert m a v

/-- Apply a function to one entry. -/
def Store.upd {α : Type} [DecidableEq α] (d : α) (m : Store α) (a : Nat) (f : α → α) : Store α :=
  Store.set d m a (f (Store.get d m a))

/-- Keys strictly rising, above `lo` when given. -/
def Store.rising {α : Type} : Option Nat → Store α → Bool
  | _, [] => true
  | none, (k, _) :: r => Store.rising (some k) r
  | some l, (k, _) :: r => decide (l < k) && Store.rising (some k) r

/-- The canonical form: keys strictly rising and no entry equal to the default. -/
def Memory.wf {α : Type} [DecidableEq α] (d : α) (m : Store α) : Bool :=
  Store.rising none m && m.all (fun e => decide (e.2 ≠ d))

/-- Write consecutive entries from `a` on. -/
def Store.setMany {α : Type} [DecidableEq α] (d : α) : Store α → Nat → List α → Store α
  | m, _, [] => m
  | m, a, v :: r => Store.setMany d (Store.set d m a v) (a + 1) r

/-- Read `n` consecutive entries from `a` on. -/
def Store.getMany {α : Type} (d : α) (m : Store α) (a n : Nat) : List α :=
  (List.range n).map (fun i => Store.get d m (a + i))

/-- The low `n` bytes of a number, least significant first (00 R3). -/
def leBytes : Nat → Nat → Bytes
  | 0, _ => []
  | n + 1, v => BitVec.ofNat 8 v :: leBytes n (v / 256)

/-- The number that bytes hold, least significant first (00 R3). -/
def leNat : Bytes → Nat
  | [] => 0
  | b :: r => b.toNat + 256 * leNat r

/-- `n` bytes from offset `o`; bytes past the end read zero. -/
def slice (b : Bytes) (o n : Nat) : Bytes :=
  (List.range n).map (fun i => b.getD (o + i) 0)

/-- The field of `n` bytes at offset `o`. -/
def fld (b : Bytes) (o n : Nat) : Nat := leNat ((b.drop o).take n)

/-- The two's-complement field of `n` bytes at offset `o`. -/
def sfld (b : Bytes) (o n : Nat) : Int :=
  let v := fld b o n
  if 2 ^ (8 * n - 1) ≤ v then (v : Int) - (2 ^ (8 * n) : Nat) else (v : Int)

/-- Every byte of a range is zero. -/
def zeros (b : Bytes) (o n : Nat) : Bool := ((b.drop o).take n).all (· == 0)

/-- One bit step of a reflected CRC of 32 bits. -/
def crcBit (poly c : Word) : Word :=
  if c.getLsbD 0 then (c >>> 1) ^^^ poly else c >>> 1

/-- One byte step of a reflected CRC of 32 bits. -/
def crcByte (poly c : Word) (b : Byte) : Word :=
  let c := c ^^^ b.setWidth 32
  crcBit poly (crcBit poly (crcBit poly (crcBit poly (crcBit poly (crcBit poly (crcBit poly (crcBit poly c)))))))

/-- CRC-32 of IEEE 802.3 (03 R61). -/
def crc32 (b : Bytes) : Word := ~~~ (b.foldl (crcByte 0xEDB88320) 0xFFFFFFFF)

/-- CRC-32C (14 R398). -/
def crc32c (b : Bytes) : Word := ~~~ (b.foldl (crcByte 0x82F63B78) 0xFFFFFFFF)

/-- A string's ASCII bytes. -/
def ascii (s : String) : Bytes := s.toList.map (fun c => BitVec.ofNat 8 c.toNat)

/-- Words from bytes, the last padded with zeros. -/
def bytesToWords (b : Bytes) : List Word :=
  (List.range ((b.length + 3) / 4)).map (fun i => BitVec.ofNat 32 (fld b (4 * i) 4))

/-- Bytes of a list of words. -/
def wordsToBytes (ws : List Word) : Bytes := ws.flatMap (fun w => leBytes 4 w.toNat)

/-- Set or clear bit `n`. -/
def putBit {w : Nat} (x : BitVec w) (n : Nat) (v : Bool) : BitVec w :=
  if v then x ||| BitVec.ofNat w (2 ^ n) else x &&& ~~~ BitVec.ofNat w (2 ^ n)

/-- Update of one block. -/
def State.updPins (s : State) (f : Pins → Pins) : State := { s with pins := f s.pins }
def State.updMram (s : State) (f : Mram → Mram) : State := { s with mram := f s.mram }
def State.updDev (s : State) (f : DevRec → DevRec) : State :=
  { s with mram := { s.mram with dev := f s.mram.dev } }
def State.updCal (s : State) (f : Cal → Cal) : State := { s with cal := f s.cal }
def State.updStart (s : State) (f : Start → Start) : State := { s with start := f s.start }
def State.updMoor (s : State) (f : Moor → Moor) : State := { s with moor := f s.moor }
def State.updEvt (s : State) (f : Evt → Evt) : State := { s with evt := f s.evt }
def State.updJrn (s : State) (f : Jrn → Jrn) : State := { s with jrn := f s.jrn }
def State.updClk (s : State) (f : Clk → Clk) : State := { s with clk := f s.clk }
def State.updStg (s : State) (f : CalStg → CalStg) : State := { s with stg := f s.stg }
def State.updTide (s : State) (f : Tide → Tide) : State := { s with tide := f s.tide }
def State.updFio (s : State) (f : Fio → Fio) : State := { s with fio := f s.fio }
def State.updMtr (s : State) (f : Mtr → Mtr) : State := { s with mtr := f s.mtr }
def State.updHst (s : State) (f : Hst → Hst) : State := { s with hst := f s.hst }
def State.updNtime (s : State) (f : Ntime → Ntime) : State := { s with ntime := f s.ntime }
def State.updPair (s : State) (f : Pair → Pair) : State := { s with pair := f s.pair }
def State.updLoop (s : State) (f : LoopEng → LoopEng) : State := { s with loop := f s.loop }
def State.updPlace (s : State) (f : Place → Place) : State := { s with place := f s.place }
def State.updSol (s : State) (f : Sol → Sol) : State := { s with sol := f s.sol }
def State.updStn (s : State) (f : StnEng → StnEng) : State := { s with stn := f s.stn }
def State.updKeys (s : State) (f : Keys → Keys) : State := { s with keys := f s.keys }
/-- Draw a value that the manual leaves open. -/
def drawFree (s : State) : Nat × State := (Config.free s.draws, { s with draws := s.draws + 1 })
/-- Draw bytes from the DRBG. -/
def drawBytes (n : Nat) (s : State) : Bytes × State :=
  (slice (Config.drbg s.draws n) 0 n, { s with draws := s.draws + 1 })
def State.updScan (s : State) (f : Scan → Scan) : State := { s with scan := f s.scan }
/-- One task. -/
def State.task (s : State) (t : Nat) : Task := Store.get {} s.scan.tasks t
def State.updTask (s : State) (t : Nat) (f : Task → Task) : State :=
  s.updScan fun x => { x with tasks := Store.upd {} x.tasks t f }
/-- Update the scan in progress of a task. -/
def State.updRun (s : State) (t : Nat) (f : Run → Run) : State :=
  s.updTask t fun k => { k with run := k.run.map f }
/-- One problem of the solver array. -/
def State.prob (s : State) (n : Nat) : Problem := Store.get {} s.sol.probs n
def State.updProb (s : State) (n : Nat) (f : Problem → Problem) : State :=
  s.updSol fun x => { x with probs := Store.upd {} x.probs n f }
/-- One port. -/
def State.port (s : State) (p : Nat) : Port := Store.get {} s.ports p
def State.updPort (s : State) (p : Nat) (f : Port → Port) : State :=
  { s with ports := Store.upd {} s.ports p f }
/-- One access path's selections. -/
def State.path (s : State) (p : Path) : PathSt :=
  match p with
  | .spi => s.hst.spi
  | .mgmt => s.hst.mgmt
def State.updPath (s : State) (p : Path) (f : PathSt → PathSt) : State :=
  match p with
  | .spi => s.updHst fun h => { h with spi := f h.spi }
  | .mgmt => s.updHst fun h => { h with mgmt := f h.mgmt }

end Sys2Proof.Machine
end

