-- ==== Sys2Proof/Machine/Time.lean ====
section
/-! DEFINITION. The free-running clocks: NTIME, the microsecond counter, OPTIME, the calendar's XTAL2 and the tide,
advanced by a number of PLL_NET cycles; calendar arithmetic; conversions of tide time. -/

namespace Sys2Proof.Machine

open Sys2Proof

/-- Days from 1970-01-01 to a Gregorian date (19 R540). -/
def daysOf (y m d : Nat) : Nat :=
  let y' := if m ≤ 2 then y - 1 else y
  let era := y' / 400
  let yoe := y' % 400
  let mp := (m + 9) % 12
  let doy := (153 * mp + 2) / 5 + d - 1
  let doe := yoe * 365 + yoe / 4 - yoe / 100 + doy
  era * 146097 + doe - 719468

/-- Year, month and day of a count of days from 1970-01-01. -/
def dateOf (days : Nat) : Nat × Nat × Nat :=
  let z := days + 719468
  let era := z / 146097
  let doe := z % 146097
  let yoe := (doe - doe / 1460 + doe / 36524 - doe / 146096) / 365
  let doy := doe - (365 * yoe + yoe / 4 - yoe / 100)
  let mp := (5 * doy + 2) / 153
  let d := doy - (153 * mp + 2) / 5 + 1
  let m := if mp < 10 then mp + 3 else mp - 9
  let y := yoe + era * 400 + (if m ≤ 2 then 1 else 0)
  (y, m, d)

/-- Whether a year is a leap year by the Gregorian rule. -/
def leapYear (y : Nat) : Bool := (y % 4 == 0 && y % 100 != 0) || y % 400 == 0

/-- Days of a month. -/
def monthDays (y m : Nat) : Nat :=
  if m = 2 then (if leapYear y then 29 else 28)
  else if m = 4 ∨ m = 6 ∨ m = 9 ∨ m = 11 then 30 else 31

/-- The fields name an instant of the calendar, 2000 to 2199 (19 R540, R546). -/
def CalTime.valid (c : CalTime) : Bool :=
  decide (2000 ≤ c.year ∧ c.year ≤ 2199 ∧ 1 ≤ c.month ∧ c.month ≤ 12 ∧ 1 ≤ c.day ∧ c.day ≤ monthDays c.year c.month
    ∧ c.hour < 24 ∧ c.min < 60 ∧ c.sec < 60 ∧ c.sub < 32768)

/-- UTC seconds since 1970 (17 R492). -/
def CalTime.secs (c : CalTime) : Nat :=
  daysOf c.year c.month c.day * 86400 + c.hour * 3600 + c.min * 60 + c.sec

/-- The calendar at UTC seconds since 1970 and a sub-second count. -/
def CalTime.ofSecs (t sub : Nat) : CalTime :=
  let (y, m, d) := dateOf (t / 86400)
  let r := t % 86400
  { year := y, month := m, day := d, hour := r / 3600, min := r % 3600 / 60, sec := r % 60, sub := sub }

/-- Weekday, 0 Monday to 6 Sunday (19 R550). -/
def CalTime.wday (c : CalTime) : Nat := (daysOf c.year c.month c.day + 3) % 7

/-- First second of the calendar, 2000-01-01 00:00:00. -/
def calFirst : Nat := 946684800
/-- First second past the calendar, 2200-01-01 00:00:00. -/
def calEnd : Nat := 7258118400

/-- CAL_TRIM as a signed number (19 R541). -/
def Cal.trimInt (c : Cal) : Int := c.trim.toInt

/-- Sub-second steps and accumulator after `k` XTAL2 cycles (19 R541). -/
def Cal.trimmed (c : Cal) (k : Nat) : Nat × BitVec 20 :=
  let a := c.trimInt.natAbs
  let tot := c.acc.toNat + k * a
  let carries := tot / 2 ^ 20
  let n := if 0 < c.trimInt then k + carries else k - carries
  (n, BitVec.ofNat 20 (tot % 2 ^ 20))

/-- The calendar moved by whole sub-second steps, carrying or borrowing through every field; the flag says that it
passed the end of 2199 (19 R540, R541). -/
def CalTime.moved (c : CalTime) (n : Int) : CalTime × Bool :=
  let t : Int := (c.secs : Int) * 32768 + (c.sub : Int) + n
  let lo : Int := (calFirst : Int) * 32768
  let hi : Int := (calEnd : Int) * 32768
  let wrapped := decide (hi ≤ t)
  let t' : Int := if hi ≤ t then t - hi + lo else if t < lo then t - lo + hi else t
  (CalTime.ofSecs (t' / 32768).toNat (t' % 32768).toNat, wrapped)

/-- `n` PLL_NET cycles of XTAL2 and the calendar: the second that would begin waits for CALENDAR_SECOND. -/
def Cal.elapse (c : Cal) (n : Nat) : Cal :=
  let tot := c.phase + n * 4 * 32768
  let k := tot / 10 ^ 9
  let (adv, acc) := c.trimmed k
  { c with phase := tot % 10 ^ 9, acc := acc, now := { c.now with sub := min 32767 (c.now.sub + adv) } }

/-- NTIME nanoseconds since its epoch. -/
def stampNanos (t : Stamp) : Nat := t.sec.toNat * 10 ^ 9 + t.ns.toNat

/-- A time from nanoseconds. -/
def stampOf (n : Nat) : Stamp :=
  { sec := BitVec.ofNat 48 (n / 10 ^ 9), ns := BitVec.ofNat 30 (n % 10 ^ 9) }

/-- NTIME now, without its fraction. -/
def Ntime.now (t : Ntime) : Stamp := { sec := t.sec, ns := t.ns }

/-- `n` PLL_NET ticks of NTIME (13 R377). -/
def Ntime.elapse (t : Ntime) (n : Nat) : Ntime :=
  let acc := (t.ns.toNat * 2 ^ 32 + t.frac.toNat) + n * t.incr.toNat
  let one := 10 ^ 9 * 2 ^ 32
  { t with sec := t.sec + BitVec.ofNat 48 (acc / one)
           ns := BitVec.ofNat 30 (acc % one / 2 ^ 32)
           frac := BitVec.ofNat 32 (acc % 2 ^ 32) }

/-- Weight of one PLL_NET tick in the tide's phase: rate in nHz times 65,536 steps times the nanoseconds counted, in
2^-32; a coasting tide counts NTIME nanoseconds (02 R598). -/
def tideWeight (s : State) : Nat :=
  s.tide.rate * 65536 * (if s.tide.mode = .coast then s.ntime.incr.toNat else 4 * 2 ^ 32)

/-- One angle step in the unit of `tideWeight`. -/
def tideUnit : Nat := 10 ^ 18 * 2 ^ 32

/-- The tide runs. -/
def Tide.runs (t : Tide) : Bool := t.mode ≠ .off && t.mode ≠ .acquire

/-- `n` PLL_NET ticks of the tide: the angle waits at 65,535 for the cycle boundary. -/
def Tide.elapse (t : Tide) (weight n : Nat) : Tide :=
  if t.runs then
    let tot := t.sub + n * weight
    { t with sub := tot % tideUnit, angle := BitVec.ofNat 16 (min 65535 (t.angle.toNat + tot / tideUnit)) }
  else t

/-- `n` PLL_NET cycles of the clocks (19 R528, 10 R292). -/
def Clk.elapse (c : Clk) (n : Nat) : Clk :=
  let c := { c with hfNs := c.hfNs + 4 * n }
  if c.lock.getLsbD 2 then
    let tot := c.usSub + n
    { c with us := c.us + BitVec.ofNat 64 (tot / 250), usSub := tot % 250 }
  else c

/-- OPTIME over `n` PLL_NET cycles: on HFIO until XTAL1 is qualified, then one per 1,000 microsecond counts
(17 R485). -/
def Jrn.elapse (j : Jrn) (xtal : Bool) (us n : Nat) : Jrn :=
  let tot := if xtal then j.sub + us else j.sub + 4 * n
  let one := if xtal then 1000 else 10 ^ 6
  { j with optime := j.optime + BitVec.ofNat 48 (tot / one), sub := tot % one }

/-- `n` PLL_NET cycles pass: only the backup domain runs without power. -/
def elapse (n : Nat) (s : State) : State :=
  let s := s.updCal (·.elapse n)
  if s.start.power = .on ∨ s.start.power = .flush then
    let us := (s.clk.elapse n).us.toNat - s.clk.us.toNat
    let w := tideWeight s
    let s := s.updClk (·.elapse n)
    let s := s.updJrn (·.elapse (s.clk.qual.getLsbD 2) us n)
    let s := s.updTide (·.elapse w n)
    if s.ntime.started then s.updNtime (·.elapse n) else s
  else s

/-- PLL_NET ticks until the tide's angle reaches `a`, 0 to 65,536 (02 R34). -/
def ticksTo (s : State) (a : Nat) : Nat :=
  if s.tide.angle.toNat < a then
    let w := tideWeight s
    ((a - s.tide.angle.toNat) * tideUnit - s.tide.sub + (w - 1)) / w
  else 0

/-- The tide comes to angle `a` of its present cycle, the other clocks running with it. -/
def reach (a : BitVec 16) (s : State) : State :=
  if s.tide.angle < a then (elapse (ticksTo s a.toNat) s).updTide fun t => { t with angle := a }
  else s

/-- Round a quotient to nearest, ties upward (02 R37). -/
def roundDiv (n d : Nat) : Nat := (2 * n + d) / (2 * d)

/-- Q16.16 of a frequency in nHz (02 R52). -/
def q16Freq (nHz : Nat) : Word := satNat 32 (roundDiv (nHz * 65536) (10 ^ 9))

/-- P of one cycle at a rate in nHz, in 1/64 ns (02 R37). -/
def periodOf (nHz : Nat) : Word := satNat 32 (roundDiv (64 * 10 ^ 18) nHz)

/-- The tide setup in force. -/
def State.tideSetup (s : State) : TideSetup := (s.man.map (·.tide)).getD {}

/-- A tide mark of the adopted schedule. -/
def State.mark? (s : State) (m : Nat) : Option TideMark := s.tideSetup.marks[m]?

/-- Nanoseconds of a tide time `n` angle steps after a stamp, with P in 1/64 ns (02 R38). -/
def convertNs (n p : Nat) : Nat := (n * p + 2 ^ 21) / 2 ^ 22

/-- Tide time c:a on NTIME from a stamp and P (02 R38). -/
def convert (c0 : Nat) (z0 : Stamp) (p : Word) (c a : Nat) : Stamp :=
  stampOf (stampNanos z0 + convertNs ((c - c0) * 65536 + a) p.toNat)

/-- The tide time now. -/
def State.tideNow (s : State) : TideTime := { cycle := s.tide.cycle, angle := s.tide.angle }

end Sys2Proof.Machine
end

