-- ==== Sys2Proof/Machine/Events.lean ====
section
/-! DEFINITION. Raising event sources, creating journal records, and what one edge makes of them (17 R475 to R490). -/

namespace Sys2Proof.Machine

open Sys2Proof

/-- Raise a source on the present edge for a subject (17 R475). -/
def raise (src : Nat) (s : State) (subject : Nat := 0) : State :=
  s.updEvt fun e => { e with edge := e.edge ++ [(src, subject)] }

/-- Raise a source for each subject. -/
def raiseAll (src : Nat) (subjects : List Nat) (s : State) : State :=
  subjects.foldl (fun s n => raise src s n) s

/-- Create a record that a rule gives explicitly (17 R484). -/
def addRec (r : NewRec) (s : State) : State := s.updJrn fun j => { j with edge := j.edge ++ [r] }

/-- The routing of a source in force (17 R479). -/
def routeOf (s : State) (src : Nat) : RouteCfg :=
  match s.evt.routes with
  | some l => l.getD src { journal := false, pair := false, irq := 0, severity := 0, task := none }
  | none => { journal := decide (¬ (216 ≤ src ∧ src ≤ 223)), pair := false, irq := 1, severity := 4, task := none }

/-- Sources whose payload names a subject (17 R484). -/
def payloadSource (src : Nat) : Bool :=
  decide (src = 3 ∨ src = 4 ∨ src = 33 ∨ src = 35 ∨ (64 ≤ src ∧ src ≤ 70) ∨ (96 ≤ src ∧ src ≤ 100)
    ∨ (128 ≤ src ∧ src ≤ 133) ∨ src = 151 ∨ src = 135 ∨ src = 149 ∨ src = 150 ∨ (161 ≤ src ∧ src ≤ 164) ∨ src = 166
    ∨ (167 ≤ src ∧ src ≤ 170))

/-- Sources whose journal route has no further effect (17 R476, R484). -/
def recordless (src : Nat) : Bool :=
  decide (src = 1 ∨ src = 34 ∨ src = 36 ∨ src = 160 ∨ src = 165 ∨ (216 ≤ src ∧ src ≤ 223))

/-- The record that a journal route creates (17 R484). -/
def routedRec (r : RouteCfg) (src subject : Nat) (peer : Bool) : NewRec :=
  { source := src, sev := r.severity, peer := peer
    payload := if payloadSource src then BitVec.ofNat 64 (subject % 2 ^ 32) else 0 }

/-- Keep one raise per source, with its lowest subject, in increasing source (17 R475, R486). -/
def mergeRaise : List (Nat × Nat) → Nat × Nat → List (Nat × Nat)
  | [], x => [x]
  | y :: r, x =>
    if x.1 < y.1 then x :: y :: r
    else if x.1 = y.1 then (y.1, min y.2 x.2) :: r
    else y :: mergeRaise r x

/-- A record placed among others by source, after those of its own source (17 R486). -/
def placeRec : List NewRec → NewRec → List NewRec
  | [], x => [x]
  | y :: r, x => if x.source < y.source then x :: y :: r else y :: placeRec r x

/-- A trigger of an event task: one pending, further ones merged (10 R277). -/
def triggerTask (t : Nat) (s : State) : State :=
  s.updTask t fun k => if k.trig then { k with merged := satInc k.merged } else { k with trig := true }

/-- The unit is active or alone (14 R397, R400): a standby, a waiting or a fenced unit is not. -/
def State.isActive (s : State) : Bool :=
  !s.pair.fenced && (match s.pair.role with
    | .none | .activeLockstep | .activeStaging | .activeAlone => true
    | _ => false)

/-- Count, pend and route one raise of this edge; the journal route adds its record to the edge (17 R475). -/
def performRaise (s : State) (x : Nat × Nat) : State :=
  let r := routeOf s x.1
  let now := s.jrn.optime.setWidth 32
  let s := s.updEvt fun e =>
    { e with pend := putBit e.pend x.1 true
             count := Store.upd 0 e.count x.1 (· + 1)
             last := Store.set 0 e.last x.1 now
             forward := if r.pair && s.isActive then e.forward ++ [x] else e.forward }
  let s := if r.journal && !recordless x.1 then addRec (routedRec r x.1 x.2 false) s else s
  match r.task with
  | some t => if s.isActive then triggerTask t s else s
  | none => s

/-- A raise that the active unit forwarded: its pending bit, and its journal route with PEER set (17 R482). -/
def performPeer (s : State) (x : Nat × Nat) : State :=
  let r := routeOf s x.1
  let s := s.updEvt fun e => { e with pend := putBit e.pend x.1 true }
  if r.journal && !recordless x.1 then addRec (routedRec r x.1 x.2 true) s else s

/-- Records that the buffer holds, taken ones included (17 R488). -/
def bufferCount (s : State) : Nat := s.jrn.buffer.length + s.jrn.taken.length

/-- A new record and the last record of its source agree in all that merging compares (17 R487). -/
def mergeable (r : NewRec) (q : JRec) : Bool :=
  q.sev.toNat == r.sev && q.sub.toNat == r.sub && q.code.toNat == r.code && q.payload == r.payload && q.peer == r.peer

/-- Merge into the last record of the source, when it may (17 R487). -/
def mergeLast (now : BitVec 48) (r : NewRec) : List JRec → Option (List JRec)
  | [] => none
  | q :: l =>
    match mergeLast now r l with
    | some l' => some (q :: l')
    | none =>
      if q.source.toNat = r.source ∧ (l.all fun x => decide (x.source.toNat ≠ r.source)) = true ∧ mergeable r q = true then
        some ({ q with count := satInc q.count, span := satNat 32 (now.toNat - q.optime.toNat) } :: l)
      else none

/-- The order key of a record created now: OPTIME and ORDER (17 R486). -/
def nextKey (j : Jrn) : Nat × Nat :=
  if j.keyOptime.toNat < j.optime.toNat then (j.optime.toNat, 0)
  else if j.keyOrder < 16 then (j.keyOptime.toNat, j.keyOrder)
  else (j.keyOptime.toNat + 1, 0)

/-- Count a dropped record (17 R490). -/
def dropRecs (n : Nat) (s : State) : State :=
  s.updDev fun d => { d with drops := satNat 32 (d.drops.toNat + n) }

/-- Create one record: merge it, buffer it, or drop it; answers the state and whether it was dropped
(17 R486 to R488). -/
def createRec (s : State) (r : NewRec) : State × Bool :=
  match mergeLast s.jrn.optime r s.jrn.buffer with
  | some l => (s.updJrn fun j => { j with buffer := l }, false)
  | none =>
    let k := nextKey s.jrn
    if s.jrn.optime.toNat + 1000 < k.1 ∨ 2048 ≤ bufferCount s then (dropRecs 1 s, true)
    else
      let q : JRec := { optime := BitVec.ofNat 48 k.1, pcyc := s.jrn.pcyc, sev := BitVec.ofNat 3 r.sev, peer := r.peer
                        order := BitVec.ofNat 4 k.2, source := BitVec.ofNat 8 r.source, sub := BitVec.ofNat 8 r.sub
                        code := BitVec.ofNat 16 r.code, payload := r.payload }
      (s.updJrn fun j => { j with buffer := j.buffer ++ [q], keyOptime := BitVec.ofNat 48 k.1, keyOrder := k.2 + 1 }, false)

/-- Create records in order; answers whether any was dropped. -/
def createAll : List NewRec → State → State × Bool
  | [], s => (s, false)
  | r :: l, s =>
    let (s, d) := createRec s r
    let (s, d') := createAll l s
    (s, d || d')

/-- Start a flush, or note a further one while one runs or the rebuild has not ended (17 R488, R489). -/
def startFlush (s : State) : State :=
  if s.jrn.flushing || !s.jrn.rebuilt then s.updJrn fun j => { j with again := true }
  else s.updJrn fun j => { j with flushing := true, taken := j.buffer, buffer := [] }

/-- Records of severity 6 or higher in the buffer. -/
def urgentRecs (s : State) : Nat := (s.jrn.buffer.filter fun r => decide (6 ≤ r.sev.toNat)).length

/-- What the end of an edge makes of its raises and records (17 R475, R486, R488): raises in increasing source, then the
records, then a flush that a record created at severity 6 or higher, or the filling buffer, triggers. -/
def settleEvents (s : State) : State :=
  if s.evt.edge.isEmpty && s.evt.edgePeer.isEmpty && s.jrn.edge.isEmpty then s
  else
    let own := s.evt.edge.foldl mergeRaise []
    let peer := s.evt.edgePeer.foldl mergeRaise []
    let s := s.updEvt fun e => { e with edge := [], edgePeer := [] }
    let s := own.foldl performRaise s
    let s := peer.foldl performPeer s
    let recs := (s.jrn.edge.filter (!·.prog)).foldl placeRec [] ++ s.jrn.edge.filter (·.prog)
    let s := s.updJrn fun j => { j with edge := [] }
    let before := bufferCount s
    let urgent := urgentRecs s
    let (s, dropped) := createAll recs s
    let s := if dropped && !own.any (·.1 == 216) then performRaise s (216, 0) else s
    if decide (urgent < urgentRecs s) || (decide (before < 1536) && decide (1536 ≤ bufferCount s)) then
      startFlush s
    else s

/-- The calendar as an anchor's payload: UTC seconds times 32,768 plus the sub-second count, zero while CAL_OSF is set
(17 R492). -/
def anchorPayload (s : State) : DWord :=
  if s.cal.osf then 0 else BitVec.ofNat 64 (s.cal.now.secs * 32768 + s.cal.now.sub)

/-- Create a calendar anchor and raise JRN_ANCHOR (17 R492, R496). -/
def anchor (sub : Nat) (s : State) : State :=
  raise 220 (addRec { source := 220, sev := 7, sub := sub, code := 1, payload := anchorPayload s } s)

end Sys2Proof.Machine
end

