-- ==== Sys2Proof/Machine/FioOps.lean ====
section
/-! DEFINITION. Field channels: configuration in force, who commands each output, what the I/O dies apply, and the
common fault (15). -/

namespace Sys2Proof.Machine

open Sys2Proof

/-- Group of a channel (15 R423). -/
def groupOf (n : Nat) : Nat := n / 8

/-- Channel table in force (15 R424). -/
def channelsOf (s : State) : List ChannelCfg :=
  if s.start.adopted then
    match s.man.bind (·.field) with
    | some f => f.chans
    | none => []
  else if s.fio.loaded then (s.moor.record.map (·.chans)).getD [] else []

/-- A channel's configuration in force. -/
def channelOf (s : State) (n : Nat) : ChannelCfg := (channelsOf s).getD n {}

/-- T_SAFE of a group in force, ms (15 R424). -/
def tSafeOf (s : State) (g : Nat) : Nat :=
  if s.start.adopted then ((s.man.bind (·.field)).map (·.tsafe)).getD [] |>.getD g 100 else 100

/-- The outputs of the unit are released: fenced, standby, waiting, flushing after TAKE, or unit B not mooring beside
unit A (14 R408, R410, R413; 15 R442; 04 R89). -/
def State.released (s : State) : Bool :=
  s.pair.fenced || s.pins.fenceIn || s.fio.given
    || (match s.pair.role with
      | .lockstep | .staging | .resync | .notReady | .heldOut | .waiting => true
      | _ => false)
    || (s.pins.roleB && decide (s.start.stage < 2) && s.pins.peerOkIn)

/-- Channels of mode output in force. -/
def isOutput (s : State) (n : Nat) : Bool := (channelOf s n).mode == .output

/-- A channel's group is off by its die's own action: supply out of range, or group timer expired (15 R440). -/
def groupOff (s : State) (n : Nat) : Bool := s.fio.supply.getLsbD (groupOf n) || s.fio.expired.getLsbD (groupOf n)

/-- An output is released: the unit's outputs are, or its group is off (15 R437, R438). -/
def releasedOut (s : State) (n : Nat) : Bool := s.released || groupOff s n

/-- A channel whose switch the safe pattern or the mooring function may hold on: an output of the channel table in force;
while no table is in force, any channel (04 R90, R93; 15 R423, R424). With an empty mooring function R424 has every channel
unused and R90 has every output stay at the safe pattern: the model follows R90. DEDUCED, log entry 70. -/
def switchable (s : State) (n : Nat) : Bool :=
  if s.start.adopted || s.moor.record.isSome then isOutput s n else true

/-- Bits of the 32 channels from a test. -/
def bits32 (f : Nat → Bool) : BitVec 32 :=
  (List.range 32).foldl (fun w n => putBit w n (f n)) 0

/-- Active interlocks take part: at stages 2 and 3 only the persistent ones (04 R97). -/
def liveInterlocks (s : State) : List Interlock :=
  ((((s.moor.record.map (·.ilks)).getD []).zipIdx).filter (fun (k, i) =>
    s.moor.ilk.getLsbD i && (decide (s.start.stage < 2) || k.persistent))).map (·.1)

/-- An active force-off interlock, else a force-on one, on a channel (04 R97). -/
def interlockOn (s : State) (n : Nat) : Option Bool :=
  let l := (liveInterlocks s).filter (fun k => k.mask.getLsbD n)
  if l.isEmpty then none else some (l.all (·.forceOn))

/-- The mooring loop's command of a channel (04 R95, R97). Where the masks of two loops share a channel, which R94 does
not forbid and for which R97 names no order, the loop of lowest number commands it. DESIGN CHOICE, log entry 62. -/
def mooringOn (s : State) (n : Nat) : Option Bool :=
  if s.moor.running then
    ((((s.moor.record.map (·.loops)).getD []).zipIdx).find? (fun (k, _) => k.mask.getLsbD n)).map
      (fun (_, i) => (Store.get {} s.moor.loops i).out)
  else none

/-- Channels that a thermal shutdown turns off: the channel's parallel set, where sets exist (15 R434, R435). -/
def thermalOff (s : State) (n : Nat) : Bool :=
  let c := channelOf s n
  s.fio.thermal.getLsbD n
    || (decide (2 ≤ s.start.stage) && c.pset != 0 && (List.range 8).any (fun i =>
      let m := groupOf n * 8 + i
      (channelOf s m).pset == c.pset && s.fio.thermal.getLsbD m))

/-- What an I/O die applies for a wanted command (14 R413; 15 R438, R440, R441). -/
def dieApplies (s : State) (n : Nat) (want : Bool) : Bool :=
  let g := groupOf n
  if groupOff s n then false
  else if s.fio.kept then s.fio.applied.getLsbD n
  else if s.released then false
  else if s.fio.wdog.getLsbD g then s.fio.wdogOut.getLsbD n && !s.fio.await.getLsbD n && !thermalOff s n
  else want && !s.fio.await.getLsbD n && !thermalOff s n

/-- Readings of FAULT's conditions that still hold (15 R437). -/
def faultConditions (s : State) : Bool :=
  let inUse := fun g => (List.range 8).any (fun i => (channelOf s (8 * g + i)).mode != .unused)
  s.fio.mismatch != 0 || s.fio.thermal != 0 || s.fio.wdog != 0
    || (List.range 4).any (fun g => inUse g && (s.fio.supply.getLsbD g || s.fio.expired.getLsbD g))

/-- Set FIO_STATUS.FAULT, raising FIO_FAULT when it was clear (15 R437). -/
def setFault (s : State) : State :=
  if s.fio.fault then s
  else raise 32 (s.updFio fun f => { f with fault := true, faults := satInc f.faults })

/-- IOFAULT_N is low (15 R439). -/
def ioFaultLow (s : State) : Bool := s.fio.fault || s.fio.wdog != 0 || s.fio.expired != 0 || s.fio.supply != 0

/-- Bits of an output's status variable (15 R438). -/
def statusBits (s : State) (n : Nat) : BitVec 8 :=
  putBit (putBit (putBit (putBit (0 : BitVec 8) 0 (s.fio.filtered.getLsbD n)) 1 (s.fio.applied.getLsbD n)) 2
    (releasedOut s n)) 3 (s.fio.await.getLsbD n)

end Sys2Proof.Machine
end

