-- ==== Sys2Proof/Machine/Operands.lean ====
section
/-! DEFINITION. The operand forms of TIC: types, canonical slots, and the words of variables (09 R243, R244). -/

namespace Sys2Proof.Machine

open Sys2Proof

/-- Width of a type in data words (09 R243). -/
def tyWords (t : Ty) : Nat :=
  match t with
  | .lint | .ulint | .lreal | .time | .ldt => 2
  | _ => 1

/-- Width of a type's value in bits; a BOOL is read from its 32 low bits (09 R244). -/
def tyBits (t : Ty) : Nat :=
  match t with
  | .sint | .usint => 8
  | .int | .uint => 16
  | .bool | .dint | .udint | .real => 32
  | _ => 64

/-- Types whose integers are signed; TIME and LDT follow LINT (09 R244, R256). -/
def tySigned (t : Ty) : Bool :=
  match t with
  | .sint | .int | .dint | .lint | .time | .ldt => true
  | _ => false

/-- REAL and LREAL. -/
def tyFloat (t : Ty) : Bool :=
  match t with
  | .real | .lreal => true
  | _ => false

/-- The canonical slot of a type from a slot's low bits (09 R244). -/
def canon (t : Ty) (v : DWord) : DWord :=
  match t with
  | .bool => if v.setWidth 32 = 0 then 0 else 1
  | .sint => (v.setWidth 8).signExtend 64
  | .int => (v.setWidth 16).signExtend 64
  | .dint => (v.setWidth 32).signExtend 64
  | .usint => (v.setWidth 8).setWidth 64
  | .uint => (v.setWidth 16).setWidth 64
  | .udint | .real => (v.setWidth 32).setWidth 64
  | .lint | .ulint | .lreal | .time | .ldt => v

/-- The integer that a slot holds as a type. -/
def slotInt (t : Ty) (v : DWord) : Int :=
  if tySigned t then (canon t v).toInt else ((canon t v).toNat : Int)

/-- The canonical slot of an integer, wrapped to the type's width (09 R256). -/
def intSlot (t : Ty) (i : Int) : DWord := canon t (BitVec.ofInt 64 i)

/-- A BOOL slot. -/
def boolSlot (b : Bool) : DWord := if b then 1 else 0

/-- A slot read as BOOL (09 R244). -/
def slotBool (v : DWord) : Bool := v.setWidth 32 ≠ (0 : Word)

/-- Least and greatest integer of a type. -/
def tyRange (t : Ty) : Int × Int :=
  match t with
  | .bool => (0, 1)
  | _ => if tySigned t then (-(2 ^ (tyBits t - 1) : Nat), (2 ^ (tyBits t - 1) : Nat) - 1) else (0, (2 ^ tyBits t : Nat) - 1)

/-- A variable's canonical slot from its words (09 R244). -/
def slotOfWords (t : Ty) (lo hi : Word) : DWord :=
  if tyWords t = 2 then hi ++ lo else canon t (lo.setWidth 64)

/-- The words that a store of a slot writes (09 R244). -/
def wordsOfSlot (t : Ty) (v : DWord) : List Word :=
  let c := canon t v
  if tyWords t = 2 then [c.setWidth 32, (c >>> 32).setWidth 32] else [c.setWidth 32]

/-- The type of a type code (09 R243). -/
def tyOfCode (n : Nat) : Option Ty :=
  match n with
  | 1 => some .bool
  | 2 => some .sint
  | 3 => some .int
  | 4 => some .dint
  | 5 => some .lint
  | 6 => some .usint
  | 7 => some .uint
  | 8 => some .udint
  | 9 => some .ulint
  | 10 => some .real
  | 11 => some .lreal
  | 12 => some .time
  | 13 => some .ldt
  | _ => none

/-- The code of a type. -/
def tyCode (t : Ty) : Nat :=
  match t with
  | .bool => 1
  | .sint => 2
  | .int => 3
  | .dint => 4
  | .lint => 5
  | .usint => 6
  | .uint => 7
  | .udint => 8
  | .ulint => 9
  | .real => 10
  | .lreal => 11
  | .time => 12
  | .ldt => 13

/-- A one-word variable's word holds a value of the type in extended form (09 R244, R249). -/
def wordHolds (t : Ty) (w : Word) : Bool :=
  match t with
  | .bool => decide (w.toNat ≤ 1)
  | .sint => w == (w.setWidth 8).signExtend 32
  | .int => w == (w.setWidth 16).signExtend 32
  | .usint => decide (w.toNat < 256)
  | .uint => decide (w.toNat < 65536)
  | _ => true

end Sys2Proof.Machine
end

