-- ==== Sys2Proof/Machine/Flags.lean ====
section
/-! DEFINITION. IEEE 754 arithmetic of REAL and LREAL, rounded to nearest with ties to even, over exact integers, and
the fixed-point rounding of the solver and of the loops (09 R257, 06 R153). -/

namespace Sys2Proof.Machine

open Sys2Proof

/-- A floating-point value: a finite value is mantissa times 2^exponent with a sign. -/
inductive FVal where
  | nan
  | inf (neg : Bool)
  | fin (neg : Bool) (m : Nat) (e : Int)
  deriving DecidableEq, Repr

/-- A binary format: precision, and the exponents of the unit in the last place of the smallest and of the largest
finite numbers. -/
structure FFmt where
  p : Nat
  lo : Int
  hi : Int

/-- binary32. -/
def f32 : FFmt := { p := 24, lo := -149, hi := 104 }
/-- binary64. -/
def f64 : FFmt := { p := 53, lo := -1074, hi := 971 }

/-- Number of bits of a natural number. -/
def bitLen (n : Nat) : Nat := if n = 0 then 0 else Nat.log2 n + 1

/-- Shift a mantissa right by `k` bits, to nearest with ties to even; `sticky` says that a nonzero part lies below. -/
def shiftEven (m k : Nat) (sticky : Bool) : Nat :=
  if k = 0 then m
  else
    let q := m / 2 ^ k
    let r := m % 2 ^ k
    let h := 2 ^ (k - 1)
    if h < r || (r == h && (sticky || q % 2 == 1)) then q + 1 else q

/-- Bits of a format's positive infinity. -/
def infBits (f : FFmt) : Nat := (f.hi - f.lo + 2).toNat * 2 ^ (f.p - 1)

/-- Sign bit of a format. -/
def signBit (f : FFmt) : Nat := 2 * (infBits f + 2 ^ (f.p - 1)) / 2

/-- Bits of a value rounded once to a format; a NaN is the canonical one (09 R257). -/
def packF (f : FFmt) (v : FVal) (sticky : Bool) : Nat :=
  match v with
  | .nan => infBits f + 2 ^ (f.p - 2)
  | .inf n => infBits f + boolNat n * signBit f
  | .fin n m e =>
    let s := boolNat n * signBit f
    if m = 0 then s
    else
      let q := max (e + (bitLen m : Int) - (f.p : Int)) f.lo
      let m' := if q ≤ e then m * 2 ^ (e - q).toNat else shiftEven m (q - e).toNat sticky
      let up := m' = 2 ^ f.p
      let q := if up then q + 1 else q
      let m' := if up then 2 ^ (f.p - 1) else m'
      if f.hi < q then infBits f + s
      else if m' < 2 ^ (f.p - 1) then m' + s
      else (q - f.lo + 1).toNat * 2 ^ (f.p - 1) + (m' - 2 ^ (f.p - 1)) + s

/-- Value of a format's bits. -/
def unpackF (f : FFmt) (b : Nat) : FVal :=
  let sb := signBit f
  let n := decide (sb ≤ b)
  let x := b % sb
  let ex := x / 2 ^ (f.p - 1)
  let fr := x % 2 ^ (f.p - 1)
  if infBits f ≤ x then (if fr = 0 then .inf n else .nan)
  else if ex = 0 then .fin n fr f.lo
  else .fin n (fr + 2 ^ (f.p - 1)) (f.lo + (ex : Int) - 1)

/-- Format of REAL and of LREAL. -/
def fmtOf (t : Ty) : FFmt := if t = .real then f32 else f64

/-- Value of a slot as REAL or LREAL. -/
def slotF (t : Ty) (v : DWord) : FVal := unpackF (fmtOf t) (canon t v).toNat

/-- Slot of a value, rounded once. -/
def fSlot (t : Ty) (v : FVal) (sticky : Bool := false) : DWord := BitVec.ofNat 64 (packF (fmtOf t) v sticky)

/-- Signed mantissa of a finite value at an exponent not above its own. -/
def atExp (n : Bool) (m : Nat) (e lo : Int) : Int :=
  let x : Int := (m * 2 ^ (e - lo).toNat : Nat)
  if n then -x else x

/-- Negation of the sign. -/
def negF (v : FVal) : FVal :=
  match v with
  | .nan => .nan
  | .inf n => .inf (!n)
  | .fin n m e => .fin (!n) m e

/-- Exact sum (09 R257). -/
def addF (a b : FVal) : FVal :=
  match a, b with
  | .nan, _ => .nan
  | _, .nan => .nan
  | .inf x, .inf y => if x = y then .inf x else .nan
  | .inf x, _ => .inf x
  | _, .inf y => .inf y
  | .fin n m e, .fin n' m' e' =>
    let lo := min e e'
    let s := atExp n m e lo + atExp n' m' e' lo
    if s = 0 then .fin (n && n') 0 lo else .fin (decide (s < 0)) s.natAbs lo

/-- Exact product (09 R257). -/
def mulF (a b : FVal) : FVal :=
  match a, b with
  | .nan, _ => .nan
  | _, .nan => .nan
  | .inf x, .inf y => .inf (x != y)
  | .inf x, .fin n m _ => if m = 0 then .nan else .inf (x != n)
  | .fin n m _, .inf y => if m = 0 then .nan else .inf (n != y)
  | .fin n m e, .fin n' m' e' => .fin (n != n') (m * m') (e + e')

/-- Quotient to 66 bits or more, with its sticky flag (09 R257). -/
def divF (a b : FVal) : FVal × Bool :=
  match a, b with
  | .nan, _ => (.nan, false)
  | _, .nan => (.nan, false)
  | .inf _, .inf _ => (.nan, false)
  | .inf x, .fin n _ _ => (.inf (x != n), false)
  | .fin n _ e, .inf y => (.fin (n != y) 0 e, false)
  | .fin n m e, .fin n' m' e' =>
    if m' = 0 then (if m = 0 then .nan else .inf (n != n'), false)
    else
      let k := 66 + bitLen m'
      let q := m * 2 ^ k / m'
      (.fin (n != n') q (e - e' - (k : Int)), decide (m * 2 ^ k % m' ≠ 0))

/-- Integer square root by Newton's method with `fuel` rounds from above. -/
def isqrt (n : Nat) : Nat → Nat → Nat
  | 0, x => x
  | fuel + 1, x =>
    let y := (x + n / x) / 2
    if y < x then isqrt n fuel y else x

/-- Floor of the square root. -/
def sqrtNat (n : Nat) : Nat := if n = 0 then 0 else isqrt n (bitLen n + 8) (2 ^ (bitLen n / 2 + 1))

/-- Square root to 66 bits or more, with its sticky flag (09 R257). -/
def sqrtF (a : FVal) : FVal × Bool :=
  match a with
  | .nan => (.nan, false)
  | .inf n => (if n then .nan else .inf false, false)
  | .fin n m e =>
    if m = 0 then (.fin n 0 e, false)
    else if n then (.nan, false)
    else
      let k := 140 + (e % 2).toNat
      let x := m * 2 ^ k
      let r := sqrtNat x
      (.fin false r ((e - (k : Int)) / 2), decide (r * r ≠ x))

/-- Order of two values; none when one is a NaN (09 R257). -/
def cmpF (a b : FVal) : Option Ordering :=
  match a, b with
  | .nan, _ => none
  | _, .nan => none
  | .inf x, .inf y => some (compare (boolNat y) (boolNat x))
  | .inf x, _ => some (if x then .lt else .gt)
  | _, .inf y => some (if y then .gt else .lt)
  | .fin n m e, .fin n' m' e' =>
    let lo := min e e'
    some (compare (atExp n m e lo) (atExp n' m' e' lo))

/-- An integer as a value. -/
def intF (i : Int) : FVal := .fin (decide (i < 0)) i.natAbs 0

/-- A finite value rounded to the nearest integer, ties to even. -/
def roundInt (n : Bool) (m : Nat) (e : Int) : Int :=
  let x : Nat := if 0 ≤ e then m * 2 ^ e.toNat else shiftEven m (-e).toNat false
  if n then -(x : Int) else (x : Int)

/-- A value converted to an integer type, and whether it was a NaN or beyond the range (09 R259). -/
def toIntSat (t : Ty) (v : FVal) : Int × Bool :=
  let (lo, hi) := tyRange t
  match v with
  | .nan => (0, true)
  | .inf n => (if n then lo else hi, true)
  | .fin n m e =>
    let i := roundInt n m e
    if i < lo then (lo, true) else if hi < i then (hi, true) else (i, false)

/-- Round a raw product or quotient's binary fraction of `k` bits to nearest, ties toward +infinity (06 R153). -/
def roundShift (x : Int) (k : Nat) : Int := if k = 0 then x else (x + 2 ^ (k - 1)) / 2 ^ k

/-- Saturate to signed 32 bits (06 R153). -/
def sat32 (x : Int) : Int := max (-2147483648) (min 2147483647 x)

end Sys2Proof.Machine
end

