-- ==== Sys2Proof/Machine/DataOps.lean ====
section
/-! DEFINITION. The data memory: regions, variables by type, forces and the writes of the device (09 R243 to R250,
10 R281, R297). -/

namespace Sys2Proof.Machine

open Sys2Proof

/-- The data area in force. -/
def State.dataArea (s : State) : DataArea := (s.man.map (·.data)).getD {}

/-- Type of a region. -/
def Region.type (r : Region) : Ty := (tyOfCode r.ty).getD .dint

/-- First index past a region (09 R246). -/
def Region.stop (r : Region) : Nat := r.first + r.count * tyWords r.type

/-- Region that covers a word (09 R245). -/
def regionAt (d : DataArea) (i : Nat) : Option Region :=
  d.regions.find? fun r => decide (r.first ≤ i ∧ i < r.stop)

/-- Type of the variable at an index. -/
def varType (s : State) (i : Nat) : Option Ty := (regionAt s.dataArea i).map (·.type)

/-- Canonical slot of a variable in a copy of the data memory (09 R244). -/
def readSlot (m : Store Word) (t : Ty) (i : Nat) : DWord := slotOfWords t (Store.get 0 m i) (Store.get 0 m (i + 1))

/-- Write a slot's words into a copy of the data memory. -/
def writeSlot (m : Store Word) (t : Ty) (i : Nat) (v : DWord) : Store Word := Store.setMany 0 m i (wordsOfSlot t v)

/-- The force in effect on a variable (10 R297). -/
def forceOf (s : State) (i : Nat) : Option (Word × Word) :=
  (s.scan.forces.findSome? fun (_, f) => match f with
    | some (x, lo, hi) => if x.toNat = i then some (lo, hi) else none
    | none => none)

/-- Words of a force value for a variable's type. -/
def forceWords (t : Ty) (f : Word × Word) : List Word := if tyWords t = 2 then [f.1, f.2] else [f.1]

/-- Write words into a live input or a committed value (10 R281). -/
def writeWords (i : Nat) (ws : List Word) (s : State) : State :=
  s.updScan fun x => { x with data := Store.setMany 0 x.data i ws }

/-- The device writes a variable of an input region. -/
def writeInput (t : Ty) (i : Nat) (v : DWord) (s : State) : State := writeWords i (wordsOfSlot t v) s

/-- The device or a commit writes a committed value; a forced output keeps its force value (10 R297). -/
def writeCommitted (t : Ty) (i : Nat) (v : DWord) (s : State) : State :=
  if (forceOf s i).isSome && (regionAt s.dataArea i).any (·.kind == 3) then s else writeWords i (wordsOfSlot t v) s

/-- Words of map entries, in order. -/
def mapWords (l : List (Nat × Nat)) : List Nat := l.flatMap fun (i, n) => (List.range n).map (fun k => i + k)

/-- Words that feed a station's inputs, in order (12 R337). -/
def inputWords (c : StationCfg) : List Nat := mapWords (c.inputs.map fun (i, n, _) => (i, n))

/-- Write words one by one to a list of indices. -/
def scatter (m : Store Word) : List Nat → List Word → Store Word
  | i :: is, w :: ws => scatter (Store.set 0 m i w) is ws
  | _, _ => m

/-- The data memory with the substitutes of dropped and rejoining stations in place (12 R347, R349). -/
def substituted (s : State) : Store Word :=
  match s.man.bind (·.stations) with
  | none => s.scan.data
  | some t => t.stations.foldl (fun m c =>
      match (Store.get {} s.stn.stns c.num).subst with
      | some ws => scatter m (inputWords c) ws
      | none => m) s.scan.data

/-- The data memory with every forced input at its force value and the substitutes of dropped stations: what an input
freeze copies (10 R281, R297; 12 R347). -/
def frozenImage (s : State) : Store Word :=
  s.scan.forces.foldl (fun m (_, f) =>
    match f with
    | some (x, lo, hi) =>
      match regionAt s.dataArea x.toNat with
      | some r => if r.kind = 2 then Store.setMany 0 m x.toNat (forceWords r.type (lo, hi)) else m
      | none => m
    | none => m) (substituted s)

/-- Words of the data area's initial values (09 R248, R249). -/
def initialData (d : DataArea) : Store Word :=
  d.runs.foldl (fun m r => Store.setMany 0 m r.1 r.2) []

/-- The unit serves as a pair (14 R394). -/
def State.inPair (s : State) : Bool := (s.man.bind (·.pair)).isSome

/-- The unit is a standby of some kind. -/
def State.isStandby (s : State) : Bool :=
  match s.pair.role with
  | .lockstep | .staging | .resync | .notReady | .heldOut | .waiting => true
  | _ => false

/-- A message goes out on the crossing link with the next sequence (14 R398). -/
def Pair.send (m : LinkMsg) (p : Pair) : Pair :=
  { p with sent := p.sent ++ [m], txSeq := if p.txSeq = 0xFFFFFFFF then 1 else p.txSeq + 1 }

/-- The SOLVER report that has been gathered goes out (14 R399). -/
def Pair.sendHeld (p : Pair) : Pair :=
  match p.held with
  | some (_, m) => { p.send (.solver m) with held := none }
  | none => p

/-- A message that a unit of a pair sends over the crossing link while it is up; a SOLVER report gathered before it goes
first (14 R398, R399). -/
def sendLink (m : LinkMsg) (s : State) : State :=
  if s.pair.linkUp then s.updPair fun p => p.sendHeld.send m else s

end Sys2Proof.Machine
end

