-- ==== Sys2Proof/Machine/MathFn.lean ====
section
/-! DEFINITION. The MATH functions of REAL and LREAL, correctly rounded: each is evaluated in fixed point to 600
significant bits or more, so that one rounding gives the correctly rounded result (09 R257, 11 R324). -/

namespace Sys2Proof.Machine

open Sys2Proof

/-- Fixed-point product at `w` fraction bits. -/
def fxMul (w : Nat) (a b : Int) : Int := a * b / 2 ^ w

/-- Fixed-point quotient. -/
def fxDiv (w : Nat) (a b : Int) : Int := a * 2 ^ w / b

/-- Sum of the series of atan(1/n): `t` is n^-(2k+1). -/
def atanInvSum (n2 : Nat) : Nat → Nat → Nat → Int → Int
  | 0, _, _, acc => acc
  | fuel + 1, k, t, acc =>
    if t = 0 then acc
    else atanInvSum n2 fuel (k + 1) (t / n2)
      (if k % 2 = 0 then acc + (t / (2 * k + 1) : Nat) else acc - (t / (2 * k + 1) : Nat))

/-- π by Machin's formula. -/
def piFix (w : Nat) : Int :=
  let g := w + 64
  let f := fun (n : Nat) => atanInvSum (n * n) (g + 1) 0 (2 ^ g / n) 0
  (16 * f 5 - 4 * f 239) / 2 ^ 64

/-- Taylor sum of e^x, |x| at most 1. -/
def expSum (w : Nat) (x : Int) : Nat → Nat → Int → Int → Int
  | 0, _, _, acc => acc
  | fuel + 1, k, t, acc =>
    let t := fxMul w t x / (k : Int)
    if t = 0 ∨ t = -1 then acc else expSum w x fuel (k + 1) t (acc + t)

/-- e^x for |x| at most 1. -/
def expFix (w : Nat) (x : Int) : Int := expSum w x (w + 1) 1 (2 ^ w) (2 ^ w)

/-- Taylor sum of sin or cos: `t` is the last term, its order is `k`. -/
def trigSum (w : Nat) (x2 : Int) : Nat → Nat → Int → Int → Int
  | 0, _, _, acc => acc
  | fuel + 1, k, t, acc =>
    let t := -(fxMul w t x2) / ((k + 1) * (k + 2) : Nat)
    if t = 0 ∨ t = -1 then acc else trigSum w x2 fuel (k + 2) t (acc + t)

/-- sin x for |x| at most 1. -/
def sinFix (w : Nat) (x : Int) : Int := trigSum w (fxMul w x x) (w + 1) 1 x x

/-- cos x for |x| at most 1. -/
def cosFix (w : Nat) (x : Int) : Int := trigSum w (fxMul w x x) (w + 1) 0 (2 ^ w) (2 ^ w)

/-- Sum of z^(2k+1)/(2k+1), with alternating signs for atan and without for atanh. -/
def arcSum (alt : Bool) (w : Nat) (z2 : Int) : Nat → Nat → Int → Int → Int
  | 0, _, _, acc => acc
  | fuel + 1, k, t, acc =>
    if t = 0 ∨ t = -1 then acc
    else
      let v := t / (2 * k + 1 : Nat)
      arcSum alt w z2 fuel (k + 1) (fxMul w t z2) (if alt && k % 2 = 1 then acc - v else acc + v)

/-- Natural logarithm of a positive fixed-point number in [1, 2). -/
def lnUnit (w : Nat) (m : Int) : Int :=
  let z := fxDiv w (m - 2 ^ w) (m + 2 ^ w)
  2 * arcSum false w (fxMul w z z) (w + 1) 0 z 0

/-- ln 2. -/
def ln2Fix (w : Nat) : Int := 2 * arcSum false w (2 ^ w / 9) (w + 1) 0 (2 ^ w / 3) 0

/-- Natural logarithm of m × 2^e, m positive. -/
def lnFix (w m : Nat) (e : Int) : Int :=
  let b := bitLen m - 1
  let u : Int := if b ≤ w then (m * 2 ^ (w - b) : Nat) else (m / 2 ^ (b - w) : Nat)
  lnUnit w u + (e + (b : Int)) * ln2Fix w

/-- Square root of a fixed-point number. -/
def sqrtFix (w : Nat) (x : Int) : Int := (sqrtNat (x.toNat * 2 ^ w) : Nat)

/-- Halve an angle's tangent. -/
def halfTan (w : Nat) (z : Int) : Int := fxDiv w z (2 ^ w + sqrtFix w (2 ^ w + fxMul w z z))

/-- atan z for 0 ≤ z ≤ 1. -/
def atanFix (w : Nat) (z : Int) : Int :=
  let y := halfTan w (halfTan w (halfTan w (halfTan w z)))
  16 * arcSum true w (fxMul w y y) (w + 1) 0 y 0

/-- Angle of the point (x, y) in fixed point, not both zero, y not negative. -/
def angleFix (w : Nat) (y x : Int) : Int :=
  let p := piFix w
  if 0 ≤ x then
    if y ≤ x then atanFix w (fxDiv w y x) else p / 2 - atanFix w (fxDiv w x y)
  else
    if y ≤ -x then p - atanFix w (fxDiv w y (-x)) else p / 2 + atanFix w (fxDiv w (-x) y)

/-- A fixed-point result with 600 significant bits, its last error bits rounded off. -/
def ofFix (w : Nat) (r : Int) : FVal :=
  let k := bitLen r.natAbs - 600
  .fin (decide (r < 0)) (shiftEven r.natAbs k false) ((k : Int) - (w : Int))

/-- Working precision for a finite argument: its own bits and 700 more. -/
def precOf (m : Nat) (e : Int) : Nat := 700 + e.natAbs + bitLen m

/-- A finite number in fixed point that holds it exactly. -/
def toFix (w : Nat) (n : Bool) (m : Nat) (e : Int) : Int := atExp n m e (-(w : Int))

/-- sin and cos of a fixed-point angle: quarter turns from the remainder to the nearest multiple of π/2. -/
def sinCosFix (w : Nat) (x : Int) : Int × Int :=
  let p := piFix w
  let q := (4 * x + p) / (2 * p)
  let r := x - q * p / 2
  let sn := sinFix w r
  let cs := cosFix w r
  match (q % 4).toNat with
  | 0 => (sn, cs)
  | 1 => (cs, -sn)
  | 2 => (-sn, -cs)
  | _ => (-cs, sn)

/-- e^x of a fixed-point number, as a value; beyond 2^12 in magnitude the result overflows or vanishes. -/
def expVal (w : Nat) (x : Int) : FVal :=
  if (4096 * 2 ^ w : Int) ≤ x then .fin false 1 8192
  else if x ≤ -(4096 * 2 ^ w : Int) then .fin false 1 (-8192)
  else
    let k := x / ln2Fix w
    match ofFix w (expFix w (x - k * ln2Fix w)) with
    | .fin n m e => .fin n m (e + k)
    | v => v

/-- The functions of one operand: LN, LOG, EXP, SIN, COS, TAN, ASIN, ACOS, ATAN by their codes 1 to 9 (09 R257). -/
def mathUnary (fn : Nat) (a : FVal) : FVal :=
  match a with
  | .nan => .nan
  | .inf n =>
    match fn with
    | 1 | 2 => if n then .nan else .inf false
    | 3 => if n then .fin false 0 0 else .inf false
    | 9 => let w := 700; ofFix w (if n then -(piFix w / 2) else piFix w / 2)
    | _ => .nan
  | .fin n m e =>
    let w := precOf m e
    let x := toFix w n m e
    let one : Int := 2 ^ w
    match fn with
    | 1 => if m = 0 then .inf true else if n then .nan else ofFix w (lnFix w m e)
    | 2 => if m = 0 then .inf true else if n then .nan else ofFix w (fxDiv w (lnFix w m e) (lnFix w 10 0))
    | 3 => expVal w x
    | 4 => if m = 0 then a else ofFix w (sinCosFix w x).1
    | 5 => ofFix w (sinCosFix w x).2
    | 6 => if m = 0 then a else let (sn, cs) := sinCosFix w x; ofFix w (fxDiv w sn cs)
    | 7 =>
      if m = 0 then a
      else if one < x.natAbs then .nan
      else
        let r := angleFix w x.natAbs (sqrtFix w (one - fxMul w x x))
        ofFix w (if n then -r else r)
    | 8 => if one < x.natAbs then .nan else ofFix w (angleFix w (sqrtFix w (one - fxMul w x x)) x)
    | _ =>
      if m = 0 then a
      else
        let r := angleFix w x.natAbs one
        ofFix w (if n then -r else r)

/-- Sign of a value, a zero's included. -/
def negOf (v : FVal) : Bool :=
  match v with
  | .nan => false
  | .inf n => n
  | .fin n _ _ => n

/-- A fraction of π, quarters, with a sign. -/
def piQuarters (q : Int) (n : Bool) : FVal :=
  let r := piFix 700 * q / 4
  ofFix 700 (if n then -r else r)

/-- ATAN2 with y left and x right (09 R257). -/
def atan2F (y x : FVal) : FVal :=
  match y, x with
  | .nan, _ => .nan
  | _, .nan => .nan
  | .inf n, .inf k => piQuarters (if k then 3 else 1) n
  | .inf n, _ => piQuarters 2 n
  | y, .inf k => if k then piQuarters 4 (negOf y) else .fin (negOf y) 0 0
  | .fin n m e, .fin k m' e' =>
    if m = 0 then (if k then piQuarters 4 n else .fin n 0 0)
    else if m' = 0 then piQuarters 2 n
    else
      let w := 700 + e.natAbs + e'.natAbs + bitLen m + bitLen m'
      let b := (bitLen m : Int) + e
      let b' := (bitLen m' : Int) + e'
      if !k && decide (b + 200 < b') then
        let num := m * 2 ^ w
        let t := num / m' * 1024
        .fin n (if num % m' = 0 then t - 1 else t + 1) (e - e' - (w : Int) - 10)
      else
        let r := angleFix w (toFix w false m e) (toFix w k m' e')
        ofFix w (if n then -r else r)

/-- A finite value is an integer, and whether it is odd. -/
def intParity (m : Nat) (e : Int) : Option Bool :=
  if 0 ≤ e then some (decide (e = 0 ∧ m % 2 = 1))
  else
    let k := (-e).toNat
    if m % 2 ^ k = 0 then some (decide (m / 2 ^ k % 2 = 1)) else none

/-- |x|^y for finite nonzero operands. -/
def powVal (m : Nat) (e : Int) (n' : Bool) (m' : Nat) (e' : Int) : FVal :=
  let w := precOf m e + precOf m' e'
  expVal w (fxMul w (lnFix w m e) (toFix w n' m' e'))

/-- |x| is 1: 0; below 1: -1; above 1: 1. -/
def magOne (m : Nat) (e : Int) : Int :=
  let x := toFix (precOf m e) false m e
  let one : Int := 2 ^ precOf m e
  if x = one then 0 else if x < one then -1 else 1

/-- EXPT with the base left (09 R257). -/
def powF (x y : FVal) : FVal :=
  let one : FVal := .fin false 1 0
  let zero : FVal := .fin false 0 0
  match y with
  | .nan =>
    match x with
    | .fin false m e => if magOne m e = 0 then one else .nan
    | _ => .nan
  | .inf k =>
    match x with
    | .nan => .nan
    | .inf _ => if k then zero else .inf false
    | .fin _ m e =>
      if magOne m e = 0 then one
      else if decide (magOne m e < 0) = k then .inf false else zero
  | .fin k m' e' =>
    if m' = 0 then one
    else
      let odd := intParity m' e' = some true
      match x with
      | .nan => .nan
      | .inf n => if k then .fin (n && odd) 0 0 else .inf (n && odd)
      | .fin n m e =>
        if m = 0 then (if k then .inf (n && odd) else .fin (n && odd) 0 0)
        else if n && (intParity m' e').isNone then .nan
        else
          let v := powVal m e k m' e'
          if n && odd then negF v else v

/-- The MATH functions by code; the second operand is that of ATAN2 and EXPT (09 R257). -/
def mathF (fn : Nat) (a b : FVal) : FVal × Bool :=
  match fn with
  | 0 => sqrtF a
  | 10 => (atan2F a b, false)
  | 11 => (powF a b, false)
  | _ => (mathUnary fn a, false)

/-- AMP × sin(2π φ / 2^32) in Q8.24, correctly rounded (11 R324). -/
def sweepSignal (amp : Word) (phi : Word) : Int :=
  let w := 320
  let x := (2 * piFix w * phi.toNat) / 2 ^ 32
  let r := (sinCosFix w x).1
  let v : Int := (amp.toNat : Int) * r
  -- the low bits of the evaluation error are rounded off before the one rounding of R153
  roundShift (roundShift v 40) (w - 40)

end Sys2Proof.Machine
end

