-- ==== Sys2Proof/Machine/TideOps.lean ====
section
/-! DEFINITION. Operations of the tide: validity, sources, stamps, the period estimate and tide marks (02). -/

namespace Sys2Proof.Machine

open Sys2Proof

/-- A tide cycle is valid (02 R26). -/
def validCycle (c : TideSetup) (t : Tracker) : Bool :=
  decide (45000000 ≤ t.freqLo) && decide (t.freqHi ≤ 65000000) && decide (c.amplitude * 3 ≤ t.amplitude * 10)
    && (match c.mode with
      | .single => true
      | .abc => t.rotation == .abc
      | .acb => t.rotation == .acb)

/-- ROT_ERR: the measured rotation differs from the declared one (02 R50). -/
def rotWrong (c : TideSetup) (t : Tracker) : Bool :=
  match c.mode, t.rotation with
  | .abc, .acb => true
  | .acb, .abc => true
  | _, _ => false

/-- An angle difference wrapped into -32,767 to +32,768 (02 R43). -/
def wrapAngle (d : BitVec 16) : Int := if d.toNat ≤ 32768 then d.toNat else (d.toNat : Int) - 65536

/-- Tide angle minus a tracker's angle (02 R43). -/
def angleError (s : State) (tracker : BitVec 16) : Int := wrapAngle (s.tide.angle - tracker)

/-- The manifest's nominal frequency in nHz. -/
def nominalRate (s : State) : Nat := s.tideSetup.nominal * 10 ^ 6

/-- P of a coasting tide, 10^12 / nominal mHz, in 1/64 ns (02 R37). -/
def nominalPeriod (s : State) : Word := satNat 32 (roundDiv (64 * 10 ^ 12) s.tideSetup.nominal)

/-- Mean of stamped lengths in 1/64 ns, rounded once (02 R37). -/
def meanPeriod (l : List Nat) : Word := satNat 32 (roundDiv (64 * l.sum) l.length)

/-- P by the tide state in force (02 R37). R37 names no rule for a standby that follows the active unit's tide: the model
takes the length of one cycle at its current rate, as for a slewing tide. DESIGN CHOICE, log entry 58. -/
def periodNow (s : State) : Word :=
  match s.tide.mode with
  | .coast => nominalPeriod s
  | .holdover | .slew | .follow => periodOf s.tide.rate
  | _ => if s.tide.lengths.isEmpty then nominalPeriod s else meanPeriod s.tide.lengths

/-- The period estimate by the state in force at the latest stamp. -/
def refreshPeriod (s : State) : State := s.updTide fun t => { t with period := periodNow s }

/-- The tide's state changes on the edge of the latest stamp: P of that stamp, and of the launch marks converted from it,
is by the new state (02 R37, R39). -/
def restamp (s : State) : State :=
  let s := refreshPeriod s
  s.updTide fun t =>
    { t with launchAt := t.launchAt.map fun e =>
        (e.1, e.2.map fun l => if t.stamp.any fun z => l.c0 == z.1 then { l with p := t.period } else l) }

/-- A mark is due in a cycle (02 R34). -/
def TideMark.dueIn (m : TideMark) (c : Nat) : Bool := c % m.modulus == m.offset

/-- Convert the launch marks of a cycle from the latest stamp (02 R39). -/
def convertLaunches (c : Nat) (s : State) : State :=
  match s.tide.stamp with
  | none => s
  | some (c0, z0) =>
    (s.tideSetup.marks.zipIdx).foldl (fun s (m, i) =>
      if m.action == 4 && m.dueIn c && !(c == 0 && m.angle == 0) then
        s.updTide fun t =>
          { t with launchAt := Store.upd [] t.launchAt i fun l =>
              ({ cycle := BitVec.ofNat 48 c, c0 := c0, z0 := z0, p := t.period } :: l).take 2 }
      else s) s

/-- Stamp NTIME at the cycle boundary that the tide stands at, update P, and convert the launch marks ahead
(02 R36, R37, R39). -/
def stampCycle (s : State) : State :=
  let z := s.ntime.now
  let s := s.updTide fun t =>
    { t with stamp := some (t.cycle, z)
             lengths := match t.stamp with
               | none => []
               | some (_, z0) => ((stampNanos z - stampNanos z0) :: t.lengths).take 8 }
  let s := refreshPeriod s
  let s := if s.tide.cycle = 0 then convertLaunches 0 s else s
  convertLaunches (s.tide.cycle.toNat + 1) s

/-- The tide begins at 0:0 in a mode (02 R29). -/
def beginTide (m : TideMode) (rate : Nat) (s : State) : State :=
  let s := s.updTide fun t =>
    { t with mode := m, cycle := 0, angle := 0, sub := 0, rate := rate, stamp := none, lengths := []
             fired := [], lastFired := [], launchAt := [], validRun := 0, invalidRun := 0 }
  stampCycle s

/-- Lock onto the source, raising TIDE_LOCK when told to (02 R43). -/
def lockTide (event : Bool) (s : State) : State :=
  let s := s.updTide fun t => { t with mode := .locked, rate := t.meas }
  if event then raise 12 s else s

/-- Rate of a tide slewing at 0.995 or 1.005 times the measured frequency (02 R43). -/
def slewRate (ahead : Bool) (meas : Nat) : Nat := if ahead then meas * 995 / 1000 else meas * 1005 / 1000

/-- Enter slewing, raising TIDE_RELOCK (02 R43). -/
def enterSlew (e : Int) (s : State) : State :=
  raise 14 (s.updTide fun t =>
    { t with mode := .slew, ahead := decide (0 < e), rate := slewRate (decide (0 < e)) t.meas })

/-- Lock at once within 16 steps of error, or slew (02 R43, R599). -/
def relock (e : Int) (event : Bool) (s : State) : State :=
  if e.natAbs ≤ 16 then lockTide event s else enterSlew e s

/-- Registers that follow the unit's own tracker: FREQ, PHERR, VRMS, phases and rotation; TIDE_PHASE on a loss
(02 R45, R50, R52, R53). -/
def measureCycle (t : Tracker) (s : State) : State :=
  let c := s.tideSetup
  let three := c.mode ≠ .single
  let ph := putBit (putBit (putBit (0 : BitVec 3) 0 t.phA) 1 t.phB) 2 t.phC
  let rot := rotWrong c t
  let lost := s.tide.phases &&& ~~~ ph
  let ev := three && ph != 0 && (lost != 0 || (rot && !s.tide.rotErr))
  let s := s.updTide fun x =>
    { x with freq := if validCycle c t then t.freq * 1000 else 0
             pherr := x.angle - t.angle, phases := ph, rotErr := rot
             vrmsA := t.vrmsA
             vrmsB := if three then t.vrmsB else 0
             vrmsC := if three then t.vrmsC else 0
             vrmsPs := if three then t.vrmsPs else t.vrmsA }
  let s := if validCycle c t then s.updLoop fun e => { e with volt := (s.tide.vrmsPs.toNat : Int) } else s
  if ev then raise 15 s else s

/-- The tracker that the active unit follows: its own, else the partner's valid one (02 R46). -/
def chooseSource (s : State) (t : Tracker) : Option (Bool × Tracker) :=
  if validCycle s.tideSetup t then some (false, t)
  else match s.tide.peerTracker with
    | some p => if validCycle s.tideSetup p then some (true, p) else none
    | none => none

/-- What a cycle whose source is valid does to the tide's mode (02 R43, R46, R599). -/
def validBoundary (peer : Bool) (t : Tracker) (s : State) : State :=
  let changed := s.tide.peerSrc ≠ peer
  let s := s.updTide fun x =>
    { x with peerSrc := peer, meas := t.freq * 1000, validRun := x.validRun + 1, invalidRun := 0 }
  let e := angleError s t.angle
  match s.tide.mode with
  | .locked => if changed then relock e true s else s.updTide fun x => { x with rate := x.meas }
  | .holdover => relock e false s
  | .slew =>
    if !changed then s.updTide fun x => { x with rate := slewRate x.ahead x.meas }
    else if e.natAbs ≤ 16 then lockTide true s
    else s.updTide fun x => { x with ahead := decide (0 < e), rate := slewRate (decide (0 < e)) x.meas }
  | _ => s

/-- What a cycle without a valid source does (02 R42, R44). -/
def invalidBoundary (s : State) : State :=
  let s := s.updTide fun x => { x with validRun := 0, invalidRun := x.invalidRun + 1 }
  match s.tide.mode with
  | .locked | .slew => s.updTide fun x => { x with mode := .holdover }
  | _ => s

/-- The tide angle passes from 65,535 to 0 (02 R26, R36). -/
def cycleBoundary (t : Tracker) (s : State) : State :=
  match s.tide.mode with
  | .off => s
  | .acquire =>
    let s := measureCycle t s
    if validCycle s.tideSetup t then s.updTide fun x => { x with meas := t.freq * 1000, validRun := x.validRun + 1 }
    else s.updTide fun x => { x with validRun := 0 }
  | _ =>
    let s := elapse (ticksTo s 65536) s
    let s := s.updTide fun x => { x with cycle := x.cycle + 1, angle := 0, sub := 0 }
    let s := if s.tide.mode = .coast then s.updTide fun x => { x with coastCycles := satInc x.coastCycles } else s
    let s := measureCycle t s
    let s := if s.tide.mode = .follow then s
      else match chooseSource s t with
        | some (peer, src) => validBoundary peer src s
        | none => invalidBoundary s
    let s := s.updTide fun x => { x with peerTracker := none }
    stampCycle s

/-- Enter coasting, raising TIDE_COAST (02 R42). The rate kept, and shown in TIDE_RATE, is the nominal frequency; what
NTIME_INCR makes of it acts in `tideWeight` alone (02 R598). R52 does not say which of the two TIDE_RATE shows. DESIGN
CHOICE, log entry 59. -/
def enterCoast (s : State) : State :=
  raise 13 (restamp (s.updTide fun t =>
    { t with mode := .coast, rate := nominalRate s, coastEntries := satInc t.coastEntries }))

/-- Place of an action among marks of one tide time (01 R18). -/
def actionRank (action : Nat) : Nat :=
  match action with
  | 6 => 0
  | 1 => 1
  | 2 => 2
  | 3 => 3
  | 7 => 4
  | 4 => 5
  | _ => 6

/-- Every mark that the order of R18 puts before mark `m` at its tide time has fired (01 R18). A standby's loop samples come
from the active unit (11 R323), so they are not waited for. -/
def marksBefore (s : State) (m : Nat) (k : TideMark) : Bool :=
  (s.tideSetup.marks.zipIdx).all fun (x, i) =>
    !(x.angle == k.angle && x.dueIn s.tide.cycle.toNat)
      || !(decide (actionRank x.action < actionRank k.action) || (x.action == k.action && decide (i < m)))
      || (x.action == 3 && s.tide.mode == .follow)
      || Store.get 0 s.tide.lastFired i == s.tide.cycle.toNat + 1

/-- A mark of an action fires: due in the present cycle, not yet fired in it, and in its turn among the marks of its tide
time. Answers the mark and the state with the tide at its time and its count raised (01 R18; 02 R34, R57). -/
def fireMark (m : Nat) (action : Nat) (s : State) : Option (TideMark × State) :=
  match s.mark? m with
  | none => none
  | some k =>
    let c := s.tide.cycle.toNat
    if s.tide.runs && k.action == action && k.dueIn c && Store.get 0 s.tide.lastFired m != c + 1 && marksBefore s m k then
      let s := reach (BitVec.ofNat 16 k.angle) s
      some (k, s.updTide fun t =>
        { t with fired := Store.upd 0 t.fired m (· + 1), lastFired := Store.set 0 t.lastFired m (c + 1) })
    else none

/-- Act at a mark that fires; a mark that is not due does nothing. -/
def atMark (m action : Nat) (s : State) (f : TideMark → State → State) : State :=
  match fireMark m action s with
  | some (k, s) => f k s
  | none => s

/-- NTIME of a tide time `add` angle steps after a launch mark of the present cycle, by the conversion made one cycle
ahead; none where no stamp served it (02 R39, 12 R343). -/
def launchTime (s : State) (mark : Nat) (k : TideMark) (add : Nat) : Option Stamp :=
  ((Store.get [] s.tide.launchAt mark).find? (·.cycle == s.tide.cycle)).map fun l =>
    convert l.c0.toNat l.z0 l.p s.tide.cycle.toNat (k.angle + add)

/-- The tide time of a mark in the present cycle. -/
def markTime (s : State) (k : TideMark) : TideTime := { cycle := s.tide.cycle, angle := BitVec.ofNat 16 k.angle }

/-- A tide-time conversion completes: DONE with the result, or ERR (02 R55). -/
def finishConv (s : State) : State :=
  match s.tide.convReq with
  | none => s
  | some (cyc, a) =>
    s.updTide fun t =>
      match t.stamp with
      | none => { t with convReq := none, convErr := true, convOut := {} }
      | some (c0, z0) =>
        let d := (cyc - c0.setWidth 32).toNat
        if d ≤ 65535 then
          { t with convReq := none, convDone := true, convOut := convert c0.toNat z0 t.period (c0.toNat + d) a.toNat }
        else { t with convReq := none, convErr := true, convOut := {} }

end Sys2Proof.Machine
end

