-- ==== Sys2Proof/Machine/LoopOps.lean ====
section
/-! DEFINITION. The closed-loop engine: measurements, the control law, override groups, the output stage, tests and
capture (11). -/

namespace Sys2Proof.Machine

open Sys2Proof

/-- 1.0 in Q8.24. -/
def q24 : Int := 0x1000000

/-- A quotient rounded to nearest, ties upward, before saturation (06 R153). -/
def roundRat (n d : Int) : Int := (2 * n + d) / (2 * d)

/-- A quotient rounded by R153, and 1 when it saturated (06 R153, 11 R311). -/
def satQ (n d : Int) : Int × Nat :=
  let r := roundRat n d
  (sat32 r, boolNat (decide (sat32 r ≠ r)))

/-- Clamp into a range. -/
def clampI (x lo hi : Int) : Int := max lo (min hi x)

/-- Adopted loop table. -/
def State.loopTable (s : State) : List LoopCfg := (s.man.map (·.loops)).getD []

/-- Entry of a loop (11 R305). -/
def loopCfg (s : State) (n : Nat) : Option LoopCfg := s.loopTable.find? (·.num == n)

/-- State of a loop. -/
def State.loopSt (s : State) (n : Nat) : LoopSt := Store.get {} s.loop.loops n

def State.updLoopSt (s : State) (n : Nat) (f : LoopSt → LoopSt) : State :=
  s.updLoop fun e => { e with loops := Store.upd {} e.loops n f }

/-- A loop as the table starts it (11 R305, R313). -/
def loopInit (c : LoopCfg) : LoopSt :=
  { spt := c.spt, kp := c.kp, ti := c.ti, td := c.td, lo := c.lo, hi := c.hi, ramp := c.ramp
    manual := c.startManual, man := c.init }

/-- Sample period of a loop group in milliseconds, as a quotient (11 R307). -/
def samplePeriod (s : State) (group : Nat) : Int × Int :=
  let ms := s.tideSetup.marks.filter (fun m => m.action == 3 && m.param == group)
  let f : Int := s.tideSetup.nominal
  match ms with
  | [m] => ((m.modulus : Int) * 1000000, f)
  | _ => (500000, f)

/-- Filtered changes of a channel inside a window that ends now, newest first (11 R308). -/
def changesIn (s : State) (ch window : Nat) : List (Nat × Bool) :=
  (Store.get [] s.fio.hist ch).filter (fun x => decide (s.clk.hfNs < x.1 + window))

/-- Pulses of a channel, off-to-on changes, in a window in ns (11 R308, R309). -/
def pulsesIn (s : State) (ch window : Nat) : Nat := ((changesIn s ch window).filter (·.2)).length

/-- Nanoseconds on of a list of changes, newest first, until `upTo`; `since` is the window's start. -/
def onSpan (since : Nat) : List (Nat × Bool) → Nat → Nat
  | [], _ => 0
  | (t, v) :: r, upTo =>
    (if v then upTo - t else if r.isEmpty then t - since else 0) + onSpan since r t

/-- Microseconds on of a channel in a window in ns, whole (11 R308). -/
def onTimeIn (s : State) (ch window : Nat) : Nat :=
  let l := changesIn s ch window
  let ns := if l.isEmpty then (if s.fio.filtered.getLsbD ch then window else 0)
    else onSpan (s.clk.hfNs - window) l s.clk.hfNs
  ns / 1000

/-- A local measurement as a quotient: pulses per second, or the on-time as a fraction (11 R309). -/
def localMeasure (s : State) (c : LoopCfg) : Nat × Nat :=
  let w := c.window * 100000000
  match c.measure with
  | .frequency => (pulsesIn s c.channel w * 10, c.window)
  | _ => (onTimeIn s c.channel w, c.window * 100000)

/-- A finite value as a quotient. -/
def ratOf (n : Bool) (m : Nat) (e : Int) : Int × Int :=
  let x : Int := if n then -(m : Int) else (m : Int)
  if 0 ≤ e then (x * 2 ^ e.toNat, 1) else (x, 2 ^ (-e).toNat)

/-- The quotient of a record's finite binary64. -/
def ratBits (b : BitVec 64) : Int × Int :=
  match unpackF f64 b.toNat with
  | .fin n m e => ratOf n m e
  | _ => (0, 1)

/-- Numerator of high - low over the product of the denominators: negative where a scale falls. -/
def spanOf (low high : Int × Int) : Int := high.1 * low.2 - low.1 * high.2

/-- (m - low) / (high - low) rounded into 0 to 1.0, and whether it was clamped (11 R309). A falling scale has a negative
divisor; the quotient is rounded with ties upward all the same (06 R153). -/
def normalise (m low high : Int × Int) : Int × Bool :=
  let a := m.1 * low.2 - low.1 * m.2
  let b := spanOf low high
  let n := if b < 0 then -(a * high.2) else a * high.2
  let d := m.2 * b.natAbs
  (clampI (roundRat (q24 * n) d) 0 q24, decide (n < 0 ∨ d < n))

/-- A value normalised on a scale whose ends are equal, which the manual does not exclude for a destination: the quotient is
read as IEEE 754 gives it, infinite, or for 0 / 0 a NaN. DEDUCED, log entry 78. -/
def normaliseFlat (m low : Int × Int) : Option (Int × Bool) :=
  let a := m.1 * low.2 - low.1 * m.2
  if a = 0 then none else some (if a < 0 then 0 else q24, true)

/-- A variable's value normalised; none for a NaN (11 R309, R318). An infinity lies beyond the end of the scale on its
side. -/
def normaliseSlot (t : Ty) (v : DWord) (low high : Int × Int) : Option (Int × Bool) :=
  if tyFloat t then
    match slotF t v with
    | .nan => none
    | .inf n => some (if n != decide (spanOf low high < 0) then 0 else q24, true)
    | .fin n m e => if spanOf low high = 0 then normaliseFlat (ratOf n m e) low else some (normalise (ratOf n m e) low high)
  else some (normalise (slotInt t v, 1) low high)

/-- Process value of a loop from its measurement; none for a bad sample (11 R309). -/
def loopPv (s : State) (c : LoopCfg) (meas : List SampleMeas) : Option (Int × Bool) :=
  let low := ratBits c.rangeLow
  let high := ratBits c.rangeHigh
  match c.measure with
  | .variable =>
    let t := (varType s c.measVar).getD .dint
    normaliseSlot t (readSlot s.scan.frozen t c.measVar) low high
  | _ =>
    match meas.find? (fun x => x.loop.toNat == c.num) with
    | some x => some (normalise ((x.num : Int), (x.den : Int)) low high)
    | none => none

/-- Piecewise-linear gain multiplier (11 R314). -/
def gainOf : List (Int × Int) → Int → Int
  | [], _ => q24
  | [(_, g)], _ => g
  | (e0, g0) :: (e1, g1) :: r, x =>
    if x < e1 then roundRat (g0 * (e1 - e0) + (g1 - g0) * (x - e0)) (e1 - e0)
    else gainOf ((e1, g1) :: r) x

/-- Voltage factor (11 R315). -/
def voltFactor (kv volt : Int) : Int :=
  let v := clampI volt (q24 / 2) (q24 / 2 * 3)
  roundRat (q24 * v * v + kv * (q24 * q24 - v * v)) (v * v)

/-- Results of a loop's law before selection (11 R311). -/
structure LoopLaw where
  cfg : LoopCfg
  pv : Int
  bad : Bool
  clamped : Bool
  spw : Int
  spx : Int
  e : Int
  kk : Int
  p : Int
  d : Int
  fr : Int
  t : Int
  tsig : Int
  c : Int
  i : Int
  u : Int
  sats : Nat
  manual : Bool
  man : Int

/-- Test signal of a running test at its present index; none when the test ends there (11 R324). -/
def testSignal (x : LoopTest) : Option Int :=
  let len := x.set.len.toNat
  let ended := len ≠ 0 ∧ len ≤ x.k
  let amp : Int := x.set.amp.toNat
  if ended then none
  else match x.set.kind.toNat with
    | 1 => some amp
    | 2 => some (if x.s.getLsbD 0 then amp else -amp)
    | _ => some (sweepSignal x.set.amp x.phi)

/-- A test after its sample (11 R324). -/
def testNext (x : LoopTest) : LoopTest :=
  let k := x.k + 1
  let hold := x.set.hold.toNat
  let s := if x.set.kind = 2 ∧ hold ≠ 0 ∧ k % hold = 0 then
      let b := x.s.getLsbD 14 != x.s.getLsbD 13
      (x.s <<< 1) ||| (if b then 1 else 0)
    else x.s
  let step : Int := (x.set.f0.toNat : Int)
    + ((x.set.f1.toNat : Int) - (x.set.f0.toNat : Int)) * (x.k : Int) / (max 1 x.set.len.toNat : Nat)
  { x with k := k, s := s, phi := x.phi + BitVec.ofInt 32 step }

/-- The test that runs on a loop. -/
def testOn (s : State) (n : Nat) : Option LoopTest := s.loop.tests.find? (·.loop == n)

/-- One loop's law at a sample (11 R309 to R315). -/
def loopLaw (s : State) (c : LoopCfg) (meas : List SampleMeas) (volt : Int) : LoopLaw :=
  let x := s.loopSt c.num
  let (tn, td) := samplePeriod s c.group
  let pvr := loopPv s c meas
  let pv := (pvr.map (·.1)).getD x.pv
  let sg : Int := if c.direct then -1 else 1
  let tst := testOn s c.num
  let tsig := (tst.bind testSignal).getD 0
  let atOut := (tst.map (·.set.output)).getD false
  let rstep := sat32 (roundRat (x.ramp * tn) (1000 * td))
  let spw0 := if x.started then x.spw else x.spt
  let spw := if x.ramp = 0 then x.spt else spw0 + clampI (x.spt - spw0) (-rstep) rstep
  let spwPrev := if x.started then x.spw else spw
  let pvPrev := if x.started then x.pv else pv
  let spx := if tst.isSome && !atOut then clampI (spw + tsig) 0 q24 else spw
  let e := sg * (spx - pv)
  let (kk, b1) := satQ (x.kp * gainOf c.gains e.natAbs) q24
  let (p, b2) := satQ (kk * e) q24
  let den := (x.td : Int) * td + 8 * tn
  let ad := if x.td = 0 then 0 else sat32 (roundRat (q24 * x.td * td) den)
  let bd := if x.td = 0 then 0 else sat32 (roundRat (q24 * 8 * x.td * td) den)
  let d0 := if x.started then x.d else 0
  let (d, b3) := satQ (ad * d0 * q24 + bd * kk * sg * (pvPrev - pv)) (q24 * q24)
  let cr := sat32 (roundRat (q24 * c.tr * td) tn)
  let (fr, b4) := satQ (cr * sg * (spw - spwPrev)) q24
  let t := if atOut then tsig else 0
  let f := voltFactor c.kv volt
  let manual := if x.started then x.manual else c.startManual
  let man := if x.started then x.man else c.init
  let on := x.hand.getD (c.outKind == 1 && (List.range 32).any (fun n => c.dest / 2 ^ n % 2 == 1 && s.fio.applied.getLsbD n))
  let (i, b5) := if x.started then (x.i, 0)
    else if c.outKind = 1 then satQ ((if on then q24 * q24 else 0) - (p + fr) * f) f else (c.init, 0)
  let u := if manual then clampI (man + t) x.lo x.hi
    else clampI (roundRat (f * (p + i + d + fr + t)) q24) x.lo x.hi
  { cfg := c, pv := pv, bad := pvr.isNone, clamped := (pvr.map (·.2)).getD false, spw := spw, spx := spx, e := e
    kk := kk, p := p, d := d, fr := fr, t := t, tsig := tsig, c := f, i := i, u := u
    sats := b1 + b2 + b3 + b4 + b5, manual := manual, man := man }

/-- Override group of a loop, with the group's number (11 R316). -/
def overrideOf (s : State) (n : Nat) : Option (Nat × List Nat) :=
  ((((s.man.map (·.overrides)).getD []).zipIdx).find? (fun (g, _) => g.contains n)).map (fun (g, i) => (i, g))

/-- The law of lowest u among automatic members, the earliest winning; all manual: the first member (11 R317). -/
def selectWinner (laws : List LoopLaw) (members : List Nat) : Option LoopLaw :=
  let ms := members.filterMap (fun n => laws.find? (·.cfg.num == n))
  match ms.filter (!·.manual) with
  | [] => ms.head?
  | a :: r => some (r.foldl (fun w l => if l.u < w.u then l else w) a)

/-- The law whose output a loop's output stage uses (11 R317). -/
def winnerOf (s : State) (laws : List LoopLaw) (l : LoopLaw) : LoopLaw :=
  match overrideOf s l.cfg.num with
  | some (_, ms) => (selectWinner laws ms).getD l
  | none => l

/-- The entry whose output parameters serve a loop (11 R316). -/
def outputCfg (s : State) (c : LoopCfg) : LoopCfg :=
  match overrideOf s c.num with
  | some (_, m :: _) => (loopCfg s m).getD c
  | _ => c

/-- Channels of a mask. -/
def maskChannels (m : Nat) : List Nat := (List.range 32).filter (fun n => m / 2 ^ n % 2 == 1)

/-- A persistent interlock's command on a channel (04 R97). -/
def persistentOn (s : State) (n : Nat) : Option Bool :=
  let l := (liveInterlocks s).filter (fun k => k.persistent && k.mask.getLsbD n)
  if l.isEmpty then none else some (l.all (·.forceOn))

/-- A persistent interlock holds every destination channel: off, or on when all are forced on (11 R318). -/
def loopHeld (s : State) (o : LoopCfg) : Option Int :=
  if o.outKind = 1 then
    let l := (maskChannels o.dest).map (persistentOn s)
    if l.all (·.isSome) then some (if l.all (· == some true) then q24 else 0) else none
  else none

/-- The destination's force value normalised back; `some none` is a NaN (11 R318). -/
def loopForced (s : State) (o : LoopCfg) : Option (Option Int) :=
  if o.outKind = 2 then
    (forceOf s o.dest).map fun f =>
      let t := (varType s o.dest).getD .dint
      let v := slotOfWords t f.1 f.2
      if tyFloat t then (normaliseSlot t v (ratBits o.scaleLow) (ratBits o.scaleHigh)).map (·.1)
      else some (slotInt t v)
  else none

/-- LOOP_STATUS.FORCED: the destination variable is forced (11 R326). -/
def destForced (s : State) (o : LoopCfg) : Bool := (o.outKind == 2 || o.outKind == 3) && (forceOf s o.dest).isSome

/-- Applied output of a selected output (11 R318). -/
def appliedOf (s : State) (o : LoopCfg) (u : Int) : Int :=
  match loopHeld s o with
  | some a => a
  | none =>
    match loopForced s o with
    | some (some a) => a
    | _ => u

/-- Slot that the engine writes for an output a (11 R320, R321). -/
def outputSlot (t : Ty) (o : LoopCfg) (a : Int) : DWord :=
  if tyFloat t then
    let lo := unpackF f64 o.scaleLow.toNat
    let hi := unpackF f64 o.scaleHigh.toNat
    let x : FVal := .fin (decide (a < 0)) a.natAbs (-24)
    fSlot t (addF lo (mulF x (addF hi (negF lo))))
  else intSlot t a

/-- Samples of one output cycle (11 R305, R319). -/
def cycleSamples (s : State) (o : LoopCfg) : Nat :=
  let (tn, td) := samplePeriod s o.group
  max 1 ((o.cycleTime : Int) * td / tn).toNat

/-- On-time of a cycle that starts with applied output a, µs (11 R319). -/
def pulseTime (o : LoopCfg) (a : Int) : Nat :=
  let whole := o.cycleTime * 1000
  let t := (a.toNat * whole) / 2 ^ 24
  if t < o.minPulse * 1000 then 0 else if whole - t < o.minPulse * 1000 then whole else t

/-- The output stage of a loop that has its own output (11 R319 to R321). -/
def outputStage (c : LoopCfg) (a : Int) (first : Bool) (s : State) : State :=
  match c.outKind with
  | 1 =>
    let ph := if first then 0 else (s.loopSt c.num).phase
    let n := cycleSamples s c
    s.updLoopSt c.num fun x =>
      let x := if ph = 0 then { x with onUs := pulseTime c a, drive := decide (0 < pulseTime c a) } else x
      { x with phase := if ph + 1 < n then ph + 1 else 0 }
  | 2 =>
    let t := (varType s c.dest).getD .dint
    writeCommitted t c.dest (outputSlot t c a) s
  | 3 =>
    let t := (varType s c.dest).getD .dint
    writeInput t c.dest (outputSlot t c a) s
  | _ => s

/-- QTY, LOOP, CONT and TRIG of LOOP_CAP_CFG (11 R329). -/
def Capture.qty (k : Capture) : Nat := (k.cfg.extractLsb' 12 3).toNat
def Capture.loop (k : Capture) : Nat := (k.cfg.extractLsb' 0 9).toNat
def Capture.cont (k : Capture) : Bool := k.cfg.getLsbD 16
def Capture.trig (k : Capture) : Bool := k.cfg.getLsbD 17

/-- Value of a captured quantity (11 R325, R329). -/
def captureValue (q : Nat) (l : LoopLaw) (a i : Int) : Int :=
  match q with
  | 0 => l.pv
  | 1 => l.spx
  | 2 => l.u
  | 3 => a
  | 4 => l.e
  | 5 => i
  | 6 => l.tsig
  | _ => 0

/-- Every capture channel of a loop records one sample (11 R325). -/
def captureSample (l : LoopLaw) (a i : Int) (tested : Bool) (time : TideTime) (s : State) : State :=
  (List.range 4).foldl (fun s ch =>
    let k := Store.get {} s.loop.caps ch
    let runs := decide (k.state = .recording) || (decide (k.state = .armed) && (!k.trig || tested))
    if runs && k.loop == l.cfg.num then
      let full := decide (16384 ≤ k.recs.length)
      let recs := (if full then k.recs.drop 1 else k.recs) ++ [{ value := captureValue k.qty l a i, time := time }]
      let stop := !k.cont && decide (recs.length = 16384)
      let k := { k with recs := recs, wrap := k.wrap || full, state := if stop then .stopped else .recording }
      let s := s.updLoop fun e => { e with caps := Store.set {} e.caps ch k }
      if stop then raise 170 s k.loop else s
    else s) s

/-- A running test advances, or ends at its length (11 R324). -/
def advanceTest (n : Nat) (s : State) : State :=
  match testOn s n with
  | none => s
  | some x =>
    if (testSignal x).isNone then
      raise 169 (s.updLoop fun e => { e with tests := e.tests.filter (·.loop != n), tstDone := true }) n
    else s.updLoop fun e => { e with tests := e.tests.map (fun y => if y.loop = n then testNext y else y) }

/-- What a loop keeps and writes after its group's selection (11 R311, R318 to R321, R325). -/
def finishLoop (time : TideTime) (laws : List LoopLaw) (s : State) (l : LoopLaw) : State :=
  let n := l.cfg.num
  let x := s.loopSt n
  let o := outputCfg s l.cfg
  let w := winnerOf s laws l
  let a := appliedOf s o w.u
  let (tn, td) := samplePeriod s l.cfg.group
  let ci := if x.ti = 0 then 0 else min q24 (roundRat (q24 * tn) (x.ti * td))
  let (f, b1) := satQ (a * q24) l.c
  let (i, b2) := satQ (l.i * q24 + ci * (f - l.d - l.fr - l.t - l.i)) q24
  let range := l.bad || l.clamped
  let s := if range && !(x.clamped || x.pvBad) then raise 167 s n else s
  let tested := ((testOn s n).bind testSignal).isSome
  let s := s.updLoopSt n fun x =>
    { x with started := true, hand := none, pv := l.pv, spw := l.spw, u := l.u, e := l.e, a := a, i := i, d := l.d
             kk := l.kk, c := l.c, manual := l.manual, man := l.man
             sats := satNat 16 (x.sats.toNat + l.sats + b1 + b2), bad := if l.bad then satInc x.bad else x.bad
             last := time.cycle.setWidth 32, clamped := l.clamped, pvBad := l.bad
             ilk := (loopHeld s o).isSome, forced := destForced s o
             limited := decide (l.u = x.lo ∨ l.u = x.hi) }
  let s := outputStage l.cfg a (!x.started) s
  let s := captureSample l a i tested time s
  advanceTest n s

/-- The winner of an override group is noted; a change raises LOOP_OVERRIDE (11 R317). -/
def noteWinner (laws : List LoopLaw) (s : State) (g : Nat × List Nat) : State :=
  match selectWinner laws g.2 with
  | none => s
  | some w =>
    let old := Store.get 0 s.loop.winners g.1
    let s := s.updLoop fun e => { e with winners := Store.set 0 e.winners g.1 (w.cfg.num + 1) }
    if old ≠ 0 ∧ old ≠ w.cfg.num + 1 then raise 168 s w.cfg.num else s

/-- Every loop of a group computes its sample (11 R308, R311). -/
def sampleGroup (group : Nat) (time : TideTime) (meas : List SampleMeas) (volt : Int) (s : State) : State :=
  let laws := (s.loopTable.filter (·.group == group)).map (fun c => loopLaw s c meas volt)
  let s := (((s.man.map (·.overrides)).getD []).zipIdx).foldl (fun s (g, i) => noteWinner laws s (i, g)) s
  laws.foldl (finishLoop time laws) s

/-- The local measurements that a group's sample captures (11 R308). -/
def captureMeasures (s : State) (group : Nat) : List SampleMeas :=
  (s.loopTable.filter (fun c => c.group == group && c.measure != .variable)).map fun c =>
    let (n, d) := localMeasure s c
    { loop := BitVec.ofNat 9 c.num, num := n, den := d }

/-- A loop group's mark fires on a unit that is not a standby; the active unit of a pair forwards what it captured
(11 R308, R311, R323). -/
def loopSample (k : TideMark) (mark : Nat) (s : State) : State :=
  if s.isStandby then s
  else
    let meas := captureMeasures s k.param
    let time := markTime s k
    let s := if s.inPair then
        sendLink (.sample { time := time, mark := BitVec.ofNat 8 mark, volt := s.loop.volt, meas := meas
                            tests := s.loop.tstPending.toList }) s
      else s
    sampleGroup k.param time meas s.loop.volt s

/-- The on-time of a loop's output cycle ends (11 R319). -/
def pulseEnd (n : Nat) (s : State) : State :=
  match loopCfg s n with
  | none => s
  | some c =>
    s.updLoopSt n fun x => if x.onUs < c.cycleTime * 1000 then { x with drive := false } else x

/-- Setting of a test from the staging registers (11 R328). -/
def stagedTest (e : LoopEng) : TestSetting :=
  { kind := e.tstCfg.extractLsb' 0 3, output := e.tstCfg.getLsbD 3, hold := e.tstCfg.extractLsb' 8 8
    amp := e.tstAmp, len := e.tstLen, f0 := e.tstF0, f1 := e.tstF1 }

/-- KIND, HOLD and amplitude of a test are valid (11 R324, R328). -/
def testValid (t : TestSetting) : Bool :=
  decide (1 ≤ t.kind.toNat ∧ t.kind.toNat ≤ 3) && decide ((t.amp.toNat : Int) ≤ q24)
    && (t.kind != 2 || t.hold != 0) && (t.kind != 3 || t.len != 0)

/-- Note a test command's reason. -/
def testReason (r : Byte) (s : State) : State := s.updLoop fun e => { e with tstReason := r }

/-- LOOP_TST_CTRL.START (11 R324, R328). -/
def testStart (n : Nat) (s : State) : State :=
  let t := stagedTest s.loop
  if (loopCfg s n).isNone then testReason 1 s
  else if !testValid t then testReason 2 s
  else if s.isStandby then testReason 3 s
  else if s.loop.tstPending.isSome then testReason 4 s
  else if 4 ≤ s.loop.tests.length then testReason 5 s
  else s.updLoop fun e => { e with tstReason := 0, tstPending := some (.start (BitVec.ofNat 9 n) t) }

/-- LOOP_TST_CTRL.STOP (11 R324, R328). -/
def testStop (n : Nat) (s : State) : State :=
  if (loopCfg s n).isNone then testReason 1 s
  else if s.isStandby then testReason 3 s
  else if s.loop.tstPending.isSome then testReason 4 s
  else if (testOn s n).isNone then testReason 6 s
  else s.updLoop fun e => { e with tstReason := 0, tstPending := some (.stop (BitVec.ofNat 9 n)) }

/-- An accepted start or stop takes effect at the state task's freeze (11 R324). -/
def applyTest (c : TestChange) (s : State) : State :=
  match c with
  | .start n t => s.updLoop fun e =>
      { e with tests := e.tests.filter (fun x => x.loop != n.toNat) ++ [{ loop := n.toNat, set := t }] }
  | .stop n =>
    if (testOn s n.toNat).isSome then
      raise 169 (s.updLoop fun e => { e with tests := e.tests.filter (·.loop != n.toNat), tstDone := true }) n.toNat
    else s

/-- The pending start or stop of the state task's freeze (11 R324). -/
def releaseTests (s : State) : State :=
  match s.loop.tstPending with
  | none => s
  | some c => applyTest c (s.updLoop fun e => { e with tstPending := none })

def State.updCapture (s : State) (ch : Nat) (f : Capture → Capture) : State :=
  s.updLoop fun e => { e with caps := Store.upd {} e.caps ch f }

/-- LOOP_CAP_CTRL.ARM (11 R329). -/
def captureArm (ch : Nat) (s : State) : State :=
  s.updCapture ch fun k => { k with recs := [], wrap := false, state := .armed }

/-- LOOP_CAP_CTRL.STOP (11 R329). -/
def captureStop (ch : Nat) (s : State) : State :=
  s.updCapture ch fun k => if k.state = .idle then k else { k with state := .stopped }

/-- INDEX and AUTO of a path's LOOP_CAP_IDX (11 R329). -/
def capIndex (p : PathSt) : Nat := (p.capIdx.extractLsb' 0 14).toNat

/-- The record that a path's LOOP_CAP_IDX selects; none at or beyond COUNT (11 R329). -/
def capRecord (s : State) (path : Path) : Option CapRec :=
  let p := s.path path
  (Store.get {} s.loop.caps p.cap.toNat).recs[capIndex p]?

/-- LOOP_CAP_TAG (11 R329). -/
def capTag (s : State) (path : Path) : Word :=
  match capRecord s path with
  | some r => (r.time.cycle.setWidth 16 : BitVec 16) ++ r.time.angle
  | none => 0

/-- A read of LOOP_CAP_TAG increments INDEX with AUTO set (11 R329). -/
def capTagStep (path : Path) (s : State) : State :=
  s.updPath path fun p =>
    if p.capIdx.getLsbD 31 then
      { p with capIdx := 0x80000000 ||| BitVec.ofNat 32 ((capIndex p + 1) % 16384) }
    else p

/-- A parameter of a loop as LPR reads it, in raw Q8.24 or as an integer code; the flag says Q8.24 (09 R266, 11 R322). -/
def loopParam (x : LoopSt) (code : Nat) : Int × Bool :=
  match code with
  | 1 => (x.spw, true)
  | 2 => (x.spt, true)
  | 3 => (x.pv, true)
  | 4 => (x.u, true)
  | 5 => (boolNat x.manual, false)
  | 6 => (x.man, true)
  | 7 => (x.kp, true)
  | 8 => (x.ti, false)
  | 9 => (x.td, false)
  | 10 => (x.lo, true)
  | 11 => (x.hi, true)
  | 12 => (x.ramp, true)
  | 13 => (x.e, true)
  | _ => (0, false)

/-- Integral time that a write of code 0x08 gives (11 R322). -/
def tiRange (member : Bool) (v : Int) : Int :=
  if v ≤ 0 then (if member then 10 else 0) else clampI v 10 3600000

/-- Value of a parameter write clamped into its range (11 R322). -/
def paramRange (x : LoopSt) (member : Bool) (code : Nat) (v : Int) : Int :=
  match code with
  | 2 => clampI v 0 q24
  | 5 => clampI v 0 1
  | 6 => clampI v 0 q24
  | 7 => clampI v 1 (100 * q24)
  | 8 => tiRange member v
  | 9 => clampI v 0 600000
  | 10 => clampI v 0 x.hi
  | 11 => clampI v x.lo q24
  | 12 => clampI v 0 (16 * q24)
  | _ => v

/-- A loop with a parameter set (09 R266, 11 R310, R312). -/
def setParam (x : LoopSt) (code : Nat) (v : Int) : LoopSt :=
  match code with
  | 2 => { x with spt := v }
  | 5 => { x with manual := decide (v ≠ 0) }
  | 6 => { x with man := v }
  | 7 => { x with kp := v }
  | 8 => { x with ti := v.toNat }
  | 9 => { x with td := v.toNat }
  | 10 => { x with lo := v }
  | 11 => { x with hi := v }
  | 12 => { x with ramp := v }
  | _ => x

/-- Raw value that a slot writes: DINT as it is, LREAL rounded into Q8.24; for a NaN the manual states none, and it
is free (09 R266). -/
def paramRaw (t : Ty) (v : DWord) (s : State) : Int × State :=
  if t = .lreal then
    match slotF t v with
    | .nan => let (x, s) := drawFree s; ((BitVec.ofNat 32 x).toInt, s)
    | .inf n => (if n then -2147483648 else 2147483647, s)
    | .fin n m e =>
      let (a, b) := ratOf n m e
      (sat32 (roundRat (a * q24) b), s)
  else (slotInt t v, s)

/-- A loop parameter write at its commit: its effect, and 1 when the value was clamped (09 R266, 11 R322). -/
def writeParam (n code : Nat) (t : Ty) (v : DWord) (s : State) : State × Nat :=
  let x := s.loopSt n
  let (raw, s) := paramRaw t v s
  let w := paramRange x (overrideOf s n).isSome code raw
  (s.updLoopSt n fun x => setParam x code w, boolNat (decide (w ≠ raw)))

end Sys2Proof.Machine
end

