-- ==== Sys2Proof/Machine/FieldOps.lean ====
section
/-! DEFINITION. Field outputs and inputs: what each output is commanded to, what the I/O dies apply, filtered inputs,
readback, thermal shutdown, watchdogs and field supplies (15). -/

namespace Sys2Proof.Machine

open Sys2Proof

/-- The safe state of a channel; an unused channel or an input holds its switch off (04 R83, R93; 15 R423). -/
def safeOn (s : State) (n : Nat) : Bool := s.fio.safe.getLsbD n && switchable s n

/-- The channel whose binding commands a channel: the lowest of its parallel set (15 R429, R434). -/
def leaderOf (s : State) (n : Nat) : Nat :=
  let c := channelOf s n
  if c.pset = 0 then n
  else (((List.range 8).map (fun i => groupOf n * 8 + i)).find? fun m => (channelOf s m).pset == c.pset).getD n

/-- A loop's command of a local channel (15 R425, 11 R319). -/
def loopOn (s : State) (n : Nat) : Option Bool :=
  (s.loopTable.find? fun c => c.outKind == 1 && c.dest / 2 ^ n % 2 == 1).map fun c => (s.loopSt c.num).drive

/-- The command of an output from the handover on (15 R425, 04 R97). -/
def programOn (s : State) (n : Nat) : Bool :=
  match persistentOn s n with
  | some v => v
  | none =>
    match loopOn s n with
    | some v => v
    | none =>
      match (channelOf s (leaderOf s n)).bind with
      | some i => Store.get 0 s.scan.data i != 0
      | none => false

/-- The command of an output at stages 0 and 1: interlocks, the mooring loop, else the safe state; an unused channel
holds its switch off (04 R87, R97; 15 R423). -/
def mooringCommand (s : State) (n : Nat) : Bool :=
  switchable s n && (match interlockOn s n with
    | some v => v
    | none => (mooringOn s n).getD (safeOn s n))

/-- The logic has been turned to the safe pattern by a flush, which stands also once it has halted (04 R87, R106). -/
def patternHeld (s : State) : Bool := s.start.power == .flush || s.start.power == .halted

/-- The command of a channel's switch by the party that drives it (04 R87, 15 R424, R425). -/
def wantOut (s : State) (n : Nat) : Bool :=
  if !s.fio.loaded then false
  else if patternHeld s then safeOn s n
  else if s.start.stage < 2 then mooringCommand s n
  else isOutput s n && programOn s n

/-- FIO_STATUS.CONTROL (15 R444). -/
def fioControl (s : State) : Nat :=
  if !s.fio.loaded then 0
  else if patternHeld s ∨ s.start.stage = 0 then 1
  else if s.start.stage = 1 then 2
  else 3

/-- Write an input variable where it changes. -/
def noteInput (t : Ty) (i : Nat) (v : DWord) (s : State) : State :=
  if readSlot s.scan.data t i = v then s else writeInput t i v s

/-- The status variables of the outputs and the fault variable (15 R427, R437, R438). -/
def reportField (s : State) : State :=
  match (if s.start.adopted then s.man.bind (·.field) else none) with
  | none => s
  | some f =>
    let s := (f.chans.zipIdx).foldl (fun s (c, n) =>
      match c.sbind with
      | some i => noteInput .usint i ((statusBits s n).setWidth 64) s
      | none => s) s
    match f.faultVar with
    | some i => noteInput .bool i (if s.fio.fault then 1 else 0) s
    | none => s

/-- Readback mismatches that still stand: on an output that is not released (15 R437). -/
def standing (s : State) (n : Nat) : Bool :=
  s.fio.mismatch.getLsbD n && isOutput s n && !releasedOut s n && s.fio.filtered.getLsbD n != s.fio.cmd.getLsbD n

/-- An update to the I/O dies: every output applies its command (15 R425, R426, R440, R441). -/
def applyOutputs (s : State) : State :=
  let want := bits32 (wantOut s)
  let s := s.updFio fun f => { f with cmd := want, await := f.await &&& want }
  let s := s.updFio fun f => { f with applied := bits32 fun n => dieApplies s n (want.getLsbD n) }
  reportField (s.updFio fun f => { f with mismatch := bits32 (standing s) })

/-- Turn every local output off, as a reset does (04 R87, R104). -/
def outputsOff (s : State) : State := s.updFio fun f => { f with applied := 0 }

/-- The outputs that R413 keeps are kept no longer: FENCE_IN is high, or the 100 µs are over (14 R413). -/
def endKept (s : State) : State := s.updFio fun f => { f with kept := false }

/-- An update, and the conditions of FAULT that still hold at the next sample (15 R426, R437). -/
def ioUpdate (s : State) : State :=
  let s := applyOutputs s
  reportField (if faultConditions s then setFault s else s)

/-- Changes of a channel that a measurement window can still need: the last ten seconds (11 R308, 04 R95). -/
def keepHist (now : Nat) (l : List (Nat × Bool)) : List (Nat × Bool) := l.filter fun x => decide (now < x.1 + 10 ^ 10 + 1)

/-- The filtered state of an input, or the readback state of an output, changes (15 R431, R436, R446). An unused channel
ignores its input. -/
def filterChange (n : Nat) (v : Bool) (s : State) : State :=
  let c := channelOf s n
  if c.mode = .unused ∨ s.fio.filtered.getLsbD n = v then s
  else
    let now := s.clk.hfNs
    let s := s.updFio fun f =>
      { f with filtered := putBit f.filtered n v
               hist := Store.upd [] f.hist n fun l => (now, v) :: keepHist now l
               edges := if v then Store.upd 0 f.edges n (· + 1) else f.edges }
    let s := match c.mode, (if s.start.adopted then c.bind else none) with
      | .input, some i => writeInput .bool i (if v then 1 else 0) s
      | _, _ => s
    reportField (s.updFio fun f => { f with mismatch := bits32 (standing s) })

/-- An output's readback has differed from its command for 1 ms (15 R437). -/
def readbackDiffers (n : Nat) (s : State) : State :=
  if isOutput s n && !releasedOut s n && s.fio.filtered.getLsbD n != s.fio.cmd.getLsbD n then
    reportField (setFault (s.updFio fun f => { f with mismatch := putBit f.mismatch n true }))
  else s

/-- An output enters thermal shutdown, and its parallel set is turned off (15 R434, R437). -/
def thermalTrip (n : Nat) (s : State) : State :=
  if isOutput s n then applyOutputs (setFault (s.updFio fun f => { f with thermal := putBit f.thermal n true })) else s

/-- The channels of a channel's set, itself included (15 R434, R435). -/
def setOf (s : State) (n : Nat) : List Nat :=
  let c := channelOf s n
  if c.pset = 0 ∨ s.start.stage < 2 then [n]
  else ((List.range 8).map (fun i => groupOf n * 8 + i)).filter fun m => (channelOf s m).pset == c.pset

/-- Every channel of the set has cooled: it restarts (15 R434). -/
def thermalCooled (n : Nat) (s : State) : State :=
  applyOutputs (s.updFio fun f => { f with thermal := (setOf s n).foldl (fun w m => putBit w m false) f.thermal })

/-- Watchdog state of an output: the safe pattern before the handover (15 R424, R440). -/
def watchdogOn (s : State) (n : Nat) : Bool :=
  if s.start.stage < 2 then safeOn s n
  else isOutput s n && (match (channelOf s n).wstate with
    | .off => false
    | .on => true
    | .hold => s.fio.applied.getLsbD n)

/-- T_SAFE of a group passes without an update: latched until the next start (15 R440). Before the safe pattern is
loaded the watchdog is not armed (15 R424). -/
def dieWatchdog (g : Nat) (s : State) : State :=
  if s.fio.loaded && !s.fio.wdog.getLsbD g then
    let held := bits32 fun n => if groupOf n = g then watchdogOn s n else s.fio.wdogOut.getLsbD n
    applyOutputs (setFault (s.updFio fun f => { f with wdog := putBit f.wdog g true, wdogOut := held }))
  else s

/-- A channel of the group is in use (15 R437). -/
def groupUsed (s : State) (g : Nat) : Bool := (List.range 8).any fun i => (channelOf s (8 * g + i)).mode != .unused

/-- The group timer of a die expires: its outputs are off until the next start, and it no longer answers (15 R440, R437). -/
def groupExpired (g : Nat) (s : State) : State :=
  let s := s.updFio fun f => { f with expired := putBit f.expired g true }
  applyOutputs (if groupUsed s g then setFault s else s)

/-- The channel table changes at adoption: an unused channel ignores its input, and every bound input variable takes its
channel's filtered state (15 R423, R428, R431). -/
def bindInputs (s : State) : State :=
  let s := s.updFio fun f => { f with filtered := f.filtered &&& bits32 fun n => (channelOf s n).mode != .unused }
  ((channelsOf s).zipIdx).foldl (fun s (c, n) =>
    match c.mode, c.bind with
    | .input, some i => noteInput .bool i (if s.fio.filtered.getLsbD n then 1 else 0) s
    | _, _ => s) s

/-- VFLD of a group leaves its range (15 R440, R437). -/
def supplyLost (g : Nat) (s : State) : State :=
  let s := s.updFio fun f => { f with supply := putBit f.supply g true }
  applyOutputs (if groupUsed s g then setFault s else s)

/-- VFLD of a group is back: its outputs await an off command (15 R441). -/
def supplyBack (g : Nat) (s : State) : State :=
  if s.fio.supply.getLsbD g then
    let out := bits32 fun n => decide (groupOf n = g) && (channelOf s n).mode != .input
    applyOutputs (s.updFio fun f => { f with supply := putBit f.supply g false, await := f.await ||| out })
  else s

/-- The output-stage test of a standby: the readback of the internal load against the active unit's command (15 R443,
14 R414). -/
def stageTest (n : Nat) (readback : Bool) (s : State) : State :=
  if s.isStandby && isOutput s n && readback != wantOut s n then
    raise 198 (s.updPair fun p => { p with outFail := true })
  else s

end Sys2Proof.Machine
end

