-- ==== Sys2Proof/Machine/TicOps.lean ====
section
/-! DEFINITION. The TIC interpreter's shared operations: which scan a core pair runs, faults, the evaluation stack,
variables, the landing buffer and the operators (09, 10 R279, R283). -/

namespace Sys2Proof.Machine

open Sys2Proof

/-- Entry of a task in the adopted table (10 R275). -/
def taskCfg (s : State) (t : Nat) : Option TaskCfg := (s.man.map (·.tasks.tasks)).bind (·.find? (·.num == t))

/-- The spare core pair, when it is healthy and runs no tasks of its own (05 R123, R133). -/
def freeSpare (s : State) : Option Nat :=
  match s.place.cur.sparePair with
  | some p => if s.place.cur.spareUsed || s.place.coreFault.getLsbD p then none else some p
  | none => none

/-- Core pair on which a scan runs (10 R279, R289, R290). -/
def runPair (s : State) (t : Nat) (r : Run) : Nat :=
  let q := Store.get 0 s.place.cur.taskPair t
  if r.again || s.place.coreFault.getLsbD q then (freeSpare s).getD q else q

/-- A scan can execute its next instruction. -/
def Run.live (r : Run) : Bool :=
  !r.done && !r.waitFix && r.held.isNone && (match r.phase with
    | .ready | .running | .speculating | .replaying | .reexecuting => true
    | _ => false)

/-- Scan `a` of task `t` comes before scan `b` of task `u` on their core pair (10 R279). -/
def runsBefore (s : State) (t : Nat) (a : Run) (u : Nat) (b : Run) : Bool :=
  let p := fun x => (taskCfg s x).elim 32 (·.prio)
  decide (p t < p u) || (decide (p t = p u) && (decide (a.readyNo < b.readyNo) || (decide (a.readyNo = b.readyNo) && decide (t < u))))

/-- The scan of a task is the one that its core pair executes (10 R279). -/
def isRunning (s : State) (t : Nat) (r : Run) : Bool :=
  r.live && s.scan.tasks.all fun (u, k) =>
    u == t || (match k.run with
      | some b => !b.live || runPair s u b != runPair s t r || runsBefore s t r u b
      | none => true)

/-- Queue a cause for the error task (10 R278). -/
def queueCause (c : ErrCause) (s : State) : State :=
  if s.scan.errq.length < 32 then s.updScan fun x => { x with errq := x.errq ++ [c] }
  else raise 166 (s.updScan fun x => { x with errDropped := satInc x.errDropped })

/-- Abandon the scan of a task: nothing of its landing buffer becomes real. -/
def abandonScan (t : Nat) (s : State) : State := s.updTask t fun k => { k with run := none }

/-- A scan that a core pair has run counts for its mismatch history (05 R131). -/
def countPairScan (t : Nat) (r : Run) (s : State) : State :=
  let q := runPair s t r
  s.updPlace fun p => { p with pairScans := Store.upd 0 p.pairScans q (· + 1) }

/-- A scan that ends without a commit was run by its core pair all the same (05 R131). -/
def countEnded (t : Nat) (s : State) : State :=
  match (s.task t).run with
  | some r => countPairScan t r s
  | none => s

/-- What an interpreter fault does (09 R272). -/
def realFault (c : ErrCause) (s : State) : State :=
  let s := abandonScan c.task (countEnded c.task s)
  let s := s.updTask c.task fun k => { k with faults := satInc k.faults }
  let s := addRec { source := 160, sev := 5, sub := c.task
                    payload := BitVec.ofNat 64 (c.off + c.code * 2 ^ 32) } s
  let s := raise 160 s
  if c.task = 0 then s else queueCause c s

/-- A scan faults: in a speculated execution the fault is held until resolution (10 R287). -/
def ticFault (t code : Nat) (r : Run) (s : State) : State :=
  let c : ErrCause := { code := code, task := t, off := r.pc }
  if r.spec then s.updTask t fun k => { k with run := some { r with held := some c } }
  else realFault c s

/-- What executing one instruction gives: the scan after it, a fault, or no effect. -/
inductive TicRes where
  | ok (r : Run) (s : State)
  | fault (code : Nat)
  | none

/-- Replace one slot by a function of it. -/
def mapTop (r : Run) (f : DWord → DWord) : Option Run :=
  match r.stack with
  | a :: k => some { r with stack := f a :: k }
  | _ => none

/-- Replace the two top slots, left below right, by a function of left and right (09 R255). -/
def mapTwo (r : Run) (f : DWord → DWord → DWord) : Option Run :=
  match r.stack with
  | b :: a :: k => some { r with stack := f a b :: k }
  | _ => none

/-- Type groups of the instruction table (09 R243). -/
def tyN (t : Ty) : Bool := t != .bool
def tyI (t : Ty) : Bool :=
  match t with
  | .bool | .real | .lreal | .time | .ldt => false
  | _ => true
def tyB (t : Ty) : Bool :=
  match t with
  | .bool | .usint | .uint | .udint | .ulint => true
  | _ => false

/-- An instruction of the table only where its TYPE is allowed (09 R253). -/
def given (b : Bool) (r : Option Run) : Option Run := if b then r else none

/-- Index of an operand: absolute, or relative to the frame base (09 R241, R254). -/
def operandIndex (r : Run) (rel : Bool) (off : BitVec 20) : Nat := if rel then r.base + off.toNat else off.toNat

/-- The entry that a scan holds for a variable (09 R250). -/
def landed (r : Run) (i : Nat) : Option DWord :=
  r.entries.findSome? fun e => match e with
    | .store j _ v => if j = i then some v else none
    | _ => none

/-- A variable as the scan sees it (09 R250, 10 R282). -/
def readVar (r : Run) (t : Ty) (i : Nat) : DWord :=
  match landed r i with
  | some v => canon t v
  | none => readSlot r.image t i

/-- The words of a variable. -/
def varWords (t : Ty) (i : Nat) : List Nat := if tyWords t = 2 then [i, i + 1] else [i]

/-- A load: outstanding inputs of a speculated scan are recorded with the word used (10 R286). -/
def loadVar (r : Run) (t : Ty) (i : Nat) : DWord × Run :=
  let v := readVar r t i
  if r.spec && (landed r i).isNone then
    let w := ((varWords t i).filter (fun j => r.watch.contains j && !(r.loads.any (·.1 == j)))).map
      (fun j => (j, Store.get 0 r.image j))
    (v, { r with loads := r.loads ++ w })
  else (v, r)

/-- Push a variable. -/
def pushVar (t : Ty) (i : Nat) (r : Run) : Run :=
  let (v, r) := loadVar r t i
  { r with stack := v :: r.stack }

/-- Entries of a store area (10 R283). -/
def storeRoom (c : TaskCfg) (r : Run) : Bool := decide ((r.entries.length + 1) * 16 ≤ c.storeSize)

/-- Put an entry into the store area: one that `same` accepts is reused, else a free one is taken; none is
LANDING_FULL (10 R283). -/
def landEntry (c : TaskCfg) (r : Run) (same : Landing → Bool) (e : Landing) : Option Run :=
  if r.entries.any same then some { r with entries := r.entries.map (fun x => if same x then e else x) }
  else if storeRoom c r then some { r with entries := r.entries ++ [e] }
  else none

/-- A store to a variable (09 R250, 10 R283). -/
def storeVar (c : TaskCfg) (r : Run) (t : Ty) (i : Nat) (v : DWord) : Option Run :=
  landEntry c r (fun e => match e with
    | .store j _ _ => j == i
    | _ => false) (.store i t (canon t v))

/-- A scan after a store that needs an entry, or LANDING_FULL. -/
def okOrFull (o : Option Run) (s : State) : TicRes :=
  match o with
  | some r => .ok r s
  | none => .fault 5

/-- Pop the top slot into a variable. -/
def popStore (t : Ty) (i : Nat) (c : TaskCfg) (r : Run) (s : State) : TicRes :=
  match r.stack with
  | v :: k => okOrFull (storeVar c { r with stack := k } t i v) s
  | _ => .none

/-- Element that LDIX and STIX address: inside the region that holds the operand (09 R262). -/
def elementIndex (s : State) (t : Ty) (base : Nat) (i : Int) : Option Nat :=
  match regionAt s.dataArea base with
  | none => none
  | some g =>
    let j : Int := (base : Int) + i * (tyWords t : Nat)
    if 0 ≤ i ∧ j < (g.stop : Int) then some j.toNat else none

/-- Integer or floating-point arithmetic of ADD, SUB and MUL by code 0, 1, 2 (09 R256, R257). -/
def arith (op : Nat) (t : Ty) (a b : DWord) : DWord :=
  if tyFloat t then
    let x := slotF t a
    let y := slotF t b
    fSlot t (match op with
      | 0 => addF x y
      | 1 => addF x (negF y)
      | _ => mulF x y)
  else
    let x := slotInt t a
    let y := slotInt t b
    intSlot t (match op with
      | 0 => x + y
      | 1 => x - y
      | _ => x * y)

/-- DIV of nonzero integers, or of floating-point numbers (09 R256, R257). -/
def divSlot (t : Ty) (a b : DWord) : DWord :=
  if tyFloat t then
    let (v, st) := divF (slotF t a) (slotF t b)
    fSlot t v st
  else intSlot t ((slotInt t a).tdiv (slotInt t b))

/-- NEG (09 R256, R257). -/
def negSlot (t : Ty) (a : DWord) : DWord :=
  if tyFloat t then fSlot t (negF (slotF t a)) else intSlot t (-(slotInt t a))

/-- ABS (09 R256, R257). -/
def absSlot (t : Ty) (a : DWord) : DWord :=
  if tyFloat t then
    fSlot t (match slotF t a with
      | .fin _ m e => .fin false m e
      | .inf _ => .inf false
      | .nan => .nan)
  else intSlot t ((slotInt t a).natAbs : Int)

/-- Order of two slots as a type; none with a NaN (09 R257). -/
def cmpSlot (t : Ty) (a b : DWord) : Option Ordering :=
  if tyFloat t then cmpF (slotF t a) (slotF t b) else some (compare (slotInt t a) (slotInt t b))

/-- A comparison by code 0 EQ, 1 NE, 2 LT, 3 LE, 4 GT, 5 GE (09 R255, R257). -/
def compareSlot (op : Nat) (t : Ty) (a b : DWord) : DWord :=
  boolSlot (match cmpSlot t a b with
    | none => op == 1
    | some o => match op with
      | 0 => o == .eq
      | 1 => o != .eq
      | 2 => o == .lt
      | 3 => o != .gt
      | 4 => o == .gt
      | _ => o != .lt)

/-- The canonical NaN of a type. -/
def nanSlot (t : Ty) : DWord := fSlot t .nan

/-- MIN: the left operand when equal (09 R255, R257). -/
def minSlot (t : Ty) (a b : DWord) : DWord :=
  match cmpSlot t a b with
  | none => nanSlot t
  | some o => if o = .gt then canon t b else canon t a

/-- MAX: the left operand when equal (09 R255, R257). -/
def maxSlot (t : Ty) (a b : DWord) : DWord :=
  match cmpSlot t a b with
  | none => nanSlot t
  | some o => if o = .lt then canon t b else canon t a

/-- LIMIT (09 R255, R257). -/
def limitSlot (t : Ty) (mn x mx : DWord) : DWord :=
  if tyFloat t && (slotF t mn == .nan || slotF t x == .nan || slotF t mx == .nan) then nanSlot t
  else minSlot t (maxSlot t x mn) mx

/-- NOT: complement within the width, or BOOL negation (09 R255). -/
def notSlot (t : Ty) (a : DWord) : DWord :=
  if t = .bool then boolSlot (!slotBool a) else canon t (~~~ canon t a)

/-- SHL, SHR, ROL and ROR by code 0 to 3: N a DINT (09 R258). -/
def shiftSlot (op : Nat) (t : Ty) (x n : DWord) : DWord :=
  let w := tyBits t
  let v := (canon t x).toNat
  let k := slotInt .dint n
  let u := (canon .udint n).toNat % w
  let out := decide (k < 0 ∨ (w : Int) ≤ k)
  match op with
  | 0 => if out then 0 else canon t (BitVec.ofNat 64 (v * 2 ^ k.toNat))
  | 1 => if out then 0 else BitVec.ofNat 64 (v / 2 ^ k.toNat)
  | 2 => BitVec.ofNat 64 (v * 2 ^ u % 2 ^ w + v / 2 ^ (w - u))
  | _ => BitVec.ofNat 64 (v / 2 ^ u + v % 2 ^ u * 2 ^ (w - u))

/-- CVT: the target slot, and whether a NaN or a saturation counts as a clamp (09 R259). -/
def convertSlot (t u : Ty) (a : DWord) : DWord × Bool :=
  if t = .bool then
    (if tyFloat u then fSlot u (intF (boolNat (slotBool a))) else boolSlot (slotBool a), false)
  else if u = .bool then
    (if tyFloat t then
      boolSlot (match slotF t a with
        | .fin _ m _ => decide (m ≠ 0)
        | _ => true)
     else boolSlot (decide (slotInt t a ≠ 0)), false)
  else if tyFloat t then
    if tyFloat u then (fSlot u (slotF t a), false)
    else let (i, c) := toIntSat u (slotF t a); (intSlot u i, c)
  else if tyFloat u then (fSlot u (intF (slotInt t a)), false)
  else (intSlot u (slotInt t a), false)

/-- Count one clamp of a task (09 R259, R268). -/
def countClamp (t : Nat) (s : State) : State := s.updTask t fun k => { k with clamps := k.clamps + 1 }

/-- Store an instance word only where it changed (09 R601). -/
def storeChanged (c : TaskCfg) (t : Ty) (i : Nat) (v : DWord) (r : Option Run) : Option Run :=
  match r with
  | none => none
  | some r => if readVar r t i = canon t v then some r else storeVar c r t i v

/-- State bits of an instance word replaced under a mask (09 R260, R601). -/
def withBits (w : DWord) (mask : Nat) (bits : Nat) : DWord :=
  (w &&& ~~~ BitVec.ofNat 64 mask) ||| BitVec.ofNat 64 bits

/-- A TON, TOF or TP instance: its inputs, Q, whether it runs, ET and start, as Int nanoseconds (09 R261). -/
structure TimerSt where
  q : Bool
  run : Bool
  et : Int
  start : Int

/-- TON (09 R261). -/
def tonStep (now pt : Int) (inp last : Bool) (x : TimerSt) : TimerSt :=
  if inp then
    let st := if last then x.start else now
    let et := min (now - st) pt
    { q := decide (pt ≤ et), run := if last then x.run else true, et := et, start := st }
  else { x with q := false, et := 0, run := false }

/-- TOF (09 R261). -/
def tofStep (now pt : Int) (inp last : Bool) (x : TimerSt) : TimerSt :=
  if inp then { x with q := true, et := 0, run := false }
  else
    let x := if last then { x with start := now, run := true } else x
    if x.run then
      let et := min (now - x.start) pt
      if pt ≤ et then { x with et := et, q := false, run := false } else { x with et := et }
    else x

/-- TP (09 R261). -/
def tpStep (now pt : Int) (inp last : Bool) (x : TimerSt) : TimerSt :=
  let x := if !x.run && inp && !last then { x with start := now, run := true } else x
  let x := if x.run then
      let et := min (now - x.start) pt
      { x with et := et, run := decide (et < pt) }
    else x
  let x := { x with q := x.run }
  if !x.run && !inp then { x with et := 0 } else x

/-- One timer instruction (09 R260, R261, R601). -/
def timerInstr (f : Int → Int → Bool → Bool → TimerSt → TimerSt) (b : Nat) (c : TaskCfg) (r : Run) (s : State) : TicRes :=
  match r.stack with
  | pt :: inp :: k =>
    let i := slotBool inp
    let r := { r with stack := k }
    let (w, r) := loadVar r .udint b
    let (et, r) := loadVar r .time (b + 2)
    let (st, r) := loadVar r .time (b + 4)
    let x := f (r.now : Int) (max 0 (slotInt .time pt)) i (w.getLsbD 0)
      { q := w.getLsbD 1, run := w.getLsbD 2, et := slotInt .time et, start := slotInt .time st }
    let w' := BitVec.ofNat 64 (boolNat i + 2 * boolNat x.q + 4 * boolNat x.run)
    let o := storeChanged c .udint b w' (some { r with stack := boolSlot x.q :: k })
    let o := storeChanged c .time (b + 2) (intSlot .time x.et) o
    okOrFull (storeChanged c .time (b + 4) (intSlot .time x.start) o) s
  | _ => .none

/-- Count up, saturating (09 R261). -/
def countUp (edge : Bool) (cv : Int) : Int := if edge && decide (cv < 2147483647) then cv + 1 else cv

/-- Count down, saturating (09 R261). -/
def countDown (edge : Bool) (cv : Int) : Int := if edge && decide (-2147483648 < cv) then cv - 1 else cv

/-- End of a counter instruction: its words and its result (09 R260, R601). -/
def counterEnd (b : Nat) (w' : DWord) (cv : Int) (q : Bool) (k : List DWord) (c : TaskCfg) (r : Run) (s : State) : TicRes :=
  let o := storeChanged c .udint b w' (some { r with stack := boolSlot q :: k })
  okOrFull (storeChanged c .dint (b + 1) (intSlot .dint cv) o) s

/-- CTU (09 R261, R601). -/
def ctuInstr (b : Nat) (c : TaskCfg) (r : Run) (s : State) : TicRes :=
  match r.stack with
  | pv :: rs :: cu :: k =>
    let (w, r) := loadVar r .udint b
    let (v, r) := loadVar r .dint (b + 1)
    let u := slotBool cu
    let cv := if slotBool rs then 0 else countUp (u && !w.getLsbD 0) (slotInt .dint v)
    let q := decide (slotInt .dint pv ≤ cv)
    counterEnd b (withBits w 5 (boolNat u + 4 * boolNat q)) cv q k c r s
  | _ => .none

/-- CTD (09 R261, R601). -/
def ctdInstr (b : Nat) (c : TaskCfg) (r : Run) (s : State) : TicRes :=
  match r.stack with
  | pv :: ld :: cd :: k =>
    let (w, r) := loadVar r .udint b
    let (v, r) := loadVar r .dint (b + 1)
    let d := slotBool cd
    let cv := if slotBool ld then slotInt .dint pv else countDown (d && !w.getLsbD 1) (slotInt .dint v)
    let q := decide (cv ≤ 0)
    counterEnd b (withBits w 6 (2 * boolNat d + 4 * boolNat q)) cv q k c r s
  | _ => .none

/-- CTUD (09 R261). -/
def ctudInstr (b : Nat) (c : TaskCfg) (r : Run) (s : State) : TicRes :=
  match r.stack with
  | pv :: ld :: rs :: cd :: cu :: k =>
    let (w, r) := loadVar r .udint b
    let (v, r) := loadVar r .dint (b + 1)
    let u := slotBool cu
    let d := slotBool cd
    let p := slotInt .dint pv
    let cv := if slotBool rs then 0
      else if slotBool ld then p
      else countDown (d && !w.getLsbD 1) (countUp (u && !w.getLsbD 0) (slotInt .dint v))
    let qu := decide (p ≤ cv)
    let qd := decide (cv ≤ 0)
    counterEnd b (withBits w 15 (boolNat u + 2 * boolNat d + 4 * boolNat qu + 8 * boolNat qd)) cv qu k c r s
  | _ => .none

/-- R_TRIG and F_TRIG (09 R261). -/
def trigInstr (rising : Bool) (b : Nat) (c : TaskCfg) (r : Run) (s : State) : TicRes :=
  match r.stack with
  | clk :: k =>
    let (w, r) := loadVar r .udint b
    let x := slotBool clk
    let last := w.getLsbD 0
    let q := if rising then x && !last else !x && last
    okOrFull (storeChanged c .udint b (withBits w 1 (boolNat x)) (some { r with stack := boolSlot q :: k })) s
  | _ => .none

/-- Type that an LDS selector requires (09 R268). -/
def ldsType (sel : Nat) : Option Ty :=
  match sel with
  | 0 | 8 | 10 | 11 => some .udint
  | 1 => some .uint
  | 2 => some .lint
  | 3 | 6 => some .bool
  | 4 | 5 | 9 => some .usint
  | 7 => some .time
  | _ => none

/-- Value of an LDS selector (09 R268). -/
def ldsValue (v : LdsValues) (sel : Nat) : DWord :=
  match sel with
  | 0 => v.cycle.setWidth 64
  | 1 => v.angle.setWidth 64
  | 2 => v.ntime
  | 3 => boolSlot v.first
  | 4 => v.stage.setWidth 64
  | 5 => v.pair.setWidth 64
  | 6 => boolSlot v.forced
  | 7 => v.period
  | 8 => v.faultCode.setWidth 64
  | 9 => v.faultTask.setWidth 64
  | 10 => v.faultOff.setWidth 64
  | _ => v.clamps.setWidth 64

/-- Parameters that LPW may write (09 R266). -/
def paramWritable (code : Nat) : Bool :=
  decide (code = 2 ∨ (5 ≤ code ∧ code ≤ 12))

/-- Parameters in integer form (09 R266). -/
def paramInteger (code : Nat) : Bool := decide (code = 5 ∨ code = 8 ∨ code = 9)

/-- TYPE and code of an LPR or LPW are allowed (09 R253, R266). -/
def paramAllowed (t : Ty) (code : Nat) : Bool :=
  decide (1 ≤ code ∧ code ≤ 13) && (t == .dint || (t == .lreal && !paramInteger code))

/-- LPR (09 R266). -/
def lprInstr (t : Ty) (n code : Nat) (r : Run) (s : State) : TicRes :=
  if paramAllowed t code && (loopCfg s n).isSome then
    let (v, _) := loopParam (Store.get {} r.loops n) code
    let x := if t = .lreal then fSlot .lreal (.fin (decide (v < 0)) v.natAbs (-24)) else intSlot .dint v
    .ok { r with stack := x :: r.stack } s
  else .none

/-- LPW: a distinct loop parameter takes its own entry (09 R266, 10 R283). -/
def lpwInstr (t : Ty) (n code : Nat) (c : TaskCfg) (r : Run) (s : State) : TicRes :=
  if paramAllowed t code && paramWritable code && (loopCfg s n).isSome then
    match r.stack with
    | v :: k =>
      okOrFull (landEntry c { r with stack := k } (fun e => match e with
        | .lpw n' p _ _ => n' == n && p == code
        | _ => false) (.lpw n code t (canon t v))) s
    | _ => .none
  else .none

/-- Journal writes of a scan so far. -/
def jrnCount (r : Run) : Nat := (r.entries.filter (fun e => match e with
  | .jrn .. => true
  | _ => false)).length

/-- JRN: after 256 writes of a scan, later ones are discarded and counted as dropped (09 R267, 17 R490). -/
def jrnInstr (src sev code sub : Nat) (c : TaskCfg) (r : Run) (s : State) : TicRes :=
  match r.stack with
  | v :: k =>
    let r := { r with stack := k }
    if 256 ≤ jrnCount r then .ok r (raise 216 (dropRecs 1 s))
    else okOrFull (landEntry c r (fun _ => false) (.jrn src sev code sub v)) s
  | _ => .none

/-- Begin a POU: its frame base, its own empty share of the evaluation stack, and the word to return to (09 R254). -/
def callPou (s : State) (rel : Bool) (base : BitVec 20) (pou : Nat) (r : Run) : Option Run :=
  match (s.man.map (·.code.pous)).bind (·[pou]?) with
  | some p =>
    if p.kind = 1 then none
    else some { r with calls := { pc := r.pc, base := r.base, stack := r.stack, gives := p.result != 0 } :: r.calls
                       stack := [], base := operandIndex r rel base, pc := p.first }
  | none => none

/-- RET: return to the caller with its slots, on which a function pushes its result, or end the scan's execution
(09 R254, 10 R287). -/
def retPou (r : Run) : Run :=
  match r.calls with
  | c :: k => { r with calls := k, pc := c.pc, base := c.base, stack := (if c.gives then r.stack.take 1 else []) ++ c.stack }
  | [] => { r with done := true, phase := if r.spec then .ended else r.phase }

/-- A jump from the word after the present one (09 R255). -/
def jumpBy (off : BitVec 20) (r : Run) : Run := { r with pc := ((r.pc : Int) + off.toInt).toNat }

end Sys2Proof.Machine
end

