-- ==== Sys2Proof/Machine/ScanOps.lean ====
section
/-! DEFINITION. Scans: input freezes, timer time, speculation, commits, mismatches, forces and retained copies (10). -/

namespace Sys2Proof.Machine

open Sys2Proof

/-- Adopted task table. -/
def State.taskTable (s : State) : List TaskCfg := (s.man.map (·.tasks.tasks)).getD []

/-- Number of the state task (10 R274). -/
def State.stateTask (s : State) : Nat := (s.man.map (·.tasks.stateTask)).getD 0

/-- Start mark of a task (02 R33). -/
def startMark (s : State) (t : Nat) : Option TideMark := s.tideSetup.marks.find? (fun m => m.action == 2 && m.param == t)

/-- The period mark's modulus M_opt (02 R35). -/
def periodModulus (s : State) : Nat := ((s.tideSetup.marks.find? (·.action == 1)).map (·.modulus)).getD 1

/-- Task period T in nanoseconds as a quotient (10 R292). -/
def taskPeriod (s : State) (c : TaskCfg) : Nat × Nat :=
  if c.trigger = 1 then (((startMark s c.num).map (·.modulus)).getD 1 * 10 ^ 12, s.tideSetup.nominal)
  else (c.minInterval * 1000, 1)

/-- Timer time of a scan-evaluated timer at a tide time: whole periods, rounded down at the end (10 R292). -/
def scanTime (s : State) (c : TaskCfg) (time : TideTime) : Nat :=
  let (tn, td) := taskPeriod s c
  let n := (time.cycle.toNat * 65536 + time.angle.toNat) * 10 ^ 12
  let d := s.tideSetup.nominal * 65536
  let k := n * td / (d * tn)
  k * tn / td

/-- Timer time of a scan frozen now (10 R291, R292). -/
def timerTime (s : State) (c : TaskCfg) (time : TideTime) : Nat :=
  if s.scan.hwTasks.contains c.num then s.clk.us.toNat * 1000 else scanTime s c time

/-- LDS selector 5: 0 single unit, 1 lockstep, 2 pair without a standby in lockstep (09 R268). -/
def pairStatus (s : State) : BitVec 8 :=
  if s.inPair then (if s.pair.role = .activeLockstep ∨ s.pair.role = .lockstep then 1 else 2) else 0

/-- A force is in effect (10 R298). -/
def State.forcing (s : State) : Bool := s.scan.forces.any (·.2.isSome)

/-- Pin FORCED_N is low (10 R298; 21 R590). -/
def forcedLow (s : State) : Bool := s.forcing

/-- System values that a freeze captures (09 R268). -/
def ldsAt (s : State) (c : TaskCfg) (time : TideTime) (cause : Option ErrCause) : LdsValues :=
  let (tn, td) := taskPeriod s c
  let k := s.task c.num
  { cycle := time.cycle.setWidth 32, angle := time.angle, ntime := BitVec.ofNat 64 (stampNanos s.ntime.now)
    first := !k.committed, stage := s.start.stage.setWidth 8, pair := pairStatus s, forced := s.forcing
    period := BitVec.ofNat 64 (tn / td)
    faultCode := BitVec.ofNat 32 (cause.elim 0 (·.code)), faultTask := BitVec.ofNat 8 (cause.elim 0 (·.task))
    faultOff := BitVec.ofNat 32 (cause.elim 0 (·.off)), clamps := k.clamps }

/-- A scan at the beginning of its execution (09 R254, 10 R281). -/
def freshRun (s : State) (c : TaskCfg) (r : Run) : Run :=
  let p := (s.man.map (·.code.pous)).bind (·[c.entry]?)
  { r with stack := [], calls := [], base := c.frameBase, pc := p.elim 0 (·.first), units := 0, entries := [], delta := [], rejects := []
           events := [], loads := [], held := none, done := false }

/-- What tells one clock edge from another: the instant in ns and in µs, and the tide time. Commands at which all three
are alike stand for one edge. -/
def edgeNow (s : State) : Nat × DWord × TideTime := (s.clk.hfNs, s.clk.us, s.tideNow)

/-- A scan becomes ready: it is numbered in the order of readiness, by clock edges (10 R279). -/
def putRun (t : Nat) (r : Run) (s : State) : State :=
  let e := some (edgeNow s)
  let s := if s.scan.readyEdge = e then s else s.updScan fun x => { x with readies := x.readies + 1, readyEdge := e }
  s.updTask t fun k => { k with run := some { r with readyNo := s.scan.readies } }

/-- Journal record of a force that takes effect or is released (10 R298). -/
def forceRec (slot code : Nat) (index : BitVec 20) (lo : Word) (s : State) : State :=
  raise 165 (addRec { source := 165, sev := 4, sub := slot, code := code
                      payload := BitVec.ofNat 64 (index.toNat + lo.toNat * 2 ^ 32) } s)

/-- Release the force of a slot (10 R297, R298). -/
def releaseForce (slot : Nat) (s : State) : State :=
  match Store.get none s.scan.forces slot with
  | none => s
  | some (i, lo, _) => forceRec slot 2 i lo (s.updScan fun x => { x with forces := Store.set none x.forces slot none })

/-- A force change takes effect (10 R297, R298). -/
def applyForce (c : ForceChange) (s : State) : State :=
  match c with
  | .clear slot => releaseForce slot.toNat s
  | .clearAll => (List.range 256).foldl (fun s n => releaseForce n s) s
  | .set slot i lo hi =>
    let n := slot.toNat
    let s := match Store.get none s.scan.forces n with
      | some (j, _, _) => if j = i then s else releaseForce n s
      | none => s
    let s := s.updScan fun x => { x with forces := Store.set none x.forces n (some (i, lo, hi)) }
    let s := match regionAt s.dataArea i.toNat with
      | some r => if r.kind = 3 then writeWords i.toNat (forceWords r.type (lo, hi)) s else s
      | none => s
    forceRec n 1 i lo s

/-- Pending force and test changes take effect on the edge of the state task's freeze (10 R297, 11 R324). -/
def releasePending (s : State) : State :=
  let l := s.scan.frcPending
  let s := s.updScan fun x => { x with frcPending := [], frcBusy := false, frcDone := x.frcDone || !l.isEmpty }
  releaseTests (l.foldl (fun s c => applyForce c s) s)

/-- Solver deadline marks at or before a tide time that is not past the next one (07 R210). -/
def marksAt (s : State) (time : TideTime) : Nat :=
  match s.sol.mark with
  | none => s.sol.marks
  | some (m, _) =>
    if time.cycle.toNat * 65536 + time.angle.toNat < m.cycle.toNat * 65536 + m.angle.toNat then s.sol.marks - 1
    else s.sol.marks

/-- Freeze the input image of a task and start its scan, waiting or speculating where awaited replies are outstanding
(10 R281, R286). -/
def freezeScan (c : TaskCfg) (time : TideTime) (cause : Option ErrCause) (boundary : Bool) (outstanding watch : List Nat)
    (awaited : Option (BitVec 48)) (s : State) : State :=
  let image := frozenImage s
  let waits := !outstanding.isEmpty
  let r : Run :=
    { phase := if !waits then .ready else if c.spec then .speculating else .awaiting
      start := time, ntime := s.ntime.now, us := s.clk.us, now := timerTime s c time
      scan := (s.task c.num).scans + 1, seen := s.scan.seq, image := image, loops := s.loop.loops
      lds := ldsAt s c time cause, cause := cause, outstanding := outstanding, watch := if waits then watch else []
      awaited := awaited, spec := waits && c.spec, boundary := boundary, marks := marksAt s time }
  let s := s.updTask c.num fun k => { k with frozen := some s.clk.us }
  let s := s.updScan fun x => { x with frozen := image }
  putRun c.num (freshRun s c r) s

/-- A periodic task's start mark finds its previous scan uncommitted (10 R280). -/
def overrun (t : Nat) (s : State) : State :=
  let s := s.updTask t fun k => { k with overruns := satInc k.overruns }
  queueCause { code := 0x102, task := t } (raise 161 s t)

/-- The actual words of the awaited inputs enter a frozen image: those of the accepted replies, which stand in the live input
area. Words of a station that missed, and forced words, are watched no more and keep what the freeze gave them (10 R286,
R287; 12 R348). -/
def withActual (s : State) (r : Run) : Run :=
  { r with image := r.watch.foldl (fun m i => Store.set 0 m i (Store.get 0 s.scan.data i)) r.image, watch := [] }

/-- Outcomes that go with an image: a permission to rejoin only with the state task's (12 R350). -/
def goesNow (state : Bool) (o : StationOutcome) : Bool :=
  match o with
  | .rejoinPermitted _ => state
  | _ => true

/-- The active unit's decision for a speculated scan goes over the crossing link at once, and again with the task's next
image (10 R288). No message type of 14 R399 is its own: it is carried by the scan's IMAGE again, without input words, with the
station outcomes so far. DESIGN CHOICE, log entry 76. -/
def tellDecision (t : Nat) (r : Run) (confirm : Bool) (s : State) : State :=
  if s.inPair && s.isActive then
    let m : ImageMsg :=
      { task := BitVec.ofNat 5 t, scan := r.scan, start := r.start, commitSeen := r.seen, timerNow := r.now, lds := r.lds
        decisions := [(BitVec.ofNat 5 t, confirm)], outcomes := s.stn.forward.filter (goesNow false) }
    let s := s.updTask t fun k => { k with decision := some confirm }
    sendLink (.image m) (s.updStn fun e => { e with forward := e.forward.filter fun o => !goesNow false o })
  else s

/-- A confirmed speculation: a held fault becomes real (10 R287). -/
def confirmScan (t : Nat) (r : Run) (s : State) : State :=
  let s := s.updTask t fun k =>
    { k with confirms := satInc k.confirms
             run := some { r with spec := false, watch := [], loads := [], held := none
                                  phase := if r.phase = .reexecuting then .reexecuting else .running } }
  let s := tellDecision t r true s
  match r.held with
  | some c => realFault c s
  | none => s

/-- A speculated scan that replays on the actual values (10 R287). -/
def replayScan (t : Nat) (c : TaskCfg) (r : Run) (s : State) : State :=
  let r' := freshRun s c (withActual s r)
  raise 162 (tellDecision t r false (s.updTask t fun k =>
    { k with replays := satInc k.replays, run := some { r' with spec := false, replay := true, phase := .replaying } })) t

/-- The recorded inputs of a speculated scan equal their actual values, bit for bit (10 R287). Those of a station that missed
are recorded no more: they are unchanged. -/
def speculationHolds (s : State) (r : Run) : Bool := r.loads.all fun (i, w) => Store.get 0 s.scan.data i == w

/-- Resolution of a scan whose awaited replies are no longer outstanding; `decision` is the active unit's, where it
decides (10 R286 to R288). -/
def resolveScan (t : Nat) (decision : Option Bool) (s : State) : State :=
  match (s.task t).run, taskCfg s t with
  | some r, some c =>
    if r.outstanding.isEmpty then
      if r.spec then
        if decision.getD (speculationHolds s r) then confirmScan t r s else replayScan t c r s
      else if r.phase = .awaiting then putRun t { withActual s r with phase := .ready } s
      else s
    else s
  | _, _ => s

/-- A station that missed leaves its words as the freeze gave them (10 R287). -/
def forgetWords (missed : List Nat) (r : Run) : Run :=
  { r with watch := r.watch.filter fun i => !missed.contains i, loads := r.loads.filter fun x => !missed.contains x.1 }

/-- A station's reply arrived, or its exchange ended without one, which leaves the words `missed` unchanged: scans no longer
await it; those that await nothing more are resolved, a speculation only by the active unit (10 R286 to R288). -/
def stationSettled (stn : Nat) (missed : List Nat) (s : State) : State :=
  s.scan.tasks.foldl (fun s (t, k) =>
    match k.run with
    | some r =>
      if r.outstanding.contains stn then
        let s := s.updRun t fun r => forgetWords missed { r with outstanding := r.outstanding.filter (· != stn) }
        if s.isStandby && r.spec then s else resolveScan t none s
      else s
    | none => s) s

/-- A scan can commit: its execution has ended and no resolution is outstanding (10 R284, R287). -/
def Run.committable (r : Run) : Bool := r.done && !r.spec && r.held.isNone

/-- One entry of the landing buffer becomes real (10 R284). -/
def landingReal (t : Nat) (s : State) (e : Landing) : State :=
  match e with
  | .store i ty v => writeCommitted ty i v s
  | .lpw n p ty v =>
    let (s, c) := writeParam n p ty v s
    if c = 0 then s else countClamp t s
  | .jrn src sev code sub v =>
    addRec { source := 224 + src, sev := sev, sub := sub, code := code, payload := v, prog := true } s

/-- A scan's landing buffer, events and counters at its commit; delta frames and the boundary are the solver's
(10 R282, R284, R301). -/
def commitLanding (t : Nat) (r : Run) (s : State) : State :=
  let s := r.entries.foldl (landingReal t) s
  let s := r.events.foldl (fun s n => raise (224 + n) s) s
  let s := s.updScan fun x => { x with seq := x.seq + 1 }
  s.updTask t fun k =>
    let time := satNat 32 (s.clk.us.toNat - r.us.toNat)
    { k with run := none, scans := k.scans + 1, committed := true, exec := time
             execMax := if k.execMax < time then time else k.execMax
             instr := satNat 32 r.units
             storeHw := satNat 16 (max k.storeHw.toNat r.entries.length)
             deltaHw := satNat 16 (max k.deltaHw.toNat (((r.delta.map List.length).sum + 7) / 8))
             last := r.start.cycle.setWidth 32 }

/-- A first mismatch re-executes a scan from its start (10 R289). -/
def reexecuteScan (t : Nat) (c : TaskCfg) (r : Run) (s : State) : State :=
  let s := s.updTask t fun k => { k with mismatch := satInc k.mismatch }
  let s := s.updScan fun x => { x with recovered := satInc x.recovered }
  putRun t { freshRun s c r with again := true, phase := .reexecuting } s

/-- A mismatch during the re-execution abandons the scan (10 R290). -/
def abandonMismatch (t : Nat) (s : State) : State :=
  let s := abandonScan t s
  let s := s.updScan fun x => { x with abandoned := satInc x.abandoned }
  queueCause { code := 0x103, task := t } (raise 164 s t)

/-- Retained words, packed in entry order (10 R293). -/
def retainedWords (s : State) : List Word :=
  ((s.man.bind (·.retain)).getD []).flatMap fun (i, n) => Store.getMany 0 s.scan.data i n

/-- The retained area and scan-boundary state now (10 R294). -/
def retainedNow (s : State) : Retained :=
  { optime := s.jrn.optime, seq := s.scan.seq
    scans := s.scan.tasks.foldl (fun m (t, k) => Store.set 0 m t k.scans) [], words := retainedWords s }

/-- Seal a retained copy into the alternate MRAM copy (10 R294). -/
def sealRetained (r : Retained) (s : State) : State :=
  s.updMram fun m =>
    if m.retNew then { m with ret0 := some r, retNew := false } else { m with ret1 := some r, retNew := true }

/-- A copy begins: the alternate MRAM copy is not complete until it is sealed (10 R294, 04 R107). -/
def beginRetained (s : State) : State :=
  s.updMram fun m =>
    let m := { m with retDraft := some (retainedNow s) }
    if m.retNew then { m with ret0 := none } else { m with ret1 := none }

/-- A background copy is sealed (10 R294). -/
def endRetained (s : State) : State :=
  match s.mram.retDraft with
  | none => s
  | some r => sealRetained { r with optime := s.jrn.optime } (s.updMram fun m => { m with retDraft := none })

/-- A path is permitted to force (10 R295). -/
def forcePath (p : ForcePerm) (path : Path) : Bool :=
  match path with
  | .spi => p.spi
  | .mgmt => p.mgmt

/-- A variable lies at an element of a permission entry (10 R295, R296). -/
def forcePermitted (s : State) (p : ForcePerm) (i : Nat) : Bool :=
  p.entries.any fun (first, n) =>
    let w := ((regionAt s.dataArea first).map (fun r => tyWords r.type)).getD 1
    decide (first ≤ i ∧ i < first + n * w ∧ (i - first) % w = 0)

/-- The value registers hold a value of a variable's type (10 R296). -/
def forceValueOk (s : State) (i : Nat) : Bool :=
  match varType s i with
  | some t => decide (tyWords t = 2) || wordHolds t s.scan.frcLo
  | none => false

/-- Reason of a rejected SET of a slot; 0 accepts (10 R296, R302). -/
def forceSetReason (s : State) (path : Path) (slot : Nat) : Byte :=
  let i := s.scan.frcIndex.toNat
  match s.man.bind (·.force) with
  | none => 1
  | some p =>
    if !forcePath p path || !forcePermitted s p i then 2
    else if !forceValueOk s i then 3
    else if s.scan.forces.any (fun e => e.1 != slot && (match e.2 with
      | some (x, _, _) => x.toNat == i
      | none => false)) then 4
    else if s.isStandby then 5
    else if !s.scan.frcPending.isEmpty then 6
    else 0

/-- Reason of a rejected CLEAR (of a slot) or CLEAR_ALL; 0 accepts (10 R296, R302). -/
def forceClearReason (s : State) (path : Path) (slot : Option Nat) : Byte :=
  match s.man.bind (·.force) with
  | none => 1
  | some p =>
    if !forcePath p path then 2
    else if s.isStandby then 5
    else if !s.scan.frcPending.isEmpty then 6
    else match slot with
      | some n => if (Store.get none s.scan.forces n).isNone then 7 else 0
      | none => 0

/-- A force command: its reason, and its change pending when accepted (10 R296, R297). -/
def forceCommand (reason : Byte) (c : ForceChange) (s : State) : State :=
  if reason = 0 then s.updScan fun x => { x with frcReason := 0, frcBusy := true, frcDone := false, frcPending := [c] }
  else s.updScan fun x => { x with frcReason := reason }

/-- SCAN_FRC_CTRL.SET (10 R302). -/
def forceSet (path : Path) (s : State) : State :=
  forceCommand (forceSetReason s path s.scan.frcSel.toNat) (.set s.scan.frcSel s.scan.frcIndex s.scan.frcLo s.scan.frcHi) s

/-- SCAN_FRC_CTRL.CLEAR (10 R302). -/
def forceClear (path : Path) (s : State) : State :=
  forceCommand (forceClearReason s path (some s.scan.frcSel.toNat)) (.clear s.scan.frcSel) s

/-- SCAN_FRC_CTRL.CLEAR_ALL (10 R302). -/
def forceClearAll (path : Path) (s : State) : State := forceCommand (forceClearReason s path none) .clearAll s

/-- A write of SCAN_FRC_SEL loads the slot's force in effect, or zero (10 R302). -/
def selectForce (slot : BitVec 8) (s : State) : State :=
  s.updScan fun x =>
    match Store.get none x.forces slot.toNat with
    | some (i, lo, hi) => { x with frcSel := slot, frcIndex := i, frcLo := lo, frcHi := hi }
    | none => { x with frcSel := slot, frcIndex := 0, frcLo := 0, frcHi := 0 }

/-- A read of SCAN_T_EXECMAX returns and clears it (10 R301). -/
def readExecMax (path : Path) (s : State) : State :=
  let t := (s.path path).scan.toNat
  let v := (s.task t).execMax
  (s.updPath path fun p => { p with out := [v] }).updTask t fun k => { k with execMax := 0 }

end Sys2Proof.Machine
end

