-- ==== Sys2Proof/Machine/StationOps.lean ====
section
/-! DEFINITION. The station engine: frames, launches, replies, reply deadlines, drops, rejoining and polling (12). -/

namespace Sys2Proof.Machine

open Sys2Proof

/-- Adopted station table. -/
def State.stationTable (s : State) : StationTable := (s.man.bind (·.stations)).getD {}

/-- Entry of a station (12 R336). -/
def stationCfg (s : State) (n : Nat) : Option StationCfg := s.stationTable.stations.find? (·.num == n)

/-- State of a station. -/
def State.station (s : State) (n : Nat) : Stn := Store.get {} s.stn.stns n

def State.updStation (s : State) (n : Nat) (f : Stn → Stn) : State :=
  s.updStn fun e => { e with stns := Store.upd {} e.stns n f }

/-- Placement of a station. -/
def stationPlace (s : State) (n : Nat) : StnPlace := Store.get {} s.place.stns n

/-- Bytes of a number, most significant first. -/
def beBytes (n v : Nat) : Bytes := (leBytes n v).reverse

/-- Number of bytes, most significant first. -/
def beNat (b : Bytes) : Nat := leNat b.reverse

/-- A frame of the station protocol without its FCS (12 R332). -/
def stationFrame (s : State) (c : StationCfg) (port : Nat) (pathB : Bool) (head : Bytes) (words : List Word) : Bytes :=
  let body := head ++ wordsToBytes words
  (if pathB then c.addrB else c.addrA) ++ (s.port port).cfg.addr
    ++ (if c.tagged then beBytes 2 0x8100 ++ beBytes 2 c.tci else []) ++ beBytes 2 s.stationTable.etype
    ++ body ++ List.replicate (46 - body.length) 0

/-- The 40-byte header of a device frame (12 R333). -/
def stationHead (kind num : Nat) (seq : Word) (epoch : DWord) (cycle angle flags mod : Nat) (apply : Option Stamp)
    (count : Nat) : Bytes :=
  let t := apply.getD {}
  [1, BitVec.ofNat 8 kind] ++ leBytes 2 num ++ leBytes 4 seq.toNat ++ leBytes 8 epoch.toNat ++ leBytes 4 (cycle % 2 ^ 32)
    ++ leBytes 2 angle ++ [BitVec.ofNat 8 flags, BitVec.ofNat 8 mod] ++ leBytes 6 t.sec.toNat ++ [0, 0]
    ++ leBytes 4 t.ns.toNat ++ leBytes 2 count ++ [0, 0]

/-- Depth of a launch queue (13 R386). -/
def queueDepth (q : Nat) : Nat := if q = 0 then 256 else 32

/-- A launch queue of a port (13 R386). -/
def Port.queue (p : Port) (q : Nat) : List QFrame :=
  match q with
  | 0 => p.q0
  | 1 => p.q1
  | 2 => p.q2
  | _ => p.q3

def Port.setQueue (p : Port) (q : Nat) (l : List QFrame) : Port :=
  match q with
  | 0 => { p with q0 := l }
  | 1 => { p with q1 := l }
  | 2 => { p with q2 := l }
  | _ => { p with q3 := l }

/-- Queue a frame for launch; a full queue drops it, and a port that is down discards an untimed frame (13 R386,
R388). -/
def enqueue (port q : Nat) (f : QFrame) (s : State) : State :=
  s.updPort port fun p =>
    if decide (2 ≤ q) && !p.up then { p with linkdown := satInc p.linkdown }
    else if (p.queue q).length < queueDepth q then p.setQueue q (p.queue q ++ [f]) else p

/-- Wire time in 4 ns of a frame of `len` bytes, FCS and MACsec included (05 R125). -/
def wireUnits (port len : Nat) : Nat := (len + 20) * (if port < 4 then 2 else 200)

/-- Bytes on the wire of a frame that a port sends, with FCS and MACsec (05 R125, 13 R374). -/
def wireLength (s : State) (port len : Nat) : Nat := len + 4 + (if (s.port port).cfg.macsec = 0 then 0 else 32)

/-- A time 4 ns units later. -/
def stampLater (t : Stamp) (units : Nat) : Stamp := stampOf (stampNanos t + 4 * units)

/-- Next sequence: from 1, wrapping to 1 (12 R343). -/
def nextSeq (x : Word) : Word := if x = 0xFFFFFFFF then 1 else x + 1

/-- The output words of a station from the output image (12 R337, R343). -/
def outputImage (s : State) (c : StationCfg) : List Word := (mapWords c.outputs).map (Store.get 0 s.scan.data)

/-- Build and queue one station's ferry frames at a launch mark (12 R342, R343, R349). -/
def launchStation (mark : Nat) (k : TideMark) (s : State) (c : StationCfg) : State :=
  let x := s.station c.num
  let pl := stationPlace s c.num
  let drop := decide (x.phase ≠ .exchanging)
  let words := if drop then [] else outputImage s c
  let off := s.stationTable.groups.getD k.param 0
  let base := launchTime s mark k 0
  let apply := if off = 0 then none else launchTime s mark k off
  let seq := nextSeq x.seq
  let epoch := s.mram.dev.epoch
  let flags := boolNat s.forcing + 2 * boolNat drop + 8 * boolNat apply.isSome
  let put := fun (b : Bool) (port offset : Nat) (s : State) =>
    let head := stationHead 1 c.num seq epoch s.tide.cycle.toNat k.angle (flags + 4 * boolNat b) 0 apply words.length
    let at0 := (base.getD s.ntime.now)
    enqueue port 0 { bytes := stationFrame s c port b head words, launch := some (stampLater at0 offset)
                     fromMark := true, station := some (c.num, b) } s
  let s := s.updStation c.num fun x =>
    { x with seq := seq, epoch := epoch, launch := some (markTime s k), gotA := false, gotB := false
             wentA := false, wentB := false }
  let s := put false pl.portA pl.offA s
  if c.dual then put true pl.portB pl.offB s else s

/-- Class C stations of a launch group in the order of their numbers. -/
def groupStations (s : State) (g : Nat) : List StationCfg :=
  s.stationTable.stations.filter (fun c => c.cfgC && c.group == g)

/-- A launch group's mark fires: no frame is sent before stage 2 (04 R87, 12 R343). -/
def launchGroup (mark : Nat) (k : TideMark) (s : State) : State :=
  if s.start.stage < 2 then s
  else (groupStations s k.param).foldl (launchStation mark k) s

/-- Note an outcome that the active unit of a pair forwards (12 R350). -/
def forwardOutcome (o : StationOutcome) (s : State) : State :=
  if s.inPair && s.isActive then s.updStn fun e => { e with forward := e.forward ++ [o] } else s

/-- A received station frame taken apart: source address, header and the data words' bytes (12 R332). -/
structure StnRx where
  src : Bytes
  etype : Nat
  head : Bytes
  data : Bytes
  whole : Nat

/-- Take a frame apart, with or without a tag. -/
def splitFrame (f : Bytes) : StnRx :=
  let tagged := beNat (slice f 12 2) == 0x8100
  let o := if tagged then 18 else 14
  { src := slice f 6 6, etype := beNat (slice f (o - 2) 2), head := slice f o 40, data := f.drop (o + 40), whole := f.length - o }

/-- Format tests of a reply: version, kind, reserved fields, word count and exact length (12 R333, R345). -/
def replyFormed (x : StnRx) (kind mod count : Nat) : Bool :=
  let h := x.head
  let apply := fld h 22 1 / 8 % 2 == 1
  fld h 0 1 == 1 && fld h 1 1 == kind && fld h 22 1 / 16 == 0 && fld h 23 1 == mod && fld h 30 1 < 2 && fld h 31 1 == 0
    && fld h 38 2 == 0 && fld h 36 2 == count && fld h 32 4 < 2 ^ 30 && (apply || (fld h 24 6 == 0 && fld h 32 4 == 0))
    && (kind == 2 || (fld h 16 4 == 0 && fld h 20 2 == 0)) && x.whole == max 46 (40 + 4 * count)

/-- A ferry frame of a station has left on a path: it carried the frame of the present sequence (12 R346). -/
def noteCarried (f : QFrame) (s : State) : State :=
  match f.station with
  | some (n, b) => s.updStation n fun x => { x with wentA := x.wentA || !b, wentB := x.wentB || b }
  | none => s

/-- Path on which a frame of a station arrives: its port and source address (12 R345). -/
def replyPath (s : State) (c : StationCfg) (port : Nat) (src : Bytes) : Option Bool :=
  let pl := stationPlace s c.num
  if pl.portA = port ∧ src = c.addrA then some false
  else if c.dual ∧ pl.portB = port ∧ src = c.addrB then some true
  else none

/-- A frame with the table's EtherType was not accepted (12 R345). -/
def rejectStation (s : State) : State := s.updStn fun e => { e with rxBad := e.rxBad + 1 }

/-- What an accepted reply does to its station's record and inputs (12 R345, R349, R353, R362). -/
def acceptReply (c : StationCfg) (pathB failsafe : Bool) (idx : List Nat) (words : List Word) (s : State) : State :=
  let x := s.station c.num
  let s := if failsafe && x.heard && !x.failsafe then raise 100 s c.num else s
  let s := s.updScan fun d => { d with data := scatter d.data idx words }
  s.updStation c.num fun x =>
    let join := c.cfgC && decide (x.phase = .dropped) && (c.autoRejoin || x.permitted)
    { x with rx := x.rx + 1, last := s.tide.cycle.setWidth 32, stale := 0, fresh := true, heard := true, failsafe := failsafe
             gotA := x.gotA || !pathB, gotB := x.gotB || pathB
             phase := if join then .rejoining else x.phase, run := if join then 0 else x.run
             permitted := if join then false else x.permitted }

/-- A ferry reply is tested and accepted, or counted as bad; a standby receives none (12 R345, R350). -/
def ferryReply (port : Nat) (f : Bytes) (s : State) : State :=
  let r := splitFrame f
  let n := fld r.head 2 2
  match if s.isStandby then none else stationCfg s n with
  | none => rejectStation s
  | some c =>
    let x := s.station n
    match replyPath s c port r.src with
    | none => rejectStation s
    | some b =>
      let idx := inputWords c
      if c.cfgC && x.launch.isSome && replyFormed r 2 0 idx.length && fld r.head 4 4 == x.seq.toNat
          && fld r.head 8 8 == x.epoch.toNat then
        let fs := fld r.head 30 1 == 1
        let words := (bytesToWords r.data).take idx.length
        if x.gotA || x.gotB then s.updStation n fun x => { x with gotA := x.gotA || !b, gotB := x.gotB || b }
        else
          let s := acceptReply c b fs idx words s
          stationSettled n [] (forwardOutcome (.accepted (BitVec.ofNat 11 n) b fs words) s)
      else rejectStation s

/-- Words of one module of a station (12 R337). -/
def moduleWords (c : StationCfg) (m : Nat) : List Nat :=
  mapWords ((c.inputs.filter (fun (_, _, k) => k == m)).map fun (i, n, _) => (i, n))

/-- A poll reply is tested and accepted, or counted as bad; one on the instant of the timeout is in time (12 R352,
01 R19). -/
def pollReply (port : Nat) (f : Bytes) (s : State) : State :=
  let r := splitFrame f
  let n := fld r.head 2 2
  match if s.isStandby then none else stationCfg s n with
  | none => rejectStation s
  | some c =>
    let x := s.station n
    match replyPath s c port r.src, x.poll with
    | some b, some q =>
      let idx := moduleWords c q.mod
      if !c.cfgC && decide (s.clk.hfNs ≤ q.till) && replyFormed r 4 q.mod idx.length && fld r.head 4 4 == x.seq.toNat
          && fld r.head 8 8 == x.epoch.toNat then
        let fs := fld r.head 30 1 == 1
        let words := (bytesToWords r.data).take idx.length
        let s := acceptReply c b fs idx words s
        let s := s.updStation n fun x => { x with poll := none, timedOut := false }
        forwardOutcome (.accepted (BitVec.ofNat 11 n) b fs words) s
      else rejectStation s
    | _, _ => rejectStation s

/-- A poll's timeout has passed: the next poll takes the other path (12 R351, R352). -/
def pollTimeout (n : Nat) (s : State) : State :=
  match stationCfg s n with
  | none => s
  | some c => s.updStation n fun x =>
      match x.poll with
      | none => x
      | some q => if q.till ≤ s.clk.hfNs then { x with poll := none, timedOut := true, nextB := c.dual && !q.pathB } else x

/-- Miss limit in effect (12 R336). -/
def missLimit (c : StationCfg) : Nat := if c.missLimit = 0 then 3 else c.missLimit

/-- Substitute words of a station at its drop (12 R340, R347). -/
def substituteWords (s : State) (c : StationCfg) : List Word :=
  match (s.stationTable.subst.find? (·.station == c.num)).bind (·.values) with
  | some ws => ws
  | none => (inputWords c).map (Store.get 0 s.scan.data)

/-- A station misses (12 R346). -/
def missStation (c : StationCfg) (s : State) : State :=
  let x := s.station c.num
  let s := s.updStation c.num fun x =>
    { x with misses := x.misses + 1, missTotal := satInc x.missTotal, lostA := false, lostB := false
             phase := if x.phase = .rejoining then .dropped else x.phase, run := 0 }
  if x.misses = 0 then raise 96 s c.num else s

/-- A station is dropped (12 R347). -/
def dropStation (c : StationCfg) (s : State) : State :=
  let ws := substituteWords s c
  let s := s.updStation c.num fun x => { x with phase := .dropped, drops := satInc x.drops, subst := some ws }
  queueCause { code := 0x101, task := 0xFF } (raise 97 s c.num)

/-- A rejoining station returns to exchanging (12 R349). -/
def rejoinStation (c : StationCfg) (s : State) : State :=
  raise 98 (s.updStation c.num fun x => { x with phase := .exchanging, subst := none, run := 0 }) c.num

/-- One path is lost while the other is good (12 R346). -/
def losePath (c : StationCfg) (pathB : Bool) (s : State) : State :=
  raise 99 (s.updStation c.num fun x =>
    if pathB then { x with lostB := true, lossB := satInc x.lossB } else { x with lostA := true, lossA := satInc x.lossA })
    c.num

/-- Path A or B carried the frame of the present sequence and returned no accepted reply (12 R346). -/
def pathLost (x : Stn) (pathB : Bool) : Bool := if pathB then x.wentB && !x.gotB else x.wentA && !x.gotA

/-- One station at its group's reply deadline (12 R346, R347, R349). -/
def deadlineStation (s : State) (c : StationCfg) : State :=
  let x := s.station c.num
  let n := BitVec.ofNat 11 c.num
  let s := s.updStation c.num fun x => { x with launch := none }
  if x.gotA || x.gotB then
    let s := s.updStation c.num fun x =>
      { x with misses := 0, lostA := false, lostB := false, run := if x.phase = .rejoining then x.run + 1 else 0 }
    let s := if c.dual && (pathLost x false || pathLost x true) then
        forwardOutcome (.pathLost n (pathLost x true)) (losePath c (pathLost x true) s)
      else s
    if x.phase = .rejoining ∧ c.rejoinCount ≤ x.run + 1 then forwardOutcome (.rejoined n) (rejoinStation c s) else s
  else
    let s := forwardOutcome (.missed n) (missStation c s)
    let s := stationSettled c.num (inputWords c) s
    if (s.station c.num).phase = .exchanging ∧ missLimit c ≤ (s.station c.num).misses then
      forwardOutcome (.dropped n) (dropStation c s)
    else s

/-- Strictly earlier tide time. -/
def tideBefore (a b : TideTime) : Bool := decide (a.cycle < b.cycle) || (a.cycle == b.cycle && decide (a.angle < b.angle))

/-- The reply deadline mark of every group launched before it (12 R344, R346). -/
def replyDeadlines (now : TideTime) (s : State) : State :=
  (s.stationTable.stations.filter (fun c => c.cfgC &&
    ((s.station c.num).launch.elim false fun l => tideBefore l now))).foldl deadlineStation s

/-- A station's status word (12 R353). -/
def statusWord (c : StationCfg) (x : Stn) : Word :=
  let st := match x.phase with
    | .dropped => 2
    | .rejoining => 3
    | .exchanging => if c.cfgC then boolNat (decide (0 < x.misses)) else boolNat x.timedOut
  BitVec.ofNat 32 (x.stale.toNat * 65536 + boolNat x.failsafe * 2048 + boolNat x.lostB * 1024 + boolNat x.lostA * 512
    + boolNat x.subst.isSome * 256 + (if c.cfgC then min 15 x.misses else 0) * 16 + st)

/-- Status of one station at a state task start mark (12 R353). -/
def statusStation (s : State) (c : StationCfg) : State :=
  let s := s.updStation c.num fun x =>
    let x := { x with stale := if x.fresh then x.stale else satInc x.stale, fresh := false }
    { x with status := statusWord c x }
  match c.statusVar with
  | some i => writeInput .udint i ((s.station c.num).status.setWidth 64) s
  | none => s

/-- Class C launch windows on a port over one scan period, in ns after the state task's mark at nominal frequency
(12 R351). -/
def launchWindows (s : State) (port : Nat) : List (Nat × Nat) :=
  (s.tideSetup.marks.filter (·.action == 4)).filterMap fun k =>
    let l := (groupStations s k.param).flatMap fun c =>
      let p := stationPlace s c.num
      (if p.portA = port then [(p.offA, p.wire)] else []) ++ (if c.dual && p.portB == port then [(p.offB, p.wireB)] else [])
    match l with
    | [] => none
    | a :: r =>
      let t := (k.offset * 65536 + k.angle) * 10 ^ 12 / (s.tideSetup.nominal * 65536)
      let lo := r.foldl (fun m x => min m x.1) a.1
      let hi := r.foldl (fun m x => max m (x.1 + x.2)) (a.1 + a.2)
      some (t + 4 * lo, t + 4 * hi)

/-- First instant from `t` on at which a poll of `wire` ns lies outside every window of a port. -/
def outsideWindows (wire : Nat) : Nat → List (Nat × Nat) → Nat → Nat
  | 0, _, t => t
  | fuel + 1, ws, t =>
    match ws.find? (fun (a, b) => decide (a < t + wire ∧ t < b)) with
    | some (_, b) => outsideWindows wire fuel ws b
    | none => t

/-- NTIME of the state task's start mark, at angle 0 of a cycle, from the held stamp (02 R35, R38; 13 R386). -/
def markStamp (s : State) (mark : TideTime) : Stamp :=
  match s.tide.stamp with
  | some (c0, z0) => convert c0.toNat z0 s.tide.period mark.cycle.toNat mark.angle.toNat
  | none => s.ntime.now

/-- The scan period at nominal frequency, in ns. -/
def scanNanos (s : State) : Nat :=
  ((taskCfg s s.stateTask).map fun c => (taskPeriod s c).1 / (taskPeriod s c).2).getD 0

/-- Build and queue one poll; `cur` holds the next free instant of each port in ns after the mark. None where the poll would
not leave before the next mark, or its queue has no room: the round ends there, and the next goes on from this station
(12 R351; 13 R386). -/
def pollStation (mark : TideTime) (c : StationCfg) (cur : Store Nat) (s : State) : Option (Store Nat × State) :=
  let x := s.station c.num
  let pl := stationPlace s c.num
  let b := c.dual && x.nextB
  let port := if b then pl.portB else pl.portA
  let seq := nextSeq x.seq
  let epoch := s.mram.dev.epoch
  let m := x.nextMod
  let head := stationHead 3 c.num seq epoch 0 0 (boolNat s.forcing + 4 * boolNat b) m none 0
  let f := stationFrame s c port b head []
  let wire := 4 * wireUnits port (wireLength s port f.length)
  let ws := launchWindows s port
  let t := outsideWindows wire (ws.length + 1) ws (Store.get 0 cur port)
  if scanNanos s ≤ t ∨ queueDepth 1 ≤ (s.port port).q1.length then none
  else
    let z := stampNanos (markStamp s mark) + t
    let till := s.clk.hfNs + (z - stampNanos s.ntime.now) + s.stationTable.pollTimeout * 10 ^ 6
    let s := enqueue port 1 { bytes := f, launch := some (stampOf z), fromMark := true } s
    let s := s.updStation c.num fun x =>
      { x with seq := seq, epoch := epoch, poll := some { mod := m, pathB := b, till := till }
               nextMod := (m + 1) % max 1 c.modules }
    some (Store.set 0 cur port (t + wire), s)

/-- Up to a number of polls from a position in the class M stations (12 R351). -/
def pollFrom (mark : TideTime) (l : List StationCfg) : Nat → Nat → Store Nat → State → State
  | 0, _, _, s => s
  | _ + 1, 0, _, s => s
  | fuel + 1, budget + 1, cur, s =>
    match l[s.stn.pollAt]? with
    | none => s
    | some c =>
      let wrap := decide (l.length ≤ s.stn.pollAt + 1)
      let next := fun (s : State) => s.updStn fun e =>
        { e with pollAt := if wrap then 0 else e.pollAt + 1, rounds := if wrap then e.rounds + 1 else e.rounds }
      if (s.station c.num).poll.isSome then pollFrom mark l fuel (budget + 1) cur (next s)
      else
        match pollStation mark c cur s with
        | some (cur, s) => pollFrom mark l fuel budget cur (next s)
        | none => s

/-- The polls of one scan period: none before stage 2 (04 R87, 12 R351). -/
def pollRound (mark : TideTime) (s : State) : State :=
  if s.start.stage < 2 then s
  else
    let l := s.stationTable.stations.filter (!·.cfgC)
    pollFrom mark l l.length s.stationTable.pollBudget [] s

/-- The statuses and polls of a state task start mark (12 R351, R353). -/
def stationRound (mark : TideTime) (s : State) : State := pollRound mark (s.stationTable.stations.foldl statusStation s)

/-- A standby does the statuses and polls of a mark with the image of its freeze, after the outcomes that come with it, so that
both units keep the same sequences; for a mark at which the active unit froze none, at the next one (12 R350, R351). -/
def standbyRound (mark : TideTime) (image : Bool) (s : State) : State :=
  let s := match s.stn.roundDue with
    | some d => if d = mark then s else stationRound d s
    | none => s
  if image then (stationRound mark s).updStn fun e => { e with roundDue := none, roundDone := some mark }
  else s.updStn fun e => { e with roundDue := if e.roundDone = some mark then none else some mark }

/-- What follows the freezes of a state task start mark's edge (12 R346, R351, R353). -/
def afterFreezes (now : TideTime) (s : State) : State :=
  if s.isStandby then standbyRound now false s else stationRound now (replyDeadlines now s)

/-- STN_CTRL.REJOIN (12 R349, R350, R360). -/
def rejoinCommand (n : Nat) (s : State) : State :=
  match stationCfg s n with
  | some c =>
    if c.cfgC && decide ((s.station n).phase = .dropped) && !s.isStandby then
      forwardOutcome (.rejoinPermitted (BitVec.ofNat 11 n)) (s.updStation n fun x => { x with permitted := true })
    else s
  | none => s

/-- The standby applies an outcome as the active unit forwarded it (12 R350). -/
def applyOutcome (s : State) (o : StationOutcome) : State :=
  let with_ := fun (n : BitVec 11) (f : StationCfg → State) => (stationCfg s n.toNat).elim s f
  match o with
  | .accepted n b fs ws => with_ n fun c =>
      let idx := if c.cfgC then inputWords c else ((s.station n.toNat).poll.map fun q => moduleWords c q.mod).getD []
      let s := acceptReply c b fs idx ws s
      let s := s.updStation n.toNat fun x => { x with misses := 0, lostA := false, lostB := false, poll := none, timedOut := false
                                                      run := if x.phase = .rejoining then x.run + 1 else x.run }
      stationSettled n.toNat [] s
  | .missed n => with_ n fun c =>
      stationSettled n.toNat (inputWords c) (missStation c (s.updStation n.toNat fun x => { x with launch := none }))
  | .pathLost n b => with_ n fun c => losePath c b s
  | .dropped n => with_ n fun c => dropStation c s
  | .rejoined n => with_ n fun c => rejoinStation c s
  | .rejoinPermitted n => s.updStation n.toNat fun x => { x with permitted := true }

/-- Stations whose replies to the awaited group's latest launch are outstanding, with that launch's cycle
(10 R286, R602; 12 R347). -/
def awaitedOf (s : State) (c : TaskCfg) (now : TideTime) : List Nat × Option (BitVec 48) :=
  match c.await with
  | none => ([], none)
  | some g =>
    let l := (groupStations s g).filter fun k =>
      let x := s.station k.num
      decide (x.phase = .exchanging) && !(x.gotA || x.gotB) && (x.launch.elim false fun t => tideBefore t now)
    (l.map (·.num), (l.head?.bind fun k => (s.station k.num).launch).map (·.cycle))

/-- Words of the forced variables. -/
def forcedWords (s : State) : List Nat :=
  s.scan.forces.flatMap fun (_, f) => (f.map fun (i, _, _) => varWords ((varType s i.toNat).getD .udint) i.toNat).getD []

/-- Words of stations' inputs. -/
def stationWords (s : State) (l : List Nat) : List Nat :=
  l.flatMap fun n => ((stationCfg s n).map inputWords).getD []

/-- Words that a resolution can change: those of the outstanding stations that no force holds (10 R286, R297). -/
def awaitedWords (s : State) (l : List Nat) : List Nat :=
  (stationWords s l).filter fun i => !(forcedWords s).contains i

end Sys2Proof.Machine
end

