-- ==== Sys2Proof/Machine/StartOps.lean ====
section
/-! DEFINITION. Starts of scans: the start mark, the dispatch of event and error tasks, the image that the active
unit forwards, and its switch-over (10 R277 to R281; 14 R400, R412). -/

namespace Sys2Proof.Machine

open Sys2Proof

/-- Input words of an image, for the IMAGE message (14 R400). -/
def imageWords (s : State) (m : Store Word) : List (Nat × Word) :=
  m.filter fun (i, _) => (regionAt s.dataArea i).any (·.kind == 2)

/-- The active unit of a pair forwards the image of a freeze, with its decision for the task's previous scan
(14 R400, 10 R288). -/
def forwardImage (t : Nat) (forces : List ForceChange) (tests : List TestChange) (s : State) : State :=
  match (s.task t).run with
  | none => s
  | some r =>
    if s.inPair && s.isActive then
      let m : ImageMsg :=
        { task := BitVec.ofNat 5 t, scan := r.scan, start := r.start, commitSeen := r.seen, timerNow := r.now, lds := r.lds
          decisions := ((s.task t).decision.map fun d => (BitVec.ofNat 5 t, d)).toList, forces := forces, tests := tests
          hostDelta := if t = s.stateTask ∧ !s.sol.hostSent then s.sol.host.toList else []
          outcomes := s.stn.forward.filter (goesNow (t == s.stateTask)), words := imageWords s r.image }
      let s := s.updTask t fun k => { k with decision := none }
      let s := if t = s.stateTask ∧ s.sol.host.isSome then s.updSol fun x => { x with hostSent := true } else s
      sendLink (.image m) (s.updStn fun e => { e with forward := e.forward.filter fun o => !goesNow (t == s.stateTask) o })
    else s.updStn fun e => { e with forward := [] }

/-- Update every port. -/
def updPorts (f : Port → Port) (s : State) : State := { s with ports := s.ports.map fun (n, x) => (n, f x) }

/-- A planned switch-over takes effect on the edge of a freeze of the state task (14 R412). -/
def switchEdge (s : State) : State :=
  if s.pair.busy && s.isActive then
    let s := sendLink (.switch s.tideNow) s
    let s := updPorts (fun x => { x with q0 := [], q1 := [] }) s
    let s := s.updPair fun p => { p with fenceOut := false, handed := true, busy := false, done := true }
    raise 200 (s.updDev fun d => { d with switches := satInc d.switches })
  else s

/-- The scan of a period boundary: the state task's start mark falls at the boundary (01 R13). -/
def atBoundary (s : State) (t : Nat) : Bool := t == s.stateTask && s.tide.cycle.toNat % periodModulus s == 0

/-- Freeze a task's image now and forward it (10 R281, R286, 14 R400). Force changes that take effect with it change the
commands of bound outputs on the same edge (10 R297; 15 R425, R426). -/
def beginScan (c : TaskCfg) (time : TideTime) (cause : Option ErrCause) (s : State) : State :=
  let state := c.num == s.stateTask
  let forces := if state then s.scan.frcPending else []
  let tests := if state then s.loop.tstPending.toList else []
  let s := if state then (if forces.isEmpty then releasePending s else applyOutputs (releasePending s)) else s
  let (outst, awaited) := awaitedOf s c time
  let b := atBoundary s c.num && c.trigger == 1
  let s := freezeScan c time cause b outst (awaitedWords s outst) awaited s
  let s := forwardImage c.num forces tests s
  if state then switchEdge s else s

/-- Another scan start mark of the same tide time has still to fire (01 R18). -/
def startsRemain (s : State) (k : TideMark) : Bool :=
  (s.tideSetup.marks.zipIdx).any fun (m, i) =>
    m.action == 2 && m.angle == k.angle && m.dueIn s.tide.cycle.toNat
      && Store.get 0 s.tide.lastFired i != s.tide.cycle.toNat + 1

/-- The state task's start mark has fired at this tide time. -/
def stateFired (s : State) (k : TideMark) : Bool :=
  (s.tideSetup.marks.zipIdx).any fun (m, i) =>
    m.action == 2 && m.param == s.stateTask && m.angle == k.angle
      && Store.get 0 s.tide.lastFired i == s.tide.cycle.toNat + 1

/-- Tasks start from step 0x08 on (04 R99, R100). -/
def tasksRun (s : State) : Bool := s.start.step == 8 || decide (2 ≤ s.start.stage.toNat)

/-- A periodic task's start mark fires: freeze and start, or overrun; a standby starts its scans on the images it
receives (10 R280, R281; 12 R346; 14 R400). -/
def startTask (k : TideMark) (s : State) : State :=
  let now := markTime s k
  let s := if !tasksRun s then s
    else if s.isStandby then
      (if (taskCfg s k.param).isSome then s.updTask k.param fun x => { x with due := some now } else s)
    else match taskCfg s k.param with
      | none => s
      | some c =>
        if (s.task c.num).run.isSome then overrun c.num s
        else
          let s := if atBoundary s c.num then s.updScan fun x => { x with boundaryDone := false } else s
          beginScan c now none s
  if stateFired s k && !startsRemain s k then afterFreezes now s else s

/-- The minimum interval of an event task or the error task has passed since its latest freeze (10 R277, R278). -/
def intervalOver (s : State) (c : TaskCfg) : Bool :=
  (s.task c.num).frozen.all fun f => decide (c.minInterval ≤ (s.clk.us - f).toNat)

/-- An event task's pending trigger is dispatched (10 R277). -/
def dispatchEvent (t : Nat) (s : State) : State :=
  match taskCfg s t with
  | some c =>
    if c.trigger = 2 ∧ (s.task t).trig ∧ (s.task t).run.isNone ∧ intervalOver s c ∧ !s.isStandby ∧ tasksRun s then
      beginScan c s.tideNow none (s.updTask t fun k => { k with trig := false })
    else s
  | none => s

/-- The error task dispatches the oldest cause (10 R278). -/
def dispatchError (s : State) : State :=
  match taskCfg s 0, s.scan.errq with
  | some c, e :: r =>
    if (s.task 0).run.isNone ∧ intervalOver s c ∧ !s.isStandby ∧ tasksRun s then
      beginScan c s.tideNow (some e) (s.updScan fun x => { x with errq := r })
    else s
  | _, _ => s

end Sys2Proof.Machine
end

