-- ==== Sys2Proof/Machine/ImageOps.lean ====
section
/-! DEFINITION. What a standby does with the images that the active unit forwards: it starts its scans on them
(14 R400, R401; 10 R282, R288; 02 R47). -/

namespace Sys2Proof.Machine

open Sys2Proof

/-- A standby takes the active unit's count and angle outright, once (02 R47, 14 R416). What becomes of the held stamp, the
conversions made from it and the FIRED counts R47 does not say: the model discards the stamp and the launch conversions, so
TIDE_ZC reads zero and a TIDE_CONV ends with ERR until the next cycle boundary, and the counts begin anew. DESIGN CHOICE,
log entry 60. -/
def adoptTide (t : TideTime) (s : State) : State :=
  if s.pair.tideTaken then s
  else
    let s := beginTide .follow (if s.tide.meas = 0 then nominalRate s else s.tide.meas) s
    let s := s.updTide fun x => { x with cycle := t.cycle, angle := t.angle, stamp := none, launchAt := [] }
    s.updPair fun p => { p with tideTaken := true }

/-- The commits that the active unit's scan saw are made, and the task's previous scan is over (10 R282). A staging
standby runs its own manifest, whose commit numbers are its own. -/
def imageReady (s : State) (m : ImageMsg) : Bool :=
  (s.task m.task.toNat).run.isNone && (s.pair.role == .staging || decide ((s.scan.seq - m.commitSeen).toNat < 2 ^ 31))

/-- An image that comes again for a scan that has begun or waits brings the active unit's decision for it (10 R288; log
entry 76). -/
def imageAgain (s : State) (m : ImageMsg) : Bool :=
  ((s.task m.task.toNat).run.any fun r => r.scan == m.scan && r.start == m.start)
    || s.pair.images.any fun x => x.task == m.task && x.scan == m.scan && x.start == m.start

/-- The active unit's confirm-or-replay decision for a scan of a task: applied to the scan if it runs, kept for it if it has
not begun (10 R288, 01 R23). -/
def applyDecision (scan : Word) (s : State) (x : BitVec 5 × Bool) : State :=
  let t := x.1.toNat
  if (s.task t).run.any fun r => r.scan == scan then resolveScan t (some x.2) (s.updRun t fun r => { r with outstanding := [] })
  else if s.pair.images.any fun m => m.task == x.1 && m.scan == scan then s.updTask t fun k => { k with told := some (scan, x.2) }
  else s

/-- What an image brings for this edge, whenever its own scan starts: station outcomes, the decision for the task's previous
scan, or for its own where it comes again, and the statuses and polls of the state task's mark (10 R288; 12 R350). -/
def imageNews (m : ImageMsg) (s : State) : State :=
  let again := imageAgain s m
  let s := m.outcomes.foldl applyOutcome s
  let s := m.decisions.foldl (applyDecision (if again then m.scan else m.scan - 1)) s
  if !again && m.task.toNat == s.stateTask then standbyRound m.start true s else s

/-- The image that a standby's scan runs on: the forwarded input words with its own committed values (14 R400). -/
def forwardedImage (s : State) (m : ImageMsg) : Store Word :=
  let own := (frozenImage s).filter fun (i, _) => !(regionAt s.dataArea i).any (·.kind == 2)
  m.words.foldl (fun d (i, w) => Store.set 0 d i w) own

/-- The cause that the active unit's error task handles (10 R278, 09 R268). -/
def imageCause (c : TaskCfg) (m : ImageMsg) : Option ErrCause :=
  if c.trigger = 3 then some { code := m.lds.faultCode.toNat, task := m.lds.faultTask.toNat, off := m.lds.faultOff.toNat }
  else none

/-- What the image of the state task's freeze brings for its edge (10 R297, 11 R324, 06 R172). -/
def stateImage (m : ImageMsg) (s : State) : State :=
  let s := m.forces.foldl (fun s c => applyForce c s) s
  let s := m.tests.foldl (fun s c => applyTest c s) (s.updLoop fun e => { e with tstPending := none })
  s.updSol fun x => { x with hostPeer := x.hostPeer ++ m.hostDelta }

/-- A decision that arrived before the scan it is for resolves it (10 R288). -/
def applyTold (t : Nat) (scan : Word) (s : State) : State :=
  match (s.task t).told with
  | some (n, d) =>
    let s := s.updTask t fun k => { k with told := none }
    if n = scan then resolveScan t (some d) (s.updRun t fun r => { r with outstanding := [] }) else s
  | none => s

/-- The scan of an image starts (14 R400). -/
def startImage (c : TaskCfg) (m : ImageMsg) (s : State) : State :=
  let state := c.num == s.stateTask
  let s := if state then stateImage m s else s
  let boundary := state && c.trigger == 1 && m.start.cycle.toNat % periodModulus s == 0
  let s := if boundary then s.updScan fun x => { x with boundaryDone := false } else s
  let cause := imageCause c m
  let s := if c.trigger = 2 then s.updTask c.num fun k => { k with trig := false } else s
  let s := if cause.isSome && s.scan.errq.head? == cause then s.updScan fun x => { x with errq := x.errq.tail } else s
  let (outst, awaited) := awaitedOf s c m.start
  let waits := !outst.isEmpty
  let image := forwardedImage s m
  let r : Run :=
    { phase := if !waits then .ready else if c.spec then .speculating else .awaiting
      start := m.start, ntime := stampOf m.lds.ntime.toNat, us := s.clk.us, now := m.timerNow, scan := m.scan
      seen := m.commitSeen, image := image, loops := s.loop.loops, lds := m.lds, cause := cause, outstanding := outst
      watch := if waits then awaitedWords s outst else [], awaited := awaited, spec := waits && c.spec
      boundary := boundary, marks := marksAt s m.start }
  let s := s.updTask c.num fun k => { k with frozen := some s.clk.us }
  let s := s.updScan fun x => { x with frozen := image }
  applyTold c.num m.scan (putRun c.num (freshRun s c r) s)

/-- A standby starts scans on its images, and a unit that has taken over on those it has yet to run; out of lockstep a
standby keeps them until the active unit's state has come (14 R400, R410, R417). -/
def runsImages (s : State) : Bool :=
  match s.pair.role with
  | .resync => s.pair.joinNext
  | .notReady | .heldOut | .waiting => false
  | _ => true

/-- Take one waiting image in turn: it starts its scan, or waits on. A task that this unit's manifest does not hold has
no scan. -/
def tryImage (s : State) (m : ImageMsg) : State :=
  match taskCfg s m.task.toNat with
  | none => s
  | some c =>
    if (s.pair.images.any fun x => x.task == m.task) || !imageReady s m then
      s.updPair fun p => { p with images := p.images ++ [m] }
    else startImage c m s

/-- Waiting images start their scans as the commits before them are made (10 R282). -/
def tryImages (s : State) : State :=
  if s.pair.images.isEmpty || !runsImages s then s else s.pair.images.foldl tryImage (s.updPair fun p => { p with images := [] })

/-- The raises that the routing forwards go to the standby on their edge (17 R482). -/
def forwardEvents (s : State) : State :=
  if s.evt.forward.isEmpty then s
  else
    let l := s.evt.forward
    let s := s.updEvt fun e => { e with forward := [] }
    if s.inPair && s.isActive then sendLink (.events l) s else s

end Sys2Proof.Machine
end

