-- ==== Sys2Proof/Machine/Edge.lean ====
section
/-! DEFINITION. The end of a command's edge: images that a standby can start, raises, records and forwarded events; and
the guards under which commands act. -/

namespace Sys2Proof.Machine

open Sys2Proof

/-- What the end of an edge does. Without power there is no event router: raises and records are lost. -/
def settle (s : State) : State :=
  if s.start.power = .on ∨ s.start.power = .flush then forwardEvents (settleEvents (tryImages s))
  else
    let s := s.updEvt fun e => { e with edge := [], edgePeer := [] }
    s.updJrn fun j => { j with edge := [] }

/-- A command begins with no crossing-link message sent but a SOLVER report whose 10 µs have passed (14 R399; log
entry 84). -/
def clearSent (s : State) : State :=
  s.updPair fun p =>
    let p := { p with sent := [] }
    if p.held.any fun x => decide (x.1 + 10000 ≤ s.clk.hfNs) then p.sendHeld else p

/-- Run an effect and its edge. -/
def act (s : State) (f : State → State) : Host.Outcome State Fault Refusal := .next (settle (f (clearSent s)))

/-- Run an effect of the running logic die; without a start in progress nothing happens. -/
def actOn (s : State) (f : State → State) : Host.Outcome State Fault Refusal :=
  if s.start.power = .on then act s f else .next s

/-- Run an effect of a keyed command register: a wrong key has no effect. -/
def actKey (s : State) (key want : BitVec 16) (f : State → State) : Host.Outcome State Fault Refusal :=
  if key = want then actOn s f else .next s

end Sys2Proof.Machine
end

