-- ==== Sys2Proof/Machine/MeterOps.lean ====
section
/-! DEFINITION. Metering: debounced pulses, tariff attribution, accumulators, rate, commands, saves and restore
(16). -/

namespace Sys2Proof.Machine

open Sys2Proof

/-- The adopted meter and tariff tables record. -/
def State.meterSetup (s : State) : Option MeterSetup := s.man.bind (·.meters)

/-- Entry of a meter channel in the adopted table (16 R453). -/
def meterCfg (s : State) (m : Nat) : Option MeterCfg :=
  s.meterSetup.bind fun t => t.meters.find? (·.chan == m)

/-- One meter channel. -/
def State.meter (s : State) (m : Nat) : Meter := Store.get {} s.mtr.ch m

def State.updMeter (s : State) (m : Nat) (f : Meter → Meter) : State :=
  s.updMtr fun t => { t with ch := Store.upd {} t.ch m f }

/-- Day type of a date in a tariff table (16 R454, R457). -/
def dayType (t : TariffTable) (y m d wday : Nat) : Nat :=
  match t.special.find? (fun x => x.year == y && x.month == m && x.day == d) with
  | some x => x.dayType
  | none =>
    match t.special.find? (fun x => x.year == 0 && x.month == m && x.day == d) with
    | some x => x.dayType
    | none => t.weekly.getD wday 0

/-- Tariff of the last used switch point at or before a minute (16 R457). -/
def switchTariff (l : List (Nat × Nat)) (minute : Nat) : Nat :=
  (l.filter (fun x => decide (x.1 ≤ minute))).getLast?.elim 0 (·.2)

/-- Offset in minutes that applies at a UTC second (16 R455, R457). -/
def offsetAt (r : MeterSetup) (sec : Nat) : Int :=
  (r.offsets.filter (fun x => decide (x.1 ≤ sec))).getLast?.elim r.baseOffset (·.2)

/-- Tariff of a UTC second in a table (16 R457). -/
def tariffOf (r : MeterSetup) (t : TariffTable) (sec : Nat) : Nat :=
  let loc := ((sec : Int) + 60 * offsetAt r sec).toNat
  let (y, m, d) := dateOf (loc / 86400)
  switchTariff (t.dayTypes.getD (dayType t y m d ((loc / 86400 + 3) % 7)) []) (loc % 86400 / 60)

/-- Tariff of a meter channel at a UTC second: the fallback while CAL_OSF is set (16 R453, R457, R458). -/
def meterTariff (s : State) (c : MeterCfg) (sec : Nat) : Nat :=
  match s.meterSetup, c.table with
  | some r, some i =>
    if s.cal.osf then c.fallback else (r.tables[i]?).elim 0 (fun t => tariffOf r t sec)
  | _, _ => 0

/-- The calendar second that a microsecond instant belongs to: of one before the oldest capture, the second before it
(16 R457). -/
def secondAt (s : State) (te : Nat) : Nat :=
  match s.mtr.caps.find? fun x => decide (x.2 ≤ te) with
  | some x => x.1
  | none => s.mtr.caps.getLast?.elim s.cal.now.secs (·.1 - 1)

/-- One accumulator and its wrap count after a pulse of weight `w`; the flag says that it wrapped (16 R459). -/
def addPulse (w : Nat) (a : DWord) (k : BitVec 16) : DWord × BitVec 16 × Bool :=
  let a' := a + BitVec.ofNat 64 w
  if a'.toNat < w then (a', k + 1, true) else (a', k, false)

/-- Total and one accumulator after a pulse of tariff `k`; the flag says that one wrapped (16 R459). -/
def countVals (w k : Nat) (v : MeterVals) : MeterVals × Bool :=
  let (t, wt, b) := addPulse w v.total v.wTotal
  let v := { v with total := t, wTotal := wt, since := if v.since.toNat < 0xFFFFFFFE then v.since + 1 else v.since }
  match k with
  | 0 => let (a, c, b') := addPulse w v.acc0 v.w0; ({ v with acc0 := a, w0 := c }, b || b')
  | 1 => let (a, c, b') := addPulse w v.acc1 v.w1; ({ v with acc1 := a, w1 := c }, b || b')
  | 2 => let (a, c, b') := addPulse w v.acc2 v.w2; ({ v with acc2 := a, w2 := c }, b || b')
  | _ => let (a, c, b') := addPulse w v.acc3 v.w3; ({ v with acc3 := a, w3 := c }, b || b')

/-- Rate of one pulse of weight `w` per interval in µs (16 R461). -/
def pulseRate (w interval : Nat) : DWord := BitVec.ofNat 64 (min (w * 360000000000000 / interval) (2 ^ 64 - 2))

/-- Longest interval that gives a rate, µs (16 R461). -/
def rateLimit : Nat := 65535 * 10 ^ 6

/-- A counted pulse of a channel at the qualified edge time (16 R457 to R461). -/
def countPulse (c : MeterCfg) (te : Nat) (s : State) : State :=
  let k := meterTariff s c (secondAt s te)
  let m := s.meter c.chan
  let (v, wrapped) := countVals c.weight k m.vals
  let iv := match m.tp with
    | some tp => if te - tp.toNat ≤ rateLimit then te - tp.toNat else 0
    | none => 0
  let s := s.updMeter c.chan fun m =>
    { m with vals := v, pulses := m.pulses + 1, interval := iv, tp := some (BitVec.ofNat 64 te)
             rate := if iv = 0 then 0 else pulseRate c.weight iv }
  let n := secondAt s te
  let late := fun (x : Saving) =>
    if n < x.b then { x with vals := Store.upd {} x.vals c.chan (fun v => (countVals c.weight k v).1) } else x
  let s := s.updMtr fun t => { t with saving := t.saving.map late }
  if wrapped then raise 33 s c.chan else s

/-- Debounce time of a channel for a state, µs (16 R450, R453). -/
def stableTime (c : MeterCfg) (on : Bool) : Nat := 100 * (if on then c.tOn else c.tOff)

/-- The forwarded state of a channel has been stable for its debounce time (16 R450). -/
def qualifyEdge (m : Nat) (s : State) : State :=
  match meterCfg s m with
  | none => s
  | some c =>
    let x := s.meter m
    if x.begun && x.fwd != x.qs && decide (stableTime c x.fwd ≤ s.clk.us.toNat - x.fwdAt.toNat) then
      let s := s.updMeter m fun x => { x with qs := x.fwd }
      if x.fwd != c.onToOff then countPulse c x.fwdAt.toNat s else s
    else s

/-- Counting begins on a channel once its raw state has been stable for the longer debounce time: qs takes it, and the first
channel to begin adds the MTR_UNSAVED record (16 R451, R468). -/
def beginCount (m : Nat) (s : State) : State :=
  match meterCfg s m with
  | none => s
  | some c =>
    let need := max (stableTime c true) (stableTime c false)
    if (s.meter m).begun ∨ s.clk.us.toNat < (Store.get 0 s.fio.rawAt c.input).toNat + need then s
    else
      let first := s.mtr.ch.all (fun e => !e.2.begun)
      let s := s.updMeter m fun x => { x with begun := true, known := true, qs := s.fio.raw.getLsbD c.input }
      if first then
        raise 34 (addRec { source := 34, sev := 5, code := if s.mtr.restored then 1 else 2
                           payload := if s.mtr.restored then s.mtr.restoredB else 0 } s)
      else s

/-- Every second: the rate of a channel decays with the elapsed time (16 R461). -/
def decayRate (s : State) (c : MeterCfg) : State :=
  s.updMeter c.chan fun m =>
    match m.tp with
    | none => m
    | some tp =>
      let e := s.clk.us.toNat - tp.toNat
      if m.interval = 0 then m
      else if rateLimit < e then { m with rate := 0, interval := 0 }
      else if m.interval < e then { m with rate := BitVec.ofNat 64 (c.weight * 360000000000000 / e) }
      else m

/-- Channels that the adopted table defines. -/
def definedMeters (s : State) : List MeterCfg := (s.meterSetup.map (·.meters)).getD []

/-- The channels that a pulse input feeds (15 R432). -/
def metersOf (s : State) (ch : Nat) : List MeterCfg := (definedMeters s).filter (·.input == ch)

/-- The 200 µs after the latest forwarding on a channel still run (16 R449). -/
def merges (now : DWord) (m : Meter) : Bool := m.fwdTime.any fun t => decide (now.toNat < t.toNat + 200)

/-- A pulse input's raw state changes: forwarded stamped, or merged within 200 µs of the last forwarding (16 R449). -/
def pulseChange (ch : Nat) (v : Bool) (s : State) : State :=
  (metersOf s ch).foldl (fun s c =>
    let now := s.clk.us
    s.updMeter c.chan fun m =>
      if merges now m then { m with merging := true, merged := satInc m.merged }
      else { m with fwd := v, fwdAt := now, fwdTime := some now }) s

/-- The 200 µs merge window of a channel has ended: a raw state that differs is forwarded at its end, stamped with the latest
raw change (16 R449). -/
def mergeEnd (ch : Nat) (s : State) : State :=
  let v := s.fio.raw.getLsbD ch
  (metersOf s ch).foldl (fun s c =>
    s.updMeter c.chan fun m =>
      if m.merging && !merges s.clk.us m then
        if v ≠ m.fwd then
          { m with merging := false, fwd := v, fwdAt := Store.get 0 s.fio.rawAt ch, fwdTime := m.fwdTime.map (· + 200) }
        else { m with merging := false }
      else m) s

/-- A host command on a channel: its journal record with the value before, its count and DONE (16 R463, R472). -/
def meterCommand (m code : Nat) (old : DWord) (f : Meter → Meter) (s : State) : State :=
  let s := addRec { source := 36, sev := 6, sub := m, code := code, payload := old } s
  let s := s.updMeter m fun x =>
    let y := f x
    { y with vals := { y.vals with cmds := x.vals.cmds + 1 } }
  raise 36 (s.updMtr fun t => { t with done := true }) m

/-- Clear a channel (16 R463). -/
def clearMeter (m : Nat) (s : State) : State :=
  meterCommand m 1 (s.meter m).vals.total
    (fun x => { x with vals := { cmds := x.vals.cmds, since := x.vals.since }, rate := 0, interval := 0, tp := none }) s

/-- Value of a preset target (16 R463, R472). -/
def targetVal (v : MeterVals) (k : Nat) : DWord :=
  match k with
  | 0 => v.total
  | 1 => v.acc0
  | 2 => v.acc1
  | 3 => v.acc2
  | _ => v.acc3

/-- Set a preset target, its wrap count to 0 (16 R463). -/
def setTarget (v : MeterVals) (k : Nat) (x : DWord) : MeterVals :=
  match k with
  | 0 => { v with total := x, wTotal := 0 }
  | 1 => { v with acc0 := x, w0 := 0 }
  | 2 => { v with acc1 := x, w1 := 0 }
  | 3 => { v with acc2 := x, w2 := 0 }
  | _ => { v with acc3 := x, w3 := 0 }

/-- Preset one accumulator of a channel from MTR_PRESET; a target above 4 does nothing (16 R463, R472). -/
def presetMeter (m k : Nat) (s : State) : State :=
  if 4 < k then s
  else meterCommand m 2 (targetVal (s.meter m).vals k)
    (fun x => { x with vals := setTarget x.vals k s.mtr.preset }) s

/-- A save begins at a save boundary: the values counted so far before it, OPTIME and PCYC. One that is still being written
goes on (16 R465, R466). -/
def beginSave (b : Nat) (s : State) : State :=
  match s.meterSetup with
  | none => s
  | some r =>
    if b % r.saveInterval = 0 then
      let tar := (definedMeters s).map (fun c => (c.chan, meterTariff s c (b - 1)))
      let x : Saving :=
        { b := b, optime := s.jrn.optime, pcyc := s.jrn.pcyc, calValid := !s.cal.osf, vals := s.mtr.ch.map (fun e => (e.1, e.2.vals)), tariffs := tar }
      s.updMtr fun t => { t with saving := t.saving ++ [x] }
    else s

/-- The calendar enters a second: its microsecond capture, and a save at a boundary (16 R457, R465). -/
def enterSecond (s : State) : State :=
  if s.start.power = .on then
    let b := s.cal.now.secs
    let s := s.updMtr fun t => { t with caps := ((b, s.clk.us.toNat) :: t.caps).take 8 }
    if s.start.adopted then beginSave b s else s
  else s

/-- Entry of one channel in a save (16 R466). -/
def saveEntry (s : State) (x : Saving) (j : Nat) : Bytes :=
  let c := meterCfg s j
  let v := Store.get {} x.vals j
  [BitVec.ofNat 8 j, BitVec.ofNat 8 (boolNat c.isSome), BitVec.ofNat 8 (Store.get 0 x.tariffs j)
    , BitVec.ofNat 8 (c.elim 0 (·.unit))]
    ++ leBytes 4 (c.elim 0 (·.weight)) ++ leBytes 8 v.total.toNat ++ leBytes 8 v.acc0.toNat ++ leBytes 8 v.acc1.toNat
    ++ leBytes 8 v.acc2.toNat ++ leBytes 8 v.acc3.toNat ++ leBytes 2 v.wTotal.toNat ++ leBytes 2 v.w0.toNat
    ++ leBytes 2 v.w1.toNat ++ leBytes 2 v.w2.toNat ++ leBytes 2 v.w3.toNat ++ leBytes 2 v.cmds.toNat
    ++ leBytes 4 v.since.toNat

/-- Bytes 0 to 1,087 of a save record (16 R466). -/
def saveBody (s : State) (x : Saving) (seq : Nat) : Bytes :=
  [0x55, 0x4C, 0x4D, 0x53] ++ leBytes 2 1
    ++ [16, BitVec.ofNat 8 (boolNat x.calValid + 2 * boolNat (!s.mtr.savedOnce))] ++ leBytes 4 seq ++ leBytes 8 x.b
    ++ leBytes 6 x.optime.toNat ++ leBytes 3 x.pcyc.toNat ++ leBytes 1 0
    ++ leBytes 2 ((s.meterSetup.map (·.saveInterval)).getD 0) ++ leBytes 32 0
    ++ (List.range 16).flatMap (saveEntry s x)

/-- Seal of a save (16 R467). -/
def saveSeal (key body : Bytes) : Bytes := slice (Config.kmac256 key body 32 (ascii "UL-7160 meter save")) 0 32

/-- A slot holds a valid save (16 R467). -/
def saveValid (key : Bytes) (b : Bytes) : Bool :=
  b.length == 1120 && b.take 8 == [0x55, 0x4C, 0x4D, 0x53, 1, 0, 16, BitVec.ofNat 8 (fld b 7 1 % 4)]
    && zeros b 29 1 && zeros b 32 32
    && (List.range 16).all (fun j => decide (fld b (65 + 64 * j) 1 < 2))
    && b.drop 1088 == saveSeal key (b.take 1088)

/-- The valid save of highest sequence: its sequence, slot and bytes (16 R468). -/
def newestSave (s : State) : Option (Nat × Nat × Bytes) :=
  match s.keys.sealKey with
  | none => none
  | some k => s.mram.saves.foldl (fun best (slot, b) =>
      if saveValid k b then
        match best with
        | some (q, _, _) => if q < fld b 8 4 then some (fld b 8 4, slot, b) else best
        | none => some (fld b 8 4, slot, b)
      else best) none

/-- Take the pulses that a completed save holds off a count since the previous save (16 R466). -/
def sinceAfter (x : Saving) (j : Nat) (v : MeterVals) : MeterVals := { v with since := v.since - (Store.get {} x.vals j).since }

/-- The oldest save write in progress completes and becomes the newest valid save (16 R465, R473). Without a SEAL key it
cannot be sealed, and nothing is written. -/
def endSave (s : State) : State :=
  match s.mtr.saving, s.keys.sealKey with
  | x :: rest, some k =>
    let seq := (newestSave s).elim 1 (fun q => q.1 + 1)
    let body := saveBody s x seq
    let s := s.updMram fun m => { m with saves := Store.set [] m.saves (seq % 16) (body ++ saveSeal k body) }
    let s := (List.range 16).foldl (fun s j =>
      if (Store.get {} x.vals j).since = 0 then s
      else s.updMeter j fun m => { m with vals := sinceAfter x j m.vals }) s
    let rest := rest.map fun y => { y with vals := y.vals.map fun (j, v) => (j, sinceAfter x j v) }
    s.updMtr fun t => { t with saving := rest, savedOnce := true, saveSeq := BitVec.ofNat 32 seq
                               saveB := BitVec.ofNat 64 x.b, saveSlot := BitVec.ofNat 4 seq }
  | _, _ => s.updMtr fun t => { t with saving := t.saving.drop 1 }

/-- The saves in progress are abandoned: the slot that is being written fails its seal (16 R465). -/
def abandonSave (s : State) : State :=
  match s.mtr.saving with
  | [] => s
  | _ :: _ =>
    let seq := (newestSave s).elim 1 (fun q => q.1 + 1)
    let s := s.updMram fun m => { m with saves := Store.set [] m.saves (seq % 16) (List.replicate 1120 0) }
    raise 37 (s.updMtr fun t => { t with saving := [], abandoned := true })

/-- Values of a channel that a save holds (16 R466). -/
def savedVals (b : Bytes) (j : Nat) : MeterVals :=
  let o := 64 + 64 * j
  { total := BitVec.ofNat 64 (fld b (o + 8) 8), acc0 := BitVec.ofNat 64 (fld b (o + 16) 8)
    acc1 := BitVec.ofNat 64 (fld b (o + 24) 8), acc2 := BitVec.ofNat 64 (fld b (o + 32) 8)
    acc3 := BitVec.ofNat 64 (fld b (o + 40) 8), wTotal := BitVec.ofNat 16 (fld b (o + 48) 2)
    w0 := BitVec.ofNat 16 (fld b (o + 50) 2), w1 := BitVec.ofNat 16 (fld b (o + 52) 2)
    w2 := BitVec.ofNat 16 (fld b (o + 54) 2), w3 := BitVec.ofNat 16 (fld b (o + 56) 2)
    cmds := BitVec.ofNat 16 (fld b (o + 58) 2), since := 0 }

/-- The die has forwarded a pulse input's raw state by adoption: a channel begins with it (16 R449, R451). -/
def rawMeters (s : State) : State :=
  (definedMeters s).foldl (fun s c => s.updMeter c.chan fun m =>
    { m with fwd := s.fio.raw.getLsbD c.input, fwdAt := Store.get 0 s.fio.rawAt c.input }) s

/-- Restore every channel at adoption, or set it to zero (16 R468). -/
def restoreMeters (s : State) : State :=
  match newestSave s with
  | none => s.updMtr fun t => { t with ch := [], restored := false, restoredB := 0 }
  | some (q, slot, b) =>
    s.updMtr fun t => { t with
      ch := (List.range 16).map (fun j => (j, { known := true, vals := savedVals b j }))
      restored := true, restoredB := BitVec.ofNat 64 (fld b 12 8), saveSeq := BitVec.ofNat 32 q, saveSlot := BitVec.ofNat 4 slot
      saveB := BitVec.ofNat 64 (fld b 12 8) }

end Sys2Proof.Machine
end

