-- ==== Sys2Proof/Machine/ClockOps.lean ====
section
/-! DEFINITION. Clock monitors, power modes, gating, the frequency meter, the calendar and its commands (19). -/

namespace Sys2Proof.Machine

open Sys2Proof

/-- Set CAL_OSF with a cause bit, raising CAL_OSF when it becomes set while the device runs (19 R539, R551). -/
def setOsf (bit : Nat) (s : State) : State :=
  let was := s.cal.osf
  let s := s.updCal fun c => { c with osf := true, cause := putBit c.cause bit true }
  if was then s else raise 18 s

/-- Loops that a monitor trip concerns (19 R532). -/
def tripLoops (c : MonClock) : BitVec 3 :=
  match c with
  | .xtal1 => 7
  | .pllSys => 1
  | .pllSol => 2
  | .pllNet => 4

/-- Bit of a clock in CLK_MON.TRIP (19 R549). -/
def tripBit (c : MonClock) : Nat :=
  match c with
  | .xtal1 => 0
  | .pllSys => 1
  | .pllSol => 2
  | .pllNet => 3

/-- A clock monitor trips: the loops concerned open and coast, CLK_MON_TRIP is raised (19 R532). -/
def monitorTrip (c : MonClock) (s : State) : State :=
  if s.clk.armed then
    raise 9 (s.updClk fun k =>
      { k with trip := putBit k.trip (tripBit c) true, tripHeld := putBit k.tripHeld (tripBit c) true
               trips := satInc k.trips, opened := k.opened ||| tripLoops c, lock := k.lock &&& ~~~ tripLoops c
               qual := if c = .xtal1 then putBit k.qual 2 false else k.qual })
  else s

/-- Opened loops take HFIO as reference on an edge at which HFIO is qualified, and relock (19 R532, R533). -/
def switchReference (s : State) : State :=
  if s.clk.opened ≠ 0 && s.clk.qual.getLsbD 0 then
    s.updClk fun k =>
      { k with onHfio := k.onHfio ||| k.opened, relocking := k.relocking ||| k.opened, lock := k.lock ||| k.opened, opened := 0 }
  else s

/-- Blocks in use, whose CLK_RUN_EN bits stay set (19 R535). -/
def blocksInUse (s : State) : BitVec 12 :=
  let mask := (s.moor.record.map (·.mgmtPorts)).getD 0
  let b : BitVec 12 := 0xE00
  let b := putBit b 4 (mask % 16 != 0)
  let b := if mask / 16 % 16 != 0 then putBit b 5 true else b
  match s.man with
  | some m =>
    if 2 ≤ s.start.stage then
      let ports := (m.net.map (·.ports)).getD []
      let on := fun (lo : Nat) => ((ports.drop lo).take 4).any (·.enabled)
      let b := if m.problems.isEmpty then b else putBit b 0 true
      let b := if m.tasks.tasks.isEmpty then b else putBit b 1 true
      let b := if m.loops.isEmpty then b else putBit b 2 true
      let b := if m.stations.isSome then putBit b 3 true else b
      let b := if on 0 then putBit b 4 true else b
      let b := if on 4 then putBit b 5 true else b
      let b := putBit b 6 true
      let b := if m.blobs.isEmpty then b else putBit b 7 true
      if m.pair.isSome then putBit b 8 true else b
    else b
  | none => b

/-- The device's outputs are all off and its mooring function empty: the conditions of DEEP (19 R534). -/
def deepAllowed (s : State) : Bool := s.moor.record.isNone && s.fio.applied == 0

/-- CLK_MODE SLEEP, at stage 1 only (19 R534). -/
def enterSleep (s : State) : State :=
  if s.start.stage = 1 then s.updClk fun k => { k with mode := .sleep } else s

/-- CLK_MODE DEEP: HFIO stops and the monitors are disarmed (19 R534). -/
def enterDeep (s : State) : State :=
  if s.start.stage = 1 && deepAllowed s then
    s.updClk fun k => { k with mode := .deep, qual := putBit k.qual 0 false, armed := false }
  else s

/-- Number of a wake source in CLK_WAKE.CAUSE; its enable bit is one less (19 R549). -/
def wakeNumber (w : WakeSource) : Nat :=
  match w with
  | .hspiCs => 1
  | .alarm0 => 2
  | .alarm1 => 3

/-- An enabled wake source returns the device to RUN; from DEEP it restarts HFIO and arms the monitors (19 R533,
R534). -/
def wakeUp (w : WakeSource) (s : State) : State :=
  if s.clk.mode ≠ .run && s.clk.wakeEn.getLsbD (wakeNumber w - 1) then
    s.updClk fun k =>
      { k with mode := .run, wakeCause := BitVec.ofNat 3 (wakeNumber w)
               armed := k.armed || decide (k.mode = .deep && k.lock ≠ 0) }
  else s

/-- GATE of CLK_FMEAS_CFG (19 R549). -/
def gateLength (c : Clk) : BitVec 24 := c.fmCfg.extractLsb' 0 24

/-- CLK_FMEAS_CTRL.START (19 R536). -/
def startMeasure (s : State) : State :=
  if s.clk.fmBusy || gateLength s.clk == 0 then s
  else s.updClk fun k => { k with fmBusy := true, fmCount := 0 }

/-- The gate ends with a count (19 R536). -/
def endMeasure (n : Nat) (s : State) : State :=
  if s.clk.fmBusy then
    s.updClk fun k => { k with fmBusy := false, fmDone := true, fmCount := satNat 32 n
                               fmOvf := k.fmOvf || decide (0xFFFFFFFF < n) }
  else s

/-- A clock of the measurement stopped (19 R536). -/
def failMeasure (s : State) : State :=
  if s.clk.fmBusy then s.updClk fun k => { k with fmBusy := false, fmErr := true } else s

/-- The calendar takes an instant: what follows from a change of second (16 R457; 19 R540). -/
def putCalendar (c : CalTime) (s : State) : State :=
  let old := s.cal.now.secs
  let s := s.updCal fun k => { k with now := c }
  if c.secs = old then s else enterSecond s

/-- `k` XTAL2 cycles move the calendar by their trimmed steps and a shift (19 R541). -/
def calendarCycles (k : Nat) (shift : Int) (s : State) : State :=
  let (n, acc) := s.cal.trimmed k
  let (c, wrapped) := s.cal.now.moved ((n : Int) + shift)
  let s := s.updCal fun k => { k with acc := acc }
  let s := putCalendar c s
  if wrapped then setOsf 1 s else s

/-- XTAL2 cycles until the trimmed calendar has moved by `left` steps, at most 32,768 of them: the trim carries at most
18 times in so many cycles (19 R541). -/
def Cal.cyclesTo (c : Cal) (left : Nat) : Nat :=
  (((List.range 40).map (left - 20 + ·)).find? fun k => decide (left ≤ (c.trimmed k).1)).getD left

/-- The calendar enters a new second (19 R540); every second on VBAT counts (19 R537). -/
def calendarSecond (s : State) : State :=
  let s := s.updCal fun k => if k.onVbat then { k with bkpSecs := satInc k.bkpSecs } else k
  calendarCycles (s.cal.cyclesTo (32768 - s.cal.now.sub)) 0 s

/-- Apply a setting: the calendar, valid from then on, takes exactly these values, the trim accumulator clears, an anchor is
created and CAL_SET raised (19 R544). -/
def applySet (c : CalTime) (sub : Nat) (s : State) : State :=
  let s := putCalendar c (s.updCal fun k => { k with osf := false, cause := 0 })
  let s := s.updCal fun k => { k with acc := 0, alm0Met := [], alm1Met := [] }
  raise 19 (anchor sub s)

/-- Reject a calendar command (19 R546). -/
def rejectCal (s : State) : State := s.updCal fun c => { c with cmdRej := true }

/-- The staged calendar values (19 R544, R550). -/
def stagedTime (g : CalStg) : CalTime :=
  { year := g.year.toNat, month := (g.date.extractLsb' 8 4).toNat, day := (g.date.extractLsb' 0 5).toNat
    hour := (g.time.extractLsb' 16 5).toNat, min := (g.time.extractLsb' 8 6).toNat
    sec := (g.time.extractLsb' 0 6).toNat, sub := g.sub.toNat }

/-- CAL_CMD.SET (19 R544, R546). -/
def calendarSet (s : State) : State :=
  if (stagedTime s.stg).valid then applySet (stagedTime s.stg) 1 s else rejectCal s

/-- CAL_CMD.SHIFT (19 R542, R546). -/
def calendarShift (s : State) : State :=
  let n := s.cal.shift.toInt
  if -32768 ≤ n ∧ n ≤ 32768 then raise 19 (anchor 2 (calendarCycles 1 n s)) else rejectCal s

/-- TAI - UTC offset to use (19 R545). -/
def utcOffset (s : State) : Option Int :=
  match s.ntime.gmUtc with
  | some o => some o.toInt
  | none => if s.cal.utcValid then some s.cal.utcOff.toInt else none

/-- The calendar that NTIME gives, one sub-second step ahead; none where R546 rejects a PTP_SET (19 R545, R546). -/
def ptpCalendar (s : State) : Option CalTime :=
  match utcOffset s with
  | none => none
  | some o =>
    if s.ntime.servo = 2 then
      let sub := s.ntime.ns.toNat * 32768 / 10 ^ 9 + 1
      let t : Int := (s.ntime.sec.toNat : Int) - o + (sub / 32768 : Nat)
      if (calFirst : Int) ≤ t ∧ t < (calEnd : Int) then some (CalTime.ofSecs t.toNat (sub % 32768)) else none
    else none

/-- Keep CAL_UTCOFF at the offset that the grandmaster announces valid (19 R545). -/
def keepUtcOffset (s : State) : State :=
  match s.ntime.gmUtc with
  | some o =>
    if s.cal.utcValid && s.cal.utcOff == o then s else s.updCal fun c => { c with utcOff := o, utcValid := true }
  | none => s

/-- CAL_CMD.PTP_SET (19 R545). -/
def calendarPtpSet (s : State) : State :=
  match ptpCalendar s with
  | some c => applySet c 3 (keepUtcOffset s)
  | none => rejectCal s

/-- Sub-second steps between two calendar times. -/
def calDistance (a b : CalTime) : Nat :=
  (((a.secs : Int) * 32768 + a.sub) - ((b.secs : Int) * 32768 + b.sub)).natAbs

/-- An automatic setting: not applied where it would move a valid calendar by at most two steps (19 R548). -/
def automaticSet (s : State) : State :=
  match s.man.bind (·.clock) with
  | none => s
  | some r =>
    if r.auto then
      match ptpCalendar s with
      | some c =>
        let s := keepUtcOffset s
        let next := (s.cal.now.moved ((s.cal.trimmed 1).1 : Int)).1
        if !s.cal.osf && decide (calDistance c next ≤ 2) then s else applySet c 3 s
      | none => s
    else s

/-- Alarm registers: TIME and DATE. -/
def alarmRegs (c : Cal) (second : Bool) : Word × Word :=
  if second then (c.alm1Time, c.alm1Date) else (c.alm0Time, c.alm0Date)

/-- All unmasked fields of an enabled alarm match the calendar (19 R547, R550). -/
def alarmMatches (c : Cal) (second : Bool) : Bool :=
  let (t, d) := alarmRegs c second
  let f := fun (w : Word) (mask lo n : Nat) (v : Nat) => w.getLsbD mask || (w.extractLsb' lo n).toNat == v
  t.getLsbD 31 && f t 27 24 3 c.now.wday && f t 23 16 5 c.now.hour && f t 15 8 6 c.now.min && f t 7 0 6 c.now.sec
    && f d 31 16 12 c.now.year && f d 15 8 4 c.now.month && f d 7 0 5 c.now.day

/-- The seconds that an alarm has matched since the last setting (19 R547). -/
def alarmMet (c : Cal) (second : Bool) : List Nat := if second then c.alm1Met else c.alm0Met

/-- An alarm's instant: it sets its flag, raises CAL_ALARMn and may wake the device, once for a second (19 R547). -/
def calendarAlarm (second : Bool) (s : State) : State :=
  if alarmMatches s.cal second && !(alarmMet s.cal second).contains s.cal.now.secs then
    let i := boolNat second
    let s := s.updCal fun c =>
      { c with alm := putBit c.alm i true
               alm0Met := if second then c.alm0Met else c.now.secs :: c.alm0Met
               alm1Met := if second then c.now.secs :: c.alm1Met else c.alm1Met }
    wakeUp (if second then .alarm1 else .alarm0) (raise (16 + i) s)
  else s

end Sys2Proof.Machine
end

