-- ==== Sys2Proof/Machine/QpMath.lean ====
section
/-! DEFINITION. The arithmetic of one quadratic program: formats, effective vectors, the iteration, the check, the
infeasibility test, factorisation and projection (06 R142 to R160, 07 R187 to R206). Accumulators are integers in
units of 2^-64: every product of two or three operands that the chapters form is exact in them. -/

namespace Sys2Proof.Machine

open Sys2Proof

/-- A raw value of `f` fractional bits in the accumulator. -/
def toAcc (f : Nat) (v : Int) : Int := v * 2 ^ (64 - f)

/-- Largest raw magnitude of a format (06 R151). -/
def maxRaw : Int := 2147483647

/-- Saturation to ±max_f (06 R153). -/
def satRaw (v : Int) : Int := max (-maxRaw) (min maxRaw v)

/-- An accumulator rounded to nearest, ties upward, into `f` fractional bits (06 R153). -/
def roundAcc (f : Nat) (acc : Int) : Int := (acc + 2 ^ (63 - f)) / 2 ^ (64 - f)

/-- Write a rounded value, and 1 when it saturates (06 R153, R159). -/
def wrRaw (r : Int) : Int × Nat := (satRaw r, boolNat (satRaw r != r))

/-- Write a rounded value clamped to a box, and 1 when a limit changed it (06 R159). -/
def wrBox (b : Int × Int) (r : Int) : Int × Nat :=
  let v := max b.1 (min b.2 (satRaw r))
  (v, boolNat (v != r))

/-- Write an accumulator into a format. -/
def wr (f : Nat) (acc : Int) : Int × Nat := wrRaw (roundAcc f acc)

/-- Values and the sum of their counts. -/
def counted (l : List (Int × Nat)) : List Int × Nat := (l.map (·.1), (l.map (·.2)).sum)

/-- clamp(v, lo, hi) = min(max(v, lo), hi) (07 R187). -/
def clampQ (v lo hi : Int) : Int := min (max v lo) hi

/-- Largest magnitude of a list. -/
def normInf (l : List Int) : Int := l.foldl (fun a v => max a (v.natAbs : Int)) 0

/-- Fractional bits of a quantity (06 R152). -/
def Template.fmt (t : Template) (i : Nat) : Nat := t.fmts.getD i 0
/-- Certified box of a quantity (06 R154). -/
def Template.box (t : Template) (i : Nat) : Int × Int := t.boxes.getD i (0, 0)
def fP : Nat := 0
def fA : Nat := 1
def fq : Nat := 2
def fLu : Nat := 3
def fX0 : Nat := 4
def fE : Nat := 5
def fx : Nat := 6
def fw : Nat := 7
def fy : Nat := 8
def fNu : Nat := 9
def fL : Nat := 10
def fd : Nat := 11
def fDinv : Nat := 12
def fLd : Nat := 13
def fT : Nat := 14
def fRes : Nat := 15

/-- Columns of a pattern with their values (06 R149). -/
def withVals : Pattern → List Int → List (List (Nat × Int))
  | [], _ => []
  | c :: cs, vs => c.zip vs :: withVals cs (vs.drop c.length)

/-- `acc + k * col`, the first element of `acc` being row `pos`. -/
def axpy : Nat → List Int → List (Nat × Int) → Int → List Int
  | _, [], _, _ => []
  | _, acc, [], _ => acc
  | pos, a :: as, (i, v) :: r, k =>
    if i = pos then (a + v * k) :: axpy (pos + 1) as r k else a :: axpy (pos + 1) as ((i, v) :: r) k

/-- Product of a matrix and a vector, raw. -/
def matVec (rows : Nat) (cols : List (List (Nat × Int))) (x : List Int) : List Int :=
  (cols.zip x).foldl (fun acc (c, k) => axpy 0 acc c k) (List.replicate rows 0)

/-- One column's product with a vector, raw. -/
def colDot (c : List (Nat × Int)) (y : List Int) : Int := c.foldl (fun a (i, v) => a + v * y.getD i 0) 0

/-- Product of a transposed matrix and a vector, raw. -/
def matTVec (cols : List (List (Nat × Int))) (y : List Int) : List Int := cols.map fun c => colDot c y

/-- Product of a symmetric matrix, given by its upper triangle, and a vector, raw (06 R149). -/
def symVec (n : Nat) (cols : List (List (Nat × Int))) (x : List Int) : List Int :=
  let low := cols.zipIdx.map fun (c, j) => colDot (c.filter (·.1 != j)) x
  ((matVec n cols x).zip low).map fun (a, b) => a + b

/-- Entries of a list replaced at rising indices. -/
def overlay : Nat → List Int → List (Nat × Int) → List Int
  | _, [], _ => []
  | _, b, [] => b
  | pos, b :: bs, (i, v) :: r =>
    if i = pos then v :: overlay (pos + 1) bs r else b :: overlay (pos + 1) bs ((i, v) :: r)

/-- q, l̂ and û of scenario k, concatenated (06 R144). -/
def scenAll (t : Template) (d : ProbData) (k : Nat) : List Int :=
  let base := d.q ++ d.lo ++ d.hi
  if k = 0 then base else overlay 0 base (t.scenList.zip (d.scen.drop ((k - 1) * t.v)))

/-- q of scenario k. -/
def scenQ (t : Template) (d : ProbData) (k : Nat) : List Int := (scenAll t d k).take t.n

/-- Effective bounds of a scenario: a bound plus E·x0, in format lu (06 R142, 07 R187). -/
def effBound (t : Template) (d : ProbData) (b : List Int) : List Int × Nat :=
  let sc := (2 : Int) ^ (64 - t.fmt fE - t.fmt fX0)
  let acc := t.stateMap.foldl (fun acc (r, j, e) => acc.modify r (· + e * d.x0.getD j 0 * sc)) (b.map (toAcc (t.fmt fLu)))
  counted (acc.map (wr (t.fmt fLu)))

/-- Effective l and u of scenario k (06 R142). -/
def effBounds (t : Template) (d : ProbData) (k : Nat) : (List Int × List Int) × Nat :=
  let all := scenAll t d k
  let (l, a) := effBound t d ((all.drop t.n).take t.m)
  let (u, b) := effBound t d (all.drop (t.n + t.m))
  ((l, u), a + b)

/-- z = clamp(w, l, u) in format w (07 R187). -/
def zOf (t : Template) (w l u : List Int) : List Int × Nat :=
  let up := toAcc (t.fmt fLu)
  counted (((w.zip (l.zip u)).map fun (w, l, u) => wr (t.fmt fw) (clampQ (toAcc (t.fmt fw) w) (up l) (up u))))

/-- Forward sweep: t[i] = b[i] - sum of l(i, j) t[j], in format t (07 R188). -/
def fwdSweep (ft : Nat) (sc : Int) : Nat → List (List (Nat × Int)) → List Int → List Int × Nat
  | j, c :: cs, b :: bs =>
    let (v, n) := wr ft b
    let (r, m) := fwdSweep ft sc (j + 1) cs (axpy (j + 1) bs c (-(v * sc)))
    (v :: r, n + m)
  | _, _, _ => ([], 0)

/-- Back sweep: v[i] = s[i] - sum of l(j, i) v[j], in format t; the answer's first element is row `j` (07 R188). -/
def backSweep (ft : Nat) (sc : Int) : Nat → List (List (Nat × Int)) → List Int → List Int × Nat
  | j, c :: cs, b :: bs =>
    let (r, m) := backSweep ft sc (j + 1) cs bs
    let (v, n) := wr ft (toAcc ft b - c.foldl (fun a (i, l) => a + l * r.getD (i - (j + 1)) 0 * sc) 0)
    (v :: r, n + m)
  | _, _, _ => ([], 0)

/-- Position of each original KKT row (06 R149). -/
def unperm (perm : List Nat) (v : List Int) (r : Nat) : Int := v.getD (perm.idxOf r) 0

/-- kkt_solve of the right-hand sides rp and rd, in format t: x̃ and ν (07 R188). -/
def kktSolve (t : Template) (f : Factor) (rp rd : List Int) : (List Int × List Int) × Nat :=
  let ft := t.fmt fT
  let rhs := rp ++ rd
  let cols := (t.lcols.zip f.l).map fun (c, l) => c.zip l
  let sc := (2 : Int) ^ (64 - t.fmt fL - ft)
  let (tv, n1) := fwdSweep ft sc 0 cols (t.perm.map fun r => toAcc ft (rhs.getD r 0))
  let (sv, n2) := counted ((tv.zip f.dinv).map fun (a, b) => wr ft (a * b * 2 ^ (64 - ft - t.fmt fDinv)))
  let (v, n3) := backSweep ft sc 0 cols sv
  let (xt, n4) := counted ((List.range t.n).map fun r => wr (t.fmt fx) (toAcc ft (unperm t.perm v r)))
  let (nu, n5) := counted ((List.range t.m).map fun r => wr (t.fmt fNu) (toAcc ft (unperm t.perm v (t.n + r))))
  ((xt, nu), n1 + n2 + n3 + n4 + n5)

/-- What the first part of an iteration gives for one scenario. -/
structure IterMid where
  x : List Int
  w : List Int
  z : List Int
  xt : List Int
  nu : List Int
  deriving DecidableEq, Repr

/-- First part of an iteration for scenario k: bounds, z, right-hand sides and the KKT solution (07 R187). -/
def iterScen (t : Template) (c : ProblemCfg) (d : ProbData) (q : List Int) (f : Factor) (k : Nat) (x w : List Int) :
    IterMid × Nat :=
  let ((l, u), n1) := effBounds t d k
  let (z, n2) := zOf t w l u
  let ft := t.fmt fT
  let (rp, n3) := counted ((x.zip q).map fun (x, q) =>
    wr ft (c.sigma * x * 2 ^ (64 - 16 - t.fmt fx) - toAcc (t.fmt fq) q))
  let (rd, n4) := counted ((z.zip w).map fun (z, w) => wr ft (toAcc (t.fmt fw) (2 * z - w)))
  let ((xt, nu), n5) := kktSolve t f rp rd
  ({ x := x, w := w, z := z, xt := xt, nu := nu }, n1 + n2 + n3 + n4 + n5)

/-- Weighted sum over the scenarios of entry `i`, held in format `f`, exactly (07 R187, R190). -/
def weightedMove (weights : List Int) (f : Nat) (vs : List (List Int)) (i : Nat) : Int :=
  (weights.zip vs).foldl (fun a (p, v) => a + p * v.getD i 0 * 2 ^ (64 - 24 - f)) 0

/-- Weighted sums over the scenarios of the first `nu` entries, in format `f` (07 R187). -/
def firstMoves (weights : List Int) (nu f : Nat) (vs : List (List Int)) : List Int × Nat :=
  counted ((List.range nu).map fun i => wr f (weightedMove weights f vs i))

/-- Last part of an iteration for one scenario: x⁺ and w⁺ (07 R187, R189). -/
def iterEnd (t : Template) (c : ProblemCfg) (f : Factor) (mean : List Int) (m : IterMid) : (List Int × List Int) × Nat :=
  let xt := mean ++ m.xt.drop mean.length
  let beta := 0x1000000 - c.alpha
  let sx := (2 : Int) ^ (64 - 24 - t.fmt fx)
  let sw := (2 : Int) ^ (64 - 24 - t.fmt fw)
  let (x, n1) := counted ((xt.zip m.x).map fun (a, b) =>
    wrBox (t.box fx) (roundAcc (t.fmt fx) ((c.alpha * a + beta * b) * sx)))
  let (zt, n2) := counted ((m.z.zip (m.w.zip m.nu)).map fun (z, w, nu) =>
    wr (t.fmt fw) (toAcc (t.fmt fw) (2 * z - w) + nu * f.rinv * 2 ^ (64 - 16 - t.fmt fNu)))
  let (w, n3) := counted ((zt.zip (m.z.zip m.w)).map fun (a, z, w) =>
    wrBox (t.box fw) (roundAcc (t.fmt fw) ((c.alpha * a + beta * z) * sw + toAcc (t.fmt fw) (w - z))))
  ((x, w), n1 + n2 + n3)

/-- One iteration of a problem (07 R187): the iterate after it and the saturations it made. -/
def iterateSet (t : Template) (c : ProblemCfg) (d : ProbData) (qeff : List (List Int)) (f : Factor) (s : IterSet) :
    IterSet × Nat :=
  let mids := ((s.x.zip (s.w.zip qeff)).zipIdx).map fun ((x, w, q), k) => iterScen t c d q f k x w
  let (mean, n) := firstMoves (c.weights.take c.scenarios) t.nu (t.fmt fx) (mids.map (·.1.xt))
  let ends := mids.map fun (m, _) => iterEnd t c f mean m
  ({ x := ends.map (·.1.1), w := ends.map (·.1.2), rho := s.rho },
   (mids.map (·.2)).sum + n + (ends.map (·.2)).sum)

/-- y = ρ (w - z) in format y (07 R190, 06 R175). -/
def yOf (t : Template) (rho : Int) (w z : List Int) : List Int × Nat :=
  counted ((w.zip z).map fun (w, z) => wr (t.fmt fy) (rho * (w - z) * 2 ^ (64 - 16 - t.fmt fw)))

/-- What a check finds (07 R190). -/
structure CheckRes where
  rprim : Int
  rdual : Int
  /-- np and nd in the accumulator. -/
  np : Int
  nd : Int
  conv : Bool
  relaxed : Bool
  y : List (List Int)
  sats : Nat
  deriving DecidableEq, Repr

/-- What the check forms for one scenario. -/
structure CheckMid where
  rp : Int
  g : List Int
  np : Int
  nd : Int
  y : List Int
  sats : Nat

/-- The check's quantities for one scenario (07 R190). -/
def checkScen (t : Template) (d : ProbData) (rho : Int) (q : List Int) (k : Nat) (x w : List Int) : CheckMid :=
  let fr := t.fmt fRes
  let ((l, u), _) := effBounds t d k
  let (z, n1) := zOf t w l u
  let (y, n2) := yOf t rho w z
  let ac := withVals t.aPat d.a
  let pc := withVals t.pPat d.p
  let (ax, n3) := counted ((matVec t.m ac x).map fun v => wr fr (v * 2 ^ (64 - t.fmt fA - t.fmt fx)))
  let (px, n4) := counted ((symVec t.n pc x).map fun v => wr fr (v * 2 ^ (64 - t.fmt fP - t.fmt fx)))
  let (aty, n5) := counted ((matTVec ac y).map fun v => wr fr (v * 2 ^ (64 - t.fmt fA - t.fmt fy)))
  let (rp, n6) := wr fr (normInf ((ax.zip z).map fun (a, z) => toAcc fr a - toAcc (t.fmt fw) z))
  let (g, n7) := counted ((px.zip (q.zip aty)).map fun (p, q, a) =>
    wr fr (toAcc fr (p + a) + toAcc (t.fmt fq) q))
  { rp := rp, g := g, y := y
    np := max (toAcc fr (normInf ax)) (toAcc (t.fmt fw) (normInf z))
    nd := max (toAcc fr (max (normInf px) (normInf aty))) (toAcc (t.fmt fq) (normInf q))
    sats := n1 + n2 + n3 + n4 + n5 + n6 + n7 }

/-- A residual within k times its tolerance: r in format res, n in the accumulator (07 R190). -/
def within (fr : Nat) (c : ProblemCfg) (k r n : Int) : Bool :=
  decide (toAcc fr r * 2 ^ 24 ≤ k * (c.epsAbs * 2 ^ 64 + c.epsRel * n))

/-- The check of an iterate set under ρ (07 R190). -/
def checkSet (t : Template) (c : ProblemCfg) (d : ProbData) (rho : Int) (qeff : List (List Int)) (s : IterSet) : CheckRes :=
  let fr := t.fmt fRes
  let mids := ((s.x.zip (s.w.zip qeff)).zipIdx).map fun ((x, w, q), k) => checkScen t d rho q k x w
  let (means, n) := counted ((List.range t.nu).map fun i =>
    wr fr (weightedMove (c.weights.take c.scenarios) fr (mids.map (·.g)) i).natAbs)
  let rprim := (mids.map (·.rp)).foldl max 0
  let rdual := max (normInf means) ((mids.map fun m => normInf (m.g.drop t.nu)).foldl max 0)
  let np := (mids.map (·.np)).foldl max 0
  let nd := (mids.map (·.nd)).foldl max 0
  { rprim := rprim, rdual := rdual, np := np, nd := nd, y := mids.map (·.y)
    conv := within fr c 1 rprim np && within fr c 1 rdual nd
    relaxed := within fr c 10 rprim np && within fr c 10 rdual nd
    sats := (mids.map (·.sats)).sum + n }

/-- Primal infeasibility of a scenario from δy in the accumulator (07 R191). -/
def primalInf (t : Template) (c : ProblemCfg) (d : ProbData) (l u dy : List Int) : Bool :=
  let e := c.epsAbs * normInf dy
  let at_ := normInf (matTVec (withVals t.aPat d.a) dy)
  let sum := (dy.zip (l.zip u)).foldl (fun a (y, l, u) => a + u * max y 0 + l * min y 0) 0
  decide (0 < normInf dy) && decide (at_ * 2 ^ 24 ≤ e * 2 ^ t.fmt fA) && decide (sum * 2 ^ 24 < -(e * 2 ^ t.fmt fLu))

/-- Dual infeasibility of a scenario from δx, raw in format x: each side of the row test is waived by the bound that
its own sentence names (07 R191). -/
def dualInf (t : Template) (c : ProblemCfg) (d : ProbData) (q l u dx : List Int) : Bool :=
  let e := c.epsAbs * normInf dx
  let p := normInf (symVec t.n (withVals t.pPat d.p) dx)
  let qd := (q.zip dx).foldl (fun a (q, x) => a + q * x) 0
  let rows := (matVec t.m (withVals t.aPat d.a) dx).zip (l.zip u)
  decide (0 < normInf dx) && decide (p * 2 ^ 24 ≤ e * 2 ^ t.fmt fP) && decide (qd * 2 ^ 24 < -(e * 2 ^ t.fmt fq))
    && rows.all fun (a, l, u) =>
      (decide (-(e * 2 ^ t.fmt fA) ≤ a * 2 ^ 24) || u == maxRaw)
        && (decide (a * 2 ^ 24 ≤ e * 2 ^ t.fmt fA) || l == -maxRaw)

/-- y of an iterate before the iteration, exact in the accumulator (07 R191). -/
def yExact (t : Template) (rho : Int) (w z : List Int) : List Int :=
  (w.zip z).map fun (w, z) => rho * (w - z) * 2 ^ (64 - 16 - t.fmt fw)

/-- The infeasibility tests of a check: primal, dual (07 R191). -/
def infeasible (t : Template) (c : ProblemCfg) (d : ProbData) (qeff : List (List Int)) (before after : IterSet)
    (y : List (List Int)) : Bool × Bool :=
  let l := ((before.x.zip before.w).zip (after.x.zip (y.zip qeff))).zipIdx.map fun (((x, w), x', y', q), k) =>
    let ((l, u), _) := effBounds t d k
    let (z, _) := zOf t w l u
    let dy := (y'.zip (yExact t before.rho w z)).map fun ((a, b) : Int × Int) => toAcc (t.fmt fy) a - b
    let dx := (x'.zip x).map fun ((a, b) : Int × Int) => a - b
    (primalInf t c d l u dy, dualInf t c d q l u dx)
  (l.any (·.1), l.any (·.2))

/-- The ρ that adaptation asks for, if any (07 R193). -/
def adaptRho (t : Template) (c : ProblemCfg) (rho : Int) (r : CheckRes) : Option Int :=
  let lsb := toAcc (t.fmt fRes) 1
  let np := max r.np lsb
  let nd := max r.nd lsb
  if r.rprim * nd > 10 * r.rdual * np ∧ rho < c.rhoMax then some (min (2 * rho) c.rhoMax)
  else if r.rdual * np > 10 * r.rprim * nd ∧ c.rhoMin < rho then some (max ((rho + 1) / 2) c.rhoMin)
  else none

/-- An iterate set rescaled from its own ρ to a factor's, so that y is kept (07 R200). -/
def rescaleSet (t : Template) (d : ProbData) (f : Factor) (s : IterSet) : IterSet × Nat :=
  let r := s.w.zipIdx.map fun (w, k) =>
    let ((l, u), _) := effBounds t d k
    let (z, n) := zOf t w l u
    let (w, m) := counted ((w.zip z).map fun (w, z) =>
      wrBox (t.box fw) (roundAcc (t.fmt fw)
        (toAcc (t.fmt fw) z + s.rho * (w - z) * f.rinv * 2 ^ (64 - 32 - t.fmt fw))))
    (w, n + m)
  ({ s with w := r.map (·.1), rho := f.rho }, (r.map (·.2)).sum)

/-- 1/ρ in Q16.16 (07 R194). -/
def rhoInv (rho : Int) : Int × Nat := wrRaw ((2 * 2 ^ 32 + rho) / (2 * rho))

/-- Value of a column at a row, raw; zero where the pattern has none. -/
def colAt (c : List (Nat × Int)) (r : Nat) : Int := ((c.find? (·.1 == r)).map (·.2)).getD 0

/-- Entry of K for two original KKT rows, in the accumulator (07 R194). -/
def kktEntry (t : Template) (c : ProblemCfg) (pc ac : List (List (Nat × Int))) (rinv : Int) (a b : Nat) : Int :=
  let i := min a b
  let j := max a b
  if j < t.n then
    toAcc (t.fmt fP) (colAt (pc.getD j []) i) + (if i = j then toAcc 16 c.sigma else 0)
  else if i < t.n then toAcc (t.fmt fA) (colAt (ac.getD i []) (j - t.n))
  else if i = j then -(toAcc 16 rinv) else 0

/-- Pivot, reciprocal and what happened: regularised, reciprocal saturated, saturations (07 R194 to R196). -/
def pivot (t : Template) (c : ProblemCfg) (primal : Bool) (acc : Int) : Int × Int × Bool × Bool × Nat :=
  let f := t.fmt fd
  let (d0, n0) := wrBox (t.box fd) (roundAcc f acc)
  let small := if primal then decide (toAcc f d0 < toAcc 16 c.deltaMin) else decide (-(toAcc 16 c.deltaMin) < toAcc f d0)
  let (g, ng) := wr f (toAcc 16 c.deltaReg)
  let d := if small then (if primal then g else -g) else d0
  let num : Int := 2 ^ (f + t.fmt fDinv)
  let r := if d = 0 then (if primal then maxRaw + 1 else -(maxRaw + 1))
    else if 0 < d then (2 * num + d) / (2 * d) else (-(2 * num) + -d) / (2 * -d)
  let (v, n1) := wrBox (t.box fDinv) r
  (d, v, small, satRaw r != r, n0 + (if small then ng else 0) + n1)

/-- Compute the next column of a factorisation; answers the saturations too (07 R194). -/
def factorColumn (t : Template) (c : ProblemCfg) (pc ac : List (List (Nat × Int))) (b : Build) : Build × Nat :=
  let j := b.f.l.length
  let rj := t.perm.getD j 0
  let rows := t.lcols.getD j []
  let acc0 := rows.map fun i => (i, kktEntry t c pc ac b.f.rinv (t.perm.getD i 0) rj)
  let prior := (t.lcols.zip b.f.l).zip b.d
  let (acc, dj, n) := prior.foldl (fun ((acc, dj, n) : List (Nat × Int) × Int × Nat) ((cr, cl), d) =>
      let col := cr.zip cl
      if !cr.contains j then (acc, dj, n)
      else
        let l := colAt col j
        let (ld, m) := wr (t.fmt fLd) (l * d * 2 ^ (64 - t.fmt fL - t.fmt fd))
        let sc := (2 : Int) ^ (64 - t.fmt fL - t.fmt fLd)
        (acc.map fun (i, a) => (i, a - colAt col i * ld * sc), dj - l * ld * sc, n + m))
    (acc0, kktEntry t c pc ac b.f.rinv rj rj, 0)
  let (d, v, small, rs, n1) := pivot t c (decide (rj < t.n)) dj
  let col := acc.map fun (_, a) =>
    let (x, m) := wr (t.fmt fd) a
    let (y, m') := wrBox (t.box fL) (roundAcc (t.fmt fL) (x * v * 2 ^ (64 - t.fmt fd - t.fmt fDinv)))
    (y, m + m')
  let (l, n2) := counted col
  ({ b with d := b.d ++ [d]
            f := { b.f with l := b.f.l ++ [l], dinv := b.f.dinv ++ [v]
                            regs := b.f.regs + boolNat small, rangeSat := b.f.rangeSat || rs } },
   n + n1 + n2)

/-- Columns until a step's entry count is reached or the last column is done (07 R197). -/
def factorRun (t : Template) (c : ProblemCfg) (pc ac : List (List (Nat × Int))) : Nat → Nat → Build → Nat → Build × Nat
  | 0, _, b, n => ({ b with done := true }, n)
  | cols + 1, todo, b, n =>
    if todo = 0 then (b, n)
    else
      let (b', m) := factorColumn t c pc ac b
      let k := 1 + (t.lcols.getD b.f.l.length []).length
      if cols = 0 then ({ b' with done := true }, n + m) else factorRun t c pc ac cols (todo - k) b' (n + m)

/-- Entries that one factor step computes at least (07 R197). -/
def stepEntries (t : Template) : Nat := max 256 ((t.nnzL + 7) / 8)

/-- One factor step (07 R197). -/
def factorStepOf (t : Template) (c : ProblemCfg) (d : ProbData) (b : Build) : Build × Nat :=
  factorRun t c (withVals t.pPat d.p) (withVals t.aPat d.a) (t.n + t.m - b.f.l.length) (stepEntries t) b 0

/-- A whole factorisation (07 R198). -/
def factorWhole (t : Template) (c : ProblemCfg) (d : ProbData) (b : Build) : Build × Nat :=
  factorRun t c (withVals t.pPat d.p) (withVals t.aPat d.a) (t.n + t.m) (t.nnzL + 1) b 0

/-- Box rows: rows of A with exactly one entry, of value exactly 1.0, with their variables, in rising row (07 R206). -/
def boxRows (t : Template) (d : ProbData) : List (Nat × Nat) :=
  let ent := (withVals t.aPat d.a).zipIdx.flatMap fun (c, j) => c.map fun (i, v) => (i, j, v)
  (List.range t.m).filterMap fun r =>
    match ent.filter (·.1 == r) with
    | [(_, j, v)] => if v = 2 ^ t.fmt fA then some (r, j) else none
    | _ => none

/-- Bounds of the box rows in format x, rounded inward: per row its variable, lower and upper (07 R206). -/
def boxBounds (t : Template) (rows : List (Nat × Nat)) (l u : List Int) : List (Nat × Int × Int) :=
  let sc := (2 : Int) ^ (64 - t.fmt fx)
  rows.map fun (r, j) =>
    (j, satRaw (-((-(toAcc (t.fmt fLu) (l.getD r 0))) / sc)), satRaw (toAcc (t.fmt fLu) (u.getD r 0) / sc))

/-- Bounds for first-move variables: the largest lower and the smallest upper over the scenarios (07 R206). -/
def commonBounds (nu : Nat) (all : List (List (Nat × Int × Int))) (own : List (Nat × Int × Int)) : List (Nat × Int × Int) :=
  own.zipIdx.map fun ((j, lo, hi), i) =>
    if j < nu then
      (j, (all.map fun b => (b.getD i (0, lo, hi)).2.1).foldl max lo, (all.map fun b => (b.getD i (0, lo, hi)).2.2).foldl min hi)
    else (j, lo, hi)

/-- Clamp one scenario's x row by row, then the named variables to the x box (07 R206). -/
def projectX (t : Template) (bounds : List (Nat × Int × Int)) (x : List Int) : List Int :=
  let x := bounds.foldl (fun x (j, lo, hi) => x.modify j (clampQ · lo hi)) x
  x.zipIdx.map fun (v, j) => if bounds.any (·.1 == j) then clampQ v (t.box fx).1 (t.box fx).2 else v

/-- Bounds of every scenario's box rows (07 R206). -/
def scenBounds (t : Template) (c : ProblemCfg) (d : ProbData) : List (List (Nat × Int × Int)) :=
  let rows := boxRows t d
  let all := (List.range c.scenarios).map fun k => let ((l, u), _) := effBounds t d k; boxBounds t rows l u
  all.map (commonBounds t.nu all)

/-- Projection onto the box rows (07 R206). -/
def projectSet (t : Template) (c : ProblemCfg) (d : ProbData) (s : IterSet) : IterSet :=
  { s with x := (s.x.zip (scenBounds t c d)).map fun (x, b) => projectX t b x }

/-- Bounds to which projection holds a first-move variable: the x box without a box row (08 R226). -/
def moveBounds (t : Template) (c : ProblemCfg) (d : ProbData) (i : Nat) : Int × Int :=
  let b := (scenBounds t c d).headD []
  let p := fun v => (projectX t b (List.replicate t.n v)).getD i v
  (p (t.box fx).1, p (t.box fx).2)

/-- x_pred = A_m x0 + B_m ū in format x0, clamped (06 R174); the clamps that changed a value are counted. -/
def predict (t : Template) (m : PredModel) (x0 u : List Int) : List Int × Nat :=
  counted ((List.range t.nx).map fun i =>
    let a := ((m.a.drop (i * m.nx)).take m.nx).zip x0
    let b := ((m.b.drop (i * m.nu)).take m.nu).zip u
    wrBox (t.box fX0) (roundAcc (t.fmt fX0)
      (a.foldl (fun s (p, v) => s + p * v * 2 ^ (64 - m.fmtA - t.fmt fX0)) 0
        + b.foldl (fun s (p, v) => s + p * v * 2 ^ (64 - m.fmtB - t.fmt fx)) 0)))

/-- The correction of an accepted run-ahead iterate, in the order of the state map (08 R232). -/
def correctSet (t : Template) (d : ProbData) (s : IterSet) : IterSet × Nat :=
  let r := s.w.map fun w => t.stateMap.foldl (fun (w, n) (r, j, e) =>
      let (v, m) := wrBox (t.box fw) (roundAcc (t.fmt fw)
        (toAcc (t.fmt fw) (w.getD r 0) + e * (d.x0.getD j 0 - d.xPred.getD j 0) * 2 ^ (64 - t.fmt fE - t.fmt fX0)))
      (w.set r v, n + m)) (w, 0)
  ({ s with w := r.map (·.1) }, (r.map (·.2)).sum)

end Sys2Proof.Machine
end

