-- ==== Sys2Proof/Machine/PairBase.lean ====
section
/-! DEFINITION. What commits and fix instants share with the redundant pair: digests, and leaving lockstep (14 R403 to
R405). -/

namespace Sys2Proof.Machine

open Sys2Proof

/-- The standby leaves lockstep and reports NOT_READY (14 R405). -/
def leaveLockstep (s : State) : State :=
  if s.pair.role = .lockstep then
    raise 195 (s.updPair fun p => { p with role := .notReady, joinNext := false, own := [], peer := [] })
  else s

/-- Digest mismatches within the last hour of operating time (14 R404, R419). -/
def mismatchesHour (s : State) : Nat :=
  (s.pair.mismatchAt.filter fun t => decide (s.jrn.optime.toNat < t.toNat + 3600000)).length

/-- Mismatch limit of the pair setup record (14 R394, R404). -/
def mismatchLimit (s : State) : Nat := ((s.man.bind (·.pair)).map (·.mismatchLimit)).getD 15

/-- The active unit begins to resynchronise its partner (14 R417). -/
def beginResync (s : State) : State :=
  s.updPair fun p => { p with joining := true, joinNext := false, rounds := 0, snap := none }

/-- What a digest mismatch does on this unit (14 R404): the standby leaves lockstep, and the active unit goes on and
resynchronises it at once, where it is not held out (14 R418). -/
def digestMismatch (s : State) : State :=
  let s := raise 196 (s.updPair fun p =>
    { p with mismatch := satInc p.mismatch, mismatchAt := s.jrn.optime :: p.mismatchAt, own := [], peer := [] })
  if s.isStandby then
    let s := leaveLockstep s
    if mismatchLimit s ≤ mismatchesHour s ∧ s.pair.role = .notReady then s.updPair fun p => { p with role := .heldOut } else s
  else if s.pair.role = .activeLockstep then
    let s := s.updPair fun p => { p with role := .activeAlone }
    if mismatchesHour s < mismatchLimit s then beginResync s else s
  else s

/-- Two digests are of the same commit or fix (14 R403). -/
def sameDigest (a b : DigestMsg) : Bool :=
  a.fix == b.fix && a.task == b.task && a.scan == b.scan && a.cycle == b.cycle

/-- Compare an own and a partner's digest (14 R403, R404). -/
def compareDigest (a b : DigestMsg) (s : State) : State :=
  let s := s.updPair fun p => { p with compared := p.compared + 1 }
  if a.digest = b.digest then s else digestMismatch s

/-- The unit takes part in digest comparison (14 R403, 03 R81). -/
def comparing (s : State) : Bool := s.pair.role == .activeLockstep || s.pair.role == .lockstep

/-- A digest of this unit: sent, and compared with the partner's when that is at hand (14 R403). Between the last pages and
the boundary of a lockstep entry nothing is compared, but the active unit's digests already tell the standby the order of its
commits (10 R282). -/
def ownDigest (m : DigestMsg) (s : State) : State :=
  if s.pair.joinNext && !comparing s then
    if s.isActive then sendLink (.digest m) s
    else s.updPair fun p => { p with peer := p.peer.filter (fun x => !sameDigest m x) }
  else if comparing s then
    let s := sendLink (.digest m) s
    match s.pair.peer.find? (sameDigest m) with
    | some b => compareDigest m b (s.updPair fun p => { p with peer := p.peer.filter (fun x => !sameDigest m x) })
    | none => s.updPair fun p => { p with own := p.own ++ [m] }
  else s

/-- A digest of the partner (14 R403). -/
def peerDigest (m : DigestMsg) (s : State) : State :=
  if comparing s then
    match s.pair.own.find? (sameDigest m) with
    | some a => compareDigest a m (s.updPair fun p => { p with own := p.own.filter (fun x => !sameDigest m x) })
    | none => s.updPair fun p => { p with peer := p.peer ++ [m] }
  else if s.pair.joinNext && s.isStandby then s.updPair fun p => { p with peer := p.peer ++ [m] }
  else s

/-- A standby in lockstep applies commits in the active unit's order, which the digests of the active unit's commits tell: a
scan commits in its turn (10 R282). DESIGN CHOICE, log entry 77. -/
def inTurn (s : State) (t : Nat) (r : Run) : Bool :=
  s.pair.role != .lockstep || (s.pair.peer.find? (!·.fix)).any fun m => m.task.toNat == t && m.scan == r.scan

/-- The 16 bytes of a landing-buffer entry. The manual gives no layout; both units use the same. DESIGN CHOICE. -/
def landingBytes : Landing → Bytes
  | .store i t v => leBytes 4 i ++ [1, BitVec.ofNat 8 (tyCode t), 0, 0] ++ leBytes 8 v.toNat
  | .lpw n p t v => leBytes 2 n ++ leBytes 2 p ++ [2, BitVec.ofNat 8 (tyCode t), 0, 0] ++ leBytes 8 v.toNat
  | .jrn src sev code sub v =>
    leBytes 1 src ++ leBytes 1 sev ++ leBytes 2 code ++ [3, BitVec.ofNat 8 sub, 0, 0] ++ leBytes 8 v.toNat

/-- The digest of a commit (14 R403). -/
def commitDigest (t : Nat) (r : Run) (seq : Word) : DigestMsg :=
  { fix := false, task := BitVec.ofNat 5 t, scan := r.scan
    digest := Config.sha256 (leBytes 1 t ++ leBytes 4 r.scan.toNat ++ leBytes 4 seq.toNat
      ++ r.entries.flatMap landingBytes ++ r.delta.flatten) }

end Sys2Proof.Machine
end

