-- ==== Sys2Proof/Machine/DeltaOps.lean ====
section
/-! DEFINITION. Problems of the adopted manifest, delta frames and their application (06 R145 to R172). -/

namespace Sys2Proof.Machine

open Sys2Proof

/-- Table entry of a problem (06 R146). -/
def problemCfg (s : State) (n : Nat) : Option ProblemCfg := (s.man.map (·.problems)).bind (·.find? (·.num == n))

/-- Defined problems in increasing number. -/
def problemNums (s : State) : List Nat := ((s.man.map (·.problems)).getD []).map (·.num)

/-- Template of a table entry (06 R145). -/
def templateOf (s : State) (c : ProblemCfg) : Option Template := (s.man.map (·.templates)).bind (·[c.template]?)

/-- Prediction model of a template (06 R173). -/
def modelOf (s : State) (c : ProblemCfg) : Option PredModel :=
  (s.man.map (·.models)).bind (·.find? (·.template == c.template))

/-- Table entry and template of a problem. -/
def problemDef (s : State) (n : Nat) : Option (ProblemCfg × Template) :=
  (problemCfg s n).bind fun c => (templateOf s c).map fun t => (c, t)

/-- Run an operation on a defined problem. -/
def withProblem (n : Nat) (s : State) (f : ProblemCfg → Template → State → State) : State :=
  match problemDef s n with
  | some (c, t) => f c t s
  | none => s

/-- Signed value of a word (00 R7). -/
def wordInt (w : Word) : Int := w.toInt

/-- Word of a raw value. -/
def intWord (v : Int) : Word := BitVec.ofInt 32 v

/-- Entries of a target (06 R167). -/
def targetSize (c : ProblemCfg) (t : Template) (target : Nat) : Nat :=
  match target with
  | 1 => t.n
  | 2 => t.m
  | 3 => t.m
  | 4 => t.nnzP
  | 5 => t.nnzA
  | 6 => t.nx
  | 7 => (c.scenarios - 1) * t.v
  | _ => 0

/-- Box of an entry of a target (06 R167). -/
def targetBox (t : Template) (target index : Nat) : Int × Int :=
  match target with
  | 1 => t.box fq
  | 2 => t.box fLu
  | 3 => t.box fLu
  | 4 => t.box fP
  | 5 => t.box fA
  | 6 => t.box fX0
  | _ => if t.scenList.getD (index % t.v) 0 < t.n then t.box fq else t.box fLu

/-- Pairs of a frame: index and value (06 R166). -/
def framePairs (b : Bytes) : List (Nat × Int) :=
  (List.range (fld b 4 2)).map fun i => (fld b (8 + 8 * i) 4, sfld b (12 + 8 * i) 4)

/-- Reason of the checks that need the problem's table entry; 0 accepts (06 R168). -/
def deltaBody (c : ProblemCfg) (t : Template) (standby : Bool) (b : Bytes) (container : Nat) (host : Bool) : Nat :=
  let target := fld b 2 1
  let count := fld b 4 2
  let pairs := framePairs b
  if target = 0 ∨ 7 < target then 2
  else if fld b 3 1 ≠ 0 ∨ fld b 6 2 ≠ 0 then 3
  else if count = 0 ∨ 4096 < count then 4
  else if container < 8 + 8 * count then 5
  else if pairs.any (fun (i, _) => decide (targetSize c t target ≤ i)) then 6
  else if pairs.any (fun (i, v) => let x := targetBox t target i; decide (v < x.1 ∨ x.2 < v)) then 7
  else if host && !c.hostDelta then 8
  else if host && standby then 9
  else 0

/-- Reason of R168 for a frame in a container of a size in bytes; 0 accepts. -/
def deltaReason (s : State) (b : Bytes) (container : Nat) (host : Bool) : Nat :=
  if container < 8 then 5
  else match problemDef s (fld b 0 2) with
    | none => 1
    | some (c, t) => deltaBody c t s.isStandby b container host

/-- A frame's own bytes: the header and its pairs (06 R166). -/
def frameOf (b : Bytes) : Bytes := slice b 0 (8 + 8 * fld b 4 2)

/-- A rejection is recorded (06 R168, R170, R184). -/
def rejectDelta (problem reason : Nat) (s : State) : State :=
  let s := raise 128 (s.updSol fun x => { x with rejAll := x.rejAll + 1 }) problem
  if (problemCfg s problem).isSome then
    s.updProb problem fun p => { p with rejLast := BitVec.ofNat 8 reason, rejCount := satInc p.rejCount }
  else s

/-- SOL_HD_CTRL.SUBMIT (06 R172). -/
def submitHost (s : State) : State :=
  if s.sol.hdBusy then s
  else
    let count := fld (Store.getMany 0 s.sol.hdBuf 4 2) 0 2
    let b := Store.getMany 0 s.sol.hdBuf 0 (8 + 8 * min count 4096)
    let r := deltaReason s b 32776 true
    if r = 0 then
      s.updSol fun x => { x with hdBusy := true, hdDone := false, hdReason := 0, host := some (frameOf b), hostSent := false }
    else rejectDelta (fld b 0 2) r (s.updSol fun x => { x with hdReason := BitVec.ofNat 8 r })

/-- One pair of a frame enters a problem's data (06 R167, R169). -/
def applyPair (target : Nat) (d : ProbData) (x : Nat × Int) : ProbData :=
  let (i, v) := x
  match target with
  | 1 => { d with q := d.q.set i v }
  | 2 => { d with lo := d.lo.set i v }
  | 3 => { d with hi := d.hi.set i v }
  | 4 => { d with p := d.p.set i v }
  | 5 => { d with a := d.a.set i v }
  | 6 => { d with x0 := d.x0.set i v }
  | _ => { d with scen := d.scen.set i v }

/-- One frame enters its problem's data; the application of an accepted host frame is raised on both units of a pair, with
the frame's problem, and noted where it was accepted (06 R169, R172, R184, R186; 17 R484). -/
def applyFrame (s : State) (x : FrameSrc × Bytes) : State :=
  let (src, b) := x
  let s := s.updProb (fld b 0 2) fun p => { p with data := (framePairs b).foldl (applyPair (fld b 2 1)) p.data }
  match src with
  | .scan _ => s
  | .host => raise 129 (s.updSol fun x => { x with hdBusy := false, hdDone := true }) (fld b 0 2)
  | .peerHost => raise 129 s (fld b 0 2)

/-- Frames that a commit releases: the host frame of the state task's scan, then the scan's own (06 R170 to R172). -/
def releasedFrames (t : Nat) (r : Run) (s : State) : List (FrameSrc × Bytes) :=
  let own := r.delta.map fun b => (FrameSrc.scan t, b)
  if t = s.stateTask then
    let host := match s.sol.host with
      | some b => if s.inPair && !s.sol.hostSent then [] else [(FrameSrc.host, b)]
      | none => []
    s.sol.hostPeer.map (fun b => (FrameSrc.peerHost, b)) ++ host ++ own
  else own

/-- A commit releases its delta frames and records its rejections (06 R170). -/
def releaseDeltas (t : Nat) (r : Run) (s : State) : State :=
  let l := releasedFrames t r s
  let s := r.rejects.foldl (fun s (p, k) => rejectDelta p k s) s
  s.updSol fun x =>
    { x with waiting := x.waiting ++ l
             host := if l.any (fun f => f.1 == .host) then none else x.host
             hostPeer := if t = s.stateTask then [] else x.hostPeer }

end Sys2Proof.Machine
end

