-- ==== Sys2Proof/Machine/SolverOps.lean ====
section
/-! DEFINITION. Solves and run-ahead: starts, rounds, iterations, factorisations and stops (07, 08 R221 to R232). -/

namespace Sys2Proof.Machine

open Sys2Proof

/-- Coupling record. -/
def State.coupling (s : State) : Coupling := (s.man.bind (·.coupling)).getD {}

/-- A problem is named by a term (08 R218). -/
def isCoupled (s : State) (n : Nat) : Bool := s.coupling.cons.any fun c => c.terms.any (·.problem == n)

/-- Placement of a problem. -/
def placeOf (s : State) (n : Nat) : ProbPlace := Store.get {} s.place.cur.probs n

/-- A problem's tile, or a tile of its span, is faulty (05 R131). -/
def onFaulty (s : State) (n : Nat) : Bool := (placeOf s n).tiles.any fun t => s.place.tileFault.getLsbD t

/-- A problem is shed (05 R133). -/
def isShed (s : State) (n : Nat) : Bool := (placeOf s n).tiles.isEmpty

/-- Round unit of a problem: its tile, or a class P problem's number; a shed problem is on no tile (05 R133, 07 R203). -/
def unitOf (s : State) (n : Nat) : Nat := if n < 1024 then (placeOf s n).tiles.headD (2048 + n) else n

/-- Problems of a round unit in increasing number. -/
def unitProblems (s : State) (u : Nat) : List Nat := (problemNums s).filter fun n => unitOf s n == u

/-- Bytes of a problem's tile part (06 R161, R162). -/
def tilePart (c : ProblemCfg) (t : Template) : Nat :=
  let up := fun n => (n + 4095) / 4096 * 4096
  let s := c.scenarios
  if t.classP then
    up (96 + 12 * t.nnzL + 4 * (t.n + t.m + 1) + 8 * (t.nnzA + t.nnzP) + 8 * (t.n + 1) + 4 * s * (t.n + 2 * t.m)
      + 8 * s * (t.n + t.m) + 8 * t.nnzE)
  else up (96 + 4 * t.nnzL + 8 * s * (t.n + t.m))

/-- Slipway of a tile: what its tile parts leave (06 R164). -/
def slipway (s : State) (tile : Nat) : Nat :=
  524288 - ((unitProblems s tile).map fun n => match problemDef s n with
    | some (c, t) => tilePart c t
    | none => 0).sum

/-- λ[c]: the net price (08 R221). -/
def netPrice (x : Int × Int) : Int := x.1 - x.2

/-- Shift of first-move variable i of problem n, in the accumulator (08 R221). -/
def priceShift (s : State) (prices : List (Int × Int)) (n i : Nat) : Int :=
  (s.coupling.cons.zip prices).foldl (fun a (c, p) =>
    c.terms.foldl (fun a t =>
      if t.problem = n ∧ t.var = i then a + netPrice p * t.coef * 2 ^ (64 - 24 - c.fmtPrice) else a) a) 0

/-- Effective q of every scenario of a problem, and the clamps it made (08 R221). -/
def effectiveQ (s : State) (prices : List (Int × Int)) (n : Nat) (c : ProblemCfg) (t : Template) (d : ProbData) :
    List (List Int) × Nat :=
  let named := (List.range t.nu).filter fun i => s.coupling.cons.any fun k => k.terms.any fun x => x.problem == n && x.var == i
  let all := (List.range c.scenarios).map fun k =>
    counted ((scenQ t d k).zipIdx.map fun (q, i) =>
      if named.contains i then wrBox (t.box fq) (roundAcc (t.fmt fq) (toAcc (t.fmt fq) q + priceShift s prices n i))
      else (q, 0))
  (all.map (·.1), (all.map (·.2)).sum)

/-- Two SOLVER reports in one. -/
def joinReports (a b : SolverMsg) : SolverMsg :=
  { tiles := a.tiles ++ b.tiles, spans := a.spans ++ b.spans, stopped := a.stopped ++ b.stopped }

/-- Report this unit's solver counts to the standby: what falls within the same 10 µs goes in one message (14 R399). The
message goes before any other, and else with the first command after the 10 µs. DESIGN CHOICE, log entry 84. -/
def sendSolver (m : SolverMsg) (s : State) : State :=
  if s.inPair && s.isActive && s.pair.linkUp then
    s.updPair fun p => { p with held := match p.held with
                                  | some (t, x) => some (t, joinReports x m)
                                  | none => some (s.clk.hfNs, m) }
  else s

/-- Start a factorisation that waits for the problem's next work (07 R198, R199, R600). -/
def startNeed (n : Nat) (c : ProblemCfg) (t : Template) (s : State) : State :=
  s.updProb n fun p =>
    let big := !t.classP && decide (slipway s (unitOf s n) < 4 * t.nnzL)
    match p.need, p.factor with
    | .none, _ => p
    | .data, some f =>
      let (ri, k) := rhoInv f.rho
      { p with need := .none, sats := p.sats + k
               build := some { inPlace := big, holds := big || t.classP, f := { rho := f.rho, rinv := ri } } }
    | _, _ =>
      let rho := if p.lastRho = 0 then c.rho0 else p.lastRho
      let (ri, k) := rhoInv rho
      { p with need := .none, sats := p.sats + k, build := some { inPlace := true, holds := true, f := { rho := rho, rinv := ri } } }

/-- Start a ρ factorisation (07 R193, R198, R199). -/
def startRho (n : Nat) (t : Template) (rho : Int) (s : State) : State :=
  let big := !t.classP && decide (slipway s (unitOf s n) < 4 * t.nnzL)
  let (ri, k) := rhoInv rho
  s.updProb n fun p =>
    { p with sats := p.sats + k
             build := some { isRho := true, inPlace := big, holds := big || t.classP, f := { rho := rho, rinv := ri } } }

/-- Rescale the live set to the active factor's ρ where they differ (07 R200). -/
def rescaleLive (n : Nat) (t : Template) (s : State) : State :=
  s.updProb n fun p =>
    match p.factor with
    | some f =>
      if p.live.rho = f.rho then p
      else
        let (l, k) := rescaleSet t p.data f p.live
        { p with live := l, sats := p.sats + k }
    | none => p

/-- A problem stops (07 R192). -/
def stopProblem (n : Nat) (why : Stop) (s : State) : State :=
  let s := s.updProb n fun p => { p with running := false, stopping := false, stepped := false, stop := why }
  let p := s.prob n
  sendSolver { stopped := [(BitVec.ofNat 11 n, p.it, p.steps)] } s

/-- A complete factorisation becomes active, or is refused (07 R200, R202, R600). -/
def finishBuild (n : Nat) (c : ProblemCfg) (t : Template) (rescale : Bool) (s : State) : State :=
  let p := s.prob n
  match p.build with
  | none => s
  | some b =>
    if c.regLimit < b.f.regs then
      let s := raise 133 s n
      if b.isRho then
        s.updProb n fun p => { p with build := none, adaptOff := true, need := if b.inPlace then .inPlace else p.need }
      else
        let s := s.updProb n fun p => { p with build := none, ill := true, illRegs := b.f.regs, ranAhead := false }
        if p.running then stopProblem n .illPosed s else s
    else
      let s := s.updProb n fun p => { p with build := none, factor := some b.f, lastRho := b.f.rho, ill := false }
      if rescale then rescaleLive n t s else s

/-- A problem stops for the deadline mark or for the boundary mark (07 R201). -/
def stopAtMark (n : Nat) (c : ProblemCfg) (t : Template) (s : State) : State :=
  let p := s.prob n
  let s := stopProblem n .mark s
  match p.build with
  | none => s
  | some b =>
    if b.done then finishBuild n c t false s
    else
      let s := if b.f.l.isEmpty then s else raise 132 s n
      let again : Need := if b.isRho then (if b.inPlace && !b.f.l.isEmpty then .inPlace else p.need)
        else if b.inPlace then .inPlace else .data
      s.updProb n fun p => { p with build := none, need := again }

/-- A problem whose tile fails stops at once (05 R131). -/
def stopFaulty (n : Nat) (s : State) : State :=
  let p := s.prob n
  let s := s.updProb n fun p => { p with build := none, ranAhead := false }
  if p.running then stopProblem n .faulty s else s

/-- A problem has work in its round (07 R203, 08 R223). -/
def hasWork (p : Problem) : Bool := p.running && !p.share && (p.factor.isSome || p.build.isSome || p.need != .none)

/-- A factor step is due in the problem's turn (07 R203). -/
def stepDue (p : Problem) : Bool :=
  !p.stepped && (match p.build with
    | some b => b.holds && !b.done
    | none => false)

/-- An iteration can run: no in-place factorisation is in progress or to be started (07 R203). -/
def canIterate (p : Problem) : Bool :=
  p.factor.isSome && (match p.build with
    | some b => !b.inPlace
    | none => true) && p.need == .none

/-- Rounds of a unit. -/
def roundsOf (s : State) (u : Nat) : Rounds := Store.get {} s.sol.rounds u

def State.updRounds (s : State) (u : Nat) (f : Rounds → Rounds) : State :=
  s.updSol fun x => { x with rounds := Store.upd {} x.rounds u f }

/-- The report of a unit's rounds (14 R399). -/
def roundReport (u k : Nat) : SolverMsg :=
  if u < 64 then { tiles := [(BitVec.ofNat 6 u, k)] } else { spans := [(BitVec.ofNat 11 u, k)] }

/-- End the round of a unit once no problem with work is left in it (07 R203). -/
def closeRound (u : Nat) (s : State) : State :=
  match (roundsOf s u).pos with
  | none => s
  | some k =>
    if (unitProblems s u).any fun n => decide (k < n) && hasWork (s.prob n) then s
    else
      let s := s.updRounds u fun r => { count := r.count + 1, pos := none, begun := false }
      sendSolver (roundReport u (roundsOf s u).count) s

/-- A problem waits for the slipway (07 R199). -/
def waitsSlip (p : Problem) : Bool :=
  p.running && (match p.build with
    | some b => !b.holds
    | none => false)

/-- The slipway of a tile is held (07 R199). -/
def holdsSlip (p : Problem) : Bool :=
  match p.build with
  | some b => b.holds && !b.inPlace
  | none => false

/-- At the start of a round: waiting factorisations start, and a free slipway is granted to the lowest-numbered
problem that waits for it (07 R198, R199). -/
def beginRound (u : Nat) (s : State) : State :=
  if (roundsOf s u).begun then s
  else
    let ns := unitProblems s u
    let s := ns.foldl (fun s n =>
      if (s.prob n).running && (s.prob n).need != .none then withProblem n s fun c t s => startNeed n c t s else s) s
    let s := if u < 64 ∧ (ns.all fun n => !holdsSlip (s.prob n)) then
        match ns.find? fun n => waitsSlip (s.prob n) with
        | some n => s.updProb n fun p => { p with build := p.build.map fun b => { b with holds := true } }
        | none => s
      else s
    s.updRounds u fun r => { r with begun := true }

/-- The problem whose turn it is in a unit (07 R203). -/
def turnOf (s : State) (u : Nat) : Option Nat :=
  (unitProblems s u).find? fun n =>
    hasWork (s.prob n) && (match (roundsOf s u).pos with
      | some k => decide (k < n)
      | none => true)

/-- A standby keeps behind the rounds that the active unit has reported (01 R23). -/
def paced (s : State) (u : Nat) : Bool :=
  s.pair.role != .lockstep || decide ((roundsOf s u).count ≤ Store.get 0 s.sol.reported u)

/-- End a problem's turn (07 R203). -/
def endTurn (n : Nat) (s : State) : State :=
  let u := unitOf s n
  let s := s.updProb n fun p => { p with stepped := false }
  closeRound u (s.updRounds u fun r => { r with pos := some n })

/-- After a work unit: a problem that a mark has reached stops; a standby stops at the active unit's counts
(07 R204, R205). -/
def unitEnd (n : Nat) (c : ProblemCfg) (t : Template) (s : State) : State :=
  let p := s.prob n
  if !p.running then s
  else if p.stopping then stopAtMark n c t s
  else match p.stopAt with
    | some (i, k) => if i ≤ p.it ∧ k ≤ p.steps then stopAtMark n c t s else s
    | none => s

/-- The check of an iteration and what it decides (07 R190 to R193, 08 R223). -/
def checkLive (n : Nat) (c : ProblemCfg) (t : Template) (before : IterSet) (s : State) : State :=
  let p := s.prob n
  let rho := (p.factor.map (·.rho)).getD p.live.rho
  let r := checkSet t c p.data rho p.qeff p.live
  let inf := infeasible t c p.data p.qeff before p.live r.y
  let s := s.updProb n fun p => { p with sats := p.sats + r.sats }
  let coupled := p.work == .solve && isCoupled s n
  let last := decide (c.itMax ≤ p.it)
  let s := if r.conv && coupled then s.updProb n fun p => { p with share := true, shareConv := true } else s
  if r.conv && !coupled then stopProblem n .converged s
  else if !r.conv && inf.1 then stopProblem n .primal s
  else if !r.conv && inf.2 then stopProblem n .dual s
  else if last then stopProblem n .itMax s
  else
    match p.build, p.need, adaptRho t c rho r with
    | none, .none, some rho' => if p.adaptOff then s else startRho n t rho' s
    | _, _, _ => s

/-- One iteration of a problem in its turn, with its check (07 R187, R190, R200, R203). -/
def iterationWork (n : Nat) (c : ProblemCfg) (t : Template) (f : Factor) (s : State) : State :=
  let p := s.prob n
  let (l, k) := iterateSet t c p.data p.qeff f p.live
  let s := s.updProb n fun p =>
    { p with live := l, it := p.it + 1, inner := p.inner + 1, sats := p.sats + k, regs := max p.regs f.regs
             range := p.range || f.rangeSat }
  let s := match p.build with
    | some b => if b.done then finishBuild n c t true s else s
    | none => s
  let it := p.it + 1
  let due := (it % c.checkInterval == 0 || decide (c.itMax ≤ it)) && (s.prob n).running
  let s := if due then checkLive n c t p.live s else s
  let limit := decide (s.coupling.innerLimit ≤ p.inner + 1) && p.work == .solve && isCoupled s n
  let s := if limit then s.updProb n fun p => { p with share := true } else s
  endTurn n (unitEnd n c t s)

/-- A standby keeps a problem as it stood before its last work units: it stops at exactly the active unit's counts, which a
unit in progress may already have passed (07 R205). -/
def keepBack (n : Nat) (s : State) : State :=
  if s.pair.role = .lockstep then
    s.updSol fun x => { x with back := Store.set [] x.back n ((s.prob n :: Store.get [] x.back n).take 4) }
  else s

/-- ITERATION: one iteration of a problem completes in its round (07 R187, R203). -/
def iterationDone (n : Nat) (s : State) : State :=
  withProblem n s fun c t s0 =>
    let u := unitOf s0 n
    let s := beginRound u (closeRound u s0)
    let p := s.prob n
    match p.factor with
    | some f =>
      if turnOf s u = some n ∧ paced s u ∧ !stepDue p ∧ canIterate p then iterationWork n c t f (keepBack n s) else s0
    | none => s0

/-- One factor step: events of the columns it computed, and the end of an in-place factorisation (07 R194 to R197,
R203). -/
def factorWork (n : Nat) (c : ProblemCfg) (t : Template) (b : Build) (s : State) : State :=
  let p := s.prob n
  let (b', k) := factorStepOf t c p.data { b with f := { b.f with rangeSat := false } }
  let s := if b.f.regs = 0 ∧ 0 < b'.f.regs then raise 130 s n else s
  let s := if b'.f.rangeSat then raise 131 s n else s
  let b' := { b' with f := { b'.f with rangeSat := b.f.rangeSat || b'.f.rangeSat } }
  let s := s.updProb n fun p =>
    { p with build := some b', steps := p.steps + 1, sats := p.sats + k, stepped := true
             factor := if b.inPlace then none else p.factor }
  let s := if b'.inPlace && b'.done then finishBuild n c t true s else s
  let s := unitEnd n c t s
  if canIterate (s.prob n) && (s.prob n).running then s else endTurn n s

/-- FACTOR_STEP: one factor step of a problem completes in its round (07 R197, R203). -/
def factorStepDone (n : Nat) (s : State) : State :=
  withProblem n s fun c t s0 =>
    let u := unitOf s0 n
    let s := beginRound u (closeRound u s0)
    let p := s.prob n
    match p.build with
    | some b => if turnOf s u = some n ∧ paced s u ∧ stepDue p then factorWork n c t b (keepBack n s) else s0
    | none => s0

/-- The solve or run-ahead of a problem begins from its live set (07 R211, 08 R229). -/
def startWork (n : Nat) (w : Work) (prices : List (Int × Int)) (c : ProblemCfg) (t : Template) (s : State) : State :=
  let p := s.prob n
  let (q, k) := effectiveQ s prices n c t p.data
  let s := s.updProb n fun p =>
    { p with work := w, running := true, stopping := false, stop := .none, stepped := false, it := 0, steps := 0
             sats := k, regs := 0, range := false, adaptOff := false, inner := 0, share := false, shareConv := false
             qeff := q, works := p.works + 1, stopAt := if p.works < p.reports then p.stopQ.head? else none
             stopQ := if p.works < p.reports then p.stopQ.tail else p.stopQ }
  rescaleLive n t (s.updSol fun x => { x with back := Store.set [] x.back n [] })

/-- Rounds begin anew with a solve or run-ahead (07 R203). -/
def resetRounds (s : State) : State := s.updSol fun x => { x with rounds := [] }

/-- A problem may run run-ahead (08 R229). -/
def aheadOk (s : State) (n : Nat) (c : ProblemCfg) : Bool :=
  c.runAhead && !(s.prob n).ill && !(s.prob n).moved && !onFaulty s n && !isShed s n

/-- Run-ahead of one problem begins (08 R229). -/
def startAhead (s : State) (n : Nat) : State :=
  withProblem n s fun c t s =>
    if aheadOk s n c then
      startWork n .ahead s.sol.accPrices c t
        (s.updProb n fun p => { p with live := p.acc.set, ranAhead := true, warm := false })
    else s.updProb n fun p => { p with work := .idle, ranAhead := false }

/-- The first move that prediction uses (06 R174, 08 R235). -/
def uBar (p : Problem) (nu : Nat) : List Int := p.handed.getD ((p.acc.set.x.headD []).take nu)

/-- Prediction of one problem's state (06 R174). -/
def predictState (s : State) (n : Nat) : State :=
  withProblem n s fun c t s =>
    match c.runAhead, modelOf s c with
    | true, some m => s.updProb n fun p => { p with data := { p.data with xPred := (predict t m p.data.x0 (uBar p t.nu)).1 } }
    | _, _ => s

/-- The predicted state becomes x0: a device frame on target 0x06 (06 R174). -/
def takePrediction (s : State) (n : Nat) : State :=
  withProblem n s fun c _ s =>
    match c.runAhead, modelOf s c with
    | true, some _ => s.updProb n fun p => { p with data := { p.data with x0 := p.data.xPred } }
    | _, _ => s

/-- A change of P or A values triggers a data factorisation; an ill-posed problem factorises in place
(07 R198, R202). -/
def noteChange (old : State) (s : State) (n : Nat) : State :=
  let a := (old.prob n).data
  let p := s.prob n
  if a.p = p.data.p ∧ a.a = p.data.a then s
  else s.updProb n fun p =>
    { p with need := if p.ill || p.factor.isNone then .inPlace else .data, ill := false, build := none }

/-- An application point: the waiting frames enter the data in order (06 R171). -/
def applyWaiting (l : List (FrameSrc × Bytes)) (s : State) : State :=
  let s' := l.foldl applyFrame s
  (problemNums s).foldl (noteChange s) s'

/-- The problem stops at once where it begins at the counts at which the active unit stopped it (07 R205). -/
def stopAtStart (s : State) (n : Nat) : State :=
  if s.pair.role = .lockstep then withProblem n s fun c t s => unitEnd n c t s else s

/-- The solver's work at the run-ahead start mark (06 R174, 08 R229). -/
def runAheadWork (s : State) : State :=
  let ns := problemNums s
  let s := ns.foldl predictState s
  let l := s.sol.waiting
  let s := applyWaiting l (s.updSol fun x => { x with waiting := [] })
  let s := ns.foldl takePrediction s
  ns.foldl stopAtStart (ns.foldl startAhead (resetRounds s))

/-- Largest deviation of the state from its prediction (08 R231). -/
def deviation (d : ProbData) : Int := normInf ((d.x0.zip d.xPred).map fun (a, b) => a - b)

/-- The run-ahead decision and the start of one problem's solve (07 R211, R212, 08 R231, R232). -/
def startSolve (s : State) (n : Nat) : State :=
  withProblem n s fun c t s =>
    let p := s.prob n
    let accept := c.runAhead && p.ranAhead && decide (deviation p.data * 2 ^ 24 ≤ c.trust * 2 ^ t.fmt fX0)
    let (l, k) := if accept then correctSet t p.data p.live else (p.acc.set, 0)
    let s := s.updProb n fun p =>
      { p with live := l, warm := accept, ranAhead := false, moved := false
               raAcc := if accept then satInc p.raAcc else p.raAcc
               raDisc := if c.runAhead && !accept then satInc p.raDisc else p.raDisc }
    let s := startWork n .solve s.sol.accPrices c t s
    let s := s.updProb n fun p => { p with sats := p.sats + k }
    if onFaulty s n || isShed s n then stopProblem n .faulty s
    else if (s.prob n).ill then stopProblem n .illPosed s
    else s

/-- The problem that a mark finds as the next of its unit may have a work unit in progress; the others stop at once; a
standby in lockstep stops at the active unit's counts instead (07 R204, R205). -/
def markReached (w : Work) (s : State) : State :=
  if s.pair.role = .lockstep then s
  else (problemNums s).foldl (fun s n =>
    let p := s.prob n
    if p.running && p.work == w then
      if turnOf s (unitOf s n) = some n then s.updProb n fun p => { p with stopping := true }
      else withProblem n s fun c t s => stopAtMark n c t s
    else s) s

/-- What still runs stops, no work unit being in progress any more (07 R204, R207). -/
def stopRest (w : Work) (s : State) : State :=
  (problemNums s).foldl (fun s n =>
    let p := s.prob n
    if p.running && p.work == w then withProblem n s fun c t s => stopAtMark n c t s else s) s

/-- Run-ahead stops for the boundary mark (08 R229). -/
def endAhead (s : State) : State := markReached .ahead s

/-- The unit passes to its next solve or run-ahead: reports of the active unit that came before it count from here
(01 R23). -/
def nextPhase (s : State) : State :=
  s.updSol fun x =>
    { x with phase := x.phase + 1, reportedNext := []
             reported := if x.phase < x.peerPhase then x.reportedNext else [] }

/-- The active unit has passed to its next solve or run-ahead. -/
def peerPasses (s : State) : State :=
  s.updSol fun x => { x with peerPhase := x.peerPhase + 1, reportedNext := if x.peerPhase = x.phase then [] else x.reportedNext }

/-- On a standby in lockstep, run-ahead that has not reached the active unit's counts (07 R205, 08 R229). -/
def aheadLags (s : State) : Bool :=
  s.pair.role == .lockstep && (problemNums s).any fun n => (s.prob n).running && (s.prob n).work == .ahead

/-- The solver work of a boundary scan's commit: frames, run-ahead decisions, starts. A scan of an earlier period starts no
solve (01 R15, 06 R171, 08 R231; 10 R280). -/
def boundaryWork (mine : Bool) (l : List (FrameSrc × Bytes)) (s : State) : State :=
  let go := s.sol.opened && mine
  let s := nextPhase (if go then stopRest .ahead s else s)
  let s := applyWaiting l s
  if go then
    let s := (problemNums s).foldl startSolve (resetRounds s)
    let s := (problemNums s).foldl stopAtStart s
    s.updSol fun x =>
      { x with started := true, prices := x.accPrices, outer := if s.coupling.cons.isEmpty then none else some 1
               outerNow := (0, 0, false), recovered := false }
  else s

/-- The boundary scan is that of the present period (01 R15). -/
def ownBoundary (r : Run) (s : State) : Bool := r.start.cycle == s.sol.openCycle

/-- At the commit of the period's boundary scan no unit of run-ahead is in progress any more: what still runs stops
(07 R204, 08 R229). -/
def aheadOver (r : Run) (s : State) : State :=
  if r.boundary && s.sol.opened && ownBoundary r s && !s.sol.fixing && s.pair.role != .lockstep then stopRest .ahead s else s

/-- A boundary scan's solver work that had to wait, once nothing holds it back (07 R205, R207). -/
def resumeBoundary (s : State) : State :=
  match s.sol.commitLater with
  | some (mine, l) =>
    if s.sol.fixing || aheadLags s then s else boundaryWork mine l (s.updSol fun x => { x with commitLater := none })
  | none => s

/-- A commit's frames, and the boundary scan's solver work now, after the fix instant, or on a standby after its run-ahead
(06 R171; 07 R205, R207). Frames that waited before this commit go to a run-ahead start that is still to be made. -/
def solverCommit (t : Nat) (r : Run) (s : State) : State :=
  let before := s.sol.waiting
  let s := releaseDeltas t r s
  if r.boundary then
    let keep := s.sol.aheadLater
    let l := if keep then s.sol.waiting.drop before.length else s.sol.waiting
    resumeBoundary (s.updSol fun x =>
      { x with waiting := if keep then before else [], commitLater := some (ownBoundary r s, l) })
  else s

end Sys2Proof.Machine
end

