-- ==== Sys2Proof/Machine/CoordOps.lean ====
section
/-! DEFINITION. The outer loop, primal recovery, delivery, the fix instant, handover and checkpoints (07 R206 to R210,
08 R223 to R239). -/

namespace Sys2Proof.Machine

open Sys2Proof

/-- A problem is running its solve, or its solve has stopped in this period (08 R224). -/
def inSolve (s : State) (n : Nat) : Bool :=
  s.sol.started && (s.prob n).work == .solve && !(s.prob n).ill && !onFaulty s n && !isShed s n

/-- First move that a problem contributes with (08 R224). -/
def contributionX (s : State) (n i : Nat) : Int :=
  let p := s.prob n
  let x := if inSolve s n then p.live.x.headD [] else p.acc.set.x.headD []
  x.getD i 0

/-- Fractional bits of a problem's format x. -/
def xFmt (s : State) (n : Nat) : Nat := ((problemDef s n).map fun (_, t) => t.fmt fx).getD 0

/-- Contribution of a term, in the accumulator (08 R218, R224). -/
def contribution (s : State) (t : CTerm) : Int :=
  t.coef * contributionX s t.problem t.var * 2 ^ (64 - 24 - xFmt s t.problem)

/-- g of a constraint, exact in the accumulator. -/
def couplingSum (s : State) (c : CConstraint) : Int := (c.terms.map (contribution s)).sum

/-- An outer iteration's verdict on a constraint (08 R225). -/
def constraintOk (c : CConstraint) (g : Int) (p : Int × Int) : Bool :=
  decide (g ≤ c.upper + c.tol) && decide (c.lower - c.tol ≤ g)
    && (p.1 == 0 || decide (c.upper - c.tol ≤ g)) && (p.2 == 0 || decide (g ≤ c.lower + c.tol))

/-- Prices after one outer iteration (08 R225). -/
def nextPrice (c : CConstraint) (g : Int) (p : Int × Int) : Int × Int :=
  let step := fun (mu : Int) (d : Int) =>
    let v := (wr c.fmtPrice (toAcc c.fmtPrice mu + c.beta * d * 2 ^ (64 - 16 - c.fmtG))).1
    max 0 (min v c.lmax)
  (step p.1 (g - c.upper), step p.2 (c.lower - g))

/-- Quotient rounded toward -inf, or toward +inf, of a numerator by a positive denominator. -/
def divDir (up : Bool) (n d : Int) : Int := if up then -((-n) / d) else n / d

/-- Write a recovered first move into every scenario of the live set (08 R226). -/
def putMove (n i : Nat) (v : Int) (s : State) : State :=
  s.updProb n fun p => { p with live := { p.live with x := p.live.x.map fun x => x.set i v } }

/-- One adjustable term: its present contribution and the range of its contribution, in the accumulator (08 R226). -/
def termRange (s : State) (t : CTerm) : Int × Int × Int :=
  let (lb, ub) := match problemDef s t.problem with
    | some (c, k) => moveBounds k c (s.prob t.problem).data t.var
    | none => (0, 0)
  let f := t.coef * 2 ^ (64 - 24 - xFmt s t.problem)
  (contribution s t, min (f * lb) (f * ub), max (f * lb) (f * ub))

/-- Move the adjustable terms of a constraint by e in proportion to their headroom, down or up (08 R226). -/
def adjustTerms (down : Bool) (e : Int) (adj : List CTerm) (s0 s : State) : State :=
  let h := fun t => let (cur, lo, hi) := termRange s0 t; if down then cur - lo else hi - cur
  let hh := (adj.map h).sum
  adj.foldl (fun s t =>
    let (cur, lo, hi) := termRange s0 t
    let (num, den) := if hh ≤ e then ((if down then lo else hi), 1)
      else if down then (cur * hh - e * h t, hh) else (cur * hh + e * h t, hh)
    let f := t.coef * 2 ^ (64 - 24 - xFmt s t.problem)
    let up := decide (0 < t.coef) != down
    let v := if 0 < f then divDir up num (den * f) else divDir up (-num) (den * -f)
    putMove t.problem t.var v s) s

/-- Recovery of one constraint; an unmet one raises COUPLING_UNMET (08 R226). -/
def recoverOne (s : State) (x : CConstraint × Nat) : State :=
  let (c, k) := x
  let hasU := c.upper != maxRaw
  let hasL := c.lower != -maxRaw
  let u := toAcc c.fmtG c.upper
  let l := toAcc c.fmtG c.lower
  let g := couplingSum s c
  let adj := c.terms.filter fun t => t.recoverable && inSolve s t.problem
  let s' := if hasU && decide (u < g) then adjustTerms true (g - u) adj s s
    else if hasL && decide (g < l) then adjustTerms false (l - g) adj s s else s
  let g := couplingSum s' c
  if (hasU && decide (u < g)) || (hasL && decide (g < l)) then
    raise 135 (s'.updSol fun x => { x with outerNow := (x.outerNow.1, x.outerNow.2.1 + 1, x.outerNow.2.2) }) k
  else s'

/-- Primal recovery, once per solve (08 R226, R227). -/
def recoverAll (s : State) : State :=
  (s.coupling.cons.zipIdx).foldl recoverOne (s.updSol fun x => { x with recovered := true })

/-- Project a problem's live set onto its box rows (07 R206). -/
def projectLive (s : State) (n : Nat) : State :=
  withProblem n s fun c t s => s.updProb n fun p => { p with live := projectSet t c p.data p.live }

/-- Coupled problems. -/
def coupledNums (s : State) : List Nat := (problemNums s).filter (isCoupled s)

/-- The outer loop exits: the running coupled problems stop, are projected and recovered (08 R225, R227). -/
def exitOuter (o : Nat) (done limit : Bool) (s : State) : State :=
  let s := if limit && !done then raise 136 s else s
  let s := (coupledNums s).foldl (fun s n => if (s.prob n).running then stopProblem n .outer s else s) s
  let s := s.updSol fun x => { x with outer := none, outerNow := (o, 0, done) }
  let s := ((coupledNums s).filter (inSolve s)).foldl projectLive s
  recoverAll s

/-- A further outer iteration at new prices: every coupled problem's effective q is that of the new prices; the clamps count
for those that still run (07 R209; 08 R221, R225). -/
def nextOuter (o : Nat) (prices : List (Int × Int)) (s : State) : State :=
  let s := s.updSol fun x => { x with outer := some (o + 1), prices := prices }
  (coupledNums s).foldl (fun s n =>
    withProblem n s fun c t s =>
      let (q, k) := effectiveQ s prices n c t (s.prob n).data
      s.updProb n fun p =>
        if p.running then { p with qeff := q, sats := p.sats + k, share := false, shareConv := false, inner := 0 }
        else { p with qeff := q }) s

/-- OUTER_ITERATION_END: every running coupled problem has ended its share (08 R225). -/
def outerEnd (s : State) : State :=
  match s.sol.outer with
  | none => s
  | some o =>
    let run := (coupledNums s).filter fun n => (s.prob n).running
    if !s.sol.started || s.sol.fixing || run.any (fun n => !(s.prob n).share) then s
    else
      let gs := s.coupling.cons.map fun c => (wr c.fmtG (couplingSum s c)).1
      let all := s.coupling.cons.zip (gs.zip s.sol.prices)
      let done := all.all (fun (c, g, p) => constraintOk c g p) && run.all fun n => (s.prob n).shareConv
      if done || o == s.coupling.outerLimit || run.isEmpty then exitOuter o done (o == s.coupling.outerLimit) s
      else nextOuter o (all.map fun (c, g, p) => nextPrice c g p) s

/-- Code of a delivered live set (07 R208). -/
def liveCode (p : Problem) (r : CheckRes) : Nat :=
  if p.range then 6
  else if p.stop = .primal then 7
  else if p.stop = .dual then 8
  else if r.conv then (if (p.factor.map (·.regs)).getD 0 ≠ 0 then 4 else 1)
  else if r.relaxed then 2
  else 3

/-- Effective l and u of every scenario (06 R175). -/
def allBounds (c : ProblemCfg) (t : Template) (d : ProbData) : List (List Int × List Int) :=
  (List.range c.scenarios).map fun k => (effBounds t d k).1

/-- A problem's result of this period: from the live set, or the accepted set kept (07 R207 to R209). -/
def deliverOne (s : State) (n : Nat) : State :=
  withProblem n s fun c t s =>
    s.updProb n fun p =>
      let kept := fun (code regs : Nat) =>
        (({ p.acc with code := code, warm := p.warm && code != 10, iter := if code = 10 then 0 else p.it
                       regs := regs, sats := if code = 10 then 0 else p.sats } : SolResult), false)
      let r := if !s.sol.started then kept 10 (if p.ill then p.illRegs else 0)
        else if onFaulty s n || isShed s n || (p.ill && p.prev) then kept 9 (if p.ill then p.illRegs else 0)
        else if p.ill then kept 5 p.illRegs
        else
          let k := checkSet t c p.data p.live.rho p.qeff p.live
          let b := allBounds c t p.data
          ({ code := liveCode p k, warm := p.warm, iter := p.it, regs := p.regs, sats := p.sats, resP := k.rprim
             resD := k.rdual, set := p.live, q := p.qeff, l := b.map (·.1), u := b.map (·.2) }, true)
      { p with pend := some r }

/-- DELIVERY_PASS: once every problem has stopped after the deadline mark (07 R207, 08 R227). -/
def deliveryPass (s : State) : State :=
  if !s.sol.fixing || s.sol.delivered then s
  else
    let s' := if s.pair.role = .lockstep then s else stopRest .solve s
    if (problemNums s').any (fun n => (s'.prob n).running && (s'.prob n).work == .solve) then s
    else
      let s := s'
      let s := if s.sol.started then ((problemNums s).filter (inSolve s)).foldl projectLive s else s
      let s := match s.sol.outer with
        | some o => recoverAll (raise 136 (s.updSol fun x => { x with outer := none, outerNow := (o, 0, false) }))
        | none => s
      let s := (problemNums s).foldl deliverOne s
      s.updSol fun x => { x with delivered := true }

/-- The status word of a result (06 R177). -/
def SolResult.status (r : SolResult) : Word :=
  BitVec.ofNat 32 (min r.iter 65535 * 65536 + boolNat (r.sats != 0) * 1024 + boolNat (r.regs != 0) * 512
    + boolNat r.warm * 256 + r.code)

/-- A good status: SOLVED, SOLVED_INACCURATE or REGULARISED (06 R184). -/
def goodCode (c : Nat) : Bool := c == 1 || c == 2 || c == 4

/-- One problem's result becomes accepted (06 R176, 07 R207). -/
def fixOne (s : State) (n : Nat) : State :=
  s.updProb n fun p =>
    match p.pend with
    | some (r, true) => { p with acc := r, live := p.acc.set, prev := true, pend := none, work := .idle, warm := false }
    | some (r, false) => { p with acc := r, pend := none, work := .idle, warm := false }
    | none => p

/-- z of an accepted result's scenario, in format w (06 R175). -/
def accZ (t : Template) (r : SolResult) (k : Nat) : List Int :=
  (zOf t (r.set.w.getD k []) (r.l.getD k []) (r.u.getD k [])).1

/-- y of an accepted result's scenario, in format y (06 R175). -/
def accY (t : Template) (r : SolResult) (k : Nat) : List Int := (yOf t r.set.rho (r.set.w.getD k []) (accZ t r k)).1

/-- One problem's checkpoint block (08 R237). -/
def ckBlock (s : State) (n : Nat) : Option (Nat × CkBlock) :=
  (problemDef s n).map fun (c, t) =>
    let r := (s.prob n).acc
    (n, { status := r.status, x := r.set.x
          z := (List.range c.scenarios).map (accZ t r), y := (List.range c.scenarios).map (accY t r) })

/-- A checkpoint of the accepted sets and prices (08 R236, R237); its sequence is set when it is complete. -/
def checkpointNow (s : State) : Checkpoint :=
  { seq := 0, cycle := s.sol.cycle, digest := s.mram.dev.digest, prices := s.sol.accPrices
    probs := (problemNums s).filterMap (ckBlock s) }

/-- Bytes of raw values. -/
def rawBytes (l : List Int) : Bytes := wordsToBytes (l.map intWord)

/-- The checkpoint body (08 R237). -/
def checkpointBody (k : Checkpoint) : Bytes :=
  k.prices.flatMap (fun (u, l) => rawBytes [u, l])
    ++ k.probs.flatMap fun (n, b) =>
      leBytes 2 n ++ leBytes 1 b.x.length ++ [0] ++ leBytes 4 b.status.toNat
        ++ (b.x.zip (b.z.zip b.y)).flatMap fun (x, z, y) => rawBytes x ++ rawBytes z ++ rawBytes y

/-- The 128-byte header of a checkpoint over its body (08 R237). -/
def checkpointHeader (k : Checkpoint) (body : Bytes) : Bytes :=
  let h := [0x55, 0x4C, 0x43, 0x4B] ++ leBytes 2 1 ++ leBytes 2 k.prices.length ++ leBytes 4 k.probs.length
    ++ leBytes 4 k.seq.toNat ++ leBytes 4 k.cycle.toNat ++ leBytes 4 body.length ++ slice k.digest 0 64 ++ leBytes 32 0
    ++ leBytes 4 (crc32 body).toNat
  h ++ leBytes 4 (crc32 h).toNat

/-- The bytes of a checkpoint slot: header and body (08 R237). -/
def checkpointImage (k : Checkpoint) : Bytes :=
  let b := checkpointBody k
  checkpointHeader k b ++ b

/-- The digest of a fix instant (14 R403). -/
def fixDigest (s : State) : DigestMsg :=
  { fix := true, cycle := s.sol.cycle
    digest := Config.sha256 (leBytes 4 s.sol.cycle.toNat ++ checkpointBody (checkpointNow s)) }

/-- SYS_STAGE.STAGE changes (04 R86, R113). -/
def setStage (n : BitVec 2) (s : State) : State :=
  if s.start.stage = n then s
  else raise 0 (s.updStart fun x => { x with stage := n, step := if 2 ≤ n.toNat then 0 else x.step })

/-- Stage 3, or its deadline unmet, at a fix instant (04 R83, R85). -/
def stageAtFix (good : Bool) (s : State) : State :=
  if s.start.stage = 2 then
    if good then setStage 3 s
    else if 3 ≤ s.start.deadlines ∧ !s.start.late3 then raise 7 (s.updStart fun x => { x with late3 := true })
    else s
  else s

/-- Every 64th fix instant since stage 2 entry begins a checkpoint (08 R236). -/
def beginCheckpoint (s : State) : State :=
  if 2 ≤ s.start.stage.toNat then
    let k := s.sol.fixes2 + 1
    let d := checkpointNow s
    s.updSol fun x => { x with fixes2 := k, draft := if k % 64 = 0 then some d else x.draft }
  else s

/-- Results that a scan in progress may still read, before those of a fix (07 R210). -/
def keepOlder (s : State) : List (Nat × Store SolResult) :=
  let now := (s.sol.fixes, (problemNums s).map fun n => (n, (s.prob n).acc))
  (now :: s.sol.older).filter fun (k, _) => s.scan.tasks.any fun (_, x) => match x.run with
    | some r => r.marks == k
    | none => false

/-- The fix instant itself (07 R207, 08 R228). -/
def fixResults (s : State) : State :=
  let ns := problemNums s
  let live := ns.any fun n => match (s.prob n).pend with
    | some (_, b) => b
    | none => false
  let older := keepOlder s
  let s := ns.foldl fixOne s
  let bad := (ns.filter fun n => !goodCode (s.prob n).acc.code).length
  let s := s.updSol fun x =>
    { x with older := older, fixes := x.marks, fixing := false, delivered := false
             cycle := (x.mark.map (·.1.cycle.setWidth 32)).getD 0, notGood := bad
             accPrices := if x.started then x.prices else x.accPrices
             outerAcc := if x.started then x.outerNow else x.outerAcc
             liveFixed := x.liveFixed || live, started := false }
  let s := s.updScan fun x =>
    { x with tasks := x.tasks.map fun (n, k) => (n, { k with run := k.run.map fun r => { r with waitFix := false } }) }
  let s := raise 134 s
  let s := nextPhase (ownDigest (fixDigest s) s)
  beginCheckpoint (stageAtFix (bad == 0 && !ns.isEmpty) s)

/-- A standby that fixes later than 4 ms after the mark leaves lockstep (07 R205, R207; 14 R405). -/
def lateFix (s : State) : State :=
  match s.sol.mark with
  | some (_, us) => if us.toNat + 4000 < s.clk.us.toNat then leaveLockstep s else s
  | none => s

/-- The solver's part of the deadline mark (01 R15, 07 R204). -/
def deadlineReached (time : TideTime) (s : State) : State :=
  let s := s.updSol fun x =>
    { x with marks := x.marks + 1, mark := some (time, s.clk.us), fixing := true, delivered := false, opened := false }
  if s.sol.started then markReached .solve s
  else
    (problemNums s).foldl (fun s n =>
      withProblem n s fun c t s =>
        let s := if (s.prob n).running then stopAtMark n c t s else s
        s.updProb n fun p =>
          { p with ranAhead := false, work := .idle, raDisc := if c.runAhead then satInc p.raDisc else p.raDisc }) s

/-- One handover entry at a boundary (08 R233). -/
def handOne (s : State) (h : Handover) : State :=
  let p := s.prob h.problem
  let v := (p.acc.set.x.headD []).getD h.var 0
  let f := xFmt s h.problem
  match h.kind with
  | 1 => s.updLoopSt h.dest fun l =>
      { l with spt := max 0 (min q24 (roundAcc 24 (h.scale * v * 2 ^ (64 - 24 - f) + toAcc 24 h.offset))) }
  | 2 => writeInput .lreal h.dest (fSlot .lreal (.fin (decide (v < 0)) v.natAbs (-(f : Int)))) s
  | 3 => writeInput .dint h.dest (intSlot .dint v) s
  | _ => writeInput .dint h.dest (intSlot .dint (wordInt p.acc.status)) s

/-- The coupling record's status variable (08 R233). -/
def outerStatus (x : Nat × Nat × Bool) : Int := x.1 % 256 + 256 * min x.2.1 255 + 65536 * boolNat x.2.2

/-- Handover at a boundary (08 R233, R235). -/
def handover (s : State) : State :=
  if s.sol.liveFixed then
    let k := s.coupling
    let s := k.handover.foldl handOne s
    let s := (k.cons.zip s.sol.accPrices).foldl (fun s (c, p) =>
      match c.priceVar with
      | some i => writeInput .dint i (intSlot .dint (netPrice p)) s
      | none => s) s
    let s := match k.statusVar with
      | some i => writeInput .dint i (intSlot .dint (outerStatus s.sol.outerAcc)) s
      | none => s
    let s := (problemNums s).foldl (fun s n =>
      withProblem n s fun _ t s => s.updProb n fun p => { p with handed := some ((p.acc.set.x.headD []).take t.nu) }) s
    s.updSol fun x => { x with handed := true }
  else s

/-- The complete checkpoint of highest sequence, and whether it lies in slot 1 (08 R236, R239). -/
def newestCheckpoint (m : Mram) : Option (Checkpoint × Bool) :=
  match m.ck0, m.ck1 with
  | some a, some b => if a.seq < b.seq then some (b, true) else some (a, false)
  | some a, none => some (a, false)
  | none, some b => some (b, true)
  | none, none => none

/-- CHECKPOINT_DONE: the write completes with the header (08 R236, R237, R240). -/
def checkpointDone (s : State) : State :=
  match s.sol.draft with
  | none => s
  | some d =>
    let k := newestCheckpoint s.mram
    let d := { d with seq := (k.map (·.1.seq)).getD 0 + 1 }
    let one := !(k.map (·.2)).getD true
    let s := s.updMram fun m => if one then { m with ck1 := some d } else { m with ck0 := some d }
    raise 137 (s.updSol fun x => { x with draft := none })

end Sys2Proof.Machine
end

