-- ==== Sys2Proof/Machine/PlaceOps.lean ====
section
/-! DEFINITION. The placement engine: the full placement, its refusals, and the changes that the health map makes
(05 R114 to R135). -/

namespace Sys2Proof.Machine

open Sys2Proof

/-- Insert into a list sorted by a strict order. -/
def insertBy {α : Type} (lt : α → α → Bool) (x : α) : List α → List α
  | [] => [x]
  | y :: r => if lt y x then y :: insertBy lt x r else x :: y :: r

/-- Sort by a strict total order. -/
def sortBy {α : Type} (lt : α → α → Bool) (l : List α) : List α := l.foldr (insertBy lt) []

/-- Bytes of a tile's SRAM (05 R121). -/
def tileBytes : Nat := 524288

/-- Tiles in increasing tkey (05 R120). -/
def tileOrder (epoch : Nat) : List Nat :=
  (List.range 8).flatMap fun k => (List.range 8).map fun i => 8 * ((k + epoch) % 8) + i

/-- Core pairs in increasing pkey (05 R123). -/
def pairOrder (epoch : Nat) : List Nat := (List.range 5).map fun k => (k + epoch) % 5

/-- What packing needs of a problem. -/
structure PackInfo where
  num : Nat
  classP : Bool
  foot : Nat
  cost : Nat
  deriving DecidableEq, Repr

/-- Work of one period of a problem in multiply-accumulates (05 R121). -/
def problemCost (c : ProblemCfg) (t : Template) : Nat :=
  c.scenarios * c.itMax * (2 * t.nnzL + 2 * t.nnzA + t.nnzP + 4 * (t.n + t.m))

/-- Problems of a manifest with their templates. -/
def packInfos (m : Manifest) : List PackInfo :=
  m.problems.filterMap fun c => (m.templates[c.template]?).map fun t =>
    { num := c.num, classP := t.classP, foot := tilePart c t, cost := problemCost c t }

/-- Packing so far: problems, bytes and cost per tile, and the tiles of spans (05 R121). -/
structure PackSt where
  probs : Store ProbPlace := []
  used : Store Nat := []
  load : Store Nat := []
  span : List Nat := []
  deriving DecidableEq, Repr

/-- Subjects that a constraint of a type separates from one, or joins to it (05 R118, R119). -/
def consOf (m : Manifest) (subject : Nat) (sep : Bool) (n : Nat) : List Nat :=
  m.cons.filterMap fun c =>
    if c.subject = subject ∧ c.separation = sep then
      (if c.a = n then some c.b else if c.b = n then some c.a else none)
    else none

/-- Merge the sets of two subjects. -/
def mergeSets (l : List (List Nat)) (a b : Nat) : List (List Nat) :=
  match l.find? (·.contains a), l.find? (·.contains b) with
  | some x, some y =>
    if x = y then l else sortBy (fun a b => decide (a < b)) (x ++ y) :: l.filter (fun z => z != x && z != y)
  | _, _ => l

/-- Affinity sets of the subjects of a type, each in increasing number (05 R119). -/
def affinitySets (m : Manifest) (subject : Nat) (l : List Nat) : List (List Nat) :=
  m.cons.foldl (fun s c => if c.subject = subject ∧ !c.separation then mergeSets s c.a c.b else s) (l.map fun n => [n])

/-- A separation names two subjects of one set (05 R119). -/
def setSeparated (m : Manifest) (subject : Nat) (u : List Nat) : Bool :=
  u.any fun n => (consOf m subject true n).any u.contains

/-- A tile is free of spans and class S work. -/
def tileFree (st : PackSt) (t : Nat) : Bool := !st.span.contains t && Store.get 0 st.used t == 0

/-- Place one class P problem on a set of tiles given in increasing tkey (05 R121). -/
def packSpan (m : Manifest) (set : List Nat) (st : PackSt) (p : PackInfo) : Option PackSt :=
  let k0 := (p.foot + tileBytes - 1) / tileBytes
  let k := if 7 < k0 then 4 else k0
  let sep := consOf m 1 true p.num
  let clusters := (set.map (· / 8)).eraseDups
  let okCluster := fun (c : Nat) =>
    decide (k ≤ ((set.filter fun t => t / 8 == c).filter (tileFree st)).length)
      && !st.probs.any fun (n, x) => sep.contains n && decide (1024 ≤ n) && x.tiles.any (· / 8 == c)
  match clusters.find? okCluster with
  | none => none
  | some c =>
    let ts := ((set.filter fun t => t / 8 == c).filter (tileFree st)).take k
    some { st with
      probs := Store.set {} st.probs p.num { tiles := sortBy (fun a b => decide (a < b)) ts, store := decide (7 < k0) }
      load := ts.foldl (fun l t => Store.upd 0 l t (· + p.cost / k)) st.load
      span := st.span ++ ts }

/-- Place one affinity unit of class S problems (05 R121). -/
def packUnit (m : Manifest) (set : List Nat) (infos : List PackInfo) (st : PackSt) (u : List Nat) : Option PackSt :=
  let ps := infos.filter fun p => u.contains p.num
  let foot := (ps.map (·.foot)).sum
  let cost := (ps.map (·.cost)).sum
  let sep := u.flatMap (consOf m 1 true)
  let cand := set.filter fun t =>
    !st.span.contains t && decide (foot + Store.get 0 st.used t ≤ tileBytes)
      && !st.probs.any fun (n, x) => sep.contains n && decide (n < 1024) && x.tiles.contains t
  match cand with
  | [] => none
  | t0 :: _ =>
    let t := cand.foldl (fun b t => if Store.get 0 st.load t < Store.get 0 st.load b then t else b) t0
    some { st with
      probs := ps.foldl (fun l p => Store.set {} l p.num { tiles := [t] }) st.probs
      used := Store.upd 0 st.used t (· + foot)
      load := Store.upd 0 st.load t (· + cost) }

/-- Place every element of a list, or fail. -/
def foldOpt {α β : Type} (f : β → α → Option β) : β → List α → Option β
  | b, [] => some b
  | b, x :: r => match f b x with
    | some b => foldOpt f b r
    | none => none

/-- Class P problems in the order in which pack takes them: by decreasing footprint (05 R121). -/
def spanOrder (infos : List PackInfo) : List PackInfo :=
  sortBy (fun (a b : PackInfo) => decide (b.foot < a.foot) || (a.foot == b.foot && decide (a.num < b.num)))
    (infos.filter (·.classP))

/-- Affinity units of class S problems in the order in which pack takes them: by decreasing cost (05 R121). -/
def unitOrder (m : Manifest) (infos : List PackInfo) : List (List Nat) :=
  let units := affinitySets m 1 ((infos.filter (!·.classP)).map (·.num))
  let cost : List Nat → Nat := fun u => ((infos.filter fun p => u.contains p.num).map fun p => p.cost).sum
  sortBy (fun (a b : List Nat) => decide (cost b < cost a) || (cost a == cost b && decide (a.headD 0 < b.headD 0))) units

/-- Spans, then units, in the order of pack (05 R121, R133). -/
def packOrder (m : Manifest) (infos : List PackInfo) : List (List Nat) :=
  (spanOrder infos).map (fun p => [p.num]) ++ unitOrder m infos

/-- pack(set) of R121, on top of what is placed already: the problems given. -/
def packAll (m : Manifest) (infos : List PackInfo) (set : List Nat) (st : PackSt) : Option PackSt :=
  match foldOpt (packSpan m set) st (spanOrder infos) with
  | some st => foldOpt (packUnit m set infos) st (unitOrder m infos)
  | none => none

/-- Spare tiles: in each cluster the healthy tile of highest tkey (05 R120). -/
def spareTilesOf (epoch : Nat) (healthy : List Nat) : List Nat :=
  (List.range 8).filterMap fun k => (healthy.filter fun t => t / 8 == (k + epoch) % 8).getLast?

/-- A nonnegative quotient. -/
abbrev Q := Nat × Nat
def addQ (a b : Q) : Q := (a.1 * b.2 + b.1 * a.2, a.2 * b.2)
def ltQ (a b : Q) : Bool := decide (a.1 * b.2 < b.1 * a.2)

/-- Start mark's modulus of a task. -/
def startModulus (m : Manifest) (t : Nat) : Nat :=
  ((m.tide.marks.find? fun k => k.action == 2 && k.param == t).map (·.modulus)).getD 1

/-- Load of a task (05 R123). -/
def taskLoad (m : Manifest) (c : TaskCfg) : Q :=
  if c.trigger = 1 then (2 * c.worst * m.tide.nominal, 125 * 10 ^ 9 * startModulus m c.num)
  else (2 * c.worst, 125 * max 1 c.minInterval)

/-- Load of a core pair under an assignment. -/
def pairLoad (m : Manifest) (asg : Store Nat) (p : Nat) : Q :=
  (m.tasks.tasks.filter fun c => (asg.find? (·.1 == c.num)).any (·.2 == p)).foldl (fun a c => addQ a (taskLoad m c)) (0, 1)

/-- Place one affinity unit of tasks on the pair of lowest load among those given in increasing pkey (05 R123). -/
def placeTaskUnit (m : Manifest) (pairs : List Nat) (sepOn : Bool) (asg : Store Nat) (u : List Nat) : Option (Store Nat) :=
  let sep := if sepOn then u.flatMap (consOf m 2 true) else []
  let cand := pairs.filter fun p => !asg.any fun (t, q) => q == p && sep.contains t
  match cand with
  | [] => none
  | p0 :: _ =>
    let p := cand.foldl (fun b p => if ltQ (pairLoad m asg p) (pairLoad m asg b) then p else b) p0
    some (u.foldl (fun a t => Store.insert a t p) asg)

/-- Place tasks on pairs, on top of an assignment (05 R123). -/
def placeTasks (m : Manifest) (tasks : List Nat) (pairs : List Nat) (sepOn : Bool) (asg : Store Nat) : Option (Store Nat) :=
  let units := affinitySets m 2 tasks
  let load := fun (u : List Nat) =>
    (m.tasks.tasks.filter fun c => u.contains c.num).foldl (fun a c => addQ a (taskLoad m c)) (0, 1)
  let us := sortBy (fun a b => ltQ (load b) (load a) || (!ltQ (load a) (load b) && decide (a.headD 0 < b.headD 0))) units
  foldOpt (placeTaskUnit m pairs sepOn) asg us

/-- Some pair's load exceeds a percentage. -/
def overLoad (m : Manifest) (asg : Store Nat) (percent : Nat) : Bool :=
  (List.range 5).any fun p => ltQ (percent, 100) (pairLoad m asg p)

/-- Loop slots (05 R124). -/
def loopSlots (m : Manifest) : Store Nat :=
  let groups := sortBy (fun (a b : Nat) => decide (a < b)) (m.loops.map (·.group)).eraseDups
  let order := groups.flatMap fun g =>
    let nums := (m.loops.filter (·.group == g)).map (·.num)
    let first := m.overrides.flatten.filter nums.contains
    first ++ (sortBy (fun (a b : Nat) => decide (a < b)) nums).filter (fun n => !first.contains n)
  order.zipIdx.foldl (fun s (n, i) => Store.insert s n i) []

/-- Bytes of a station frame with a word count, FCS and a port's MACsec included (05 R125, 12 R332, 13 R373). -/
def stationWire (m : Manifest) (c : StationCfg) (port words : Nat) : Nat :=
  let sec := ((m.net.bind (·.ports[port]?)).map (·.macsec)).getD 0
  wireUnits port (14 + (if c.tagged then 4 else 0) + max 46 (40 + 4 * words) + 4 + (if sec = 0 then 0 else 32))

/-- Output words of a station. -/
def outWords (c : StationCfg) : Nat := (c.outputs.map (·.2)).sum

/-- Input words of a station's largest module. -/
def moduleMax (c : StationCfg) : Nat :=
  ((List.range (max 1 c.modules)).map fun k => ((c.inputs.filter (·.2.2 == k)).map (·.2.1)).sum).foldl max 0

/-- Wire time that a station adds to a port (05 R125). -/
def stationLoad (m : Manifest) (c : StationCfg) (port : Nat) : Nat :=
  stationWire m c port (if c.cfgC then outWords c else moduleMax c)

/-- Ports of a mask. -/
def maskPorts (k : Nat) : List Nat := (List.range 8).filter fun p => k / 2 ^ p % 2 == 1

/-- The port of smallest accumulated wire time, ties by lowest number. -/
def leastPort (acc : Store Nat) : List Nat → Option Nat
  | [] => none
  | p :: r => some (r.foldl (fun b p => if Store.get 0 acc p < Store.get 0 acc b then p else b) p)

/-- Ports chosen so far and the accumulated wire times (05 R125). -/
structure PortSt where
  acc : Store Nat := []
  a : Store (Option Nat) := []
  b : Store (Option Nat) := []
  deriving DecidableEq, Repr

/-- Path B of one station. -/
def placePathB (m : Manifest) (st : PortSt) (c : StationCfg) : Option PortSt :=
  if c.dual then
    let pa := Store.get none st.a c.num
    match leastPort st.acc ((maskPorts c.portsB).filter fun p => some p != pa) with
    | some p => some { st with acc := Store.upd 0 st.acc p (· + stationLoad m c p), b := Store.set none st.b c.num (some p) }
    | none => none
  else some st

/-- Place a station's affinity set: path A of all on one port, then each path B (05 R119, R125). -/
def placeStation (m : Manifest) (all : List StationCfg) (sets : List (List Nat)) (st : PortSt) (c : StationCfg) :
    Option PortSt :=
  if (Store.get none st.a c.num).isSome then some st
  else
    let u := (sets.find? (·.contains c.num)).getD [c.num]
    let us := all.filter fun x => u.contains x.num
    let sep := u.flatMap (consOf m 3 true)
    let ok := fun (p : Nat) => us.all (fun x => (maskPorts x.portsA).contains p)
      && !sep.any fun n => Store.get none st.a n == some p
    match leastPort st.acc ((List.range 8).filter ok) with
    | none => none
    | some p =>
      let st := us.foldl (fun st x =>
        { st with acc := Store.upd 0 st.acc p (· + stationLoad m x p), a := Store.set none st.a x.num (some p) }) st
      foldOpt (placePathB m) st us

/-- Ports of every station: class C by number, then class M (05 R125). -/
def placePorts (m : Manifest) (t : StationTable) : Option PortSt :=
  let order := t.stations.filter (·.cfgC) ++ t.stations.filter (!·.cfgC)
  foldOpt (placeStation m order (affinitySets m 3 (t.stations.map (·.num)))) {} order

/-- Launch mark of a group. -/
def launchMark (m : Manifest) (g : Nat) : Option TideMark := m.tide.marks.find? fun k => k.action == 4 && k.param == g

/-- Angle steps of a launch mark within its scan period. -/
def groupSteps (m : Manifest) (g : Nat) : Nat := ((launchMark m g).map fun k => k.offset * 65536 + k.angle).getD 0

/-- M_scan: the scan period (02 R35). -/
def scanPeriod (m : Manifest) : Nat := startModulus m m.tasks.stateTask

/-- 4 ns units of a number of angle steps at nominal frequency, as a quotient (05 R126). -/
def stepUnits (m : Manifest) (steps : Nat) : Q := (steps * 10 ^ 12, m.tide.nominal * 65536 * 4)

/-- Layout of one port: the end of the last window as a quotient, offsets by path, and each group's end offset. -/
structure LaySt where
  cursor : Q := (0, 1)
  offA : Store Nat := []
  offB : Store Nat := []
  ends : List (Nat × Nat) := []
  deriving DecidableEq, Repr

/-- Ceiling of a quotient less another. -/
def ceilSub (a b : Q) : Nat := (a.1 * b.2 - b.1 * a.2 + a.2 * b.2 - 1) / (a.2 * b.2)

/-- Lay out one launch group on one port (05 R126). The 20 µs between the mark and the first frame stand in R126 for the
first group of a port; the model gives them to every group's first frame. DESIGN CHOICE, log entry 69. -/
def layGroup (m : Manifest) (port : Nat) (p : PortSt) (t : StationTable) (st : LaySt) (g : Nat) : LaySt :=
  let mark := stepUnits m (groupSteps m g)
  let first := max 5000 (ceilSub st.cursor mark)
  let cs := t.stations.filter fun c =>
    c.cfgC && c.group == g && (Store.get none p.a c.num == some port || Store.get none p.b c.num == some port)
  if cs.isEmpty then st
  else
    let (st, o) := cs.foldl (fun ((st, o) : LaySt × Nat) c =>
      let w := stationLoad m c port
      if Store.get none p.a c.num = some port then ({ st with offA := Store.insert st.offA c.num o }, o + w)
      else ({ st with offB := Store.insert st.offB c.num o }, o + w)) (st, first)
    { st with cursor := addQ mark (o, 1), ends := st.ends ++ [(g, o)] }

/-- Launch groups in order of mark tide time, then number (05 R126). -/
def groupOrder (m : Manifest) (t : StationTable) : List Nat :=
  sortBy (fun a b => decide (groupSteps m a < groupSteps m b) || (groupSteps m a == groupSteps m b && decide (a < b)))
    (List.range t.groups.length)

/-- Lay out one port (05 R126). -/
def layPort (m : Manifest) (p : PortSt) (t : StationTable) (st : LaySt) (port : Nat) : LaySt :=
  (groupOrder m t).foldl (layGroup m port p t) { st with cursor := (0, 1) }

/-- Angle steps from a group's launch mark to its reply deadline mark (12 R344). -/
def deadlineSteps (m : Manifest) (g : Nat) : Nat := scanPeriod m * 65536 - groupSteps m g % (scanPeriod m * 65536)

/-- A group's windows and apply instant meet R126 and 12 R339. -/
def groupOk (m : Manifest) (t : StationTable) (ends : List (Nat × Nat)) (g : Nat) : Bool :=
  let es := (ends.filter (·.1 == g)).map (·.2)
  let dl := deadlineSteps m g
  let off := t.groups.getD g 0
  es.all (fun e => !ltQ (stepUnits m dl) (2 * e, 1))
    && (off == 0 || (es.all (fun e => !ltQ (stepUnits m off) (e + 25000, 1)) && decide (off < dl)))

/-- Bytes of a master copy without the structure block (06 R163). -/
def masterBytes (c : ProblemCfg) (t : Template) : Nat :=
  (64 + 4 * (t.nnzA + t.nnzP + t.n + 2 * t.m + (c.scenarios - 1) * t.v + t.nx) + 4095) / 4096 * 4096

/-- Bytes of a template's structure block (06 R163). -/
def structBytes (m : Manifest) (k : Nat) (t : Template) : Nat :=
  (256 + 2 * (t.n + t.m) + 4 * (t.n + t.m + 1) + 8 * (t.n + 1) + 2 * (t.nnzL + t.nnzA + t.nnzP + t.v) + 8 * t.nnzE
    + (if m.models.any (·.template == k) then 4 * t.nx * (t.nx + t.nu) else 0) + 4095) / 4096 * 4096

/-- Bytes of all master copies with their structure blocks (06 R163). -/
def mastersBytes (m : Manifest) : Nat :=
  (m.problems.map fun c => match m.templates[c.template]? with
    | some t => masterBytes c t
    | none => 0).sum
  + (m.templates.zipIdx.map fun (t, k) => structBytes m k t).sum

/-- Bytes of a checkpoint (08 R238). -/
def checkpointBytes (m : Manifest) : Nat :=
  128 + 8 * ((m.coupling.map (·.cons.length)).getD 0)
    + (m.problems.map fun c => match m.templates[c.template]? with
      | some t => 8 + 4 * c.scenarios * (t.n + 2 * t.m)
      | none => 0).sum

/-- Process image memory of each task in number order, and its end (05 R127). -/
def imageLayout (m : Manifest) : Store (Nat × Nat) × Nat :=
  m.tasks.tasks.foldl (fun (l, o) c =>
    let n := 2 * c.imageSize + c.storeSize + c.deltaSize
    (Store.insert l c.num (o, n), o + n)) ([], 0)

/-- A full placement, or the type of the record whose entity could not be placed (05 R128). -/
inductive FullPlace where
  | ok (map : WorkMap) (stns : Store StnPlace) (slots : Store Nat) (buf : Store (Nat × Nat)) (nospare : Bool) (foot : Nat)
  | refuse (record : Nat)
  deriving Repr

/-- The constraints record can be met at all (05 R119). -/
def consOk (m : Manifest) (infos : List PackInfo) : Bool :=
  let sets := affinitySets m 1 (infos.map (·.num))
  m.cons.all (fun c => c.separation || (if c.subject = 1 then decide (c.a < 1024 ∧ c.b < 1024)
      else c.subject != 2 || decide (c.a ≠ 0 ∧ c.b ≠ 0)))
    && sets.all (fun u => !setSeparated m 1 u
        && (u.length == 1 || decide (((infos.filter fun p => u.contains p.num).map (·.foot)).sum ≤ tileBytes)))
    && (affinitySets m 2 (m.tasks.tasks.map (·.num))).all (fun u => !setSeparated m 2 u)
    && (affinitySets m 3 ((m.stations.map fun t => t.stations.map (·.num)).getD [])).all (fun u => !setSeparated m 3 u)

/-- Tiles a packing of healthy tiles uses: with spares kept, or with them (05 R120, R121). -/
def packTiles (m : Manifest) (infos : List PackInfo) (epoch : Nat) (e0 : BitVec 64) : Option (PackSt × List Nat × Bool) :=
  let healthy := (tileOrder epoch).filter fun t => !e0.getLsbD t
  let spare := spareTilesOf epoch healthy
  match packAll m infos (healthy.filter fun t => !spare.contains t) {} with
  | some st => some (st, spare, false)
  | none => (packAll m infos healthy {}).map fun st =>
      (st, spare.filter fun t => tileFree st t, true)

/-- Core pairs of the tasks, the spare pair, and whether it is used (05 R123). R123 names only a load above 80 % as the
reason to place again with the spare; the model does so too where separation fails or no other pair is left. DESIGN
CHOICE, log entry 68. -/
def packPairs (m : Manifest) (epoch : Nat) (e0 : BitVec 5) : Option (Store Nat × Option Nat × Bool) :=
  let healthy := (pairOrder epoch).filter fun p => !e0.getLsbD p
  let spare := healthy.getLast?
  let nums := m.tasks.tasks.map (·.num)
  let good := fun (o : Option (Store Nat)) => match o with
    | some a => if overLoad m a 80 then none else some a
    | none => none
  match good (placeTasks m nums healthy.dropLast true []) with
  | some a => some (a, spare, false)
  | none => (good (placeTasks m nums healthy true [])).map fun a =>
      (a, spare, spare.any fun p => a.any (·.2 == p))

/-- The station part of a full placement: none refuses (05 R125, R126; 12 R339). -/
def packStations (m : Manifest) : Option (Store StnPlace) :=
  match m.stations with
  | none => some []
  | some t =>
    match placePorts m t with
    | none => none
    | some p =>
      let lay := (List.range 8).foldl (layPort m p t) {}
      if (List.range t.groups.length).all (groupOk m t lay.ends) then
        some (t.stations.foldl (fun s c =>
          let pa := (Store.get none p.a c.num).getD 0
          let pb := (Store.get none p.b c.num).getD 0
          Store.set {} s c.num
            { portA := pa, offA := Store.get 0 lay.offA c.num, portB := pb
              offB := Store.get 0 lay.offB c.num, wire := stationLoad m c pa
              wireB := if c.dual then stationLoad m c pb else 0 }) [])
      else none

/-- The full placement of a manifest at an epoch on a health map (05 R114 to R128). -/
def fullPlacement (m : Manifest) (epoch : Nat) (e0Tiles : BitVec 64) (e0Cores : BitVec 5) : FullPlace :=
  let infos := packInfos m
  let total := (infos.map (·.foot)).sum + mastersBytes m
  let (buf, top) := imageLayout m
  if !consOk m infos then .refuse 0xA0
  else match packTiles m infos epoch e0Tiles with
    | none => .refuse 0x20
    | some (st, spares, nospare) =>
      let stored := ((infos.filter fun p => (Store.get {} st.probs p.num).store).map (·.foot)).sum
      if 16777216 < mastersBytes m + stored ∨ 50331648 < total ∨ 12582912 < checkpointBytes m then .refuse 0x20
      else match packPairs m epoch e0Cores with
        | none => .refuse 0x11
        | some (pairs, spare, used) =>
          if 2097152 < top then .refuse 0x11
          else match packStations m with
            | none => .refuse 0x40
            | some stns =>
              .ok { probs := st.probs, taskPair := pairs, exclTiles := e0Tiles, exclCores := e0Cores
                    spareTiles := spares, sparePair := spare, spareUsed := used } stns (loopSlots m) buf nospare total

/-- e1 of this unit: its faulty marks at adoption and every slow or faulty mark since; in a pair the union with the
partner's (05 R129). -/
def exclTilesNow (s : State) : BitVec 64 :=
  s.place.e0Tiles ||| s.place.tileFault ||| s.place.tileSlow ||| s.place.peer.e0Tiles ||| s.place.peer.e1Tiles

def exclCoresNow (s : State) : BitVec 5 :=
  s.place.e0Cores ||| s.place.coreFault ||| s.place.peer.e0Cores ||| s.place.peer.e1Cores

/-- Packing state of a work map. -/
def packOf (infos : List PackInfo) (w : WorkMap) : PackSt :=
  infos.foldl (fun st p =>
    let x := Store.get {} w.probs p.num
    if p.classP then
      { st with span := st.span ++ x.tiles, load := x.tiles.foldl (fun l t => Store.upd 0 l t (· + p.cost / x.tiles.length)) st.load }
    else
      { st with used := x.tiles.foldl (fun l t => Store.upd 0 l t (· + p.foot)) st.used
                load := x.tiles.foldl (fun l t => Store.upd 0 l t (· + p.cost)) st.load }) { probs := w.probs }

/-- Problems on a tile. -/
def onTile (w : WorkMap) (t : Nat) : List Nat := (w.probs.filter (·.2.tiles.contains t)).map (·.1)

/-- Move all of a tile's work to a spare (05 R133). -/
def moveTile (w : WorkMap) (t sp : Nat) : WorkMap :=
  { w with
    probs := w.probs.map fun (n, x) =>
      if x.tiles.contains t then
        (n, { x with tiles := sortBy (fun a b => decide (a < b)) (x.tiles.map fun y => if y = t then sp else y), moved := true })
      else (n, x)
    spareTiles := w.spareTiles.filter (· != sp) }

/-- Place again one problem or affinity unit that a newly excluded tile held; without room it is shed (05 R133). -/
def replaceOne (m : Manifest) (infos : List PackInfo) (set : List Nat) (w : WorkMap) (u : List Nat) : WorkMap × List Nat :=
  let w0 := { w with probs := w.probs.map fun (n, x) => if u.contains n then (n, { x with tiles := [] }) else (n, x) }
  let st := packOf infos w0
  let r := match infos.find? fun p => u.contains p.num && p.classP with
    | some p => packSpan m set st p
    | none => packUnit m set infos st u
  match r with
  | some st =>
    let probs := w0.probs.map fun (n, x) =>
      if u.contains n then (n, { Store.get {} st.probs n with moved := true }) else (n, x)
    let spares := w0.spareTiles.filter fun t => !(u.any fun n => (Store.get {} st.probs n).tiles.contains t)
    ({ w0 with probs := probs, spareTiles := spares }, [])
  | none => ({ w0 with probs := w0.probs.map fun (n, x) => if u.contains n then (n, { x with moved := true }) else (n, x) }, u)

/-- Move the work of one newly excluded tile; answers the problems shed (05 R133). -/
def replaceTile (m : Manifest) (infos : List PackInfo) (set : List Nat) (x : WorkMap × List Nat) (t : Nat) : WorkMap × List Nat :=
  let (w, shed) := x
  if (onTile w t).isEmpty then ({ w with spareTiles := w.spareTiles.filter (· != t) }, shed)
  else
    match w.spareTiles.find? fun sp => sp / 8 == t / 8 && set.contains sp && sp != t with
    | some sp => (moveTile w t sp, shed)
    | none =>
      let on := onTile w t
      let units := (packOrder m infos).filter fun u => u.any on.contains
      units.foldl (fun (w, shed) u => let (w, l) := replaceOne m infos set w u; (w, shed ++ l)) (w, shed)

/-- Move the tasks of one newly excluded core pair; answers whether they are overloaded (05 R133). -/
def replacePair (m : Manifest) (set : List Nat) (x : WorkMap × Bool) (q : Nat) : WorkMap × Bool :=
  let (w, full) := x
  let mine := (w.taskPair.filter (·.2 == q)).map (·.1)
  if mine.isEmpty then (w, full)
  else match w.sparePair with
    | some sp =>
      if !w.spareUsed && set.contains sp then
        ({ w with taskPair := w.taskPair.map fun (t, p) => (t, if p = q then sp else p), spareUsed := true }, full)
      else again w full mine
    | none => again w full mine
where
  /-- Place the tasks again on the remaining pairs (05 R133). -/
  again (w : WorkMap) (full : Bool) (mine : List Nat) : WorkMap × Bool :=
    let rest := w.taskPair.filter fun (t, _) => !mine.contains t
    match placeTasks m mine set true rest with
    | some a =>
      if overLoad m a 100 then
        ({ w with taskPair := (placeTasks m mine set false rest).getD w.taskPair }, true)
      else ({ w with taskPair := a }, full || overLoad m a 80)
    | none => ({ w with taskPair := (placeTasks m mine set false rest).getD w.taskPair }, true)

/-- The placement after a change of the exclusion sets, the problems shed, and whether tasks are overloaded
(05 R133). -/
def rePlacement (m : Manifest) (epoch : Nat) (w : WorkMap) (tiles : BitVec 64) (cores : BitVec 5) (union : Bool) :
    WorkMap × List Nat × Bool :=
  let infos := packInfos m
  let newTiles := (tileOrder epoch).filter fun t => tiles.getLsbD t && !w.exclTiles.getLsbD t
  let set := (tileOrder epoch).filter fun t => !tiles.getLsbD t
  let newCores := (pairOrder epoch).filter fun p => cores.getLsbD p && !w.exclCores.getLsbD p
  let pairs := (pairOrder epoch).filter fun p => !cores.getLsbD p
  let w0 := { w with probs := w.probs.map fun (n, x) => (n, { x with moved := false }) }
  let (w1, shed) := newTiles.foldl (replaceTile m infos set) (w0, [])
  let (w2, full) := newCores.foldl (replacePair m pairs) (w1, false)
  ({ w2 with exclTiles := tiles, exclCores := cores, union := union }, shed, full)

/-- A problem's tiles under another placement differ from those it has. -/
def movedTo (old : WorkMap) (n : Nat) (x : ProbPlace) : ProbPlace :=
  { x with moved := decide ((Store.get {} old.probs n).tiles ≠ x.tiles) }

/-- A joining standby makes the full placement of the active unit's epoch and e0; it awaits the next boundary, as every
change of the placement does (01 R24; 05 R116, R135). -/
def joinPlacement (m : Manifest) (epoch : Word) (e0Tiles : BitVec 64) (e0Cores : BitVec 5) (s : State) : State :=
  match fullPlacement m epoch.toNat e0Tiles e0Cores with
  | .refuse _ => s
  | .ok map stns slots buf nospare foot =>
    let w := { map with union := true, probs := map.probs.map fun (n, x) => (n, movedTo s.place.cur n x) }
    s.updPlace fun p =>
      { p with next := some w, joined := some { epoch := epoch, stns := stns, slots := slots, buf := buf, nospare := nospare
                                                foot := satNat 32 foot } }

/-- The placement engine at the run-ahead start mark (05 R132). -/
def computePlacement (s : State) : State :=
  match s.man with
  | none => s
  | some m =>
    let t := exclTilesNow s
    let c := exclCoresNow s
    let base := s.place.next.getD s.place.cur
    if t = base.exclTiles ∧ c = base.exclCores then s
    else
      let (w, shed, full) := rePlacement m (s.place.joined.elim s.place.epoch (·.epoch)).toNat base t c s.place.peerSeen
      let s := s.updPlace fun p => { p with next := some w, overload := p.overload || full }
      let s := raiseAll 151 shed s
      let s := w.probs.foldl (fun s (n, x) => if x.moved then s.updProb n fun p => { p with moved := true } else s) s
      if full then raise 152 s else s

/-- What a joining standby's full placement brings beside the work map (05 R116, R135). -/
def takeJoined (p : Place) : Place :=
  match p.joined with
  | none => p
  | some j =>
    { p with joined := none, epoch := j.epoch, stns := j.stns, loopSlot := j.slots, taskBuf := j.buf, nospare := j.nospare
             foot := j.foot }

/-- A pending placement takes effect at the boundary: moved problems factorise in place on their new tiles
(05 R132, R134; 07 R198). -/
def placementEffect (s : State) : State :=
  match s.place.next with
  | none => s
  | some w =>
    let s := s.updPlace fun p => { takeJoined p with cur := w, next := none, last := s.tide.cycle.setWidth 32 }
    let s := w.probs.foldl (fun s (n, x) =>
      if x.moved && !(s.prob n).ill then
        s.updProb n fun p => { p with factor := none, build := none, need := .inPlace }
      else s) s
    raise 148 s

/-- A tile is marked faulty and stops at once (05 R131, R136). -/
def tileFaulty (t : Nat) (s : State) : State :=
  let s := raise 150 (s.updPlace fun p => { p with tileFault := putBit p.tileFault t true }) t
  let s := s.updDev fun d => { d with faultTiles := putBit d.faultTiles t true }
  (onTile s.place.cur t).foldl (fun s n => stopFaulty n s) s

/-- A core pair is marked faulty (05 R131, R136). -/
def coreFaulty (p : Nat) (s : State) : State :=
  let s := raise 150 (s.updPlace fun x => { x with coreFault := putBit x.coreFault p true }) (64 + p)
  s.updDev fun d => { d with faultCores := putBit d.faultCores p true }

/-- A lockstep mismatch of a core pair: two within 1,000 of its scans mark it faulty (05 R131). -/
def coreMismatched (q : Nat) (s : State) : State :=
  let now := Store.get 0 s.place.pairScans q
  let near := (Store.get [] s.place.mismatches q).any fun k => decide (now < k + 1000)
  let s := s.updPlace fun p => { p with mismatches := Store.upd [] p.mismatches q fun l => (now :: l).take 2 }
  if near && !s.place.coreFault.getLsbD q then coreFaulty q s else s

end Sys2Proof.Machine
end

