-- ==== Sys2Proof/Machine/RegBase.lean ====
section
/-! DEFINITION. Register words from their fields (00 R4, R5). -/

namespace Sys2Proof.Machine

open Sys2Proof

/-- A register word: each field given by its lowest bit and its width, with its value cut to the width. -/
def regWord (l : List (Nat × Nat × Nat)) : Word :=
  BitVec.ofNat 32 ((l.map fun (lsb, w, v) => v % 2 ^ w * 2 ^ lsb).sum)

/-- The same with one-bit fields given by bit number. -/
def flagWord (l : List (Nat × Bool)) : Word :=
  BitVec.ofNat 32 ((l.map fun (b, v) => boolNat v * 2 ^ b).sum)

/-- The field of a word written: its lowest bit and width. -/
def fieldOf (v : Word) (lsb w : Nat) : Nat := v.toNat / 2 ^ lsb % 2 ^ w

/-- Word `i` of a 64-bit value, low word first. -/
def halfWord (v : DWord) (i : Nat) : Word := (v >>> (32 * i)).setWidth 32

/-- A saturated value for a field of `w` bits. -/
def satField (w v : Nat) : Nat := min v (2 ^ w - 1)

end Sys2Proof.Machine
end

