-- ==== Sys2Proof/Machine/SolRegs.lean ====
section
/-! DEFINITION. What the SOL and PLACE registers show (06 R179 to R185, 05 R137 to R141). -/

namespace Sys2Proof.Machine

open Sys2Proof

/-- Problem that SOL_SEL selects (06 R179). -/
def PathSt.problem (p : PathSt) : Nat := fieldOf p.sol 0 11
/-- Scenario that SOL_SEL selects (06 R179). -/
def PathSt.scen (p : PathSt) : Nat := fieldOf p.sol 16 3

/-- Elements that a VEC selects: x, z and y of the accepted result, q and the effective bounds as the data stand, but for
a coupled problem the effective q of the accepted solve (06 R183, R175, 08 R221). -/
def solVector (s : State) (n k vec : Nat) : List Int :=
  match problemDef s n with
  | none => []
  | some (c, t) =>
    let p := s.prob n
    if vec < 6 ∧ c.scenarios ≤ k then []
    else match vec with
      | 0 => p.acc.set.x.getD k []
      | 1 => accZ t p.acc k
      | 2 => accY t p.acc k
      | 3 => if isCoupled s n then p.acc.q.getD k (scenQ t p.data k) else scenQ t p.data k
      | 4 => (effBounds t p.data k).1.1
      | 5 => (effBounds t p.data k).1.2
      | 6 => p.data.x0
      | 7 => p.data.xPred
      | 8 => p.data.p
      | 9 => p.data.a
      | _ => []

/-- SOL_VDATA (06 R183). -/
def solVdata (s : State) (p : PathSt) : Word :=
  intWord ((solVector s p.problem p.scen (fieldOf p.solV 28 4)).getD (fieldOf p.solV 0 18) 0)

/-- AUTO: SOL_VSEL.INDEX after a read of SOL_VDATA (06 R183). -/
def solVnext (p : PathSt) : PathSt :=
  if p.solV.getLsbD 27 then
    { p with solV := (p.solV &&& 0xFFFC0000) ||| BitVec.ofNat 32 ((fieldOf p.solV 0 18 + 1) % 2 ^ 18) }
  else p

/-- A read of SOL_VDATA through a path (06 R183). -/
def readSolVdata (path : Path) (s : State) : State :=
  let v := solVdata s (s.path path)
  s.updPath path fun p => { solVnext p with out := [v] }

/-- Registers of a selected problem (06 R179 to R182). -/
def solProblemReg (s : State) (n off : Nat) : Word :=
  match problemDef s n with
  | none => 0
  | some (c, t) =>
    let p := s.prob n
    match off with
    | 0x04 => regWord [(31, 1, 1), (30, 1, boolNat t.classP), (29, 1, boolNat c.runAhead), (28, 1, boolNat c.hostDelta),
        (24, 4, c.scenarios), (16, 7, t.nu), (0, 11, c.template)]
    | 0x08 => regWord [(16, 11, t.n), (0, 12, t.m)]
    | 0x0C => regWord [(16, 13, t.v), (0, 9, t.nx)]
    | 0x10 => p.acc.status
    | 0x14 => intWord p.acc.resP
    | 0x18 => intWord p.acc.resD
    | 0x1C => regWord [(16, 16, satField 16 p.acc.regs), (0, 16, satField 16 p.acc.sats)]
    | 0x30 => regWord [(16, 16, p.raAcc.toNat), (0, 16, p.raDisc.toNat)]
    | 0x34 => regWord [(16, 8, p.rejLast.toNat), (0, 16, p.rejCount.toNat)]
    | _ =>
      if 0x20 ≤ off ∧ off < 0x30 then
        regWord ((List.range 4).map fun i => (8 * i, 8, t.fmt ((off - 0x20) / 4 * 4 + i)))
      else 0

/-- SOL registers by offset (06 R179 to R185). -/
def solReg (s : State) (p : PathSt) (off : Nat) : Word :=
  match off with
  | 0x00 => p.sol
  | 0x38 => if (problemDef s p.problem).isSome then s.sol.cycle else 0
  | 0x3C => p.solV
  | 0x40 => solVdata s p
  | 0x44 => regWord [(16, 11, (problemNums s).length), (0, 11, s.sol.notGood)]
  | 0x4C => regWord [(16, 8, s.sol.hdReason.toNat), (2, 1, boolNat s.isStandby), (1, 1, boolNat s.sol.hdDone),
      (0, 1, boolNat s.sol.hdBusy)]
  | 0x50 => s.sol.rejAll
  | _ =>
    if 0x4000 ≤ off ∧ off ≤ 0xC004 then BitVec.ofNat 32 (fld (Store.getMany 0 s.sol.hdBuf (off - 0x4000) 4) 0 4)
    else solProblemReg s p.problem off

/-- Writes of SOL registers; SOL_HD_CTRL is the SUBMIT command, and while a host frame waits its buffer is not written
(06 R172, R179, R183 to R185). -/
def solWrite (path : Path) (off : Nat) (v : Word) (s : State) : State :=
  match off with
  | 0x00 => s.updPath path fun p => { p with sol := v &&& 0x000707FF }
  | 0x3C => if 10 ≤ fieldOf v 28 4 then s else s.updPath path fun p => { p with solV := v &&& 0xF803FFFF }
  | 0x48 => if v.getLsbD 0 then submitHost s else s
  | 0x4C => if v.getLsbD 1 then s.updSol fun x => { x with hdDone := false } else s
  | _ =>
    if 0x4000 ≤ off ∧ off ≤ 0xC004 ∧ !s.sol.hdBusy then
      s.updSol fun x => { x with hdBuf := Store.setMany 0 x.hdBuf (off - 0x4000) (leBytes 4 v.toNat) }
    else s

/-- Steps from the boundary to the solver deadline mark (05 R121). -/
def windowSteps (s : State) : Nat :=
  ((s.tideSetup.marks.find? (·.action == 6)).map fun k => k.offset * 65536 + k.angle).getD 0

/-- A tile's load in 0.1 % for a cost in multiply-accumulates (05 R121). -/
def tileLoad (s : State) (cost : Nat) : Nat := cost * 65536 * s.tideSetup.nominal / (8 * 10 ^ 9 * max 1 (windowSteps s))

/-- A quotient in 0.1 %. -/
def perMille (q : Q) : Nat := 1000 * q.1 / q.2

/-- Cost and tile part of a problem (05 R121, R128). -/
def problemInfo (s : State) (n : Nat) : Option PackInfo := (problemDef s n).map fun (c, t) =>
  { num := n, classP := t.classP, foot := tilePart c t, cost := problemCost c t }

/-- STATE of a tile (05 R141). -/
def tileState (s : State) (t : Nat) : Nat :=
  let w := s.place.cur
  if w.exclTiles.getLsbD t then
    (if (s.place.tileFault ||| s.place.e0Tiles).getLsbD t then 4 else if s.place.tileSlow.getLsbD t then 3 else 5)
  else if w.spareTiles.contains t then 2
  else if (onTile w t).any fun n => 1024 ≤ n then 1
  else 0

/-- Bytes of a tile in use (05 R141). -/
def tileUsed (s : State) (t : Nat) : Nat :=
  ((onTile s.place.cur t).map fun n =>
    match problemInfo s n with
    | some i =>
      let x := placeOf s n
      if !i.classP then i.foot
      else if x.store then 0
      else min tileBytes (i.foot - x.tiles.idxOf t * tileBytes)
    | none => 0).sum

/-- Cost on a tile (05 R121, R141). -/
def tileCost (s : State) (t : Nat) : Nat :=
  ((onTile s.place.cur t).map fun n => ((problemInfo s n).map fun i => i.cost / max 1 (placeOf s n).tiles.length).getD 0).sum

/-- Tile map (05 R141). -/
def mapTile (s : State) (t k : Nat) : Word :=
  if 64 ≤ t then 0
  else match k with
    | 0 => regWord [(16, 12, (onTile s.place.cur t).length), (0, 3, tileState s t)]
    | 1 => BitVec.ofNat 32 (tileUsed s t)
    | 2 => regWord [(16, 16, satField 16 (Store.get 0 s.place.rate t)), (0, 16, satField 16 (tileLoad s (tileCost s t)))]
    | _ => regWord [(0, 4, satField 4 (Store.get 0 s.place.slowRun t))]

/-- Problem map (05 R141). -/
def mapProblem (s : State) (n k : Nat) : Word :=
  match problemInfo s n with
  | none => 0
  | some i =>
    let x := placeOf s n
    let low := x.tiles.headD 0
    match k with
    | 0 => regWord [(31, 1, boolNat x.store), (30, 1, boolNat x.moved), (24, 3, x.tiles.length), (0, 6, low)]
    | 1 => BitVec.ofNat 32 i.foot
    | 2 => BitVec.ofNat 32 (i.cost / 1024)
    | _ => flagWord ((List.range 8).map fun b => (b, x.tiles.contains (8 * (low / 8) + b)))

/-- Task map (05 R141). -/
def mapTask (s : State) (t k : Nat) : Word :=
  match s.man, taskCfg s t with
  | some m, some c =>
    match k with
    | 0 => regWord [(0, 3, Store.get 0 s.place.cur.taskPair t)]
    | 1 => regWord [(0, 10, satField 10 (perMille (taskLoad m c)))]
    | 2 => BitVec.ofNat 32 (Store.get (0, 0) s.place.taskBuf t).1
    | _ => BitVec.ofNat 32 (Store.get (0, 0) s.place.taskBuf t).2
  | _, _ => 0

/-- Loop map (05 R141). -/
def mapLoop (s : State) (n k : Nat) : Word :=
  match (s.man.map (·.loops)).bind (·.find? (·.num == n)), k with
  | some c, 0 => regWord [(16, 8, c.group), (0, 9, Store.get 0 s.place.loopSlot n)]
  | _, _ => 0

/-- Station map (05 R141). -/
def mapStation (s : State) (n k : Nat) : Word :=
  match (s.man.bind (·.stations)).bind (·.stations.find? (·.num == n)) with
  | none => 0
  | some c =>
    let x := Store.get {} s.place.stns n
    match k with
    | 0 => regWord [(31, 1, 1), (7, 1, boolNat c.dual), (4, 3, x.portB), (0, 3, x.portA)]
    | 1 => BitVec.ofNat 32 x.offA
    | 2 => BitVec.ofNat 32 x.offB
    | _ => BitVec.ofNat 32 x.wire

/-- Load of a core pair in 0.1 % (05 R123). -/
def corePairLoad (s : State) (p : Nat) : Nat := ((s.man.map fun m => perMille (pairLoad m s.place.cur.taskPair p))).getD 0

/-- Core pair map (05 R141, 10 R290). -/
def mapCore (s : State) (p k : Nat) : Word :=
  let w := s.place.cur
  let tasks := (w.taskPair.filter (·.2 == p)).length
  let waiting := w.taskPair.any fun x => x.2 != p && s.place.coreFault.getLsbD x.2 && !w.exclCores.getLsbD x.2
  let runsOthers := waiting || (tasks != 0 && w.exclCores &&& ~~~s.place.e0Cores != 0)
  let st := if w.exclCores.getLsbD p then (if (s.place.coreFault ||| s.place.e0Cores).getLsbD p then 2 else 3)
    else if w.sparePair = some p then (if runsOthers then 4 else if tasks = 0 then 1 else 0)
    else 0
  if 5 ≤ p then 0
  else match k with
    | 0 => regWord [(8, 8, tasks), (0, 3, st)]
    | 1 => regWord [(0, 10, satField 10 (corePairLoad s p))]
    | _ => 0

/-- A word of the map window (05 R137, R141). -/
def placeMap (s : State) (p : PathSt) (k : Nat) : Word :=
  let i := fieldOf p.place 0 11
  match fieldOf p.place 16 3 with
  | 0 => mapTile s i k
  | 1 => mapProblem s i k
  | 2 => mapTask s i k
  | 3 => mapLoop s i k
  | 4 => mapStation s i k
  | 5 => mapCore s i k
  | _ => 0

/-- PLACE registers by offset (05 R137 to R141). -/
def placeReg (s : State) (p : PathSt) (off : Nat) : Word :=
  let x := s.place
  let w := x.cur
  let nx := x.next.getD w
  match off with
  | 0x00 => p.place
  | 0x04 => x.epoch
  | 0x08 => regWord [(20, 4, w.spareTiles.length), (16, 3, w.sparePair.getD 0),
      (5, 1, boolNat (!w.spareUsed && w.sparePair.any fun q => !(w.exclCores ||| x.coreFault).getLsbD q)), (4, 1, boolNat w.union), (3, 1, boolNat x.nospare),
      (2, 1, boolNat x.overload), (1, 1, boolNat ((problemNums s).any (isShed s))), (0, 1, boolNat x.next.isSome)]
  | 0x0C => x.last
  | 0x10 => halfWord w.exclTiles 0
  | 0x14 => halfWord w.exclTiles 1
  | 0x18 => halfWord nx.exclTiles 0
  | 0x1C => halfWord nx.exclTiles 1
  | 0x20 => halfWord x.tileFault 0
  | 0x24 => halfWord x.tileFault 1
  | 0x28 => halfWord x.tileSlow 0
  | 0x2C => halfWord x.tileSlow 1
  | 0x30 => regWord [(10, 5, nx.exclCores.toNat), (5, 5, w.exclCores.toNat), (0, 5, x.coreFault.toNat)]
  | 0x34 => x.foot
  | 0x38 => regWord [(0, 10, satField 10 (((List.range 5).map (corePairLoad s)).foldl max 0))]
  | 0x80 => placeMap s p 0
  | 0x84 => placeMap s p 1
  | 0x88 => placeMap s p 2
  | 0x8C => placeMap s p 3
  | _ => 0

/-- PLACE_CTRL.CLEAR_FAULT (05 R140). -/
def clearFaultCommand (s : State) : State := s.updDev fun d => { d with clearFault := true }

/-- Writes of PLACE registers (05 R137, R140). -/
def placeWrite (path : Path) (off : Nat) (v : Word) (s : State) : State :=
  match off with
  | 0x00 => if 6 ≤ fieldOf v 16 3 then s else s.updPath path fun p => { p with place := v &&& 0x000707FF }
  | 0x3C => if fieldOf v 16 16 = 0x9E1D ∧ v.getLsbD 0 then clearFaultCommand s else s
  | _ => s

end Sys2Proof.Machine
end

