-- ==== Sys2Proof/Machine/CommitOps.lean ====
section
/-! DEFINITION. What the period's marks do, scan commits with their solver work and stage 2 entry, and core-pair
mismatches (01 R13 to R24, 10 R284 to R290, 04 R83 to R88). -/

namespace Sys2Proof.Machine

open Sys2Proof

/-- Median of nonempty rates, twice over; the mean of the middle two where their number is even. DESIGN CHOICE. -/
def medianTwice (l : List Nat) : Nat :=
  let m := sortBy (fun a b => decide (a < b)) l
  m.getD (m.length / 2) 0 + m.getD ((m.length - 1) / 2) 0

/-- The comparison of tile rates at a deadline mark (05 R130). -/
def compareRates (rates : List (Option Nat)) (s : State) : State :=
  let l := (rates.take 64).zipIdx.filterMap fun (r, t) => r.map fun v => (t, v)
  if l.length < 8 then s
  else
    let m2 := medianTwice (l.map (·.2))
    s.updPlace fun p =>
      { p with
        rate := l.foldl (fun k (t, v) => Store.set 0 k t (satField 16 (2000 * v / max 1 m2))) p.rate
        slowRun := l.foldl (fun k (t, v) => Store.upd 0 k t fun n => if 5 * v < 2 * m2 then n + 1 else 0) p.slowRun }

/-- UNIT_SLOW: the eighth consecutive slow period (05 R130, R136). -/
def unitSlow (t : Nat) (s : State) : State :=
  if 8 ≤ Store.get 0 s.place.slowRun t ∧ !s.place.tileSlow.getLsbD t then
    raise 149 (s.updPlace fun p => { p with tileSlow := putBit p.tileSlow t true }) t
  else s

/-- PAIR_SELFTEST (14 R420). -/
def selfTestReg (s : State) : Word :=
  let p := s.pair
  regWord [(16, 16, p.eccCorr.toNat), (8, 6, p.lastTile.toNat), (3, 1, boolNat p.outFail), (2, 1, boolNat p.uncorr),
    (1, 1, boolNat p.coreFail), (0, 1, boolNat p.tileFail)]

/-- This unit's health map for its partner (05 R135, 14 R399). -/
def healthMessage (s : State) : HealthMsg :=
  { e0Tiles := s.place.e0Tiles, e0Cores := s.place.e0Cores, e1Tiles := s.place.tileFault ||| s.place.tileSlow
    e1Cores := s.place.coreFault, selfTest := selfTestReg s }

/-- A manifest without a problem table enters stage 3 at the first deadline mark after stage 2 entry (04 R84). -/
def stageAtDeadline (s : State) : State :=
  if s.start.stage = 2 ∧ (problemNums s).isEmpty then setStage 3 s else s

/-- SOLVER_DEADLINE (07 R204; 05 R130, R135). -/
def solverDeadline (k : TideMark) (rates : List (Option Nat)) (s : State) : State :=
  let s := deadlineReached (markTime s k) s
  let s := if 2 ≤ s.start.stage.toNat then s.updStart fun x => { x with deadlines := x.deadlines + 1 } else s
  let s := stageAtDeadline (compareRates rates s)
  if s.inPair then sendLink (.health (healthMessage s)) s else s

/-- This unit's placement is made on the union of the health maps and none is pending (05 R135). -/
def placementsAgree (s : State) : Bool :=
  s.place.next.isNone && s.place.cur.exclTiles == exclTilesNow s && s.place.cur.exclCores == exclCoresNow s

/-- Whether the partner's effective placement is identical to this unit's (05 R135). Both place on the same union, but no
message carries a placement, and one that grew by changes can differ: the answer is a free value, log entry 73. -/
def samePlacement (s : State) : Bool × State :=
  let (k, s) := drawFree s
  (k % 2 == 0, s)

/-- The counts by which a standby follows the active unit's solver begin anew with lockstep (01 R23, 07 R205). -/
def freshCounts (s : State) : State :=
  s.updSol fun x =>
    { x with phase := 0, peerPhase := 0, reported := [], reportedNext := [], back := []
             probs := x.probs.map fun (n, p) => (n, { p with works := 0, reports := 0, stopQ := [], stopAt := none }) }

/-- A resynchronised pair enters lockstep at a boundary at which both placements are identical (14 R417, 05 R135); the
fence line test of the join (14 R414). -/
def joinLockstep (s : State) : State :=
  if s.pair.joinNext && placementsAgree s then
    let (same, s) := samePlacement s
    if !same then s
    else match s.pair.role with
    | .resync => raise 194 ((freshCounts s).updPair fun p =>
        { p with role := .lockstep, joinNext := false, resynced := true, fenceFault := p.fenceFault || !s.pins.fenceIn })
    | .activeStaging | .activeAlone => raise 194 (s.updPair fun p =>
        { p with role := .activeLockstep, joinNext := false, joining := false, fenceFault := p.fenceFault || s.pins.fenceIn })
    | _ => s
  else s

/-- The actions of the run-ahead start mark: the placement, then the run-ahead (05 R132, 08 R229). -/
def aheadActions (s : State) : State := runAheadWork (computePlacement s)

/-- RESULTS_FIXED: the fix instant, and the work that waited for it (07 R207). -/
def resultsFixed (s : State) : State :=
  if s.sol.fixing && s.sol.delivered then
    let s := fixResults (lateFix s)
    let s := if s.sol.aheadLater then
        let s := aheadActions (s.updSol fun x => { x with aheadLater := false })
        if s.sol.opened then endAhead s else s
      else s
    resumeBoundary s
  else s

/-- OPTIMISATION_PERIOD_BOUNDARY (01 R22; 05 R132, 08 R233, R229, 14 R417). -/
def periodBoundary (s : State) : State :=
  let s := placementEffect s
  let s := joinLockstep s
  let s := handover s
  endAhead (s.updSol fun x => { x with opened := true, openCycle := s.tide.cycle })

/-- RUN_AHEAD_START (08 R229; 05 R132, 07 R207). -/
def runAheadStart (s : State) : State :=
  if s.sol.fixing then s.updSol fun x => { x with aheadLater := true } else aheadActions s

/-- The state of a loop's destination channel at the handover: the lowest channel of its mask (04 R88). -/
def handState (s : State) (c : LoopCfg) : Option Bool :=
  (maskChannels c.dest).head?.map fun n => s.fio.applied.getLsbD n

/-- At stage 2 entry the loops that drive local outputs begin from the channels' states (04 R88, 11 R313). -/
def handLoops (s : State) : State :=
  s.loopTable.foldl (fun s c =>
    if c.outKind = 1 then s.updLoopSt c.num fun l => { l with started := false, hand := handState s c, drive := (handState s c).getD l.drive } else s) s

/-- A standby has its loops from the active unit (14 R417, R418; 11 R323). -/
def loopsTaken (s : State) : Bool := s.isStandby && (s.pair.resynced || s.pair.joinNext)

/-- Stage 2 entry at the commit of the first boundary scan (04 R83, R88, R99). A standby's loops that it has from the active
unit go on as they stand there (11 R323). -/
def enterScan (s : State) : State :=
  if s.start.stage = 1 ∧ s.start.step = 8 then
    let s := if loopsTaken s then s else handLoops s
    let s := s.updMoor fun m => { m with running := false }
    setStage 2 (s.updStart fun x => { x with deadlines := 0 })
  else s

/-- Contents of a page of packed words. -/
def wordPage (l : List Word) (page : Nat) : Bytes :=
  slice (((l.drop (page * 1024)).take 1024).flatMap fun w => leBytes 4 w.toNat) 0 4096

/-- Send a page of a region that the manual gives no layout. -/
def sendOpenPage (region page : Nat) (s : State) : State :=
  sendLink (.resync region page (slice (Config.resyncPage s.draws) 0 4096)) { s with draws := s.draws + 1 }

/-- Pages of a region that the manual gives a size and no layout: the master copies, and the tile parts, factors and iterate
sets (05 R122, 06 R160, 14 R417). -/
def openSize (s : State) (region : Nat) : Nat :=
  if region = 3 then ((s.man.map mastersBytes).getD 0 + 4095) / 4096 else (s.place.foot.toNat + 4095) / 4096

/-- Pages of such a region that a round sends: all of them in the first; later those that changed, which the missing layout
leaves open. -/
def openPages (region : Nat) (s : State) : List Nat × State :=
  let l := List.range (openSize s region)
  match s.pair.snap with
  | none => (l, s)
  | some _ =>
    let (k, s) := drawFree s
    (l.filter fun p => k.testBit p, s)

/-- Pages of packed words that differ from those of the round before. -/
def changedPages (old : Option (List Word)) (new : List Word) : List Nat :=
  (List.range ((new.length + 1023) / 1024)).filter fun p => old.all fun o => wordPage o p != wordPage new p

/-- Words of the data memory. -/
def dataWords (s : State) (d : Store Word) : List Word := Store.getMany 0 d 0 s.dataArea.varCount

/-- Send pages of packed words. -/
def sendPages (region : Nat) (words : List Word) (l : List Nat) (s : State) : State :=
  l.foldl (fun s p => sendLink (.resync region p (wordPage words p)) s) s

/-- Send pages of a region without a layout. -/
def sendOpenPages (region : Nat) (l : List Nat) (s : State) : State := l.foldl (fun s p => sendOpenPage region p s) s

/-- Pages that 2 ms of link time carry: messages of 4,120 bytes at 5 Gb/s with 8b/10b coding (14 R398, R417). -/
def finalPages : Nat := 1000000 / 4120

/-- One round of resynchronisation: the pages changed since the round before. At the commit of a boundary scan, where the
pages that remain fit within 2 ms of link time, it is the last, with the counter state, and both units enter lockstep at
the next boundary (14 R417). Rounds run at commits, and region 0x05, whose page 0 ends it, is sent in the last alone.
DESIGN CHOICE, log entry 74. -/
def resyncRound (boundary : Bool) (s : State) : State :=
  let d := dataWords s s.scan.data
  let r := retainedWords s
  let l1 := changedPages (s.pair.snap.map fun x => dataWords s x.1) d
  let l2 := changedPages (s.pair.snap.map (·.2)) r
  let (l3, s) := openPages 3 s
  let (l4, s) := openPages 4 s
  let n5 := Config.counterPages s.draws + 1
  let last := boundary && decide (l1.length + l2.length + l3.length + l4.length + n5 ≤ finalPages)
  let s := s.updPair fun p =>
    { p with rounds := satInc p.rounds, pages := 0, snap := some (s.scan.data, r), joinNext := last }
  let s := sendPages 2 r l2 (sendPages 1 d l1 s)
  let s := sendOpenPages 4 l4 (sendOpenPages 3 l3 s)
  if last then sendOpenPages 5 (List.range n5).reverse s else s

/-- The active unit starts to resynchronise a partner that asks for it, which no message tells: a unit that is out of
lockstep by R405, or one that the host has released (14 R404, R405, R418). One whose digests do not come has left lockstep.
DESIGN CHOICE, log entry 74. -/
def partnerAsks (s : State) : State :=
  let silent := s.pair.role == .activeLockstep && !s.pair.own.isEmpty
  if s.pair.linkUp && s.pair.ta.isSome && !s.pair.joining && !s.pair.apart && (s.pair.role == .activeAlone || silent) then
    let (k, s) := drawFree s
    if k % 2 = 0 then beginResync (s.updPair fun p => { p with role := .activeAlone, own := [], peer := [] }) else s
  else s

/-- The active unit sends a joining partner its state at its commits, in rounds (14 R417); a staging standby takes regions
0x04 and 0x05 at the commit of a boundary scan and never enters lockstep (14 R418). -/
def resyncSend (boundary : Bool) (s : State) : State :=
  let s := if boundary then partnerAsks s else s
  if !(s.pair.joining && s.isActive) || s.pair.joinNext then s
  else if s.pair.role = .activeStaging then
    if boundary then
      let s := sendOpenPages 4 (List.range (openSize s 4)) (s.updPair fun p => { p with rounds := satInc p.rounds, pages := 0, joining := false })
      sendOpenPages 5 (List.range (Config.counterPages s.draws + 1)).reverse s
    else s
  else resyncRound boundary s

/-- SCAN_COMMIT (10 R284, 15 R425): the landing buffer, the delta frames, the boundary's solver work and the outputs on
one edge; on a standby in lockstep, in its turn (10 R282). -/
def scanCommit (t : Nat) (s : State) : State :=
  match (s.task t).run with
  | none => s
  | some r =>
    if r.committable && inTurn s t r then
      let s := countPairScan t r s
      let s := commitLanding t r s
      let s := ownDigest (commitDigest t r s.scan.seq) (aheadOver r s)
      let s := solverCommit t r s
      let s := if r.boundary then enterScan (s.updScan fun x => { x with boundaryDone := true }) else s
      let s := resyncSend r.boundary s
      applyOutputs s
    else s

/-- CORE_MISMATCH: the first re-executes the scan, the second abandons it (10 R289, R290; 05 R131). -/
def coreMismatch (t : Nat) (s : State) : State :=
  match (s.task t).run, taskCfg s t with
  | some r, some c =>
    if r.live then
      let q := runPair s t r
      let s := coreMismatched q (countPairScan t r (raise 163 s t))
      if r.again then abandonMismatch t s
      else reexecuteScan t c r s
    else s
  | _, _ => s

end Sys2Proof.Machine
end

