-- ==== Sys2Proof/Machine/ManBase.lean ====
section
/-! DEFINITION. Reading the configuration flash, the pointer block, and signature blocks (03 R58 to R70, 18 R501 to
R504). -/

namespace Sys2Proof.Machine

open Sys2Proof

/-- `n` entries from `a` on of a table whose keys below `a` are dropped. -/
def Store.walk {α : Type} (d : α) : Nat → Nat → Store α → List α
  | _, 0, _ => []
  | a, n + 1, [] => d :: Store.walk d (a + 1) n []
  | a, n + 1, (k, v) :: r => if k = a then v :: Store.walk d (a + 1) n r else d :: Store.walk d (a + 1) n ((k, v) :: r)

/-- `n` bytes of the configuration flash; an erased byte reads 0xFF (03 R59). -/
def flashRead (s : State) (a n : Nat) : Bytes := Store.walk 0xFF a n (s.flash.dropWhile fun e => decide (e.1 < a))

/-- `n` bytes from offset `o`, fewer past the end. -/
def cut (b : Bytes) (o n : Nat) : Bytes := (b.drop o).take n

/-- Every byte from offset `o` to the end, `n` of them, is zero and present. -/
def zero (b : Bytes) (o n : Nat) : Bool := (cut b o n).length == n && (cut b o n).all (· == 0)

/-- `count` entries of `size` bytes from offset `o`. -/
def entriesOf (b : Bytes) (o size count : Nat) : List Bytes := (List.range count).map fun i => cut b (o + i * size) size

/-- Go on only where a condition holds. -/
def need (b : Bool) : Option Unit := if b then some () else none

/-- A field lies in a range. -/
def inRange (v lo hi : Nat) : Bool := decide (lo ≤ v ∧ v ≤ hi)
def inRangeI (v lo hi : Int) : Bool := decide (lo ≤ v ∧ v ≤ hi)

/-- Strictly increasing. -/
def increasing : List Nat → Bool
  | a :: b :: r => decide (a < b) && increasing (b :: r)
  | _ => true

/-- No value occurs twice. -/
def distinct : List Nat → Bool
  | [] => true
  | a :: r => !r.contains a && distinct r

/-- Start of a firmware slot, a mooring region and a manifest slot, by slot code 1 or 2 (03 R59). -/
def fwBase (slot : Nat) : Nat := if slot = 1 then 0x00100000 else 0x00900000
def moorBase (slot : Nat) : Nat := if slot = 1 then 0x00020000 else 0x00040000
def manBase (slot : Nat) : Nat := if slot = 1 then 0x02000000 else 0x06000000

/-- A slot code (03 R61). -/
def slotCode (v : Nat) : Bool := v == 1 || v == 2

/-- A pointer block copy, where it is valid (03 R61, R62). R62 names reserved values only; the model takes a value outside
the range that R61 gives a field (pointer sequence 0xFFFF_FFFF, manifest sequence 0 or 0xFFFF_FFFF) as invalid too. DESIGN
CHOICE, log entry 65. -/
def pointerOf (b : Bytes) : Option Pointer :=
  if cut b 0 4 = [0x55, 0x4C, 0x50, 0x42] ∧ fld b 4 2 = 1 ∧ zero b 6 2 ∧ fld b 8 4 ≤ 0xFFFFFFFE ∧ slotCode (fld b 12 1)
      ∧ slotCode (fld b 13 1) ∧ slotCode (fld b 14 1) ∧ zero b 15 1 ∧ inRange (fld b 20 4) 1 0xFFFFFFFE ∧ zero b 28 32
      ∧ fld b 60 4 = (crc32 (cut b 0 60)).toNat then
    some { seq := fld b 8 4, fwSlot := fld b 12 1, manSlot := fld b 13 1, moorSlot := fld b 14 1, fwSeq := fld b 16 4
           manSeq := fld b 20 4, moorSeq := fld b 24 4 }
  else none

/-- The successor of a pointer sequence (03 R62). -/
def pointerNext (s : Nat) : Nat := if s < 0xFFFFFFFE then s + 1 else 0

/-- What the boot ROM makes of the two copies: the pointer with the copy in use and whether the other is torn, or a
reason (03 R62, R72). -/
inductive PointerRes where
  | use (p : Pointer) (copy1 torn : Bool)
  | refuse (reason : Nat)
  deriving DecidableEq, Repr

/-- Selection of the pointer block copy (03 R62). -/
def choosePointer (b0 b1 : Bytes) : PointerRes :=
  match pointerOf b0, pointerOf b1 with
  | some p, none => .use p false true
  | none, some p => .use p true true
  | none, none => .refuse 2
  | some p, some q =>
    if p.seq = q.seq then (if b0 = b1 then .use p false false else .refuse 3)
    else if q.seq = pointerNext p.seq then .use q true false
    else if p.seq = pointerNext q.seq then .use p false false
    else if p.seq < q.seq then .use q true false
    else .use p false false

/-- The pointer block of the flash. -/
def readPointer (s : State) : PointerRes := choosePointer (flashRead s 0 64) (flashRead s 0x10000 64)

/-- Bytes of a pointer block copy (03 R61). -/
def pointerBytes (p : Pointer) : Bytes :=
  let b := [0x55, 0x4C, 0x50, 0x42] ++ leBytes 2 1 ++ [0, 0] ++ leBytes 4 p.seq
    ++ [BitVec.ofNat 8 p.fwSlot, BitVec.ofNat 8 p.manSlot, BitVec.ofNat 8 p.moorSlot, 0]
    ++ leBytes 4 p.fwSeq ++ leBytes 4 p.manSeq ++ leBytes 4 p.moorSeq ++ List.replicate 32 0
  b ++ leBytes 4 (crc32 b).toNat

/-- Length of a signature block (03 R69). -/
def sigLength : Nat := 3448

/-- Magic, version, algorithm set and padding of a signature block (03 R69). -/
def sigForm (b : Bytes) : Bool :=
  cut b 0 4 == [0x55, 0x4C, 0x53, 0x47] && fld b 4 2 == 1 && fld b 6 2 == 1 && zero b 3445 3

/-- The digest that a signature block holds is that of the object (03 R69, R71). -/
def sigDigestOk (b object : Bytes) : Bool := cut b 8 64 == Config.sha512 object

/-- Results of the two signatures under a key pair and a context: Ed25519, ML-DSA-65 (03 R70, 18 R502). -/
def sigVerify (key : Bytes × Bytes) (ctx : String) (b : Bytes) : Bool × Bool :=
  (Config.edVerify key.1 (cut b 0 72) (cut b 72 64), Config.mlVerify key.2 (ascii ctx) (cut b 0 72) (cut b 136 3309))

/-- The bits of KEY_SIGRES for two results (18 R525). -/
def sigBits (r : Bool × Bool) : BitVec 2 := putBit (putBit 0 0 (!r.1)) 1 (!r.2)

/-- Owner key identifier of a pair (18 R509). -/
def ownerId (k : Bytes × Bytes) : Bytes := (Config.sha512 (k.1 ++ k.2)).take 8

/-- A signature block over an object, made with two private keys (18 R501). -/
def sigBlock (edPriv mlSeed : Bytes) (ctx : String) (draw : Nat) (object : Bytes) : Bytes :=
  let m := [0x55, 0x4C, 0x53, 0x47] ++ leBytes 2 1 ++ leBytes 2 1 ++ Config.sha512 object
  m ++ Config.edSign edPriv m ++ Config.mlSign mlSeed (ascii ctx) m draw ++ [0, 0, 0]

end Sys2Proof.Machine
end

