-- ==== Sys2Proof/Machine/ManRecords.lean ====
section
/-! DEFINITION. The manifest's records of the start policy, tide, pair, calendar, data area, code, tasks, retained area
and forces: their own layout and value rules (02 R30 to R35, 04 R101, 09 R245 to R252, 10 R274 to R295, 14 R394, 19
R548). -/

namespace Sys2Proof.Machine

open Sys2Proof

/-- Start and restart policy (04 R101). -/
def parsePolicy (b : Bytes) : Option Policy :=
  if b.length = 32 ∧ fld b 0 2 = 1 ∧ ((List.range 5).all fun i => slotCode (fld b (2 + i) 1)) ∧ inRange (fld b 7 1) 1 15
      ∧ inRange (fld b 8 2) 2500 5000 ∧ zero b 10 22 then
    let cold := fun i => fld b i 1 == 2
    some { coldPowerOn := cold 2, coldResetPin := cold 3, coldWatchdog := cold 4, coldPowerFail := cold 5
           coldHostDefault := cold 6, wdogLimit := fld b 7 1, pfailMv := fld b 8 2 }
  else none

/-- One tide mark (02 R32, R33). -/
def parseMark (b : Bytes) : Option TideMark := do
  let m := fld b 0 2
  let k := fld b 6 1
  let p := fld b 8 4
  need (inRange m 1 65534 && decide (fld b 2 2 < m) && inRange k 1 7 && zero b 7 1)
  need (if k = 2 then decide (p < 32) else if k = 3 then decide (p < 256) else if k = 4 then decide (p < 256) else p == 0)
  some { modulus := m, offset := fld b 2 2, angle := fld b 4 2, action := k, param := p }

/-- Angle steps of a mark in its period. -/
def markSteps (m : TideMark) : Nat := m.offset * 65536 + m.angle

/-- Marks of an action. -/
def marksOf (l : List TideMark) (action : Nat) : List TideMark := l.filter (·.action == action)

/-- R35 rules 1 and 4, which the tide record decides alone. -/
def tideRules (l : List TideMark) : Bool :=
  match marksOf l 1, marksOf l 6, marksOf l 5 with
  | [b], [d], [r] =>
    b.offset == 0 && b.angle == 0 && inRange b.modulus 10 3000 && d.modulus == b.modulus && r.modulus == b.modulus
      && decide (0 < markSteps d) && decide (markSteps d ≤ markSteps r)
  | _, _, _ => false

/-- Tide record (02 R30 to R35). -/
def parseTide (b : Bytes) : Option TideSetup := do
  let n := fld b 8 2
  need (inRange (fld b 0 4) 45000 65000 && inRange (fld b 4 1) 1 3 && zero b 5 1 && inRange (fld b 6 2) 3277 29491
    && inRange n 1 256 && zero b 10 6 && b.length == 16 + 12 * n)
  let marks ← (entriesOf b 16 12 n).mapM parseMark
  need (tideRules marks)
  some { nominal := fld b 0 4, mode := if fld b 4 1 = 1 then .single else if fld b 4 1 = 2 then .abc else .acb
         amplitude := fld b 6 2, marks := marks }

/-- An EtherType field: zero stands for a default (12 R334, 14 R394). -/
def etherType (v dflt : Nat) : Option Nat :=
  if v = 0 then some dflt else if inRange v 0x0600 0xFFFE then some v else none

/-- Pair setup (14 R394). -/
def parsePair (b : Bytes) : Option PairSetup := do
  let h := fld b 2 1 == 1
  need (b.length == 32 && fld b 0 2 == 1 && decide (fld b 2 1 ≤ 1) && inRange (fld b 3 1) 1 15 && (zero b 4 6 != h)
    && ((fld b 12 1 != 0) == h) && inRange (fld b 13 1) 1 60 && inRange (fld b 14 1) 5 255 && zero b 15 17)
  let e ← etherType (fld b 10 2) 0x88B6
  some { healthFrames := h, mismatchLimit := fld b 3 1, healthDst := cut b 4 6, healthEtype := e, healthPorts := fld b 12 1
         healthInterval := fld b 13 1, minTsafe := fld b 14 1, raw := b }

/-- Clock and calendar setup (19 R548). -/
def parseClock (b : Bytes) : Option ClockSetup :=
  let f := fld b 2 1
  let auto := f % 2 == 1
  let trim := f / 2 % 2 == 1
  if b.length = 16 ∧ fld b 0 2 = 1 ∧ f < 4 ∧ (if auto then inRange (fld b 3 1) 1 168 else fld b 3 1 == 0)
      ∧ (if trim then inRangeI (sfld b 4 2) (-537) 537 else sfld b 4 2 == 0) ∧ zero b 6 10 then
    some { auto := auto, applyTrim := trim, interval := fld b 3 1, trim := sfld b 4 2 }
  else none

/-- Width in words of a type code, 0 for none (09 R243). -/
def codeWords (n : Nat) : Nat := ((tyOfCode n).map tyWords).getD 0

/-- End of a region (09 R246). -/
def Region.past (r : Region) : Nat := r.first + r.count * codeWords r.ty

/-- One region entry (09 R246, R247). -/
def parseRegion (v : Nat) (b : Bytes) : Option Region :=
  let r : Region := { first := fld b 0 4, count := fld b 4 4, ty := fld b 8 1, kind := fld b 9 1 }
  if inRange r.ty 1 13 ∧ r.first < v ∧ (codeWords r.ty = 1 ∨ r.first % 2 = 0) ∧ 1 ≤ r.count ∧ r.past ≤ v
      ∧ inRange r.kind 1 5 ∧ zero b 10 2 then some r
  else none

/-- Regions in strictly increasing first index without overlap (09 R249). -/
def regionsOk : List Region → Bool
  | a :: b :: r => decide (a.first < b.first) && decide (a.past ≤ b.first) && regionsOk (b :: r)
  | _ => true

/-- `count` runs from offset `o`, which must end with the record (09 R245, R248). -/
def parseRuns (b : Bytes) : Nat → Nat → Option (List (Nat × List Word))
  | o, 0 => if b.length = o then some [] else none
  | o, n + 1 =>
    let w := fld b (o + 4) 4
    if b.length < o + 8 ∨ w = 0 ∨ b.length < o + 8 + 4 * w then none
    else (parseRuns b (o + 8 + 4 * w) n).map fun l => (fld b o 4, bytesToWords (cut b (o + 8) (4 * w))) :: l

/-- Runs in strictly increasing first index without overlap (09 R249). -/
def runsOrdered : List (Nat × List Word) → Bool
  | a :: b :: r => decide (a.1 < b.1) && decide (a.1 + a.2.length ≤ b.1) && runsOrdered (b :: r)
  | _ => true

/-- A run lies inside one region, on whole elements, and sets each one-word variable to a value its type holds
(09 R248, R249). -/
def runOk (rs : List Region) (x : Nat × List Word) : Bool :=
  match rs.find? fun r => decide (r.first ≤ x.1 ∧ x.1 < r.past) with
  | none => false
  | some r =>
    let w := codeWords r.ty
    decide (x.1 + x.2.length ≤ r.past) && (x.1 - r.first) % w == 0 && x.2.length % w == 0
      && (match tyOfCode r.ty with
        | some t => w == 2 || x.2.all (wordHolds t)
        | none => false)

/-- Data area and initial values (09 R245 to R249). -/
def parseData (b : Bytes) : Option DataArea := do
  let n := fld b 2 2
  let v := fld b 4 4
  need (decide (16 ≤ b.length) && fld b 0 2 == 1 && inRange n 1 65534 && inRange v 1 1048576
    && decide (fld b 8 4 ≤ 1048576) && zero b 12 4 && decide (16 + 12 * n ≤ b.length))
  let rs ← (entriesOf b 16 12 n).mapM (parseRegion v)
  let runs ← parseRuns b (16 + 12 * n) (fld b 8 4)
  need (regionsOk rs && (rs.getLast?.map (·.past)) == some v)
  need (decide (((rs.filter (·.kind == 4)).map fun r => r.past - r.first).sum ≤ 65536))
  need (runsOrdered runs && runs.all (runOk rs))
  some { varCount := v, regions := rs, runs := runs }

/-- One POU entry (09 R252). -/
def parsePou (b : Bytes) : Option Pou :=
  let p : Pou := { first := fld b 0 4, words := fld b 4 4, frame := fld b 8 4, kind := fld b 12 1, result := fld b 13 1
                   depth := fld b 14 2 }
  if 1 ≤ p.words ∧ p.frame ≤ 1048576 ∧ inRange p.kind 1 3 ∧ (if p.kind = 3 then decide (p.result ≤ 13) else p.result == 0)
      ∧ inRange p.depth 1 256 then some p
  else none

/-- The POUs cover the code section exactly, in increasing first word (09 R252). -/
def pousCover : Nat → List Pou → Option Nat
  | a, [] => some a
  | a, p :: r => if p.first = a then pousCover (a + p.words) r else none

/-- Code image, without the checks of its instructions (09 R251, R252). -/
def parseCode (b : Bytes) : Option CodeImage := do
  let n := fld b 2 2
  let c := fld b 4 4
  need (fld b 0 2 == 1 && inRange n 1 4096 && inRange c 1 524288 && zero b 8 8 && b.length == 16 + 16 * n + 4 * c)
  let ps ← (entriesOf b 16 16 n).mapM parsePou
  need (pousCover 0 ps == some c)
  some { pous := ps, code := bytesToWords (b.drop (16 + 16 * n)) }

/-- One task entry (10 R275). -/
def parseTask (b : Bytes) : Option TaskCfg := do
  let k := fld b 2 1
  let g := fld b 6 2
  need (decide (fld b 0 1 < 32) && decide (fld b 1 1 < 32) && inRange k 1 3 && decide (fld b 3 1 ≤ 1)
    && (g == 0xFFFF || decide (g < 256)) && decide (fld b 8 4 ≤ 1048575) && inRange (fld b 12 4) 1 0xFFFFFFFE
    && (if k = 1 then fld b 16 4 == 0 else inRange (fld b 16 4) 1000 60000000) && fld b 20 4 % 4 == 0
    && fld b 24 4 % 16 == 0 && inRange (fld b 24 4) 16 1048576 && fld b 28 4 % 8 == 0 && decide (fld b 28 4 ≤ 1048576)
    && zero b 32 16)
  some { num := fld b 0 1, prio := fld b 1 1, trigger := k, spec := fld b 3 1 == 1, entry := fld b 4 2
         await := if g = 0xFFFF then none else some g, frameBase := fld b 8 4, worst := fld b 12 4, minInterval := fld b 16 4
         imageSize := fld b 20 4, storeSize := fld b 24 4, deltaSize := fld b 28 4 }

/-- Task table (10 R274 to R276). -/
def parseTasks (b : Bytes) : Option TaskTable := do
  let n := fld b 2 1
  need (fld b 0 2 == 1 && inRange n 1 32 && zero b 4 12 && b.length == 16 + 48 * n)
  let ts ← (entriesOf b 16 48 n).mapM parseTask
  need (increasing (ts.map (·.num)))
  need (ts.all fun t => (t.trigger == 3) == (t.num == 0))
  need ((ts.head?.map (·.num)) == some 0)
  need ((ts.find? (·.num == fld b 3 1)).any (·.trigger == 1))
  need (ts.all fun t => t.await.isNone || t.trigger == 1)
  some { stateTask := fld b 3 1, tasks := ts }

/-- Entries of first index and count of a 16-byte header record (10 R293, R295). -/
def parseSpans (b : Bytes) (limit : Nat) : Option (List (Nat × Nat)) :=
  let n := fld b 2 2
  if fld b 0 2 = 1 ∧ inRange n 1 limit ∧ b.length = 16 + 8 * n then
    some ((entriesOf b 16 8 n).map fun e => (fld e 0 4, fld e 4 4))
  else none

/-- Retained area layout (10 R293), without what joins the data area. -/
def parseRetain (b : Bytes) : Option (List (Nat × Nat)) := do
  need (zero b 4 12)
  let l ← parseSpans b 4096
  need (increasing (l.map (·.1)) && decide ((l.map (·.2)).sum ≤ 65536) && l.all fun e => decide (1 ≤ e.2))
  need ((l.zip (l.drop 1)).all fun (a, c) => decide (a.1 + a.2 ≤ c.1))
  some l

/-- Force permission (10 R295), without what joins the data area. -/
def parseForce (b : Bytes) : Option ForcePerm := do
  need (inRange (fld b 4 1) 1 3 && zero b 5 11)
  let l ← parseSpans b 1024
  need (l.all fun e => decide (1 ≤ e.2))
  some { spi := fld b 4 1 % 2 == 1, mgmt := fld b 4 1 / 2 == 1, entries := l }

end Sys2Proof.Machine
end

