-- ==== Sys2Proof/Machine/CodeVerify.lean ====
section
/-! DEFINITION. Verification of the code image: instruction words, stack depths, calls, and the operands that the data
area types (09 R241 to R255, R260 to R268). -/

namespace Sys2Proof.Machine

open Sys2Proof

/-- One decoded instruction: its word offset in the code section, its fields, and what it pops and pushes. -/
structure Ins where
  pos : Nat
  op : Nat
  ty : Nat
  opnd : Nat
  ext : List Nat
  deriving DecidableEq, Repr

/-- Code words that an instruction occupies (09 R242). -/
def Ins.size (i : Ins) : Nat := 1 + i.ext.length

/-- TYPE field values of an opcode; none for a reserved opcode (09 R243, R255, R268). -/
def opTypes (op opnd : Nat) : List Nat :=
  let a := List.range' 1 13
  if op ∈ [0x01, 0x02, 0x03, 0x04, 0x05, 0x06, 0x07, 0x08, 0x17, 0x18, 0x19, 0x1B, 0x30, 0x31, 0x32, 0x33, 0x34, 0x35, 0x38]
  then a
  else if op ∈ [0x10, 0x11, 0x12, 0x13, 0x15, 0x16] then List.range' 2 12
  else if op = 0x14 then List.range' 2 8
  else if op = 0x1A then [10, 11]
  else if op ∈ [0x20, 0x21, 0x22, 0x23] then [1, 6, 7, 8, 9]
  else if op ∈ [0x24, 0x25, 0x26, 0x27] then [6, 7, 8, 9]
  else if op ∈ [0x09, 0x0A, 0x0B, 0x40, 0x41, 0x42, 0x44, 0x64, 0x65] then [0]
  else if op ∈ [0x43, 0x50, 0x51, 0x52, 0x53, 0x54, 0x55, 0x56, 0x57, 0x60] then [0, 1]
  else if op ∈ [0x61, 0x62, 0x63] then [4, 11]
  else if op = 0x66 then ((ldsType opnd).map tyCode).toList
  else []

/-- Extension words of an opcode (09 R255). -/
def opExt (op ty : Nat) : Nat :=
  if op = 0x06 then codeWords ty else if op ∈ [0x43, 0x60, 0x61, 0x64] then 1 else 0

/-- A signed 20-bit operand. -/
def signed20 (x : Nat) : Int := (BitVec.ofNat 20 x).toInt

/-- The operand's reserved bits are zero and its values defined (09 R253 rule 1). -/
def operandOk (op ty x : Nat) : Bool :=
  if op ∈ [0x01, 0x02, 0x03, 0x04, 0x07, 0x08, 0x40, 0x41, 0x42, 0x43, 0x50, 0x51, 0x52, 0x53, 0x54, 0x55, 0x56, 0x57, 0x60,
    0x61, 0x66] then true
  else if op = 0x05 then
    match tyOfCode ty with
    | some t => tyFloat t || inRangeI (signed20 x) (tyRange t).1 (tyRange t).2
    | none => false
  else if op = 0x1A then decide (x < 12)
  else if op = 0x38 then inRange x 1 13
  else if op = 0x62 ∨ op = 0x63 then
    x / 512 % 8 == 0 && (op == 0x62 || paramWritable (x / 4096))
      && paramAllowed (if ty = 11 then .lreal else .dint) (x / 4096)
  else if op = 0x64 then x / 32 % 8 == 0 && x / 2048 == 0
  else if op = 0x65 then decide (x < 32)
  else x == 0

/-- The extension words' reserved bits are zero and their values defined (09 R242, R253 rule 1, R264, R265). -/
def extOk (op ty : Nat) (e : List Nat) : Bool :=
  match e with
  | [] => true
  | v :: _ =>
    if op = 0x06 then ty != 1 || decide (v ≤ 1)
    else if op = 0x43 then decide (v < 4096)
    else if op = 0x60 then v % 8 == 0 && inRange v 8 32776
    else if op = 0x61 then decide (v < 128) && decide (v % 16 ≤ 3) && (v % 16 != 3 || ty == 4)
    else decide (v < 2 ^ 24)

/-- The instruction at the head of a POU's remaining words (09 R241, R242, R253 rules 1 and 2). -/
def decodeIns (pos : Nat) (ws : List Word) : Option Ins :=
  match ws with
  | [] => none
  | w :: r =>
    let v := w.toNat
    let op := v / 2 ^ 24
    let ty := v / 2 ^ 20 % 16
    let x := v % 2 ^ 20
    let k := opExt op ty
    let e := (r.take k).map (·.toNat)
    if (opTypes op x).contains ty ∧ operandOk op ty x ∧ e.length = k ∧ extOk op ty e then
      some { pos := pos, op := op, ty := ty, opnd := x, ext := e }
    else none

/-- All instructions of a POU's words, in order; `fuel` bounds their number. -/
def decodeAll : Nat → Nat → List Word → Option (List Ins)
  | _, _, [] => some []
  | 0, _, _ => none
  | fuel + 1, pos, ws => do
    let i ← decodeIns pos ws
    let l ← decodeAll fuel (pos + i.size) (ws.drop i.size)
    some (i :: l)

/-- Words of a POU. -/
def pouWords (c : CodeImage) (p : Pou) : List Word := (c.code.drop p.first).take p.words

/-- Instructions of a POU. -/
def pouIns (c : CodeImage) (p : Pou) : Option (List Ins) := decodeAll (p.words + 1) p.first (pouWords c p)

/-- POU that a CALL names. -/
def Ins.callee (i : Ins) (c : CodeImage) : Option Pou := c.pous[i.ext.headD 0]?

/-- Slots that an instruction pops and pushes (09 R255). -/
def popsPushes (c : CodeImage) (i : Ins) : Nat × Nat :=
  if i.op ∈ [0x01, 0x02, 0x05, 0x06, 0x60, 0x62, 0x66] then (0, 1)
  else if i.op ∈ [0x03, 0x04, 0x0A, 0x41, 0x42, 0x63, 0x64] then (1, 0)
  else if i.op ∈ [0x07, 0x15, 0x16, 0x23, 0x38, 0x56, 0x57] then (1, 1)
  else if i.op = 0x08 then (2, 0)
  else if i.op = 0x09 ∨ i.op = 0x61 then (1, 2)
  else if i.op = 0x0B then (2, 2)
  else if i.op ∈ [0x19, 0x1B, 0x53, 0x54] then (3, 1)
  else if i.op = 0x1A then (if i.opnd < 10 then (1, 1) else (2, 1))
  else if i.op = 0x55 then (5, 1)
  else if i.op = 0x43 then (0, if (i.callee c).any (·.result != 0) then 1 else 0)
  else if i.op ∈ [0x40, 0x44, 0x65] then (0, 0)
  else (2, 1)

/-- Word offsets that can execute after an instruction; none where an offset is negative (09 R255). -/
def successors (i : Ins) : Option (List Nat) :=
  let t : Int := (i.pos : Int) + 1 + signed20 i.opnd
  if i.op = 0x44 then some []
  else if i.op = 0x40 then (if t < 0 then none else some [t.toNat])
  else if i.op = 0x41 ∨ i.op = 0x42 then (if t < 0 then none else some [t.toNat, i.pos + 1])
  else some [i.pos + i.size]

/-- Follow every path of a POU with its stack depth (09 R253 rules 3 and 4): `seen` holds each depth plus one. -/
def depthsOk (c : CodeImage) (p : Pou) (code : Store (Option Ins)) : Nat → Store Nat → List (Nat × Nat) → Bool
  | _, _, [] => true
  | 0, _, _ => false
  | fuel + 1, seen, (a, d) :: work =>
    match Store.get none code a with
    | none => false
    | some i =>
      let k := Store.get 0 seen a
      if k ≠ 0 then k == d + 1 && depthsOk c p code fuel seen work
      else
        let (po, pu) := popsPushes c i
        let d' := d - po + pu
        match successors i with
        | none => false
        | some l =>
          decide (po ≤ d) && decide (d' ≤ p.depth) && (i.op != 0x44 || d == boolNat (p.result != 0))
            && depthsOk c p code fuel (Store.set 0 seen a (d + 1)) (l.map (fun x => (x, d')) ++ work)

/-- Rules 1 to 4 for one POU. Every branch target, reached or not, is an instruction word of the POU. -/
def pouOk (c : CodeImage) (p : Pou) : Bool :=
  match pouIns c p with
  | none => false
  | some l =>
    let code : Store (Option Ins) := l.map fun i => (i.pos, some i)
    (l.getLast?.any fun i => i.op == 0x44 || i.op == 0x40)
      && (l.all fun i => (successors i).any fun t => (i.op == 0x40 || i.op == 0x41 || i.op == 0x42) == false
        || t.all fun a => (Store.get none code a).isSome)
      && depthsOk c p code (2 * l.length + 2) [] [(p.first, 0)]

/-- POU numbers that a POU calls. -/
def callees (c : CodeImage) (p : Pou) : List Nat :=
  ((pouIns c p).getD []).filterMap fun i => if i.op = 0x43 then some (i.ext.headD 0) else none

/-- Remove POUs that call no remaining one, over and over: none remain where the call graph is acyclic. -/
def acyclic (calls : List (Nat × List Nat)) : Nat → Bool
  | 0 => calls.isEmpty
  | fuel + 1 =>
    let alive := calls.map (·.1)
    acyclic (calls.filter fun x => x.2.any alive.contains) fuel

/-- Largest total of stack depths along call paths of at most `k` POUs from a POU, and whether a path of more exists. -/
def pathTotal (calls : List (Nat × List Nat)) (pous : List Pou) : Nat → List (Nat × Bool)
  | 0 => pous.map fun _ => (0, true)
  | k + 1 =>
    let below := pathTotal calls pous k
    (pous.zip calls).map fun (p, _, l) =>
      l.foldl (fun (t, long) n => let b := below.getD n (0, false); (max t (p.depth + b.1), long || b.2)) (p.depth, false)

/-- Rule 7 (09 R253). -/
def callsOk (c : CodeImage) : Bool :=
  let calls := c.pous.zipIdx.map fun (p, n) => (n, callees c p)
  (calls.all fun x => x.2.all fun n => (c.pous[n]?).any fun p => p.kind != 1) && acyclic calls c.pous.length
    && (c.pous.zip (pathTotal calls c.pous 16)).all fun (p, t, long) => p.kind != 1 || (decide (t ≤ 1024) && !long)

/-- The code image's own check: layout, and rules 1 to 4 and 7 (09 R251 to R253). -/
def checkCode (b : Bytes) : Option CodeImage := do
  let c ← parseCode b
  need (c.pous.all (pouOk c) && callsOk c)
  some c

/-- A word is the first of an element of a type in a region of one of the kinds. -/
def elementOf (d : DataArea) (kinds : List Nat) (ty i : Nat) : Bool :=
  (regionAt d i).any fun r => r.ty == ty && kinds.contains r.kind && (i - r.first) % codeWords r.ty == 0

/-- The operand of an instruction at an address follows rule 5 (09 R253, R260, R264). -/
def addressOk (d : DataArea) (i : Ins) (a : Nat) : Bool :=
  if i.op ∈ [0x01, 0x02, 0x07] then elementOf d [1, 2, 3, 4, 5] i.ty a
  else if i.op ∈ [0x03, 0x04, 0x08] then elementOf d [1, 3, 4] i.ty a
  else if i.op ∈ [0x50, 0x51, 0x52] then
    elementOf d [1, 4] 8 a && elementOf d [1, 4] 8 (a + 1) && elementOf d [1, 4] 12 (a + 2) && elementOf d [1, 4] 12 (a + 4)
  else if i.op ∈ [0x53, 0x54, 0x55] then elementOf d [1, 4] 8 a && elementOf d [1, 4] 4 (a + 1)
  else if i.op ∈ [0x56, 0x57] then elementOf d [1, 4] 8 a
  else if i.op = 0x60 then (regionAt d a).any fun r => r.ty == 8 && decide (a + i.ext.headD 0 / 4 ≤ r.past)
  else true

/-- The operand is frame-relative. -/
def Ins.relative (i : Ins) : Bool := i.op == 0x02 || i.op == 0x04 || (inRange i.op 0x43 0x60 && i.op != 0x44 && i.ty == 1)

/-- The operand is an absolute index. -/
def Ins.absolute (i : Ins) : Bool :=
  [0x01, 0x03, 0x07, 0x08].contains i.op || (inRange i.op 0x50 0x60 && i.ty == 0)

/-- Instructions of a task's call tree with the address each operand comes to, at most `fuel` calls deep. -/
def accesses (c : CodeImage) : Nat → Nat → Pou → List (Ins × Nat)
  | 0, _, _ => []
  | fuel + 1, base, p =>
    ((pouIns c p).getD []).flatMap fun i =>
      let a := if i.relative then base + i.opnd else i.opnd
      if i.op = 0x43 then
        match i.callee c with
        | some q => accesses c fuel a q
        | none => []
      else [(i, a)]

/-- Accesses of a task from its entry program. -/
def taskAccesses (c : CodeImage) (t : TaskCfg) : List (Ins × Nat) :=
  match c.pous[t.entry]? with
  | some p => accesses c 16 t.frameBase p
  | none => []

/-- Rules 5 and 6 (09 R253). -/
def operandsOk (c : CodeImage) (ts : List TaskCfg) (d : DataArea) : Bool :=
  (c.pous.all fun p => ((pouIns c p).getD []).all fun i =>
    (!i.relative || decide (i.opnd < p.frame)) && (!i.absolute || addressOk d i i.opnd))
    && ts.all fun t => (taskAccesses c t).all fun (i, a) => !i.relative || addressOk d i a

/-- Input words that a task's code can load: an indexed load takes its whole region (10 R276). -/
def loadWords (c : CodeImage) (d : DataArea) (t : TaskCfg) : List Nat :=
  ((taskAccesses c t).flatMap fun (i, a) =>
    match regionAt d a with
    | none => []
    | some r =>
      if r.kind ≠ 2 then []
      else if i.op = 0x07 then List.range' r.first (r.past - r.first)
      else if i.op ∈ [0x01, 0x02] then List.range' a (codeWords i.ty)
      else if i.op = 0x60 then List.range' a (i.ext.headD 0 / 4)
      else []).eraseDups

/-- Timer instances reachable from a task's entry program (10 R276, R291). -/
def taskTimers (c : CodeImage) (t : TaskCfg) : List Nat :=
  ((taskAccesses c t).filterMap fun (i, a) => if inRange i.op 0x50 0x52 then some a else none).eraseDups

/-- No timer instance is reachable from two tasks (10 R276). -/
def timersOk (c : CodeImage) (ts : List TaskCfg) : Bool :=
  distinct (ts.flatMap (taskTimers c))

/-- Rule 8 (09 R253). -/
def numbersOk (c : CodeImage) (problems loops : List Nat) : Bool :=
  c.pous.all fun p => ((pouIns c p).getD []).all fun i =>
    (i.op != 0x61 || problems.contains i.opnd) && (!(i.op == 0x62 || i.op == 0x63) || loops.contains (i.opnd % 512))

end Sys2Proof.Machine
end

