-- ==== Sys2Proof/Machine/ManProblems.lean ====
section
/-! DEFINITION. The manifest's problem table, structure records with their factor pattern and certificate, prediction
models, coupling and placement constraints (05 R117, R118; 06 R143 to R158, R173; 08 R215 to R220). -/

namespace Sys2Proof.Machine

open Sys2Proof

/-- Problem numbers of class P (06 R143). -/
def numClassP (n : Nat) : Bool := decide (1024 ≤ n)

/-- One entry of the problem table (06 R146, R147). -/
def parseProblem (b : Bytes) : Option ProblemCfg := do
  let k := fld b 4 1
  let f := fld b 5 1
  let w := (List.range 8).map fun i => sfld b (52 + 4 * i) 4
  need (decide (fld b 0 2 < 1040) && inRange k 1 8 && decide (f < 4) && inRange (fld b 6 2) 1 65534)
  need (decide (0 < sfld b 12 4) && inRangeI (sfld b 8 4) (sfld b 12 4) (sfld b 16 4)
    && decide (sfld b 16 4 ≤ 0x04000000) && decide (0 < sfld b 20 4) && inRangeI (sfld b 24 4) 1 0x01FFFFFF
    && decide (0 < sfld b 28 4) && decide (0 ≤ sfld b 32 4) && decide (0 < sfld b 36 4) && decide (0 < sfld b 40 4))
  need (decide (fld b 44 2 ≤ 65534) && inRange (fld b 46 2) 1 64 && decide (0 ≤ sfld b 48 4)
    && (f % 2 == 1 || sfld b 48 4 == 0) && zero b 84 12)
  need ((w.take k).all (fun v => decide (0 < v)) && (w.take k).sum == 0x01000000 && (w.drop k).all (· == 0))
  some { num := fld b 0 2, template := fld b 2 2, scenarios := k, runAhead := f % 2 == 1, hostDelta := f / 2 == 1
         itMax := fld b 6 2, rho0 := sfld b 8 4, rhoMin := sfld b 12 4, rhoMax := sfld b 16 4, sigma := sfld b 20 4
         alpha := sfld b 24 4, epsAbs := sfld b 28 4, epsRel := sfld b 32 4, deltaMin := sfld b 36 4
         deltaReg := sfld b 40 4, regLimit := fld b 44 2, checkInterval := fld b 46 2, trust := sfld b 48 4
         weights := w.take k }

/-- Problem table (06 R145 to R147). -/
def parseProblems (b : Bytes) : Option (List ProblemCfg) := do
  let n := fld b 2 2
  need (fld b 0 2 == 1 && inRange n 1 1040 && zero b 4 12 && b.length == 16 + 96 * n)
  let l ← (entriesOf b 16 96 n).mapM parseProblem
  need (increasing (l.map (·.num)))
  some l

/-- Signed words from offset `o`. -/
def wordsAt (b : Bytes) (o n : Nat) : List Int := (bytesToWords (cut b o (4 * n))).map BitVec.toInt

/-- 16-bit numbers from offset `o`. -/
def halvesAt (b : Bytes) (o n : Nat) : List Nat := (List.range n).map fun i => fld b (o + 2 * i) 2

/-- A length padded to a multiple of 4 (06 R149). -/
def pad4 (n : Nat) : Nat := (n + 3) / 4 * 4

/-- Padding of a section of `n` bytes at `o` is zero (06 R149). -/
def padOk (b : Bytes) (o n : Nat) : Bool := zero b (o + n) (pad4 n - n)

/-- Columns of a compressed-column pattern from its pointers and rows (06 R149). -/
def columnsOf : List Nat → List Nat → Pattern
  | a :: c :: ps, rows => rows.take (c - a) :: columnsOf (c :: ps) (rows.drop (c - a))
  | _, _ => []

/-- A column pointer array starts at 0, never decreases and ends at its count (06 R150). -/
def pointersOk (ps : List Nat) (nnz : Nat) : Bool :=
  ps.head? == some 0 && ps.getLast? == some nnz && (ps.zip (ps.drop 1)).all fun (a, c) => decide (a ≤ c)

/-- Merge strictly increasing lists. -/
def mergeRows : List Nat → List Nat → List Nat
  | [], l => l
  | a :: as, l => mergeOne a (mergeRows as l)
where
  /-- Put one row into its place. -/
  mergeOne (a : Nat) : List Nat → List Nat
    | [] => [a]
    | b :: r => if a < b then a :: b :: r else if a = b then b :: r else b :: mergeOne a r

/-- Rows below the diagonal of each column of the permuted KKT pattern (06 R150). -/
def kktRows (n : Nat) (perm : List Nat) (p a : Pattern) : Store (List Nat) :=
  let pos := fun r => perm.idxOf r
  let edge := fun (m : Store (List Nat)) (x y : Nat) =>
    if x = y then m else Store.upd [] m (min (pos x) (pos y)) (mergeRows [max (pos x) (pos y)])
  let m := p.zipIdx.foldl (fun m (c, j) => c.foldl (fun m i => edge m i j) m) []
  a.zipIdx.foldl (fun m (c, j) => c.foldl (fun m i => edge m (n + i) j) m) m

/-- Factor pattern of columns `j` on: each column passes its rows to the column of its first row (06 R150). -/
def symbolic (own : Store (List Nat)) : Nat → Nat → Store (List Nat) → Pattern
  | 0, _, _ => []
  | k + 1, j, pend =>
    let rows := mergeRows (Store.get [] own j) (Store.get [] pend j)
    let pend := match rows with
      | [] => pend
      | r :: rest => if rest.isEmpty then pend else Store.upd [] pend r (mergeRows rest)
    rows :: symbolic own k (j + 1) pend

/-- Factor pattern of a template (06 R150). -/
def factorPattern (n m : Nat) (perm : List Nat) (p a : Pattern) : Pattern := symbolic (kktRows n perm p a) (n + m) 0 []

/-- Limits of a class (06 R143): n, m, nnz(L), n_u, nx, v. -/
def classLimits (classP : Bool) : Nat × Nat × Nat × Nat × Nat × Nat :=
  if classP then (1024, 2048, 262144, 64, 256, 4096) else (64, 128, 4096, 16, 32, 256)

/-- Pairs in strictly increasing lexical order. -/
def pairsIncrease : List (Nat × Nat) → Bool
  | a :: b :: r => (decide (a.1 < b.1) || (a.1 == b.1 && decide (a.2 < b.2))) && pairsIncrease (b :: r)
  | _ => true

/-- Offsets of the sections of a structure record: permutation, P pointers, rows, values, A pointers, rows, values, the
vectors, scenario list, scenario values, state map, x0, and the end (06 R149). -/
def sectionEnds (n m v nnzE nnzP nnzA nx : Nat) : List Nat :=
  let sizes := [2 * (n + m), 4 * (n + 1), 2 * nnzP, 4 * nnzP, 4 * (n + 1), 2 * nnzA, 4 * nnzA, 4 * (n + 2 * m), 2 * v, 4 * v,
    8 * nnzE, 4 * nx]
  sizes.foldl (fun l k => l ++ [l.getLastD 192 + pad4 k]) [192]

/-- A problem structure record (06 R148 to R154). -/
def parseTemplate (index : Nat) (b : Bytes) : Option Template := do
  let cp := fld b 2 1 == 2
  let n := fld b 4 2
  let m := fld b 6 2
  let nu := fld b 8 2
  let nx := fld b 10 2
  let v := fld b 12 2
  let nnzE := fld b 14 2
  let nnzP := fld b 16 4
  let nnzA := fld b 20 4
  let nnzL := fld b 24 4
  let (ln, lm, ll, lnu, lnx, lv) := classLimits cp
  need (fld b 0 2 == 1 && inRange (fld b 2 1) 1 2 && zero b 3 1 && inRange n 1 ln && inRange m 1 lm && inRange nnzL (n + m) ll
    && inRange nu 1 (min n lnu) && decide (nx ≤ lnx) && decide (v ≤ min lv (n + 2 * m)) && decide (nnzE ≤ m)
    && decide (nnzP ≤ n * (n + 1) / 2) && inRange nnzA 1 (n * m) && zero b 44 20)
  let fm := (cut b 28 16).map (·.toNat)
  need (fm.all fun f => decide (f < 32))
  let o := fun i => (sectionEnds n m v nnzE nnzP nnzA nx).getD i 0
  need (b.length == o 12)
  need (padOk b (o 0) (2 * (n + m)) && padOk b (o 2) (2 * nnzP) && padOk b (o 5) (2 * nnzA) && padOk b (o 8) (2 * v))
  let perm := halvesAt b (o 0) (n + m)
  let pp := (bytesToWords (cut b (o 1) (4 * (n + 1)))).map (·.toNat)
  let ap := (bytesToWords (cut b (o 4) (4 * (n + 1)))).map (·.toNat)
  need (pointersOk pp nnzP && pointersOk ap nnzA)
  let p := columnsOf pp (halvesAt b (o 2) nnzP)
  let a := columnsOf ap (halvesAt b (o 5) nnzA)
  need (p.zipIdx.all fun (c, j) => increasing c && c.all fun i => decide (i ≤ j))
  need (a.all fun c => increasing c && c.all fun i => decide (i < m))
  need (perm.all (fun r => decide (r < n + m)) && distinct perm)
  let lcols := factorPattern n m perm p a
  need ((lcols.map List.length).sum + (n + m) == nnzL)
  let list := halvesAt b (o 8) v
  need (increasing list && list.all fun i => decide (i < n + 2 * m))
  let smap := (entriesOf b (o 10) 8 nnzE).map fun e => (fld e 0 2, fld e 2 2, sfld e 4 4)
  need (smap.all (fun (r, j, _) => decide (r < m ∧ j < nx)) && pairsIncrease (smap.map fun (r, j, _) => (r, j)))
  some { recIndex := index, classP := cp, n := n, m := m, nu := nu, nx := nx, v := v, nnzE := nnzE, nnzP := nnzP, nnzA := nnzA
         nnzL := nnzL, fmts := fm, boxes := (entriesOf b 64 8 16).map fun e => (sfld e 0 4, sfld e 4 4), perm := perm
         pPat := p, aPat := a, pVal := wordsAt b (o 3) nnzP, aVal := wordsAt b (o 6) nnzA, q := wordsAt b (o 7) n
         lo := wordsAt b (o 7 + 4 * n) m, hi := wordsAt b (o 7 + 4 * (n + m)) m, scenList := list
         scenVal := wordsAt b (o 9) v, stateMap := smap, x0 := wordsAt b (o 11) nx, lcols := lcols }

/-- Prediction model (06 R173), without what joins its template. -/
def parseModel (b : Bytes) : Option PredModel :=
  let nx := fld b 2 2
  let nu := fld b 4 2
  if 1 ≤ nx ∧ fld b 6 1 < 32 ∧ fld b 7 1 < 32 ∧ zero b 8 8 ∧ b.length = 16 + 4 * nx * (nx + nu) then
    some { template := fld b 0 2, nx := nx, nu := nu, fmtA := fld b 6 1, fmtB := fld b 7 1, a := wordsAt b 16 (nx * nx)
           b := wordsAt b (16 + 4 * nx * nx) (nx * nu) }
  else none

/-- A variable field with its enable bit (08 R216): `none` where a reserved bit is set. -/
def optVar (v : Nat) : Option (Option Nat) :=
  if v / 2 ^ 20 % 2 ^ 11 ≠ 0 then none else some (if v / 2 ^ 31 = 1 then some (v % 2 ^ 20) else none)

/-- A constraint entry with its term count (08 R217). -/
def parseConstraint (b : Bytes) : Option (CConstraint × Nat) := do
  let lo := sfld b 4 4
  let hi := sfld b 8 4
  need (inRange (fld b 0 2) 1 4096 && decide (fld b 2 1 < 32) && decide (fld b 3 1 < 32) && decide (lo ≤ hi)
    && decide (0 ≤ sfld b 12 4) && decide (0 < sfld b 16 4) && decide (0 < sfld b 20 4) && zero b 28 4)
  need (!(lo == -2147483647 && hi == 2147483647))
  let v ← optVar (fld b 24 4)
  some ({ fmtG := fld b 2 1, fmtPrice := fld b 3 1, lower := lo, upper := hi, tol := sfld b 12 4, beta := sfld b 16 4
          lmax := sfld b 20 4, priceVar := v, terms := [] }, fld b 0 2)

/-- A term entry (08 R218). -/
def parseTerm (b : Bytes) : Option CTerm :=
  if fld b 3 1 ≤ 1 ∧ sfld b 4 4 ≠ 0 then
    some { problem := fld b 0 2, var := fld b 2 1, recoverable := fld b 3 1 == 1, coef := sfld b 4 4 }
  else none

/-- Hand each constraint its terms (08 R218). -/
def shareTerms : List (CConstraint × Nat) → List CTerm → Option (List CConstraint)
  | [], [] => some []
  | [], _ => none
  | (c, n) :: r, l =>
    if l.length < n then none
    else (shareTerms r (l.drop n)).map fun k => { c with terms := l.take n } :: k

/-- A handover entry (08 R219). -/
def parseHandover (b : Bytes) : Option Handover :=
  let k := fld b 3 1
  if inRange k 1 4 ∧ (k = 4 → fld b 2 1 = 0) ∧ fld b 4 4 < (if k = 1 then 512 else 2 ^ 20)
      ∧ (k = 1 ∨ (fld b 8 4 = 0 ∧ fld b 12 4 = 0)) then
    some { problem := fld b 0 2, var := fld b 2 1, kind := k, dest := fld b 4 4, scale := sfld b 8 4, offset := sfld b 12 4 }
  else none

/-- Variables that a coupling record writes (08 R219, R233). -/
def couplingVars (k : Coupling) : List Nat :=
  ((k.handover.filter (·.kind != 1)).map (·.dest)) ++ k.cons.filterMap (·.priceVar) ++ k.statusVar.toList

/-- Coupling and run-ahead record (08 R215 to R220), without what joins other records. -/
def parseCoupling (index : Nat) (b : Bytes) : Option Coupling := do
  let c := fld b 2 2
  let t := fld b 4 4
  let h := fld b 12 2
  need (fld b 0 2 == 1 && decide (c ≤ 256) && decide (t ≤ 32768) && ((t == 0) == (c == 0)) && inRange (fld b 8 1) 1 16
    && zero b 9 1 && inRange (fld b 10 2) 1 4096 && decide (h ≤ 4096) && zero b 14 2 && zero b 20 12
    && b.length == 32 + 32 * c + 8 * t + 16 * h)
  let sv ← optVar (fld b 16 4)
  let cs ← (entriesOf b 32 32 c).mapM parseConstraint
  let ts ← (entriesOf b (32 + 32 * c) 8 t).mapM parseTerm
  let cons ← shareTerms cs ts
  let hs ← (entriesOf b (32 + 32 * c + 8 * t) 16 h).mapM parseHandover
  let k : Coupling := { recIndex := index, outerLimit := fld b 8 1, innerLimit := fld b 10 2, statusVar := sv, cons := cons
                        handover := hs }
  need (cons.all fun x => pairsIncrease (x.terms.map fun t => (t.problem, t.var)))
  need (((ts.filter (·.recoverable)).map fun t => t.problem * 256 + t.var).all fun x =>
    (ts.filter fun t => t.problem * 256 + t.var == x).length == 1)
  need (distinct (couplingVars k) && distinct ((hs.filter (·.kind == 1)).map (·.dest)))
  some k

/-- A placement constraint (05 R118). -/
def parsePlaceCons (b : Bytes) : Option PlaceCons :=
  if slotCode (fld b 0 1) ∧ inRange (fld b 1 1) 1 3 ∧ zero b 2 2 ∧ fld b 4 4 ≠ fld b 8 4 ∧ zero b 12 4 then
    some { separation := fld b 0 1 == 2, subject := fld b 1 1, a := fld b 4 4, b := fld b 8 4 }
  else none

/-- Placement constraints record (05 R117). -/
def parseConsRecord (b : Bytes) : Option (List PlaceCons) := do
  let n := fld b 2 2
  need (fld b 0 2 == 1 && inRange n 1 1024 && zero b 4 12 && b.length == 16 + 16 * n)
  (entriesOf b 16 16 n).mapM parsePlaceCons

/-- A nonnegative binary64 value m · 2^e (06 R156). -/
structure Up where
  m : Nat
  e : Int
  deriving DecidableEq, Repr

/-- n · 2^e rounded toward +infinity to binary64; the exponent is not bounded above (06 R156). -/
def upRound (n : Nat) (e : Int) : Up :=
  let k := max ((bitLen n : Int) - 53) (-1074 - e)
  if k ≤ 0 then ⟨n, e⟩ else ⟨(n + 2 ^ k.toNat - 1) / 2 ^ k.toNat, e + k⟩

def upAdd (a b : Up) : Up :=
  let e := min a.e b.e
  upRound (a.m * 2 ^ (a.e - e).toNat + b.m * 2 ^ (b.e - e).toNat) e
def upMul (a b : Up) : Up := upRound (a.m * b.m) (a.e + b.e)
def upDiv (a b : Up) : Up :=
  let n := a.m * 2 ^ (bitLen b.m + 60)
  upRound ((n + b.m - 1) / max 1 b.m) (a.e - b.e - (bitLen b.m + 60 : Nat))
def upLe (a b : Up) : Bool :=
  let e := min a.e b.e
  decide (a.m * 2 ^ (a.e - e).toNat ≤ b.m * 2 ^ (b.e - e).toNat)
def upMax (a b : Up) : Up := if upLe a b then b else a
def upNat (n : Nat) : Up := ⟨n, 0⟩
/-- Magnitude of a raw value of `f` fractional bits. -/
def upRaw (v : Int) (f : Nat) : Up := ⟨v.natAbs, -(f : Int)⟩

/-- A format's largest magnitude (06 R151). -/
def maxOf (t : Template) (i : Nat) : Up := ⟨2147483647, -(t.fmts.getD i 0 : Int)⟩

/-- Magnitude of a box (06 R154). -/
def boxMag (t : Template) (i : Nat) : Up :=
  let (lo, hi) := t.boxes.getD i (0, 0)
  ⟨max lo.natAbs hi.natAbs, -(t.fmts.getD i 0 : Int)⟩

/-- Largest number of entries in a row of a pattern. -/
def rowMax (rows : Nat) (p : Pattern) : Nat :=
  (p.foldl (fun l c => c.foldl (fun l i => l.modify i (· + 1)) l) (List.replicate rows 0)).foldl max 0

/-- Largest number of entries in a row of the full symmetric P (06 R156). -/
def rowMaxP (t : Template) : Nat :=
  let full := t.pPat.zipIdx.map fun (c, j) =>
    c ++ (t.pPat.zipIdx.filterMap fun (d, k) => if k ≠ j ∧ d.contains j then some k else none)
  rowMax t.n full

/-- Values lie in a box (06 R155). -/
def inBox (t : Template) (i : Nat) (l : List Int) : Bool :=
  let (lo, hi) := t.boxes.getD i (0, 0)
  l.all fun v => decide (lo ≤ v ∧ v ≤ hi)

/-- Forward bounds t[i] of a triangular solve, with the pattern's rows; `acc` holds the sums so far (06 R158). -/
def boundFwd (bl : Up) : List (List Nat) → Nat → List Up → List Up
  | c :: cs, j, t :: ts =>
    let p := upMul bl t
    t :: boundFwd bl cs (j + 1) (c.foldl (fun l i => l.modify (i - (j + 1)) (upAdd · p)) ts)
  | _, _, _ => []

/-- Back bounds v[i]; sums run in increasing index (06 R158). -/
def boundBack (bl : Up) : List (List Nat) → Nat → List Up → List Up
  | c :: cs, j, s :: ss =>
    let v := boundBack bl cs (j + 1) ss
    c.foldl (fun a i => upAdd a (upMul bl (v.getD (i - (j + 1)) ⟨0, 0⟩))) s :: v
  | _, _, _ => []

/-- The bounds of R157 fit their formats (06 R155, R157, R158). -/
def boundsFit (t : Template) (m : Option PredModel) (c : ProblemCfg) : Bool :=
  let bP := boxMag t 0
  let bA := boxMag t 1
  let bq := boxMag t 2
  let blu := boxMag t 3
  let bx0 := boxMag t 4
  let bE := boxMag t 5
  let bx := boxMag t 6
  let bw := boxMag t 7
  let bL := boxMag t 10
  let bd := boxMag t 11
  let bdi := boxMag t 12
  let sg := upRaw c.sigma 16
  let rMin := upRaw c.rhoMin 16
  let rMax := upRaw c.rhoMax 16
  let al := upRaw c.alpha 24
  let al1 := upRaw (0x01000000 - c.alpha) 24
  let rA := upNat (rowMax t.m t.aPat)
  let cA := upNat ((t.aPat.map List.length).foldl max 0)
  let rE := upNat (((List.range t.m).map fun r => (t.stateMap.filter (·.1 == r)).length).foldl max 0)
  let rL := upNat (rowMax (t.n + t.m) t.lcols)
  let bld := upMul bL bd
  let by' := upMul rMax (upMul (upNat 2) bw)
  let bK := upMax (upMax (upAdd bP sg) bA) (upDiv (upNat 1) rMin)
  let primal := upAdd (upMul sg bx) bq
  let dual := upMul (upNat 3) bw
  let ts := boundFwd bL t.lcols 0 (t.perm.map fun r => if r < t.n then primal else dual)
  let ss := ts.map fun x => upMul x bdi
  let vs := boundBack bL t.lcols 0 ss
  let pick := fun (f : Nat → Bool) => ((vs.zip t.perm).filter fun x => f x.2).foldl (fun a x => upMax a x.1) ⟨0, 0⟩
  let bxt := pick fun r => decide (r < t.n)
  let bnu := pick fun r => decide (t.n ≤ r)
  let zt := upAdd (upMul (upNat 3) bw) (upDiv bnu rMin)
  let piv := upAdd bK (upMul (upMul rL bL) bld)
  let pred := match m with
    | none => true
    | some k =>
      let mag := fun (l : List Int) f => (l.map fun v => upRaw v f).foldl upMax ⟨0, 0⟩
      upLe (upAdd (upMul (upMul (upNat t.nx) (mag k.a k.fmtA)) bx0) (upMul (upMul (upNat t.nu) (mag k.b k.fmtB)) bx)) (maxOf t 4)
  let fit := fun i b => upLe b (maxOf t i)
  fit 3 (upAdd blu (upMul (upMul rE bE) bx0)) && pred && fit 7 bw && fit 8 by' && fit 14 primal && fit 14 dual
    && fit 6 bxt && fit 9 bnu && fit 7 zt && fit 6 (upAdd (upMul al bxt) (upMul al1 bx))
    && fit 7 (upAdd (upAdd (upMul al zt) (upMul al1 bw)) (upMul (upNat 2) bw))
    && fit 13 bld && fit 11 piv && fit 10 (upMul piv bdi)
    && fit 15 (upAdd (upMul (upMul rA bA) bx) bw)
    && fit 15 (upAdd (upAdd (upMul (upMul (upNat (rowMaxP t)) bP) bx) bq) (upMul (upMul cA bA) by'))
    && ts.all (fit 14) && ss.all (fit 14) && vs.all (fit 14)

/-- The range certificate of a template holds for a problem (06 R155). -/
def certificateOk (t : Template) (m : Option PredModel) (c : ProblemCfg) : Bool :=
  let scen := t.scenList.zip t.scenVal
  t.boxes.all (fun (lo, hi) => decide (lo ≤ hi))
    && inBox t 0 t.pVal && inBox t 1 t.aVal && inBox t 2 t.q && inBox t 3 t.lo && inBox t 3 t.hi && inBox t 4 t.x0
    && inBox t 5 (t.stateMap.map fun (_, _, e) => e)
    && inBox t 2 ((scen.filter fun x => decide (x.1 < t.n)).map (·.2))
    && inBox t 3 ((scen.filter fun x => decide (t.n ≤ x.1)).map (·.2))
    && inBox t 6 [0] && inBox t 7 [0] && boundsFit t m c

end Sys2Proof.Machine
end

