-- ==== Sys2Proof/Machine/ManDevices.lean ====
section
/-! DEFINITION. The manifest's records of loops, stations, network, field channels, meters, routing, keys and trust:
their own layout and value rules (11 R304 to R316, 12 R334 to R340, 13 R368 to R371, 15 R427 to R429, 16 R452 to R456,
17 R477, R478, 18 R510 to R515). -/

namespace Sys2Proof.Machine

open Sys2Proof

/-- 1.0 in Q8.24. -/
def one24 : Int := 0x01000000

/-- Number of bits set. -/
def popCount (n k : Nat) : Nat := ((List.range k).filter fun i => n / 2 ^ i % 2 == 1).length

/-- A mask of 1 to 4 channels of one group (04 R94, 11 R305). -/
def groupMask (m : Nat) : Bool :=
  inRange (popCount m 32) 1 4 && (List.range 4).any fun g => m % 2 ^ (8 * g) == 0 && decide (m < 2 ^ (8 * g + 8))

/-- Two finite binary64 values in strictly increasing order (11 R305). -/
def risingF (a b : Nat) : Bool :=
  match unpackF f64 a, unpackF f64 b with
  | .fin n m e, .fin n' m' e' => cmpF (.fin n m e) (.fin n' m' e') == some .lt
  | _, _ => false

/-- One loop entry (11 R305, R306). -/
def parseLoop (b : Bytes) : Option LoopCfg := do
  let fl := fld b 3 1
  let k := fld b 4 1
  let o := fld b 7 1
  let g := (List.range 16).map fun i => (sfld b (96 + 8 * i) 4, sfld b (100 + 8 * i) 4)
  need (decide (fld b 0 2 < 512) && decide (fl < 4) && inRange k 1 3 && decide (o ≤ 3) && zero b 78 2)
  need (if k = 1 then fld b 5 1 == 0 && fld b 6 1 == 0 && decide (fld b 8 4 < 2 ^ 20)
    else decide (fld b 5 1 < 32) && inRange (fld b 6 1) 1 100 && fld b 8 4 == 0)
  need (risingF (fld b 12 8) (fld b 20 8) && inRangeI (sfld b 28 4) 0 one24 && inRangeI (sfld b 32 4) 1 (100 * one24)
    && (fld b 36 4 == 0 || inRange (fld b 36 4) 10 3600000) && decide (fld b 40 4 ≤ 600000)
    && inRangeI (sfld b 44 4) 0 one24 && inRangeI (sfld b 48 4) (sfld b 44 4) one24
    && inRangeI (sfld b 52 4) 0 (16 * one24) && decide (fld b 56 4 ≤ 600000) && inRangeI (sfld b 60 4) 0 one24
    && inRangeI (sfld b 64 4) 0 one24)
  need (if o = 1 then groupMask (fld b 68 4) && inRange (fld b 72 4) 20 60000 && decide (fld b 76 2 ≤ 1000)
    else (if o = 0 then fld b 68 4 == 0 else decide (fld b 68 4 < 2 ^ 20)) && fld b 72 4 == 0 && fld b 76 2 == 0)
  need ((g.head?.map (·.1)) == some 0 && (g.zip (g.drop 1)).all (fun (x, y) => decide (x.1 < y.1))
    && g.all (fun x => decide (x.1 ≤ one24) && inRangeI x.2 0 (16 * one24)))
  some { num := fld b 0 2, group := fld b 2 1, direct := fl % 2 == 1, startManual := fl / 2 == 1
         measure := if k = 1 then .variable else if k = 2 then .frequency else .duty, channel := fld b 5 1
         window := fld b 6 1, outKind := o, measVar := fld b 8 4, rangeLow := BitVec.ofNat 64 (fld b 12 8)
         rangeHigh := BitVec.ofNat 64 (fld b 20 8), spt := sfld b 28 4, kp := sfld b 32 4, ti := fld b 36 4, td := fld b 40 4
         lo := sfld b 44 4, hi := sfld b 48 4, ramp := sfld b 52 4, tr := fld b 56 4, kv := sfld b 60 4, init := sfld b 64 4
         dest := fld b 68 4, cycleTime := fld b 72 4, minPulse := fld b 76 2, scaleLow := BitVec.ofNat 64 (fld b 80 8)
         scaleHigh := BitVec.ofNat 64 (fld b 88 8), gains := g }

/-- Masks of channels that no two name together. -/
def masksDisjoint : List Nat → Bool
  | [] => true
  | a :: r => r.all (fun c => a &&& c == 0) && masksDisjoint r

/-- Loop table (11 R304 to R306), without what joins other records. -/
def parseLoops (b : Bytes) : Option (List LoopCfg) := do
  let n := fld b 2 2
  need (fld b 0 2 == 1 && inRange n 1 512 && zero b 4 12 && b.length == 16 + 224 * n)
  let l ← (entriesOf b 16 224 n).mapM parseLoop
  need (increasing (l.map (·.num)) && masksDisjoint ((l.filter (·.outKind == 1)).map (·.dest))
    && distinct ((l.filter fun c => decide (2 ≤ c.outKind)).map (·.dest)))
  some l

/-- One override group (11 R316). -/
def parseOverride (b : Bytes) : Option (List Nat) :=
  let n := fld b 0 1
  let l := halvesAt b 8 8
  if inRange n 2 8 ∧ zero b 1 7 ∧ (l.take n).all (fun x => decide (x < 512)) ∧ (l.drop n).all (· == 0xFFFF) then
    some (l.take n)
  else none

/-- Override groups (11 R316), without what joins the loop table. -/
def parseOverrides (b : Bytes) : Option (List (List Nat)) := do
  let n := fld b 2 2
  need (fld b 0 2 == 1 && inRange n 1 64 && zero b 4 12 && b.length == 16 + 24 * n)
  let l ← (entriesOf b 16 24 n).mapM parseOverride
  need (distinct l.flatten)
  some l

/-- A unicast nonzero address (12 R336). -/
def unicast (a : Bytes) : Bool := a.length == 6 && !(a.all (· == 0)) && !((a.headD 0).getLsbD 0)

/-- One map entry: first variable, words and module (12 R337). -/
def parseMapEntry (b : Bytes) : Option (Nat × Nat × Nat) :=
  if 1 ≤ fld b 4 2 ∧ zero b 7 1 then some (fld b 0 4, fld b 4 2, fld b 6 1) else none

/-- One station entry with the map section (12 R336 to R338). -/
def parseStation (map : List (Nat × Nat × Nat)) (groups : Nat) (b : Bytes) : Option (StationCfg × Nat × Nat) := do
  let c := fld b 2 1 == 2
  let f := fld b 3 1
  let dual := f % 2 == 1
  let no := fld b 28 2
  let ni := fld b 30 2
  let first := fld b 24 4
  let mods := fld b 36 1
  need (decide (fld b 0 2 < 1280) && inRange (fld b 2 1) 1 2 && decide (f < 8) && unicast (cut b 4 6)
    && (if dual then unicast (cut b 10 6) && decide (fld b 17 1 ≠ 0) else zero b 10 6 && fld b 17 1 == 0)
    && decide (fld b 16 1 ≠ 0) && (f / 4 == 1 || fld b 22 2 == 0) && inRange ni 1 365 && zero b 37 11)
  need (if c then decide (fld b 18 1 ≤ 8) && inRange (fld b 19 1) 1 16 && decide (fld b 20 2 < groups) && decide (no ≤ 365)
      && mods == 1
    else fld b 18 1 == 0 && fld b 19 1 == 0 && fld b 20 2 == 0xFFFF && no == 0 && inRange mods 1 16)
  let sv ← optVar (fld b 32 4)
  let out := (map.drop first).take no
  let inp := (map.drop (first + no)).take ni
  need (decide (first + no + ni ≤ map.length) && out.all (fun e => e.2.2 == 0))
  need ((inp.zip (inp.drop 1)).all (fun (a, d) => decide (a.2.2 ≤ d.2.2)) && inp.all (fun e => decide (e.2.2 < mods))
    && (List.range mods).all fun k => inp.any fun e => e.2.2 == k)
  need (decide ((out.map (·.2.1)).sum ≤ 365)
    && (List.range mods).all fun k => decide (((inp.filter fun e => e.2.2 == k).map (·.2.1)).sum ≤ 365))
  some ({ num := fld b 0 2, cfgC := c, dual := dual, autoRejoin := f / 2 % 2 == 1, tagged := f / 4 == 1, addrA := cut b 4 6
          addrB := cut b 10 6, portsA := fld b 16 1, portsB := fld b 17 1
          missLimit := if fld b 18 1 = 0 then 3 else fld b 18 1, rejoinCount := fld b 19 1, group := fld b 20 2
          tci := fld b 22 2, outputs := out.map fun e => (e.1, e.2.1), inputs := inp, statusVar := sv, modules := mods },
    first, no + ni)

/-- Ranges of first index and count that do not overlap. -/
def rangesDisjoint : List (Nat × Nat) → Bool
  | [] => true
  | a :: r => r.all (fun c => decide (a.1 + a.2 ≤ c.1 ∨ c.1 + c.2 ≤ a.1)) && rangesDisjoint r

/-- Station table (12 R334 to R338), without what joins other records. -/
def parseStations (b : Bytes) : Option StationTable := do
  let n := fld b 2 2
  let g := fld b 4 2
  let e := fld b 8 4
  need (fld b 0 2 == 1 && inRange n 1 1280 && decide (g ≤ 256) && inRange e 1 65536 && zero b 16 16
    && b.length == 32 + 8 * g + 48 * n + 8 * e)
  let et ← etherType (fld b 6 2) 0x88B5
  need ((entriesOf b 32 8 g).all fun x => zero x 4 4)
  let map ← (entriesOf b (32 + 8 * g + 48 * n) 8 e).mapM parseMapEntry
  let l ← (entriesOf b (32 + 8 * g) 48 n).mapM (parseStation map g)
  let st := l.map (·.1)
  let cs := st.filter (·.cfgC)
  need (increasing (st.map (·.num)) && decide (cs.length ≤ 256) && ((g == 0) == cs.isEmpty)
    && (List.range g).all (fun k => cs.any fun c => c.group == k))
  need (if cs.length = st.length then fld b 12 2 == 0 && fld b 14 2 == 0
    else inRange (fld b 12 2) 1 1280 && inRange (fld b 14 2) 1 1000)
  need (rangesDisjoint (l.map (·.2)))
  some { etype := et, pollBudget := fld b 12 2, pollTimeout := fld b 14 2
         groups := (entriesOf b 32 8 g).map fun x => fld x 0 4, stations := st }

/-- Substitute entries from offset `o` (12 R340). -/
def parseSubstEntries (b : Bytes) : Nat → Nat → Option (List SubstCfg)
  | o, 0 => if b.length = o then some [] else none
  | o, k + 1 =>
    let w := fld b (o + 4) 4
    let mode := fld b (o + 2) 1
    if b.length < o + 8 + 4 * w ∨ !zero b (o + 3) 1 ∨ !inRange mode 1 2 ∨ (mode = 2 ∧ w ≠ 0) then none
    else
      let v := if mode = 1 then some (bytesToWords (cut b (o + 8) (4 * w))) else none
      (parseSubstEntries b (o + 8 + 4 * w) k).map fun l => { station := fld b o 2, values := v } :: l

/-- Substitute values (12 R340), without what joins the station table. -/
def parseSubst (b : Bytes) : Option (List SubstCfg) := do
  need (decide (16 ≤ b.length) && fld b 0 2 == 1 && zero b 4 12)
  let l ← parseSubstEntries b 16 (fld b 2 2)
  need (increasing (l.map (·.station)))
  some l

/-- One port entry (13 R369). -/
def parsePort (i : Nat) (b : Bytes) : Option PortCfg := do
  let t1l := decide (4 ≤ i)
  let ms := fld b 3 1
  let f := fld b 5 1
  let keys := (cut b 24 4).map (·.toNat)
  need (decide (fld b 0 1 ≤ 1) && (if t1l then inRange (fld b 1 1) 1 3 else fld b 1 1 == 0) && decide (fld b 2 1 ≤ 1)
    && decide (ms ≤ 2) && (if ms = 0 then fld b 4 1 == 0 else inRange (fld b 4 1) 1 2) && decide (f < 4) && zero b 6 2
    && unicast (cut b 8 6) && zero b 14 2 && zero b 32 16)
  need (if t1l then fld b 16 4 == 0 && fld b 20 4 == 0 else decide (fld b 16 4 ≤ 10000) && decide (fld b 20 4 ≤ 10000))
  need (if ms = 0 then keys.all (· == 0xFF) && fld b 28 4 == 0
    else keys.all (fun k => decide (k < 64) || k == 0xFF) && keys.headD 0xFF != 0xFF && decide (fld b 28 4 ≤ 0x3FFFFFFF))
  need (fld b 0 1 == 1 || (fld b 2 1 == 0 && f % 2 == 0))
  some { enabled := fld b 0 1 == 1, ampl := fld b 1 1, ptp := fld b 2 1 == 1, macsec := ms, xpn := fld b 4 1 == 2
         mgmt := f % 2 == 1, ptpBypass := f / 2 == 1, addr := cut b 8 6, txLat := fld b 16 4, rxLat := fld b 20 4
         txKeys := keys, window := fld b 28 4 }

/-- One secure channel entry (13 R370). -/
def parseChan (b : Bytes) : Option SecChan :=
  let keys := (cut b 10 4).map (·.toNat)
  if fld b 0 1 < 8 ∧ zero b 1 1 ∧ keys.all (fun k => decide (k < 64) || k == 0xFF) ∧ keys.any (· != 0xFF) ∧ zero b 14 2 then
    some { port := fld b 0 1, sci := cut b 2 8, keys := keys }
  else none

/-- Network and time setup (13 R368 to R371), without what joins other records. -/
def parseNet (b : Bytes) : Option NetSetup := do
  let c := fld b 10 2
  need (fld b 0 2 == 1 && decide (fld b 2 1 < 128) && inRange (fld b 3 1) 1 3 && decide (fld b 6 1 ≤ 1)
    && inRangeI (sfld b 7 1) (-4) 1 && inRangeI (sfld b 8 1) (-4) 4 && inRange (fld b 9 1) 2 10 && decide (c ≤ 56)
    && zero b 12 20 && b.length == 416 + 16 * c)
  let ports ← ((entriesOf b 32 48 8).zipIdx).mapM fun (e, i) => parsePort i e
  let chans ← (entriesOf b 416 16 c).mapM parseChan
  need (chans.all fun x => ((ports[x.port]?).any fun p => p.macsec != 0))
  need (((ports.filter (·.enabled)).map (·.addr)).eraseDups.length == (ports.filter (·.enabled)).length)
  need ((List.range 8).all fun p =>
    let l := (chans.filter (·.port == p)).map (·.sci)
    decide (l.length ≤ 7) && l.eraseDups.length == l.length)
  some { domain := fld b 2 1, profile := fld b 3 1, priority1 := fld b 4 1, priority2 := fld b 5 1
         slaveOnly := fld b 6 1 == 1, logSync := sfld b 7 1, logDelay := sfld b 8 1, announceTimeout := fld b 9 1
         ports := ports, chans := chans }

/-- One channel entry of the field I/O setup (15 R428). -/
def parseChannel (b : Bytes) : Option ChannelCfg := do
  let m := fld b 0 1
  need (decide (m ≤ 2) && zero b 6 2)
  need (if m = 1 then inRange (fld b 1 1) 1 3 && inRange (fld b 2 2) 1 200 else fld b 1 1 == 0 && fld b 2 2 == 0)
  need (if m = 2 then decide (fld b 4 1 ≤ 2) && decide (fld b 5 1 ≤ 4) else fld b 4 1 == 0 && fld b 5 1 == 0 && fld b 12 4 == 0)
  need (m != 0 || fld b 8 4 == 0)
  let v ← optVar (fld b 8 4)
  let sv ← optVar (fld b 12 4)
  some { mode := if m = 1 then .input else if m = 2 then .output else .unused, itype := fld b 1 1, filter := fld b 2 2
         wstate := if fld b 4 1 = 1 then .on else if fld b 4 1 = 2 then .hold else .off, pset := fld b 5 1, bind := v
         sbind := sv }

/-- The parallel sets of one group's channels (15 R429). -/
def setsOk (l : List ChannelCfg) : Bool :=
  (List.range 4).all fun k =>
    let s := l.filter (·.pset == k + 1)
    s.isEmpty || (inRange s.length 2 4 && (s.all fun c => c.wstate == (s.headD {}).wstate)
      && (s.drop 1).all (·.bind.isNone))

/-- Field I/O setup (15 R427 to R429), without what joins other records. -/
def parseField (b : Bytes) : Option FieldSetup := do
  need (b.length == 592 && fld b 0 2 == 1 && zero b 2 2 && zero b 8 8)
  let fv ← optVar (fld b 4 4)
  let gs := entriesOf b 16 16 4
  need (gs.all fun g => inRange (fld g 0 2) 1 1000 && zero g 2 14)
  let cs ← (entriesOf b 80 16 32).mapM parseChannel
  need ((List.range 4).all fun g => setsOk ((cs.drop (8 * g)).take 8))
  need (distinct (cs.filterMap (·.bind)) && distinct (cs.filterMap (·.sbind)))
  some { faultVar := fv, tsafe := gs.map fun g => fld g 0 2, chans := cs }

/-- One meter entry (16 R453). -/
def parseMeter (tables : Nat) (b : Bytes) : Option MeterCfg := do
  let t := fld b 3 1
  need (decide (fld b 0 1 < 16) && decide (fld b 1 1 < 32) && inRange (fld b 2 1) 1 2 && (t == 0xFF || decide (t < tables))
    && inRange (fld b 4 4) 1 0xFFFFFFFE && inRange (fld b 8 2) 10 1000 && inRange (fld b 10 2) 10 1000
    && decide (fld b 12 1 < 4) && zero b 14 2 && zero b 28 4)
  let v0 ← optVar (fld b 16 4)
  let v1 ← optVar (fld b 20 4)
  let v2 ← optVar (fld b 24 4)
  some { chan := fld b 0 1, input := fld b 1 1, onToOff := fld b 2 1 == 2, table := if t = 0xFF then none else some t
         weight := fld b 4 4, tOn := fld b 8 2, tOff := fld b 10 2, fallback := fld b 12 1, unit := fld b 13 1, totalVar := v0
         accVar := v1, tariffVar := v2 }

/-- Used switch points of one day type (16 R454, R456). -/
def parseDayType (b : Bytes) : Option (List (Nat × Nat)) := do
  let es := entriesOf b 0 4 16
  need (es.all fun e => zero e 3 1 && decide (fld e 2 1 < 4) && (decide (fld e 0 2 < 1440) || fld e 0 2 == 0xFFFF))
  let l := (es.takeWhile fun e => fld e 0 2 != 0xFFFF).map fun e => (fld e 0 2, fld e 2 1)
  need ((es.drop l.length).all fun e => fld e 0 2 == 0xFFFF)
  need (increasing (l.map (·.1)) && (l.head?.map (·.1)) == some 0)
  some l

/-- A special date is a date of the calendar: 29 February only in leap years or for every year (16 R454, R456). -/
def specialOk (d : SpecialDate) : Bool :=
  (d.year == 0 || inRange d.year 2000 2199) && inRange d.month 1 12 && decide (d.dayType < 4)
    && inRange d.day 1 (monthDays (if d.year = 0 then 2000 else d.year) d.month)

/-- One tariff table (16 R454). -/
def parseTariff (b : Bytes) : Option TariffTable := do
  let days ← (entriesOf b 0 64 4).mapM parseDayType
  let week := (cut b 256 7).map (·.toNat)
  need (week.all (fun w => decide (w < 4)) && zero b 263 1)
  let es := entriesOf b 264 8 32
  need (es.all fun e => zero e 5 3)
  let sp := (es.filter fun e => fld e 2 1 != 0).map fun e =>
    ({ year := fld e 0 2, month := fld e 2 1, day := fld e 3 1, dayType := fld e 4 1 } : SpecialDate)
  need (sp.all specialOk && distinct (sp.map fun d => d.year * 10000 + d.month * 100 + d.day))
  some { dayTypes := days, weekly := week, special := sp }

/-- Meter and tariff tables (16 R452 to R456), without what joins other records. -/
def parseMeters (b : Bytes) : Option MeterSetup := do
  let m := fld b 2 1
  let t := fld b 3 1
  let z := fld b 4 1
  let sv := fld b 6 2
  need (fld b 0 2 == 1 && inRange m 1 16 && decide (t ≤ 4) && decide (z ≤ 64) && zero b 5 1 && inRange sv 1 900
    && 3600 % sv == 0 && inRangeI (sfld b 8 2) (-720) 840 && zero b 10 22 && b.length == 32 + 32 * m + 520 * t + 16 * z)
  let ms ← (entriesOf b 32 32 m).mapM (parseMeter t)
  let ts ← (entriesOf b (32 + 32 * m) 520 t).mapM parseTariff
  let os := (entriesOf b (32 + 32 * m + 520 * t) 16 z).map fun e => (fld e 0 8, sfld e 8 2)
  need ((entriesOf b (32 + 32 * m + 520 * t) 16 z).all fun e => zero e 10 6 && inRangeI (sfld e 8 2) (-720) 840)
  need (increasing (ms.map (·.chan)) && distinct (ms.map (·.input)) && increasing (os.map (·.1)))
  some { saveInterval := sv, baseOffset := sfld b 8 2, meters := ms, tables := ts, offsets := os }

/-- One routing entry (17 R477). -/
def parseRoute (b : Bytes) : Option RouteCfg :=
  let f := fld b 0 1
  let t := fld b 2 1
  if f < 64 ∧ fld b 1 1 < 8 ∧ (t = 0xFF ∨ t < 32) ∧ zero b 3 1 then
    some { journal := f % 2 == 1, pair := f / 2 % 2 == 1, irq := BitVec.ofNat 4 (f / 4), severity := fld b 1 1
           task := if t = 0xFF then none else some t }
  else none

/-- Journal severity policy and event routing (17 R477, R478), without what joins the task table. -/
def parseRoutes (b : Bytes) : Option (List RouteCfg) := do
  need (b.length == 1040 && fld b 0 2 == 1 && zero b 2 14)
  let l ← (entriesOf b 16 4 256).mapM parseRoute
  need (((l.drop 216).take 8).all fun r => !r.journal)
  some l

/-- Usage and purpose go together (18 R514). -/
def purposeFits (usage purpose : Nat) : Bool :=
  (usage == 1 && purpose == 1) || (usage == 2 && purpose == 1) || (usage == 4 && purpose == 2)
    || (usage == 4 && purpose == 3) || (usage == 3 && purpose == 4)

/-- Key length of a purpose (18 R513). -/
def purposeLength (purpose : Nat) : Nat := if purpose = 1 then 44 else 32

/-- A wrapped key blob's layout (18 R513, R514), with the rule of PROVABLE (R515). -/
def parseBlob (b : Bytes) : Option Blob :=
  let f := fld b 9 1
  let k := fld b 10 2
  if cut b 0 4 = [0x55, 0x4C, 0x4B, 0x42] ∧ fld b 4 2 = 1 ∧ fld b 6 1 < 64 ∧ purposeFits (fld b 7 1) (fld b 8 1) ∧ f < 4
      ∧ k = purposeLength (fld b 8 1) ∧ zero b 12 4 ∧ zero b 41 11 ∧ b.length = 80 + k
      ∧ (f % 2 = 0 ∨ (f / 2 = 1 ∧ fld b 6 1 ≤ 7)) then
    some { num := fld b 6 1, usage := fld b 7 1, purpose := fld b 8 1, provable := f % 2 == 1, generated := f / 2 == 1
           keyLen := k, raw := b }
  else none

/-- Device unique secret (18 R497). -/
def dus : Bytes := Config.kmac256 Config.pufKey Config.fuseSecret 32 (ascii "UL-7160 DUS")

/-- A derived key (18 R498). -/
def deriveFrom (parent : Bytes) (label : String) (context : Bytes) : Bytes :=
  Config.kmac256 parent (leBytes 4 1 ++ ascii label ++ [0] ++ context ++ leBytes 4 256) 32 (ascii "UL-7160 KDF")

/-- A key derived from the device unique secret (18 R498, R499). -/
def deriveKey (label : String) (context : Bytes) : Bytes := deriveFrom dus label context

/-- The key that a blob wraps; none where its tag fails (18 R513). -/
def unwrapBlob (b : Blob) : Option Bytes :=
  Config.gcmOpen (deriveKey "WRAP" []) (cut b.raw 52 12) (cut b.raw 0 64) (b.raw.drop 64)

/-- A blob record addressed to this unit (18 R515). -/
def blobMine (b : Bytes) : Bool := cut b 16 16 == Config.deviceId

/-- A blob record: none of this unit's where it is another's; invalid where it breaks a rule (18 R515). -/
def parseBlobRecord (b : Bytes) : Option (Option Blob) :=
  if blobMine b then (parseBlob b).bind fun x => if (unwrapBlob x).isSome then some (some x) else none
  else some none

/-- Trust record (18 R510), without what joins other records. -/
def parseTrust (b : Bytes) : Option Trust :=
  let f := fld b 2 1
  if fld b 0 2 = 1 ∧ f ≤ 1 ∧ zero b 3 1 ∧ (fld b 4 1 < 64 ∨ fld b 4 1 = 0xFF) ∧ (fld b 5 1 < 64 ∨ fld b 5 1 = 0xFF)
      ∧ zero b 6 26 ∧ b.length = (if f = 1 then 5536 else 2016) ∧ Config.edKeyOk (cut b 32 32) then
    some { sealBlob := fld b 4 1, hostBlob := fld b 5 1, edPub := cut b 32 32, mlPub := cut b 64 1952
           rotation := if f = 1 then some (cut b 2016 3520) else none }
  else none

end Sys2Proof.Machine
end

