-- ==== Sys2Proof/Machine/Joins.lean ====
section
/-! DEFINITION. The checks that join several records of a manifest (03 R68, R597): each with the record types it joins
and the rule that states it. -/

namespace Sys2Proof.Machine

open Sys2Proof

/-- What joining checks see: the records read so far, and from the unit the mooring record in use. -/
structure JoinIn where
  m : Manifest
  moor : Option Mooring
  headerOwner : Bytes

/-- A joining check: the types it joins, and whether it holds. -/
abbrev Join := List Nat × (JoinIn → Bool)

/-- A span of words covers whole elements of one region of a kind (12 R337, 10 R293). -/
def spanOk (d : DataArea) (kind first words : Nat) : Bool :=
  (regionAt d first).any fun r =>
    r.kind == kind && (first - r.first) % codeWords r.ty == 0 && words % codeWords r.ty == 0 && decide (first + words ≤ r.past)

/-- Words of the type of a variable. -/
def widthAt (d : DataArea) (i : Nat) : Nat := ((regionAt d i).map fun r => codeWords r.ty).getD 1

/-- Start mark of a task. -/
def startMarks (m : Manifest) (t : Nat) : List TideMark := (marksOf m.tide.marks 2).filter (·.param == t)

/-- R35 rules 2, 3 and 7 for tasks: start marks, the scan period, and what each names. -/
def taskMarksOk (m : Manifest) : Bool :=
  let per := m.tasks.tasks.filter (·.trigger == 1)
  (marksOf m.tide.marks 2).all (fun k => per.any (·.num == k.param))
    && per.all (fun t => match startMarks m t.num with
      | [k] => decide (k.modulus ≤ 3000)
      | _ => false)
    && (startMarks m m.tasks.stateTask).all fun k =>
      k.offset == 0 && k.angle == 0 && decide (k.modulus ≤ 250)
        && (marksOf m.tide.marks 1).all fun b => b.modulus % k.modulus == 0

/-- R35 rule 5 and rule 7 for loop groups, and R306: every group is sampled, evenly. -/
def loopMarksOk (m : Manifest) : Bool :=
  let ks := marksOf m.tide.marks 3
  let groups := (m.loops.map (·.group)).eraseDups
  ks.all (fun k => groups.contains k.param)
    && groups.all fun g =>
      match ks.filter (·.param == g) with
      | [k] => decide (k.modulus ≤ 3000)
      | [a, b] => a.modulus == 1 && b.modulus == 1 && (a.angle == b.angle + 32768 || b.angle == a.angle + 32768)
      | _ => false

/-- Sample period of a loop group as a quotient of milliseconds: N · 10^6 over mHz, half that for two marks
(11 R307). -/
def sampleMs (m : Manifest) (g : Nat) : Nat × Nat :=
  match (marksOf m.tide.marks 3).filter (·.param == g) with
  | [k] => (k.modulus * 1000000, m.tide.nominal)
  | _ => (500000, m.tide.nominal)

/-- Cycle times and setpoint-rate times against the sample period (11 R306). -/
def loopTimesOk (m : Manifest) : Bool :=
  m.loops.all fun l =>
    let (a, f) := sampleMs m l.group
    (l.outKind != 1 || l.cycleTime * f % a == 0) && decide (l.tr * f ≤ 100 * a)

/-- R35 rule 6 and rule 7 for launch groups. -/
def launchMarksOk (m : Manifest) : Bool :=
  let n := (m.stations.map (·.groups.length)).getD 0
  let ks := marksOf m.tide.marks 4
  ks.all (fun k => decide (k.param < n) && k.modulus == scanPeriod m)
    && (List.range n).all fun g => (ks.filter (·.param == g)).length == 1

/-- Apply offsets end within a scan period (12 R335). -/
def applyOk (m : Manifest) : Bool :=
  ((m.stations.map (·.groups)).getD []).all fun a => decide (a < 65536 * scanPeriod m)

/-- The entry POU of each task is a program of the code image (10 R276). -/
def entriesOk (m : Manifest) : Bool := m.tasks.tasks.all fun t => (m.code.pous[t.entry]?).any (·.kind == 1)

/-- Input image sizes (10 R276). -/
def imagesOk (m : Manifest) : Bool :=
  m.tasks.tasks.all fun t => decide (4 * (loadWords m.code m.data t).length ≤ t.imageSize)

/-- Awaited launch groups (10 R276, R602). -/
def awaitsOk (m : Manifest) : Bool :=
  m.tasks.tasks.all fun t =>
    match t.await with
    | none => true
    | some g =>
      let p := scanPeriod m * 65536
      decide (g < (m.stations.map (·.groups.length)).getD 0) && (startMarks m t.num).all fun k =>
        let s := k.offset * 65536 + k.angle
        let l := groupSteps m g
        k.modulus == scanPeriod m && decide (deadlineSteps m g < if l < s then s - l else s + p - l)

/-- Problems and templates (06 R147). -/
def problemsOk (m : Manifest) : Bool :=
  (m.problems.all fun c => (m.templates[c.template]?).any fun t => t.classP == numClassP c.num)
    && (List.range m.templates.length).all fun k => m.problems.any (·.template == k)

/-- Run-ahead needs a prediction model (06 R147). -/
def modelsOk (m : Manifest) : Bool := m.problems.all fun c => !c.runAhead || m.models.any (·.template == c.template)

/-- A prediction model fits its template, which has no other (06 R173). -/
def modelOk (m : Manifest) (x : PredModel) : Bool :=
  ((m.templates[x.template]?).any fun t => decide (1 ≤ t.nx) && t.nx == x.nx && t.nu == x.nu)
    && !(m.models.any (·.template == x.template))

/-- A first-move variable of a defined problem (08 R218, R219). -/
def firstMove (m : Manifest) (n i : Nat) : Bool :=
  (m.problems.find? (·.num == n)).any fun c => (m.templates[c.template]?).any fun t => decide (i < t.nu)

/-- Coupling terms and handover sources (08 R218, R219). -/
def couplingOk (m : Manifest) : Bool :=
  m.coupling.all fun k =>
    k.cons.all (fun c => c.terms.all fun t => firstMove m t.problem t.var)
      && k.handover.all fun h => firstMove m h.problem h.var

/-- Handover destinations, price variables and the status variable (08 R220). -/
def handoverOk (m : Manifest) : Bool :=
  m.coupling.all fun k =>
    (k.handover.all fun h =>
      if h.kind = 1 then m.loops.any (·.num == h.dest) else elementOf m.data [2] (if h.kind = 2 then 11 else 4) h.dest)
      && (k.cons.filterMap (·.priceVar)).all (elementOf m.data [2] 4)
      && k.statusVar.toList.all (elementOf m.data [2] 4)

/-- Types and regions of the loops' measure and destination variables, and their scales (11 R305, R306). -/
def loopVarsOk (m : Manifest) : Bool :=
  m.loops.all fun l =>
    (match l.measure with
      | .variable => [3, 4, 7, 8, 10, 11].any fun t => elementOf m.data [2] t l.measVar
      | _ => true)
    && (if 2 ≤ l.outKind then
        let k := if l.outKind = 2 then 3 else 2
        ([4, 10, 11].any fun t => elementOf m.data [k] t l.dest)
          && (!elementOf m.data [k] 4 l.dest || (l.scaleLow == 0 && l.scaleHigh == 0))
      else l.scaleLow == 0 && l.scaleHigh == 0)

/-- Variables that handover entries write, with their words. -/
def handoverSpans (m : Manifest) : List (Nat × Nat) :=
  (m.coupling.map fun k => (k.handover.filter (·.kind != 1)).map fun h => (h.dest, if h.kind = 2 then 2 else 1)).getD []

/-- Variables that the coupling record writes: handover, prices, status. -/
def couplingSpans (m : Manifest) : List (Nat × Nat) :=
  handoverSpans m ++ (m.coupling.map fun k => (k.cons.filterMap (·.priceVar) ++ k.statusVar.toList).map fun i => (i, 1)).getD []

/-- Input variables that loops write. -/
def loopSpans (m : Manifest) : List (Nat × Nat) :=
  (m.loops.filter (·.outKind == 3)).map fun l => (l.dest, widthAt m.data l.dest)

/-- Input variables that stations write. -/
def stationSpans (m : Manifest) : List (Nat × Nat) :=
  (m.stations.map fun t => t.stations.flatMap fun c =>
    c.inputs.map (fun (i, n, _) => (i, n)) ++ c.statusVar.toList.map fun i => (i, 1)).getD []

/-- Input variables that the field channels write. -/
def fieldSpans (m : Manifest) : List (Nat × Nat) :=
  (m.field.map fun f => ((f.chans.filter (·.mode == .input)).filterMap (·.bind) ++ f.chans.filterMap (·.sbind)
    ++ f.faultVar.toList).map fun i => (i, 1)).getD []

/-- Input variables that the meters write. -/
def meterSpans (m : Manifest) : List (Nat × Nat) :=
  (m.meters.map fun r => r.meters.flatMap fun c =>
    c.totalVar.toList.map (fun i => (i, 2)) ++ c.accVar.toList.map (fun i => (i, 8))
      ++ c.tariffVar.toList.map fun i => (i, 1)).getD []

/-- No span of one list meets one of another. -/
def apart (a b : List (Nat × Nat)) : Bool := a.all fun x => b.all fun y => decide (x.1 + x.2 ≤ y.1 ∨ y.1 + y.2 ≤ x.1)

/-- Variables that TIC code can store to (11 R306): an indexed store reaches its whole region. -/
def codeStores (m : Manifest) : List (Nat × Nat) :=
  let direct := m.code.pous.flatMap fun p => (((pouIns m.code p).getD []).filter (!·.relative)).map fun i => (i, i.opnd)
  (direct ++ m.tasks.tasks.flatMap (taskAccesses m.code)).filterMap fun (i, a) =>
    if i.op = 0x03 ∨ i.op = 0x04 then some (a, codeWords i.ty)
    else if i.op = 0x08 then (regionAt m.data a).map fun r => (r.first, r.past - r.first)
    else none

/-- Loop destinations against handover, stations and TIC code (11 R306). -/
def loopStoresOk (m : Manifest) : Bool :=
  apart ((m.loops.filter (·.outKind == 2)).map fun l => (l.dest, widthAt m.data l.dest)) (codeStores m)

/-- A channel of the field I/O setup. -/
def fieldChan (m : Manifest) (n : Nat) : ChannelCfg := ((m.field.map (·.chans)).getD []).getD n {}

/-- Channels of a mask. -/
def maskBits (w : Nat) : List Nat := (List.range 32).filter fun n => w / 2 ^ n % 2 == 1

/-- Loop channels against the field I/O setup (11 R306). -/
def loopChannelsOk (m : Manifest) : Bool :=
  m.loops.all fun l =>
    (l.measure == .variable || (fieldChan m l.channel).mode == .input)
      && (l.outKind != 1 || (maskBits l.dest).all fun n => (fieldChan m n).mode == .output && (fieldChan m n).bind.isNone)

/-- A mask names all or none of each parallel set (15 R429). -/
def wholeSets (m : Manifest) (w : Nat) : Bool :=
  (List.range 4).all fun g => (List.range 4).all fun k =>
    let set := (List.range 8).map (8 * g + ·) |>.filter fun n => (fieldChan m n).pset == k + 1
    let named := set.filter fun n => w / 2 ^ n % 2 == 1
    named.isEmpty || named.length == set.length

/-- Masks against parallel sets, and channels against the mooring record in use (15 R429). -/
def fieldMasksOk (x : JoinIn) : Bool :=
  (x.m.loops.all fun l => l.outKind != 1 || wholeSets x.m l.dest)
    && x.moor.all fun r =>
      (r.ilks.all fun k => !k.persistent || wholeSets x.m k.mask.toNat)
        && (r.chans.zipIdx).all fun (c, n) =>
          let f := (fieldChan x.m n).mode
          !((c.mode == .input && f == .output) || (c.mode == .output && f == .input))

/-- Bound variables of the field channels (15 R427, R428). -/
def fieldVarsOk (m : Manifest) : Bool :=
  m.field.all fun f =>
    (f.faultVar.toList.all (elementOf m.data [2] 1)) && f.chans.all fun c =>
      c.bind.toList.all (elementOf m.data [if c.mode == .input then 2 else 3] 1)
        && c.sbind.toList.all (elementOf m.data [2] 6)

/-- Override groups against the loop table (11 R316). -/
def overridesOk (m : Manifest) : Bool :=
  m.overrides.all fun g =>
    let ls := g.map fun n => m.loops.find? (·.num == n)
    match ls with
    | some a :: r =>
      a.outKind != 0 && a.ti != 0 && r.all fun l => l.any fun l => l.group == a.group && l.ti != 0 && l.outKind == 0
    | _ => false

/-- Station map entries and status variables (12 R337, R338). -/
def stationVarsOk (m : Manifest) : Bool :=
  m.stations.all fun t => t.stations.all fun c =>
    c.outputs.all (fun (i, n) => spanOk m.data 3 i n) && c.inputs.all (fun (i, n, _) => spanOk m.data 2 i n)
      && c.statusVar.toList.all (elementOf m.data [2] 8)

/-- Values that one-word variables of a span hold (12 R340). -/
def spanHolds (d : DataArea) (i : Nat) (ws : List Word) : Bool :=
  (ws.zipIdx).all fun (w, k) => match (regionAt d (i + k)).bind fun r => tyOfCode r.ty with
    | some t => tyWords t == 2 || wordHolds t w
    | none => false

/-- Values of a station's input words, entry by entry. -/
def inputsHold (d : DataArea) : List (Nat × Nat × Nat) → List Word → Bool
  | [], _ => true
  | (i, n, _) :: r, ws => spanHolds d i (ws.take n) && inputsHold d r (ws.drop n)

/-- Substitute values: one entry for each class C station (12 R340). -/
def substOk (m : Manifest) : Bool :=
  match m.stations with
  | none => true
  | some t =>
    let cs := t.stations.filter (·.cfgC)
    (t.subst.map (·.station)) == cs.map (·.num) && (t.subst.zip cs).all fun (x, c) =>
      x.values.all fun ws => ws.length == ((c.inputs.map fun e => e.2.1).sum) && inputsHold m.data c.inputs ws

/-- A port is enabled. -/
def portEnabled (m : Manifest) (p : Nat) : Bool := (m.net.bind fun n => n.ports[p]?).any (·.enabled)

/-- Station port masks, and the need for a PTP port (12 R338, 13 R371). -/
def stationPortsOk (m : Manifest) : Bool :=
  m.stations.all fun t =>
    (t.stations.all fun c => (maskPorts c.portsA ++ maskPorts c.portsB).all (portEnabled m))
      && ((t.groups.all (· == 0) && t.stations.all (fun c => !c.cfgC)) || (m.net.any fun n => n.ports.any (·.ptp)))

/-- Key blobs that the network setup names (13 R371). -/
def netKeysOk (m : Manifest) : Bool :=
  let fits := fun (usage k : Nat) => k == 0xFF || m.blobs.any fun b => b.num == k && b.usage == usage && b.purpose == 1
  m.net.all fun n => n.ports.all (fun p => p.txKeys.all (fits 1)) && n.chans.all fun c => c.keys.all (fits 2)

/-- Key blobs that the trust record names (18 R510). -/
def trustKeysOk (m : Manifest) : Bool :=
  let fits := fun (purpose k : Nat) => k == 0xFF || m.blobs.any fun b => b.num == k && b.purpose == purpose
  fits 2 m.trust.sealBlob && fits 3 m.trust.hostBlob

/-- Health frames (14 R394). -/
def healthPortsOk (m : Manifest) : Bool :=
  m.pair.all fun p => (maskPorts p.healthPorts).all fun k => (m.net.bind fun n => n.ports[k]?).any (·.mgmt)

/-- The health frames' EtherType, where the record names one, differs from the stations' (14 R394). -/
def etherTypesOk (m : Manifest) : Bool :=
  m.pair.all fun p => p.healthEtype == 0 || m.stations.all fun t => t.etype != p.healthEtype

/-- T_SAFE in a pair (14 R395). -/
def tSafeOk (m : Manifest) : Bool := m.pair.all fun p => m.field.all fun f => f.tsafe.all fun t => decide (p.minTsafe ≤ t)

/-- Meter channels (16 R453, R456). -/
def meterChannelsOk (m : Manifest) : Bool :=
  m.meters.all fun r => r.meters.all fun c => (fieldChan m c.input).mode == .input

/-- Meter bindings, and the tariff check mark they need (16 R453, R456). -/
def meterVarsOk (m : Manifest) : Bool :=
  m.meters.all fun r => r.meters.all fun c =>
    c.totalVar.toList.all (elementOf m.data [2] 9)
      && c.accVar.toList.all (fun i => elementOf m.data [2] 9 i && spanOk m.data 2 i 8)
      && c.tariffVar.toList.all (elementOf m.data [2] 6)

/-- A meter binding needs a tariff check mark (16 R456). -/
def meterMarkOk (m : Manifest) : Bool :=
  (meterSpans m).isEmpty || !(marksOf m.tide.marks 7).isEmpty

/-- Routes name event tasks (17 R478). -/
def routeTasksOk (m : Manifest) : Bool :=
  (m.routes.getD []).all fun r => r.task.all fun t => m.tasks.tasks.any fun k => k.num == t && k.trigger == 2

/-- Subjects of the placement constraints (05 R118). -/
def subjectsOk (m : Manifest) : Bool :=
  m.cons.all fun c =>
    let ok := fun n =>
      if c.subject = 1 then m.problems.any (·.num == n)
      else if c.subject = 2 then m.tasks.tasks.any (·.num == n)
      else (m.stations.map (·.stations)).getD [] |>.any (·.num == n)
    ok c.a && ok c.b

/-- Retained entries cover whole elements of a retain region (10 R293). -/
def retainOk (m : Manifest) : Bool := (m.retain.getD []).all fun (i, n) => spanOk m.data 4 i n

/-- Force permissions cover whole elements of one input or output region (10 R295). -/
def forcesOk (m : Manifest) : Bool :=
  m.force.all fun f => f.entries.all fun (i, n) =>
    let w := n * widthAt m.data i
    spanOk m.data 2 i w || spanOk m.data 3 i w

/-- The joining checks with the record types that each joins (03 R597). -/
def joins : List Join :=
  [([0x01], fun x => decide (ownerId (x.m.trust.edPub, x.m.trust.mlPub) = x.headerOwner)),
   ([0x01, 0x90], fun x => trustKeysOk x.m),
   ([0x03, 0x11], fun x => taskMarksOk x.m),
   ([0x10, 0x11], fun x => entriesOk x.m),
   ([0x03, 0x11, 0x40], fun x => awaitsOk x.m),
   ([0x10, 0x11, 0x12], fun x => operandsOk x.m.code x.m.tasks.tasks x.m.data && imagesOk x.m
      && timersOk x.m.code x.m.tasks.tasks),
   ([0x12, 0x13], fun x => retainOk x.m),
   ([0x12, 0x14], fun x => forcesOk x.m),
   ([0x10, 0x20, 0x30], fun x => numbersOk x.m.code (x.m.problems.map (·.num)) (x.m.loops.map (·.num))),
   ([0x20, 0x21], fun x => problemsOk x.m),
   ([0x20, 0x21, 0x22], fun x => modelsOk x.m),
   ([0x20, 0x21, 0x23], fun x => couplingOk x.m),
   ([0x12, 0x23, 0x30], fun x => handoverOk x.m),
   ([0x03, 0x30], fun x => loopMarksOk x.m && loopTimesOk x.m),
   ([0x12, 0x30], fun x => loopVarsOk x.m),
   ([0x23, 0x30], fun x => apart (loopSpans x.m) (handoverSpans x.m)),
   ([0x10, 0x11, 0x12, 0x30], fun x => loopStoresOk x.m),
   ([0x30, 0x31], fun x => overridesOk x.m),
   ([0x03, 0x11, 0x12, 0x40], fun x => launchMarksOk x.m && applyOk x.m),
   ([0x12, 0x40], fun x => stationVarsOk x.m && rangesDisjoint (stationSpans x.m)),
   ([0x23, 0x30, 0x40], fun x => apart (stationSpans x.m) (couplingSpans x.m ++ loopSpans x.m)),
   ([0x12, 0x40, 0x41], fun x => substOk x.m),
   ([0x40, 0x50], fun x => stationPortsOk x.m),
   ([0x50, 0x90], fun x => netKeysOk x.m),
   ([0x04, 0x50], fun x => healthPortsOk x.m),
   ([0x04, 0x40], fun x => etherTypesOk x.m),
   ([0x04, 0x60], fun x => tSafeOk x.m),
   ([0x30, 0x60], fun x => loopChannelsOk x.m),
   ([0x60], fieldMasksOk),
   ([0x12, 0x60], fun x => fieldVarsOk x.m),
   ([0x23, 0x30, 0x40, 0x60], fun x => rangesDisjoint (fieldSpans x.m)
      && apart (fieldSpans x.m) (couplingSpans x.m ++ loopSpans x.m ++ stationSpans x.m)),
   ([0x60, 0x70], fun x => meterChannelsOk x.m),
   ([0x12, 0x70], fun x => meterVarsOk x.m && rangesDisjoint (meterSpans x.m)),
   ([0x03, 0x70], fun x => meterMarkOk x.m),
   ([0x23, 0x30, 0x40, 0x60, 0x70],
     fun x => apart (meterSpans x.m) (couplingSpans x.m ++ loopSpans x.m ++ stationSpans x.m ++ fieldSpans x.m)),
   ([0x11, 0x80], fun x => routeTasksOk x.m),
   ([0x11, 0x20, 0x40, 0xA0], fun x => subjectsOk x.m)]

end Sys2Proof.Machine
end

