-- ==== Sys2Proof/Machine/Verify.lean ====
section
/-! DEFINITION. Verification of a manifest slot in the order of 03 R71, up to adoption. -/

namespace Sys2Proof.Machine

open Sys2Proof

/-- Reading the flash: from the address `fail` on, if any, it does not answer (03 R71). -/
def readFlash (s : State) (fail : Option Nat) (a n : Nat) : Option Bytes :=
  if fail.any fun f => decide (f < a + n) then none else some (flashRead s a n)

/-- Step OWNER_KEY: the signing pair, and what adoption makes of it (18 R511, R512). -/
inductive OwnerStep where
  | same | first | rotate
  deriving DecidableEq, Repr

/-- A manifest that has passed every check, with its full placement. -/
structure Verified where
  m : Manifest
  slot : Nat
  seq : Nat
  floor : Nat
  digest : Bytes
  owner : OwnerStep
  place : FullPlace
  deriving Repr

/-- Result of a verification: the signature results where evaluated (03 R71, R72). -/
inductive VerifyRes where
  | refuse (reason : Nat) (index : Nat) (sig : Option (Bool × Bool))
  | ok (v : Verified)
  deriving Repr

/-- Instances that a type code allows; 0 for a reserved code (03 R67). -/
def maxInstances (ty : Nat) : Nat :=
  if ty ∈ [0x01, 0x02, 0x03, 0x04, 0x05, 0x10, 0x11, 0x12, 0x13, 0x14, 0x20, 0x23, 0x30, 0x31, 0x40, 0x41, 0x50, 0x60, 0x70,
    0x80, 0xA0] then 1
  else if ty = 0x21 ∨ ty = 0x22 then 1040
  else if ty = 0x90 then 64
  else 0

/-- One table entry: type, offset, length (03 R65). -/
structure RecEntry where
  ty : Nat
  off : Nat
  len : Nat
  deriving DecidableEq, Repr

/-- A number rounded up to a multiple of 8. -/
def pad8 (n : Nat) : Nat := (n + 7) / 8 * 8

/-- One record table entry (03 R65). -/
def parseEntry (b : Bytes) : Option RecEntry :=
  if zero b 2 2 ∧ inRange (fld b 8 4) 1 0xFFFFFFFE ∧ 0 < maxInstances (fld b 0 2) then
    some { ty := fld b 0 2, off := fld b 4 4, len := fld b 8 4 }
  else none

/-- The records follow one another from `a` on, with no gap but padding (03 R66); answers their end. -/
def layoutEnd : Nat → List RecEntry → Option Nat
  | a, [] => some a
  | a, e :: r => if e.off = pad8 a then layoutEnd (e.off + e.len) r else none

/-- Padding bytes that must be zero: address and count, from `a` on (03 R66). -/
def paddings : Nat → List RecEntry → List (Nat × Nat)
  | a, [] => [(a, pad8 a - a)]
  | a, e :: r => (a, pad8 a - a) :: paddings (e.off + e.len) r

/-- Types in non-decreasing order. -/
def ordered : List Nat → Bool
  | a :: b :: r => decide (a ≤ b) && ordered (b :: r)
  | _ => true

/-- The record table of a manifest that passes R65 to R68's table rules. -/
def checkTable (table : Bytes) (count total sigOff : Nat) : Option (List RecEntry) := do
  let l ← (entriesOf table 0 12 count).mapM parseEntry
  let tys := l.map (·.ty)
  let e ← layoutEnd (64 + 12 * count) l
  need (ordered tys && sigOff == pad8 e && total == sigOff + sigLength && decide (total ≤ 0x04000000))
  need ([0x01, 0x02, 0x03, 0x10, 0x11, 0x12].all tys.contains
    && tys.all fun t => decide ((tys.filter (· == t)).length ≤ maxInstances t))
  some l

/-- The OWNER_KEY step (18 R511): the key pair that signs and what adoption does, none where it refuses. -/
def ownerStep (s : State) (owner trust : Bytes) : Option (OwnerStep × (Bytes × Bytes)) :=
  let d := s.mram.dev
  let new := (cut trust 32 32, cut trust 64 1952)
  match d.owner with
  | some k =>
    if ownerId k = owner then some (.same, k)
    else
      let b := trust.drop 2088
      let g := sigVerify k "UL-7160 rotation" b
      if fld trust 2 1 % 2 = 1 ∧ trust.length = 5536 ∧ cut trust 2016 8 = ownerId k
          ∧ cut trust 2024 64 = Config.sha512 (cut trust 32 1984) ∧ sigForm b ∧ sigDigestOk b (cut trust 2016 72)
          ∧ g.1 ∧ g.2 then some (.rotate, new)
      else none
  | none =>
    if d.armed = some ((Config.sha512 (cut trust 32 1984)).take 32) then some (.first, new) else none

/-- Read one record into the manifest, by its own rules (03 R71, R597). -/
def addRecord (m : Manifest) (index ty : Nat) (b : Bytes) : Option Manifest :=
  if ty = 0x01 then (parseTrust b).map fun x => { m with trust := x }
  else if ty = 0x02 then (parsePolicy b).map fun x => { m with policy := x }
  else if ty = 0x03 then (parseTide b).map fun x => { m with tide := x, tideRaw := b }
  else if ty = 0x04 then (parsePair b).map fun x => { m with pair := some x, pairRaw := b }
  else if ty = 0x05 then (parseClock b).map fun x => { m with clock := some x }
  else if ty = 0x10 then (checkCode b).map fun x => { m with code := x }
  else if ty = 0x11 then (parseTasks b).map fun x => { m with tasks := x }
  else if ty = 0x12 then (parseData b).map fun x => { m with data := x }
  else if ty = 0x13 then (parseRetain b).map fun x => { m with retain := some x, retainRaw := b }
  else if ty = 0x14 then (parseForce b).map fun x => { m with force := some x }
  else if ty = 0x20 then (parseProblems b).map fun x => { m with problems := x }
  else if ty = 0x21 then (parseTemplate index b).map fun x => { m with templates := m.templates ++ [x] }
  else if ty = 0x22 then
    (parseModel b).bind fun x => if modelOk m x then some { m with models := m.models ++ [x] } else none
  else if ty = 0x23 then (parseCoupling index b).map fun x => { m with coupling := some x }
  else if ty = 0x30 then (parseLoops b).map fun x => { m with loops := x }
  else if ty = 0x31 then (parseOverrides b).map fun x => { m with overrides := x }
  else if ty = 0x40 then (parseStations b).map fun x => { m with stations := some x }
  else if ty = 0x41 then
    (parseSubst b).bind fun x => match m.stations with
      | some t => some { m with stations := some { t with subst := x } }
      | none => if x.isEmpty then some m else none
  else if ty = 0x50 then (parseNet b).map fun x => { m with net := some x }
  else if ty = 0x60 then (parseField b).map fun x => { m with field := some x }
  else if ty = 0x70 then (parseMeters b).map fun x => { m with meters := some x }
  else if ty = 0x80 then (parseRoutes b).map fun x => { m with routes := some x }
  else if ty = 0x90 then
    (parseBlobRecord b).bind fun x => match x with
      | none => some m
      | some k => if m.blobs.any (·.num == k.num) then none else some { m with blobs := m.blobs ++ [k] }
  else (parseConsRecord b).map fun x => { m with cons := x }

/-- Position of the last record of one of some types (03 R597). -/
def lastOf (types : List Nat) (tys : List Nat) : Option Nat :=
  (tys.zipIdx.filter fun x => types.contains x.1).getLast?.map (·.2)

/-- The joining checks that fall to the record at an index hold (03 R597). -/
def joinsHold (x : JoinIn) (tys : List Nat) (index : Nat) : Bool :=
  joins.all fun (types, f) => lastOf types tys != some index || f x

/-- Check the records in table order; answers the manifest or the index of the failing record (03 R71, R597). -/
def checkRecords (moor : Option Mooring) (owner : Bytes) (tys : List Nat) : List (Nat × Bytes) → Nat → Manifest → Manifest ⊕ Nat
  | [], _, m => .inl m
  | (ty, b) :: r, i, m =>
    match addRecord m i ty b with
    | none => .inr i
    | some m =>
      if joinsHold { m := m, moor := moor, headerOwner := owner } tys i then checkRecords moor owner tys r (i + 1) m
      else .inr i

/-- Data of a problem from its template (06 R144, R149, R165). -/
def initialProblem (c : ProblemCfg) (t : Template) : ProbData :=
  { p := t.pVal, a := t.aVal, q := t.q, lo := t.lo, hi := t.hi
    scen := (List.replicate (c.scenarios - 1) t.scenVal).flatten, x0 := t.x0, xPred := List.replicate t.nx 0 }

/-- S of a first-move variable: the sum of λmax · |a| over the terms that name it (06 R156, 08 R222). -/
def priceReach (k : Coupling) (n i : Nat) : Up :=
  k.cons.foldl (fun a c =>
    c.terms.foldl (fun a t =>
      if t.problem = n ∧ t.var = i then upAdd a (upMul (upRaw c.lmax c.fmtPrice) (upRaw t.coef 24)) else a) a) ⟨0, 0⟩

/-- n · 2^e rounded toward +infinity to 53 bits is below m · 2^f (06 R156). -/
def upBelow (n e m f : Int) : Bool :=
  let k := bitLen n.natAbs - 53
  let r := if n < 0 then -((n.natAbs / 2 ^ k * 2 ^ k : Nat) : Int) else ((n.natAbs + 2 ^ k - 1) / 2 ^ k * 2 ^ k : Nat)
  let g := min e f
  decide (r * 2 ^ (e - g).toNat < m * 2 ^ (f - g).toNat)

/-- An initial value moved by S in either direction stays in the box of q, and S fits its format (08 R222). -/
def reachOk (t : Template) (s : Up) (q : Int) : Bool :=
  let f : Int := -(t.fmt fq : Int)
  let (lo, hi) := t.box fq
  let g := min s.e f
  let sv : Int := (s.m : Int) * 2 ^ (s.e - g).toNat
  let qv := q * 2 ^ (f - g).toNat
  !upBelow (qv - sv) g lo f && decide (qv + sv ≤ hi * 2 ^ (f - g).toNat) && upLe s ⟨2147483647, f⟩

/-- The price ranges of the coupling record fit the problems that its terms name (08 R222). -/
def couplingFits (m : Manifest) (k : Coupling) : Bool :=
  k.cons.all fun c => c.terms.all fun x =>
    ((m.problems.find? (·.num == x.problem)).bind fun p => (m.templates[p.template]?).map fun t => (p, t)).all fun (p, t) =>
      let s := priceReach k x.problem x.var
      (List.range p.scenarios).all fun j => reachOk t s ((scenQ t (initialProblem p t) j).getD x.var 0)

/-- The record of the first RANGE refusal: the structure record of the first problem whose certificate fails, else the
coupling record (06 R155, 08 R222). -/
def rangeFails (m : Manifest) : Option Nat :=
  (m.problems.findSome? fun c =>
    (m.templates[c.template]?).bind fun t =>
      if certificateOk t (m.models.find? (·.template == c.template)) c then none else some t.recIndex).or
    (m.coupling.bind fun k => if couplingFits m k then none else some k.recIndex)

/-- e0 of a full placement: the stored faulty marks, with the partner's (05 R129). -/
def e0Of (s : State) : BitVec 64 × BitVec 5 :=
  (s.mram.dev.faultTiles ||| s.place.peer.e0Tiles, s.mram.dev.faultCores ||| s.place.peer.e0Cores)

/-- The checks of R71 from the records on, over the bytes before the signature block. -/
def verifyBody (s : State) (object : Bytes) (entries : List RecEntry) (sig : Bool × Bool) (v : Verified) (owner : Bytes) :
    VerifyRes :=
  let tys := entries.map (·.ty)
  match checkRecords s.moor.record owner tys (entries.map fun e => (e.ty, cut object e.off e.len)) 0 {} with
  | .inr i => .refuse 0x10 i (some sig)
  | .inl m =>
    match rangeFails m with
    | some i => .refuse 0x11 i (some sig)
    | none =>
      let (e0t, e0c) := e0Of s
      match fullPlacement m (s.mram.dev.placeEpoch + 1).toNat e0t e0c with
      | .refuse ty => .refuse 0x12 (tys.idxOf ty) (some sig)
      | p => .ok { v with m := m, place := p }

/-- The checks of R71 from the table on. -/
def verifyTable (s : State) (fail : Option Nat) (base : Nat) (h : Bytes) (v : Verified) : VerifyRes :=
  let total := fld h 12 4
  let count := fld h 18 2
  let sigOff := fld h 40 4
  let owner := cut h 32 8
  let no := fun r => VerifyRes.refuse r 0 none
  match readFlash s fail (base + 64) (12 * count) with
  | none => no 0x01
  | some table =>
    match checkTable table count total sigOff with
    | none => no 0x0C
    | some entries =>
      match (paddings (64 + 12 * count) entries).mapM fun (a, n) => readFlash s fail (base + a) n with
      | none => no 0x01
      | some pads =>
        if !(pads.all fun p => p.all (· == 0)) then no 0x0C
        else
          let trust := (entries.find? (·.ty == 0x01)).getD { ty := 0x01, off := 0, len := 0 }
          match readFlash s fail (base + trust.off) trust.len with
          | none => no 0x01
          | some tb =>
            match ownerStep s owner tb with
            | none => no 0x0B
            | some (step, key) =>
              match readFlash s fail (base + sigOff) sigLength with
              | none => no 0x01
              | some sb =>
                if !sigForm sb then no 0x0D
                else match readFlash s fail base sigOff with
                  | none => no 0x01
                  | some object =>
                    if !sigDigestOk sb object then no 0x0E
                    else
                      let g := sigVerify key "UL-7160 manifest" sb
                      if !(g.1 && g.2) then .refuse 0x0F 0 (some g)
                      else verifyBody s object entries g { v with digest := cut sb 8 64, owner := step } owner

/-- Verify a manifest slot against an expected sequence (03 R71). R71 has no check that the header's Sequence lies in the
range of R64, and the model makes none. DESIGN CHOICE, log entry 66. -/
def verifyManifest (s : State) (slot expected : Nat) (fail : Option Nat) : VerifyRes :=
  let base := manBase slot
  let no := fun r => VerifyRes.refuse r 0 none
  match readFlash s fail base 64 with
  | none => no 0x01
  | some h =>
    let total := fld h 12 4
    let count := fld h 18 2
    let seq := fld h 20 4
    let floor := fld h 24 4
    if h.all (· == 0xFF) then no 0x04
    else if cut h 0 8 ≠ [0x55, 0x4C, 0x4D, 0x46, 0x37, 0x31, 0x36, 0x30] ∨ fld h 8 2 ≠ 1 ∨ fld h 10 2 ≠ 64 ∨ !zero h 17 1
        ∨ !zero h 44 20 ∨ seq < floor then no 0x05
    else if fld h 16 1 ≠ slot then no 0x06
    else if total < 3576 ∨ 0x04000000 < total ∨ count = 0 ∨ 4096 < count then no 0x07
    else if fld h 28 4 ≠ 0x7160 then no 0x08
    else if seq ≠ expected then no 0x09
    else if seq < s.mram.dev.floor.toNat then no 0x0A
    else
      let v : Verified := { m := {}, slot := slot, seq := seq, floor := floor, digest := [], owner := .same, place := .refuse 0 }
      verifyTable s fail base h v

end Sys2Proof.Machine
end

