-- ==== Sys2Proof/Machine/Adopt.lean ====
section
/-! DEFINITION. Adoption of a verified manifest: the MRAM transaction, the restart kind, and the initial state of every
block (03 R73, 04 R99 to R103, 05 R116, 06 R165, 07 R198, R212, 08 R239, 10 R291, 18 R512 to R517). -/

namespace Sys2Proof.Machine

open Sys2Proof

/-- The restart kind of a start, true cold (04 R101, R110). -/
def coldStart (p : Policy) (c : Cause) : Bool :=
  match c with
  | .powerOn => p.coldPowerOn
  | .resetPin => p.coldResetPin
  | .watchdog => p.coldWatchdog
  | .powerFail => p.coldPowerFail
  | .hostWarm => false
  | .hostCold => true
  | .hostDefault => p.coldHostDefault

/-- The SEAL key of a seal blob, or SEAL-DEFAULT (18 R516). -/
def sealKeyOf (b : Option Blob) : Bytes := (b.bind unwrapBlob).getD (deriveKey "SEAL-DEFAULT" [])

/-- A blob of the manifest by number. -/
def blobOf (m : Manifest) (n : Nat) : Option Blob := m.blobs.find? (·.num == n)

/-- Every valid save sealed again under a new key (18 R517). -/
def resealSaves (old new : Bytes) (saves : Store Bytes) : Store Bytes :=
  if old = new then saves
  else saves.map fun (k, b) => (k, if saveValid old b then b.take 1088 ++ saveSeal new (b.take 1088) else b)

/-- Keys at adoption: enrolment, blobs, and the SEAL and HOST channels (18 R512, R515 to R517). -/
def adoptKeys (v : Verified) (s : State) : State :=
  let m := v.m
  let pair := (m.trust.edPub, m.trust.mlPub)
  let s := match v.owner with
    | .same => s
    | .first => raise 202 (s.updDev fun d => { d with owner := some pair, armed := none })
    | .rotate => raise 203 (s.updDev fun d => { d with owner := some pair, predecessor := d.owner })
  let sb := blobOf m m.trust.sealBlob
  let host := blobOf m m.trust.hostBlob
  let old := sealKeyOf s.mram.dev.sealBlob
  let new := sealKeyOf sb
  let s := s.updMram fun r =>
    { r with blobs := m.blobs.foldl (fun l b => Store.set none l b.num (some b)) r.blobs, saves := resealSaves old new r.saves }
  let s := s.updDev fun d => { d with sealBlob := sb, hostBlob := host }
  s.updKeys fun k =>
    { k with sealBlob := satNat 8 m.trust.sealBlob, sealKey := some new, hostBlob := satNat 8 m.trust.hostBlob
             hostKey := host.bind unwrapBlob, held := m.blobs.foldl (fun w b => putBit w b.num true) 0 }

/-- An association with the key that a blob wraps; packet numbers begin at 1 (13 R375, R376, 18 R513). -/
def assocOf (key : Bytes) : SecAssoc := { key := key.take 32, salt := key.drop 32 }

/-- Associations of key numbers, from a slot on. -/
def assocs (m : Manifest) (first : Nat) (keys : List Nat) : List (Nat × Option SecAssoc) :=
  keys.zipIdx.filterMap fun (n, i) => ((blobOf m n).bind unwrapBlob).map fun k => (first + i, some (assocOf k))

/-- The record disables a port: its link goes down and what it holds for sending is discarded (13 R372, R388, R389). -/
def closePort (p : Nat) (s : State) : State :=
  let was := (s.port p).up
  let s := s.updPort p fun x =>
    { x with up := false, ampl := 0, changed := x.changed || x.up, q0 := [], q1 := [], q2 := [], q3 := []
             linkdown := satNat 16 (x.linkdown.toNat + x.q2.length + x.q3.length) }
  if was then raise 64 s p else s

/-- Ports at adoption: their setup and the installed associations (13 R369 to R373). -/
def adoptPorts (m : Manifest) (s : State) : State :=
  (List.range 8).foldl (fun s p =>
    let cfg := ((m.net.map (·.ports)).getD [])[p]?.getD {}
    let chans := ((m.net.map (·.chans)).getD []).filter (·.port == p)
    let rx := chans.zipIdx.flatMap fun (c, i) => assocs m (4 * i) c.keys
    let s := s.updPort p fun x => { x with cfg := cfg, txAn := 0, txSa := assocs m 0 cfg.txKeys, rxSa := rx }
    if cfg.enabled then s else closePort p s) s

/-- Hardware timers: tasks by priority and number while their instances fit the pool of 1,024 (10 R291). -/
def timerPool (m : Manifest) : Nat × List Nat :=
  if m.pair.isSome then (0, [])
  else
    (sortBy (fun a b => decide (a.prio < b.prio) || (a.prio == b.prio && decide (a.num < b.num))) m.tasks.tasks).foldl
      (fun (used, l) t =>
        let k := (taskTimers m.code t).length
        if used + k ≤ 1024 then (used + k, l ++ [t.num]) else (used, l)) (0, [])

/-- The newest complete retained copy (04 R103, R107). -/
def newestRetained (m : Mram) : Option Retained :=
  if m.retNew then (match m.ret1 with
    | some r => some r
    | none => m.ret0)
  else (match m.ret0 with
    | some r => some r
    | none => m.ret1)

/-- Restore packed words into the variables that entries name (10 R293). -/
def unpackRetained : List (Nat × Nat) → List Word → Store Word → Store Word
  | [], _, d => d
  | (i, n) :: r, ws, d => unpackRetained r (ws.drop n) (Store.setMany 0 d i (ws.take n))

/-- Data memory at adoption (04 R103): initial values, with the retained variables of a warm start. -/
def adoptData (m : Manifest) (keep : Bool) (s : State) : State :=
  let d := initialData m.data
  let d := match keep, newestRetained s.mram with
    | true, some r => unpackRetained (m.retain.getD []) r.words d
    | _, _ => d
  let (used, l) := timerPool m
  s.updScan fun x => { x with data := d, frozen := d, hwTasks := l, hwTimers := BitVec.ofNat 11 used }

/-- w of a checkpointed scenario: z + y ρ⁻¹ (07 R212). -/
def restoredW (t : Template) (rinv : Int) (z y : List Int) : List Int :=
  (z.zip y).map fun (z, y) =>
    (wrBox (t.box fw) (roundAcc (t.fmt fw) (toAcc (t.fmt fw) z + y * rinv * 2 ^ (64 - 16 - t.fmt fy)))).1

/-- The initial factor, built in place with ρ initial (07 R198), and the accepted set (07 R212, 08 R239). -/
def adoptProblem (ck : Option Checkpoint) (s : State) (c : ProblemCfg) (t : Template) : State :=
  let n := c.num
  let data := initialProblem c t
  let (ri, _) := rhoInv c.rho0
  let (b, _) := factorWhole t c data { inPlace := true, holds := true, f := { rho := c.rho0, rinv := ri } }
  let zero : IterSet := { x := List.replicate c.scenarios (List.replicate t.n 0)
                          w := List.replicate c.scenarios (List.replicate t.m 0), rho := c.rho0 }
  let block := ck.bind fun k => Store.get none (k.probs.map fun (i, x) => (i, some x)) n
  let set := match block with
    | some k => { x := k.x, w := (k.z.zip k.y).map fun (z, y) => restoredW t ri z y, rho := c.rho0 }
    | none => zero
  let bounds := allBounds c t data
  let acc : SolResult := { set := set, q := (List.range c.scenarios).map (scenQ t data), l := bounds.map (·.1)
                           u := bounds.map (·.2) }
  let s := if b.f.regs = 0 then s else raise 130 s n
  let s := if b.f.rangeSat then raise 131 s n else s
  let s := s.updProb n fun p =>
    { p with data := data, acc := acc, live := zero, lastRho := c.rho0, build := some b, prev := block.isSome }
  finishBuild n c t false s

/-- The checkpoint that a warm start with an unchanged manifest restores (08 R239). -/
def checkpointFor (m : Mram) (digest : Bytes) : Option Checkpoint :=
  match m.ck0.filter (·.digest == digest), m.ck1.filter (·.digest == digest) with
  | some a, some b => if a.seq < b.seq then some b else some a
  | some a, none => some a
  | none, b => b

/-- Problems and prices at adoption. -/
def adoptSolver (m : Manifest) (ck : Option Checkpoint) (s : State) : State :=
  let n := (m.coupling.map (·.cons.length)).getD 0
  let prices := match ck with
    | some k => k.prices
    | none => List.replicate n (0, 0)
  let s := s.updSol fun x => { x with prices := prices, accPrices := prices }
  m.problems.foldl (fun s c => match m.templates[c.template]? with
    | some t => adoptProblem ck s c t
    | none => s) s

/-- Loops at adoption (11 R313). -/
def adoptLoops (m : Manifest) (s : State) : State :=
  s.updLoop fun e => { e with loops := m.loops.foldl (fun l c => Store.set {} l c.num (loopInit c)) [], winners := [] }

/-- The full placement takes effect at adoption (05 R114, R116, R138). -/
def adoptPlace (p : FullPlace) (s : State) : State :=
  match p with
  | .refuse _ => s
  | .ok map stns slots buf nospare foot =>
    let e := s.mram.dev.placeEpoch + 1
    let s := s.updDev fun d => { d with placeEpoch := e }
    s.updPlace fun x =>
      { x with cur := map, next := none, joined := none, stns := stns, loopSlot := slots
               taskBuf := buf, epoch := e, nospare := nospare, foot := satNat 32 foot, e0Tiles := s.mram.dev.faultTiles
               e0Cores := s.mram.dev.faultCores }

/-- The tide starts in acquisition (02 R29). -/
def startAcquisition (s : State) : State :=
  s.updTide fun t => { t with mode := .acquire, validRun := 0, invalidRun := 0 }

/-- Adoption (03 R73; 04 R99 steps 0x04 to 0x06). -/
def adopt (v : Verified) (s : State) : State :=
  let d := s.mram.dev
  let cold := coldStart v.m.policy s.start.cause
  let same := d.digest == v.digest && !d.digest.isEmpty
  let keep := !cold && (same || (!v.m.retainRaw.isEmpty && d.retainRaw == v.m.retainRaw))
  let ck := if !cold && same then checkpointFor s.mram v.digest else none
  let s := { s with man := some v.m }
  let s := adoptPlace v.place s
  let s := adoptKeys v s
  let s := adoptData v.m keep s
  let s := s.updDev fun d =>
    { d with manSlot := v.slot == 2, manSeq := BitVec.ofNat 32 v.seq, floor := satNat 32 (max d.floor.toNat v.floor)
             digest := v.digest, epoch := d.epoch + 1, retainRaw := v.m.retainRaw
             wdogLimit := v.m.policy.wdogLimit }
  let s := s.updStart fun x =>
    { x with adopted := true, refused := false, step := 6, kind := cold, threshold := BitVec.ofNat 13 v.m.policy.pfailMv }
  let s := s.updEvt fun e => { e with routes := v.m.routes }
  let s := rawMeters (restoreMeters s)
  let s := adoptLoops v.m s
  let s := adoptPorts v.m s
  let s := match v.m.clock with
    | some k => if k.applyTrim then s.updCal fun c => { c with trim := BitVec.ofInt 11 k.trim } else s
    | none => s
  let s := adoptSolver v.m ck s
  startAcquisition (raise 5 s)

/-- A refusal: the reason in SYS_BOOT_STATUS, and the start held at stage 1 (03 R72, R74). -/
def refuseManifest (reason index : Nat) (s : State) : State :=
  let s := s.updHst fun h => { h with bootReason := BitVec.ofNat 8 reason, bootIndex := BitVec.ofNat 12 index }
  raise 4 (s.updStart fun x => { x with refused := true, step := if reason = 0x12 then 4 else 3 }) reason

/-- What a verification shows in SYS_BOOT_STATUS and KEY_SIGRES (20 R567, 18 R525). -/
def showVerify (slot : Nat) (other : Bool) (sig : Option (Bool × Bool)) (failed : Bool) (s : State) : State :=
  let s := s.updHst fun h =>
    { h with bootOther := other, bootSlot := slot == 2, bootReason := 0, bootIndex := 0
             bootEd := failed && (sig.any fun g => !g.1), bootMl := failed && (sig.any fun g => !g.2) }
  match sig with
  | some g => s.updKeys fun k => { k with sigMan := sigBits g }
  | none => s

/-- MANIFEST_VERIFY: the slot that the pointer block names (03 R71, R73, R74). -/
def manifestVerify (fail : Option Nat) (s : State) : State :=
  if s.start.stage = 1 ∧ s.start.step = 3 ∧ !s.start.refused then
    match s.start.pointer with
    | some p =>
      match verifyManifest s p.manSlot p.manSeq fail with
      | .refuse r i g => refuseManifest r i (showVerify p.manSlot false g (r == 0x0F) s)
      | .ok v => adopt v (showVerify v.slot false (some (true, true)) false s)
    | none => refuseManifest s.start.pointerBad 0 s
  else s

end Sys2Proof.Machine
end

