-- ==== Sys2Proof/Machine/JournalOps.lean ====
section
/-! DEFINITION. The journal's MRAM slots, flushes, the rebuild and the sealed extract (17). -/

namespace Sys2Proof.Machine

open Sys2Proof

/-- Number of journal slots (01 R10). -/
def journalSlots : Nat := 1048576

/-- Bytes of a record, with its CRC (17 R483). -/
def recBytes (r : JRec) : Bytes :=
  let b := leBytes 6 r.optime.toNat ++ leBytes 3 r.pcyc.toNat
    ++ [BitVec.ofNat 8 (r.sev.toNat + 8 * boolNat r.peer + 16 * r.order.toNat), r.source, r.sub]
    ++ leBytes 2 r.code.toNat ++ leBytes 2 r.count.toNat ++ leBytes 4 r.span.toNat ++ leBytes 8 r.payload.toNat
  b ++ leBytes 4 (crc32 b).toNat

/-- A slot holds a record whose CRC is right (17 R489). -/
def slotValid (b : Bytes) : Bool := fld b 28 4 == (crc32 (b.take 28)).toNat && !zeros b 0 32

/-- Order key of a slot: OPTIME and ORDER (17 R486). -/
def slotKey (b : Bytes) : Nat := fld b 0 6 * 16 + fld b 9 1 / 16

/-- The highest order key of the records in MRAM (17 R486). -/
def topKey : Store Bytes → Option Nat
  | [] => none
  | (_, b) :: r => if slotValid b then some (max (slotKey b) ((topKey r).getD 0)) else topKey r

/-- Severity of a slot. -/
def slotSev (b : Bytes) : Nat := fld b 9 1 % 8

/-- The free slot of lowest number: unlisted, or with a failing CRC (17 R489). -/
def freeSlot : Nat → Store Bytes → Option Nat
  | n, [] => if n < journalSlots then some n else none
  | n, (k, b) :: r =>
    if n < k then some n
    else if slotValid b then freeSlot (k + 1) r
    else some k

/-- The slot of lowest order key among those of a severity at most `sev` (17 R490). -/
def victim (sev : Nat) : Store Bytes → Option (Nat × Nat)
  | [] => none
  | (k, b) :: r =>
    match victim sev r with
    | none => if slotValid b && decide (slotSev b ≤ sev) then some (slotKey b, k) else none
    | some v => if slotValid b && decide (slotSev b ≤ sev) && decide (slotKey b < v.1) then some (slotKey b, k) else some v

/-- Write one record to MRAM, or drop it; answers whether it was dropped (17 R490). -/
def writeRec (s : State) (r : JRec) : State × Bool :=
  let put := fun (v : Nat) (s : State) =>
    s.updMram fun m => { m with journal := Store.set [] m.journal v (recBytes r) }
  match freeSlot 0 s.mram.journal with
  | some v => (put v s, false)
  | none =>
    match victim r.sev.toNat s.mram.journal with
    | some (_, v) => (put v (s.updJrn fun j => { j with overwrites := j.overwrites + 1 }), false)
    | none => (dropRecs 1 s, true)

/-- Write records in order; answers whether any was dropped. -/
def writeAll : List JRec → State → State × Bool
  | [], s => (s, false)
  | r :: l, s =>
    let (s, d) := writeRec s r
    let (s, d') := writeAll l s
    (s, d || d')

/-- Write what the running flush has taken, freeing the entries; each drop raises JRN_DROP (17 R490). -/
def writeTaken (s : State) : State :=
  let l := s.jrn.taken
  let s := s.updJrn fun j => { j with taken := [] }
  let (s, d) := writeAll l s
  if d then raise 216 s else s

/-- A journal flush has written its records; a further one starts if one was triggered meanwhile (17 R488). -/
def endFlush (s : State) : State :=
  if s.jrn.flushing then
    let s := writeTaken s
    let s := s.updJrn fun j =>
      if j.hostFlush then { j with flushing := false, hostFlush := false, busy := false, done := true }
      else { j with flushing := false }
    if s.jrn.again then
      startFlush (s.updJrn fun j => { j with again := false, hostFlush := j.hostNext, hostNext := false })
    else s
  else s

/-- JRN_CTRL.FLUSH (17 R488, R495). -/
def hostFlush (s : State) : State :=
  if s.jrn.busy then s.updJrn fun j => { j with reason := 3 }
  else
    let s := s.updJrn fun j => { j with reason := 0, busy := true, done := false }
    if s.jrn.flushing || !s.jrn.rebuilt then
      s.updJrn fun j => { j with again := true, hostNext := true }
    else startFlush (s.updJrn fun j => { j with hostFlush := true })

/-- Bytes of a journal slot. -/
def slotBytes (s : State) (k : Nat) : Bytes := slice (Store.get [] s.mram.journal k) 0 32

/-- The extract: header, slots and tag (17 R493). -/
def extractBytes (s : State) (key : Bytes) : Bytes :=
  let n := s.jrn.extCount.toNat
  let f := s.jrn.extFirst.toNat
  let h := [0x55, 0x4C, 0x4A, 0x58] ++ leBytes 2 1 ++ leBytes 2 n ++ leBytes 4 f ++ leBytes 4 0
    ++ leBytes 16 s.jrn.extNonce.toNat ++ leBytes 6 s.jrn.optime.toNat ++ leBytes 3 s.jrn.pcyc.toNat ++ leBytes 3 0
    ++ leBytes 4 s.mram.dev.drops.toNat ++ leBytes 16 0
  let b := h ++ (List.range n).flatMap (fun i => slotBytes s (f + i))
  b ++ slice (Config.kmac256 key b 32 (ascii "UL-7160 journal extract")) 0 32

/-- JRN_CTRL.EXTRACT (17 R493, R495): SEAL-DEFAULT does not count as a loaded seal blob (18 R516). -/
def startExtract (s : State) : State :=
  let n := s.jrn.extCount.toNat
  if s.jrn.busy then s.updJrn fun j => { j with reason := 3 }
  else if n < 1 ∨ 1024 < n ∨ journalSlots < s.jrn.extFirst.toNat + n then s.updJrn fun j => { j with reason := 1 }
  else match s.keys.sealKey.filter (fun _ => s.keys.sealBlob != 0xFF) with
    | none => s.updJrn fun j => { j with reason := 2 }
    | some k => s.updJrn fun j => { j with reason := 0, busy := true, done := false, extNext := extractBytes s k }

/-- The extract is complete (17 R493, R496). -/
def endExtract (s : State) : State :=
  if s.jrn.extNext.isEmpty then s
  else raise 218 (s.updJrn fun j => { j with extBuf := j.extNext, extNext := [], busy := false, done := true })

/-- The start-time rebuild ends: corrupt slots are counted, and a flush triggered earlier begins (17 R489). -/
def endRebuild (s : State) : State :=
  if s.jrn.rebuilt then s
  else
    let n := (s.mram.journal.filter (fun e => !zeros e.2 0 32 && !slotValid e.2)).length
    let s := s.updJrn fun j => { j with rebuilt := true, corrupt := satNat 32 n }
    let s := if n = 0 then s else raise 217 s
    if s.jrn.again then
      startFlush (s.updJrn fun j => { j with again := false, hostFlush := j.hostNext, hostNext := false })
    else s

/-- JRN_USED: slots that are not free (17 R495). -/
def slotsUsed (s : State) : Nat := (s.mram.journal.filter (fun e => slotValid e.2)).length

end Sys2Proof.Machine
end

