-- ==== Sys2Proof/Machine/MoorOps.lean ====
section
/-! DEFINITION. The mooring record and its selection, the mooring loops and the interlocks (04 R90 to R97). -/

namespace Sys2Proof.Machine

open Sys2Proof

/-- One entry of the mooring channel table (04 R93). -/
def parseMoorChannel (b : Bytes) : Option ChannelCfg := do
  let m := fld b 0 1
  need (decide (m ≤ 2) && zero b 4 4)
  need (if m = 1 then inRange (fld b 1 1) 1 3 && inRange (fld b 2 1) 1 200 else fld b 1 1 == 0 && fld b 2 1 == 0)
  need (if m = 2 then decide (fld b 3 1 ≤ 1) else fld b 3 1 == 0)
  some { mode := if m = 1 then .input else if m = 2 then .output else .unused, itype := fld b 1 1, filter := fld b 2 1
         safeOn := fld b 3 1 == 1 }

/-- A channel of mode input. -/
def inputAt (chans : List ChannelCfg) (n : Nat) : Bool := ((chans[n]?).map (·.mode)) == some .input

/-- Every channel of a mask is an output. -/
def outputsOnly (chans : List ChannelCfg) (m : Nat) : Bool :=
  (chans.zipIdx).all fun (c, n) => m / 2 ^ n % 2 == 0 || c.mode == .output

/-- One mooring loop entry (04 R94). -/
def parseMoorLoop (chans : List ChannelCfg) (b : Bytes) : Option MoorLoop := do
  let k := fld b 0 1
  need (inRange k 1 2 && inputAt chans (fld b 1 1) && inRange (fld b 2 1) 1 2 && decide (fld b 3 1 ≤ 1))
  need (groupMask (fld b 4 4) && outputsOnly chans (fld b 4 4) && decide (sfld b 8 4 < sfld b 12 4))
  need (inRangeI (sfld b 16 4) 0 one24 && inRangeI (sfld b 20 4) 0 (one24 / 2) && (k == 1 || decide (0 < sfld b 24 4)))
  need ((fld b 28 4 == 0 || inRange (fld b 28 4) 100 3600000) && inRange (fld b 32 4) 100 60000)
  need (inRangeI (sfld b 36 4) 0 one24 && inRangeI (sfld b 40 4) (sfld b 36 4) one24)
  need (inRange (fld b 44 1) 1 100 && inRange (fld b 45 1) 1 100 && zero b 46 2)
  some { pi := k == 2, input := fld b 1 1, duty := fld b 2 1 == 2, direct := fld b 3 1 == 1, mask := BitVec.ofNat 32 (fld b 4 4)
         low := sfld b 8 4, high := sfld b 12 4, sp := sfld b 16 4, hyst := sfld b 20 4, kp := sfld b 24 4, ti := fld b 28 4
         cycle := fld b 32 4, lo := sfld b 36 4, hi := sfld b 40 4, sample := fld b 44 1, window := fld b 45 1 }

/-- One interlock entry (04 R96). -/
def parseInterlock (chans : List ChannelCfg) (loops : Nat) (b : Bytes) : Option Interlock := do
  let c := fld b 0 1
  let fl := fld b 3 1
  need (inRange c 1 5 && inRange (fld b 2 1) 1 2 && decide (fl < 4) && (decide (fl < 2) || decide (c ≤ 2)))
  need (if c ≤ 2 then inputAt chans (fld b 1 1) else decide (fld b 1 1 < loops))
  need (c == 3 || c == 4 || fld b 4 4 == 0)
  need (fld b 8 4 != 0 && outputsOnly chans (fld b 8 4) && decide (fld b 12 2 ≤ 6000) && zero b 14 2)
  some { cond := c, subject := fld b 1 1, forceOn := fld b 2 1 == 2, latching := fl % 2 == 1, persistent := decide (2 ≤ fl)
         threshold := sfld b 4 4, mask := BitVec.ofNat 32 (fld b 8 4), delay := fld b 12 2 }

/-- A mooring record whose layout and values hold (04 R91, R93, R94, R96). -/
def parseMooring (slot : Nat) (b : Bytes) : Option Mooring := do
  let nl := fld b 13 1
  let ni := fld b 14 1
  let sig := 320 + 48 * nl + 16 * ni
  need (cut b 0 4 == [0x55, 0x4C, 0x4D, 0x52] && fld b 4 2 == 1 && fld b 6 2 == 64 && fld b 8 4 == sig + sigLength)
  need (fld b 12 1 == slot && decide (nl ≤ 16) && decide (ni ≤ 32) && inRange (fld b 16 4) 1 0xFFFFFFFE)
  need (fld b 20 4 == 0x7160 && fld b 32 4 == sig && zero b 36 28)
  let chans ← (entriesOf b 64 8 32).mapM parseMoorChannel
  let loops ← (entriesOf b 320 48 nl).mapM (parseMoorLoop chans)
  let ilks ← (entriesOf b (320 + 48 * nl) 16 ni).mapM (parseInterlock chans nl)
  some { slot := slot, mgmtPorts := fld b 15 1, seq := fld b 16 4, owner := cut b 24 8, digest := cut b (sig + 8) 64
         chans := chans, loops := loops, ilks := ilks, raw := cut b 0 (sig + sigLength) }

/-- The owner pair that a mooring record names: enrolled, or the predecessor; true for the enrolled one (18 R512). -/
def moorPair (d : DevRec) (owner : Bytes) : Option (Bool × (Bytes × Bytes)) :=
  match d.owner.filter (fun k => ownerId k == owner) with
  | some k => some (true, k)
  | none => (d.predecessor.filter (fun k => ownerId k == owner)).map fun k => (false, k)

/-- A record that passes R91 and R92, whether the enrolled pair signed it, and the signature results where they were
evaluated. -/
def checkMooring (d : DevRec) (slot : Nat) (b : Bytes) : Option (Mooring × Bool) × Option (Bool × Bool) :=
  match parseMooring slot b with
  | none => (none, none)
  | some m =>
    let sig := m.raw.length - sigLength
    let sb := cut m.raw sig sigLength
    match moorPair d m.owner with
    | none => (none, none)
    | some (enrolled, key) =>
      if sigForm sb && sigDigestOk sb (cut m.raw 0 sig) then
        let g := sigVerify key "UL-7160 mooring" sb
        (if g.1 && g.2 then some (m, enrolled) else none, some g)
      else (none, none)

/-- Safe pattern of a mooring record (04 R90, R93). -/
def safePattern (m : Mooring) : BitVec 32 := bits32 fun n => ((m.chans[n]?).map (·.safeOn)).getD false

/-- The mooring record of a region of the flash; none where it cannot be read (03 R59). -/
def mooringBytes (s : State) (fail : Option Nat) (slot : Nat) : Option Bytes :=
  match readFlash s fail (moorBase slot) 64 with
  | none => none
  | some h => readFlash s fail (moorBase slot) (min (fld h 8 4) 5048)

/-- Note the signature results of a mooring record (18 R525). -/
def noteMoorSig (g : Option (Bool × Bool)) (s : State) : State :=
  match g with
  | some g => s.updKeys fun k => { k with sigMoor := sigBits g }
  | none => s

/-- The device accepts a mooring record: a predecessor goes when the enrolled pair signed it (18 R512). -/
def acceptMooring (m : Mooring) (enrolled : Bool) (code : BitVec 2) (s : State) : State :=
  let s := if enrolled then s.updDev fun d => { d with predecessor := none } else s
  (s.updMoor fun x => { x with record := some m }).updStart fun x => { x with mooring := code }

/-- The flash record is taken: the cache and the safe pattern follow it in one transaction (04 R90). -/
def takeFlashRecord (m : Mooring) (enrolled : Bool) (s : State) : State :=
  let p := safePattern m
  let s := if s.mram.moorCache = some m then s else s.updMram fun r => { r with moorCache := some m, safe := some p }
  acceptMooring m enrolled 1 (s.updFio fun f => { f with safe := p })

/-- The record that the MRAM cache holds, verified again (04 R90). -/
def cachedMooring (s : State) : Option (Mooring × Bool) × Option (Bool × Bool) :=
  match s.mram.moorCache with
  | some c => checkMooring s.mram.dev c.slot c.raw
  | none => (none, none)

/-- Take the cache where it passes; else the mooring function is empty (04 R90). -/
def takeCache (s : State) : State :=
  let (c, g) := cachedMooring s
  let s := noteMoorSig g s
  match c with
  | some (m, e) => acceptMooring m e 2 s
  | none => s

/-- Selection of the mooring record (04 R90). -/
def selectMooring (fail : Option Nat) (s : State) : State :=
  match s.start.pointer with
  | none => takeCache s
  | some p =>
    let (f, g) := match mooringBytes s fail p.moorSlot with
      | some b => checkMooring s.mram.dev p.moorSlot b
      | none => (none, none)
    let s := noteMoorSig g s
    match f with
    | some (m, e) =>
      if m.seq = p.moorSeq ∧ (cachedMooring s).1.all (fun c => decide (c.1.seq ≤ m.seq)) then takeFlashRecord m e s
      else takeCache (raise 2 s)
    | none => takeCache (raise 2 s)

/-- The boot ROM reads the pointer block (03 R62, R72, R80). -/
def bootPointer (fail : Option Nat) (s : State) : State :=
  match readFlash s fail 0 64, readFlash s fail 0x10000 64 with
  | some b0, some b1 =>
    match choosePointer b0 b1 with
    | .use p one torn =>
      let s := s.updStart fun x => { x with pointer := some p, copy1 := one, pointerBad := 0 }
      if torn then raise 6 s else s
    | .refuse r => s.updStart fun x => { x with pointer := none, pointerBad := r }
  | _, _ => s.updStart fun x => { x with pointer := none, pointerBad := 1 }

/-- A mooring loop at stage 1 entry: its output at the safe state of its lowest channel, i at that state clamped
(04 R95). The rule does not say how long the output then counts as having been in its state, which a two-position loop
asks: the model counts from stage 1 entry. DESIGN CHOICE, log entry 63. -/
def moorInit (s : State) (k : MoorLoop) : MoorRun :=
  let on := ((List.range 32).find? (fun n => k.mask.getLsbD n)).elim false (safeOn s)
  { i := clampI (if on then q24 else 0) k.lo k.hi, out := on }

/-- The mooring function starts (04 R83, R95). -/
def startMooring (s : State) : State :=
  let l := (s.moor.record.map (·.loops)).getD []
  let runs := l.zipIdx.foldl (fun m (k, i) => Store.set {} m i (moorInit s k)) []
  s.updMoor fun m => { m with loops := runs, running := true }

/-- A mooring measurement in the loop's unit, as a quotient (04 R95). -/
def moorMeasure (s : State) (k : MoorLoop) : Int × Int :=
  let w := k.window * 100000000
  if k.duty then ((onTimeIn s k.input w : Int), (k.window * 100000 : Nat)) else ((pulsesIn s k.input w * 10 : Nat), (k.window : Int))

/-- pv of a mooring loop: the quotient of ranges in Q16.16, rounded down into Q8.24, clamped to 0 to 1 (04 R95). The
manual states no rounding of the quotient. DESIGN CHOICE. -/
def moorPv (s : State) (k : MoorLoop) : Int :=
  let (n, d) := moorMeasure s k
  clampI (((n * 65536 - k.low * d) * q24) / (d * (k.high - k.low))) 0 q24

/-- One sample of a two-position loop (04 R95). -/
def twoPosition (k : MoorLoop) (e : Int) (r : MoorRun) : MoorRun :=
  let held := r.inState + k.sample * 10
  if k.hyst < e ∧ !r.out ∧ k.cycle ≤ held then { r with out := true, inState := 0 }
  else if e < -k.hyst ∧ r.out ∧ k.cycle ≤ held then { r with out := false, inState := 0 }
  else { r with inState := held }

/-- The loop's switching cycles up to `p` ms after the beginning of the cycle that ran at the last sample: where one began
since, its on-time is that of u, and the output stands as that cycle has it at `p` (04 R95). -/
def piCycles (k : MoorLoop) (u : Int) (p : Nat) (r : MoorRun) : MoorRun :=
  if r.begun < p / k.cycle then
    let on := (u * k.cycle / q24).toNat
    { r with onMs := on, out := decide (p % k.cycle < on), begun := p / k.cycle }
  else r

/-- One sample of a PI loop. Its cycles follow each other without a gap, the first beginning with the first sample; a cycle
takes the u of the last sample at or before its beginning (04 R95). The manual states no rounding of the division by Ti,
and no relation of cycles to samples. DESIGN CHOICE. -/
def piSample (now : Nat) (k : MoorLoop) (e : Int) (r : MoorRun) : MoorRun :=
  let ts : Int := k.sample * 10
  let p := k.kp * e / q24
  let i := if k.ti = 0 then r.i else clampI (r.i + p * ts / k.ti) k.lo k.hi
  let u := clampI (p + i) k.lo k.hi
  match r.u with
  | none =>
    let on := (u * k.cycle / q24).toNat
    { r with i := i, u := some u, onMs := on, out := decide (0 < on), phase := 0, sampled := now, begun := 0 }
  | some u0 =>
    let p := r.phase + k.sample * 10
    let r := piCycles k (if p % k.cycle = 0 then u else u0) p r
    { r with i := i, u := some u, phase := p % k.cycle, sampled := now, begun := 0 }

/-- At an update of the I/O dies the PI mooring loops stand where HFIO time has brought their cycles (04 R95, 15 R426). -/
def moorCycles (s : State) : State :=
  if s.moor.running then
    (((s.moor.record.map (·.loops)).getD []).zipIdx).foldl (fun s (k, i) =>
      s.updMoor fun m => { m with loops := Store.upd {} m.loops i fun r =>
        match r.u with
        | some u => if k.pi then piCycles k u (r.phase + (s.clk.hfNs - r.sampled) / 10 ^ 6) r else r
        | none => r }) s
  else s

/-- A mooring loop's sample period expires (04 R95). -/
def moorSample (n : Nat) (s : State) : State :=
  match (s.moor.record.map (·.loops)).bind (·[n]?) with
  | none => s
  | some k =>
    if s.moor.running then
      let pv := moorPv s k
      let e := if k.direct then pv - k.sp else k.sp - pv
      applyOutputs (s.updMoor fun m => { m with loops := Store.upd {} m.loops n fun r =>
        { (if k.pi then piSample s.clk.hfNs k e r else twoPosition k e r) with pv := pv } })
    else s

/-- The on-time of a mooring loop's cycle ends; an on-time of the whole cycle does not end in it (04 R95). -/
def moorPulseEnd (n : Nat) (s : State) : State :=
  match (s.moor.record.map (·.loops)).bind (·[n]?) with
  | none => s
  | some k =>
    if s.moor.running && k.pi then
      applyOutputs (s.updMoor fun m => { m with loops := Store.upd {} m.loops n fun r =>
        if r.onMs < k.cycle then { r with out := false } else r })
    else s

/-- An interlock's condition holds (04 R96). Conditions 0x03 and 0x04 compare the loop's pv; before its first sample the
loop has none, and the model compares 0. DESIGN CHOICE, log entry 64. -/
def conditionHolds (s : State) (k : Interlock) : Bool :=
  let loop := (s.moor.record.map (·.loops)).bind (·[k.subject]?)
  let pv := (Store.get {} s.moor.loops k.subject).pv
  match k.cond with
  | 1 => s.fio.filtered.getLsbD k.subject
  | 2 => !s.fio.filtered.getLsbD k.subject
  | 3 => decide (pv < k.threshold)
  | 4 => decide (k.threshold < pv)
  | _ => loop.any fun l => pulsesIn s l.input (l.window * 100000000) == 0

/-- One interlock at an evaluation: how long its condition has held, and whether it is active (04 R97). At stages 2 and 3
one that is not persistent takes no part. -/
def evalInterlock (s : State) (x : Interlock × Nat) : State :=
  let (k, n) := x
  let part := decide (s.start.stage < 2) || k.persistent
  let cond := part && conditionHolds s k
  let held := if cond then Store.get 0 s.moor.held n + 1 else 0
  let was := s.moor.ilk.getLsbD n
  let now := decide (k.delay < held) || (was && k.latching)
  let s := s.updMoor fun m => { m with held := Store.set 0 m.held n held, ilk := putBit m.ilk n now }
  if now && !was then raise 3 s n else s

/-- The evaluation of the interlocks every 10 ms (04 R97). -/
def evalInterlocks (s : State) : State :=
  applyOutputs ((((s.moor.record.map (·.ilks)).getD []).zipIdx).foldl evalInterlock s)

/-- Stage 1 is entered under the mooring function (04 R83, R90, R99, R102; 14 R396). -/
def enterMooring (s : State) : State :=
  let s := startMooring s
  let s := setStage 1 (s.updStart fun x => { x with step := if x.limited then 9 else 1 })
  applyOutputs (s.updPair fun p => { p with peerOkOut := true })

/-- MOORING_EVALUATE at stage 0 (04 R90). The size of the attached flash is read with its SFDP table (20 R569). -/
def evaluateMooring (fail : Option Nat) (s : State) : State :=
  if s.start.stage = 0 then
    let s := s.updHst fun h => { h with flSize := BitVec.ofNat 12 Config.flashMiB }
    enterMooring (selectMooring fail (bootPointer fail s))
  else s

end Sys2Proof.Machine
end

