-- ==== Sys2Proof/Machine/NetOps.lean ====
section
/-! DEFINITION. Ports, MACsec, launch queues and network time (13). -/

namespace Sys2Proof.Machine

open Sys2Proof

/-- The setup in force on a port: before adoption the management ports of the mooring record, from adoption on the
adopted setup (13 R372, 04 R98). -/
def portCfg (s : State) (p : Nat) : PortCfg :=
  if s.start.adopted then (s.port p).cfg
  else if s.start.stage = 1 && s.clk.qual.getLsbD 2 && ((s.moor.record.map (·.mgmtPorts)).getD 0) / 2 ^ p % 2 == 1 then
    { enabled := true, mgmt := true, ampl := if p < 4 then 0 else 3, addr := Config.portAddress p }
  else {}

/-- The unit starts no frame: fenced, or switched over (14 R408, R412). -/
def launchStopped (s : State) : Bool := s.pair.fenced || s.pair.handed

/-- A PTP frame, tagged or not (13 R367). -/
def isPtp (f : Bytes) : Bool :=
  let e := beNat (slice f 12 2)
  e == 0x88F7 || (e == 0x8100 && beNat (slice f 16 2) == 0x88F7)

/-- The port protects a frame (13 R373, R374). -/
def protects (c : PortCfg) (f : Bytes) : Bool := c.macsec != 0 && !(c.ptpBypass && isPtp f)

/-- First packet number at which GCM-AES-256 warns, and the one at which it stops (13 R376). -/
def pnWarn : Nat := 0xC0000000
def pnStop : Nat := 0xFFFFFFFF

/-- The transmit SCI of a port: its address and port identifier 1, as IEEE 802.1AE forms it. PRESUMED, log entry 79. -/
def portSci (c : PortCfg) : Bytes := c.addr ++ [0, 1]

/-- A port's SecTAG: the SCI always included, ES and SCB clear, E and C set with confidentiality (13 R373; the places of the
fields are those of IEEE 802.1AE. PRESUMED, log entry 79). -/
def secTag (c : PortCfg) (an pn octets : Nat) : Bytes :=
  beBytes 2 0x88E5 ++ [BitVec.ofNat 8 (0x20 + (if c.macsec = 2 then 0x0C else 0) + an)]
    ++ [BitVec.ofNat 8 (if octets < 48 then octets else 0)] ++ beBytes 4 (pn % 2 ^ 32) ++ portSci c

/-- Bytes with an association's keystream added: encrypts and decrypts (13 R373). -/
def addStream (a : SecAssoc) (xpn : Bool) (sci : Bytes) (pn : Nat) (b : Bytes) : Bytes :=
  b.mapIdx fun i x => x ^^^ Config.macsecStream a.key a.salt xpn sci pn i

/-- The 16-byte ICV of a protected frame: the whole frame authenticated, or what follows its SecTAG encrypted (13 R373). -/
def frameIcv (a : SecAssoc) (c : PortCfg) (sci : Bytes) (pn : Nat) (head body : Bytes) : Bytes :=
  let icv := if c.macsec = 2 then Config.macsecIcv a.key a.salt c.xpn sci pn head body
    else Config.macsecIcv a.key a.salt c.xpn sci pn (head ++ body) []
  slice icv 0 16

/-- A frame protected by an association: 32 bytes longer (13 R373). -/
def protectFrame (a : SecAssoc) (c : PortCfg) (an : Nat) (f : Bytes) : Bytes :=
  let pn := a.pn.toNat
  let head := f.take 12 ++ secTag c an pn (f.length - 12)
  let body := if c.macsec = 2 then addStream a c.xpn (portSci c) pn (f.drop 12) else f.drop 12
  head ++ body ++ frameIcv a c (portSci c) pn head body

/-- The frame that a protected one carries, none where its ICV fails (13 R373). -/
def unprotectFrame (a : SecAssoc) (c : PortCfg) (pn : Nat) (f : Bytes) : Option Bytes :=
  let sci := slice f 20 8
  let head := f.take 28
  let body := (f.drop 28).take (f.length - 44)
  if f.drop (f.length - 16) = frameIcv a c sci pn head body then
    some (f.take 12 ++ if c.macsec = 2 then addStream a c.xpn sci pn body else body)
  else none

/-- A stamp moved by nanoseconds of either sign. -/
def stampMoved (t : Stamp) (d : Int) : Stamp := stampOf ((stampNanos t : Int) + d).toNat

/-- A transmit stamp enters its queue, or is lost (13 R383, R385). -/
def putStamp (p : Nat) (ident : BitVec 16) (s : State) : State :=
  let t := stampMoved s.ntime.now ((s.port p).cfg.txLat : Nat)
  if (s.port p).tsq.length < 16 then s.updPort p fun x => { x with tsq := x.tsq ++ [(ident, t)] }
  else raise 67 (s.updPort p fun x => { x with ovf := true, lost := satInc x.lost }) p

/-- Wire time in ns of a frame without its FCS: with its interframe gap, it is how long the port is busy (05 R125,
13 R387). -/
def frameNanos (p len : Nat) : Nat := 4 * wireUnits p (len + 4)

/-- A frame goes out on a port, protected where its setup asks for it (13 R373 to R376, R383, R387; 12 R346). -/
def sendFrame (p : Nat) (f : QFrame) (s : State) : State :=
  let c := portCfg s p
  let x := s.port p
  let done := fun (b : Bytes) (s : State) =>
    let s := s.updPort p fun x => { x with tx := x.tx + 1, sent := b, busyTill := s.clk.hfNs + frameNanos p b.length }
    let s := noteCarried f s
    match f.ident with
    | some i => putStamp p i s
    | none => s
  if protects c f.bytes then
    match Store.get none x.txSa x.txAn.toNat with
    | none => s.updPort p fun x => { x with other := satInc x.other }
    | some a =>
      if !c.xpn ∧ pnStop ≤ a.pn.toNat then s.updPort p fun x => { x with other := satInc x.other }
      else
        let b := protectFrame a c x.txAn.toNat f.bytes
        let s := s.updPort p fun x => { x with txSa := Store.set none x.txSa x.txAn.toNat (some { a with pn := a.pn + 1 }) }
        let s := if !c.xpn ∧ a.pn.toNat + 1 = pnWarn then raise 66 s p else s
        done b s
  else done f.bytes s

/-- Nanoseconds of NTIME now. -/
def nowNanos (s : State) : Nat := stampNanos s.ntime.now

/-- The head of a queue is due: its launch time, if any, has come (13 R386). -/
def headDue (s : State) (f : QFrame) : Bool := f.launch.elim true fun t => decide (stampNanos t ≤ nowNanos s)

/-- The interframe gap of a port in ns: 96 bit times, as IEEE 802.3 has it. PRESUMED, log entry 80. -/
def frameGap (p : Nat) : Nat := 4 * (12 * (if p < 4 then 2 else 200))

/-- The wire time of a frame of a queue above 0 ends at least one interframe gap before the launch time of queue 0's head
(13 R387). -/
def leavesRoom (s : State) (p : Nat) (f : QFrame) : Bool :=
  match (s.port p).q0.head?.bind (·.launch) with
  | none => true
  | some t =>
    let len := f.bytes.length + (if protects (portCfg s p) f.bytes then 32 else 0)
    decide (nowNanos s + frameNanos p len + frameGap p ≤ stampNanos t)

/-- Remove the head of a queue. -/
def dropHead (p q : Nat) (s : State) : State := s.updPort p fun x => x.setQueue q ((x.queue q).drop 1)

/-- The due head of queue 0 or 1: discarded unsent and uncounted on a standby or when suppressed; late; link down; else
sent (13 R387, R388; 14 R401). -/
def launchTimed (p q : Nat) (f : QFrame) (s : State) : State :=
  let s := dropHead p q s
  let x := s.port p
  let late := f.launch.any fun t => decide (stampNanos t + x.lateLimit.toNat * 1000 < nowNanos s)
  if f.suppressed || s.isStandby then s
  else if late then raise 68 (s.updPort p fun x => { x with late := satInc x.late }) p
  else if !x.up then s.updPort p fun x => { x with linkdown := satInc x.linkdown }
  else sendFrame p f s

/-- The head of a queue may start now (13 R386, R387). -/
def mayStart (s : State) (p q : Nat) (f : QFrame) : Bool :=
  headDue s f && (q == 0 || leavesRoom s p f) && (decide (q < 2) || (s.port p).up)

/-- FRAME_LAUNCH: the free port starts the head frame of the lowest-numbered queue that may start (13 R387). -/
def frameLaunch (p : Nat) (s : State) : State :=
  if launchStopped s || !(portCfg s p).enabled || decide (s.clk.hfNs < (s.port p).busyTill) then s
  else
    let heads := (List.range 4).filterMap fun q => ((s.port p).queue q).head?.map fun f => (q, f)
    match heads.find? fun (q, f) => mayStart s p q f with
    | none => s
    | some (q, f) => if q < 2 then launchTimed p q f s else sendFrame p f (dropHead p q s)

/-- The link that a signal brings up on a port, with its amplitude mode: an ETH port's only by the codeword for 1000 Mb/s full
duplex; a T1L port's in the mode of its setup, or autonegotiated, 2.4 Vpp where the partner offers it too (13 R365, R366). -/
def linkOf (p : Nat) (c : PortCfg) (g : LinkSignal) (offers24 : Bool) : Option (BitVec 2) :=
  match g with
  | .none => none
  | .codeword m full => if p < 4 ∧ m = 1000 ∧ full then some 0 else none
  | .t1l => if p < 4 then none else some (if c.ampl = 3 then (if offers24 then 1 else 2) else BitVec.ofNat 2 c.ampl)

/-- A port's link goes up or down: a port that is down discards what its queues 2 and 3 hold (13 R365, R366, R388, R389). -/
def linkChange (p : Nat) (g : LinkSignal) (offers24 : Bool) (s : State) : State :=
  if !(portCfg s p).enabled then s
  else
    let was := (s.port p).up
    let up := (linkOf p (portCfg s p) g offers24).isSome
    let s := s.updPort p fun x => { x with up := up, ampl := (linkOf p (portCfg s p) g offers24).getD 0, changed := x.changed || up != was }
    let s := if up then s
      else s.updPort p fun x => { x with q2 := [], q3 := [], linkdown := satNat 16 (x.linkdown.toNat + x.q2.length + x.q3.length) }
    if up = was then s else raise 64 s p

/-- Addresses that a port accepts (13 R367). -/
def addressed (c : PortCfg) (f : Bytes) : Bool :=
  let d := f.take 6
  d == c.addr || d == List.replicate 6 0xFF || d == [0x01, 0x1B, 0x19, 0, 0, 0] || d == [0x01, 0x80, 0xC2, 0, 0, 0x0E]

/-- Packet number of a frame in its window: extended numbers are recovered from the lowest number not yet seen
(13 R373). -/
def fullPn (xpn : Bool) (next : DWord) (low : Nat) : Nat :=
  if !xpn then low
  else
    let hi := next.toNat / 2 ^ 32
    if low + 2 ^ 31 < next.toNat % 2 ^ 32 then (hi + 1) * 2 ^ 32 + low else hi * 2 ^ 32 + low

/-- Validation of a protected frame: its channel and association, its packet number and the plain frame; `true` counts an
ICV failure, `false` the others (13 R373, R390). -/
def openFrame (s : State) (p : Nat) (c : PortCfg) (f : Bytes) : (Nat × DWord × Bytes) ⊕ Bool :=
  let tci := fld f 14 1
  let chans := ((s.man.bind (·.net)).map (·.chans)).getD [] |>.filter (·.port == p)
  if beNat (slice f 12 2) ≠ 0x88E5 ∨ f.length < 44 ∨ tci / 128 = 1 ∨ tci / 32 % 2 = 0 then .inr false
  else match chans.findIdx? (fun k => k.sci == slice f 20 8) with
    | none => .inr false
    | some i =>
      let j := 4 * i + tci % 4
      match Store.get none (s.port p).rxSa j with
      | none => .inr false
      | some a =>
        let pn := fullPn c.xpn a.pn (beNat (slice f 16 4))
        if pn + c.window < a.pn.toNat ∨ pn = 0 then .inr false
        else match unprotectFrame a c pn f with
          | none => .inr true
          | some b => .inl (j, BitVec.ofNat 64 (max a.pn.toNat (pn + 1)), b)

/-- A port accepts a frame, given without its FCS, by its length and its destination (13 R367). -/
def portTakes (c : PortCfg) (f : Bytes) : Bool := decide (60 ≤ f.length ∧ f.length ≤ 1556) && addressed c f

/-- A plain frame, as a port hands it on after its tests (13 R367). -/
def plainTakes (s : State) (p : Nat) (f : Bytes) : Bool :=
  let c := portCfg s p
  c.enabled && decide (f.length + (if protects c f then 32 else 0) ≤ 1556) && portTakes c f

/-- The station table's EtherType. -/
def stationType (s : State) (f : Bytes) : Bool := (s.man.bind (·.stations)).any fun t => t.etype == (splitFrame f).etype

/-- A plain frame that its port hands to the station engine (13 R367). -/
def toStations (s : State) (p : Nat) (f : Bytes) : Bool := plainTakes s p f && stationType s f

/-- The station engine takes a frame: a ferry reply, a poll reply, or neither (12 R345, R352). -/
def stationFrameIn (p : Nat) (f : Bytes) (s : State) : State :=
  match fld (splitFrame f).head 1 1 with
  | 2 => ferryReply p f s
  | 4 => pollReply p f s
  | _ => rejectStation s

/-- Fields of a PTP message's header: its type, its version and its domain. The places are those of IEEE 1588-2019. PRESUMED,
log entry 81. -/
def ptpHead (f : Bytes) : Bytes := f.drop (if beNat (slice f 12 2) = 0x8100 then 18 else 14)
def ptpType (f : Bytes) : Nat := fld (ptpHead f) 0 1 % 16
def ptpVersion (f : Bytes) : Nat := fld (ptpHead f) 1 1 % 16
def ptpDomain (f : Bytes) : Nat := fld (ptpHead f) 4 1

/-- An event message: one of the first four types (13 R383; log entry 81). -/
def ptpEvent (f : Bytes) : Bool := isPtp f && decide (ptpType f < 4)

/-- A PTP frame goes to the firmware; an event message with its receive stamp, the receive latency subtracted (13 R367,
R383). -/
def handPtp (p : Nat) (f : Bytes) (s : State) : State :=
  let t := stampMoved s.ntime.now (-((portCfg s p).rxLat : Int))
  s.updPort p fun x => { x with ptpIn := x.ptpIn ++ [(f, if ptpEvent f then some t else none)] }

/-- Where an accepted frame goes: the station engine, the PTP firmware, or the management service, whose requests are commands
of their own; else it is dropped and counted (13 R367). -/
def passFrame (p : Nat) (f : Bytes) (s : State) : State :=
  if stationType s f then stationFrameIn p f s
  else if isPtp f then handPtp p f s
  else if (portCfg s p).mgmt then s
  else s.updPort p fun x => { x with filter := satInc x.filter }

/-- FRAME_RECEIVED: the filter, MACsec validation, the counters, and what takes the frame (13 R367, R373, R390). A frame is
given without its FCS. -/
def frameReceived (p : Nat) (f : Bytes) (fcsOk : Bool) (s : State) : State :=
  let c := portCfg s p
  if !c.enabled then s
  else if !fcsOk then s.updPort p fun x => { x with fcs := satInc x.fcs }
  else if !portTakes c f then s.updPort p fun x => { x with filter := satInc x.filter }
  else
    let s := s.updPort p fun x => { x with rx := x.rx + 1 }
    if protects c f then
      match openFrame s p c f with
      | .inl (j, pn, b) =>
        passFrame p b (s.updPort p fun x => { x with rxSa := Store.upd none x.rxSa j fun a => a.map fun a => { a with pn := pn } })
      | .inr true => raise 65 (s.updPort p fun x => { x with icv := satInc x.icv }) p
      | .inr false => raise 65 (s.updPort p fun x => { x with other := satInc x.other }) p
    else passFrame p f s

/-- NET_MS_CTRL: select a transmit AN, or reject the change (13 R375). -/
def selectAn (p : Nat) (keyOk : Bool) (an : BitVec 2) (s : State) : State :=
  match Store.get none (s.port p).txSa an.toNat with
  | some a =>
    if keyOk && !s.isStandby then
      s.updPort p fun x => { x with txAn := an, txSa := Store.set none x.txSa an.toNat (some { a with pn := 1 }) }
    else s.updPort p fun x => { x with rej := true }
  | none => s.updPort p fun x => { x with rej := true }

/-- A port has PTP enabled (13 R381). -/
def ptpInUse (s : State) : Bool := (List.range 8).any fun p => (portCfg s p).enabled && (portCfg s p).ptp

/-- The host may write the increment and steps (13 R381). -/
def hostTime (s : State) : Bool := !ptpInUse s && !s.isStandby

/-- Reject a host write of network time (13 R378, R381). -/
def rejectHostTime (s : State) : State := s.updNtime fun t => { t with hostRej := true }

/-- An increment applies from the next tick on; 3.5 ns to 4.5 ns (13 R378). -/
def incrOk (i : Byte) (f : Word) : Bool :=
  let v := i.toNat * 2 ^ 32 + f.toNat
  decide (7 * 2 ^ 31 ≤ v ∧ v ≤ 9 * 2 ^ 31)

def putIncr (i : Byte) (f : Word) (s : State) : State :=
  s.updNtime fun t => { t with incrInt := i, incrFrac := f, incr := BitVec.ofNat 40 (i.toNat * 2 ^ 32 + f.toNat) }

/-- A host write of NTIME_INCR_FRAC (13 R378, R381). -/
def hostIncr (f : Word) (s : State) : State :=
  if hostTime s && incrOk s.ntime.incrInt f then putIncr s.ntime.incrInt f s else rejectHostTime s

/-- The queued frames whose launch time came from a tide mark move with a step (02 R40). -/
def shiftQueue (d : Int) (l : List QFrame) : List QFrame :=
  l.map fun f => if f.fromMark then { f with launch := f.launch.map fun t => stampMoved t d } else f

def shiftPort (d : Int) (x : Port) : Port :=
  { x with q0 := shiftQueue d x.q0, q1 := shiftQueue d x.q1, q2 := shiftQueue d x.q2, q3 := shiftQueue d x.q3 }

/-- What a step moves besides NTIME: the held stamp, the conversions made from it, and queued frames (02 R40). -/
def shiftMarks (d : Int) (s : State) : State :=
  let s := s.updTide fun t =>
    { t with stamp := t.stamp.map fun (c, z) => (c, stampMoved z d)
             launchAt := t.launchAt.map fun (m, l) => (m, l.map fun r => { r with z0 := stampMoved r.z0 d }) }
  { s with ports := s.ports.map fun (n, x) => (n, shiftPort d x) }

/-- A step of NTIME on the next tick, after that tick's increment (13 R379). -/
def stepNtime (neg : Bool) (sec : BitVec 48) (ns : BitVec 30) (s : State) : State :=
  let reject := fun (s : State) => s.updNtime fun t => { t with stepRej := true }
  if !s.ntime.started ∨ 999999999 < ns.toNat then reject s
  else
    let s := elapse 1 s
    let m : Int := sec.toNat * 10 ^ 9 + ns.toNat
    let d := if neg then -m else m
    let t : Int := nowNanos s + d
    if t < 0 ∨ (2 ^ 48 * 10 ^ 9 : Nat) ≤ t then reject s
    else
      let z := stampOf t.toNat
      let s := shiftMarks d s
      raise 69 (s.updNtime fun x => { x with sec := z.sec, ns := z.ns, set := true, steps := x.steps + 1 })

/-- NTIME_CTRL.STEP by the host (13 R379, R381, R392). -/
def hostStep (s : State) : State :=
  if hostTime s then stepNtime s.ntime.stepNeg s.ntime.stepSec s.ntime.stepNs s else rejectHostTime s

/-- The servo state changes (13 R382). -/
def setServo (p : Nat) (v : BitVec 2) (s : State) : State :=
  if s.ntime.servo = v then s else raise 70 (s.updNtime fun t => { t with servo := v }) p

/-- The offset that NTIME_UTC shows follows what PTP announces, else the backup domain (13 R392, 19 R545). -/
def refreshUtc (s : State) : State :=
  match utcOffset s with
  | some o => s.updNtime fun t => { t with utcValid := true, utcOff := BitVec.ofInt 16 o }
  | none => s

/-- The delay mechanism of the profile has a message type: request-response with profile 0x01, peer-to-peer with 0x02 and 0x03
(13 R368, R382; types as in log entry 81). -/
def ptpMechanism (profile t : Nat) : Bool := if profile = 1 then t != 2 && t != 3 && t != 10 else t != 1 && t != 9

/-- A message type that only a master sends: Sync, Follow_Up, Delay_Resp, Announce (log entry 81). -/
def ptpMaster (t : Nat) : Bool := t == 0 || t == 8 || t == 9 || t == 11

/-- Sync messages, or delay and peer delay requests, that a port has submitted within the last second (13 R382). -/
def ptpRecent (s : State) (p : Nat) (sync : Bool) : List (Bool × Nat) :=
  (s.port p).ptpOut.filter fun x => x.1 == sync && decide (s.clk.hfNs < x.2 + 10 ^ 9)

/-- A message counts against the rate of a kind: Sync, or a delay or peer delay request (13 R382). -/
def ptpCounted (t : Nat) : Option Bool := if t = 0 then some true else if t = 1 ∨ t = 2 then some false else none

/-- The firmware may submit a message: transport, domain, mechanism, slave-only and rate within the limits of R382. -/
def ptpMay (s : State) (p : Nat) (f : Bytes) : Bool :=
  match s.man.bind (·.net) with
  | none => false
  | some n =>
    let t := ptpType f
    isPtp f && ptpVersion f == 2 && ptpDomain f == n.domain && ptpMechanism n.profile t && !(n.slaveOnly && ptpMaster t)
      && ((ptpCounted t).all fun k => decide ((ptpRecent s p k).length < 16))

/-- The firmware submits a message for transmission (13 R382, R383). -/
def ptpSubmit (p : Nat) (ident : BitVec 16) (f : Bytes) (s : State) : State :=
  if ptpMay s p f then
    let now := s.clk.hfNs
    let s := match ptpCounted (ptpType f) with
      | some k => s.updPort p fun x => { x with ptpOut := (x.ptpOut.filter fun y => decide (now < y.2 + 10 ^ 9)) ++ [(k, now)] }
      | none => s
    enqueue p 2 { bytes := f, ident := some ident } s
  else s

/-- The firmware acts on a message of its version, domain and mechanism (13 R368, R382). -/
def ptpServed (s : State) (f : Bytes) : Bool :=
  (s.man.bind (·.net)).any fun n => ptpVersion f == 2 && ptpDomain f == n.domain && ptpMechanism n.profile (ptpType f)

/-- What the IEEE 1588 firmware decides on a message (13 R381, R382; 19 R545). -/
def ptpAct (p : Nat) (a : PtpAction) (s : State) : State :=
  let s := s.updNtime fun t => { t with offset := BitVec.ofInt 32 (max (-2147483648) (min 2147483647 a.offset)) }
  let s := match a.utc with
    | some (o, v) => refreshUtc (keepUtcOffset (s.updNtime fun t => { t with gmUtc := if v then some o else none }))
    | none => s
  let s := match a.incr with
    | some (i, f) => if incrOk i f then putIncr i f s else s
    | none => s
  let s := match a.step with
    | some (n, sec, ns) => stepNtime n sec ns s
    | none => s
  let s := match a.reply with
    | some (i, b) => ptpSubmit p i b s
    | none => s
  setServo p a.servo s

/-- The firmware takes a message with its receive stamp, and has read the port's transmit stamps (13 R383, R385). -/
def takePtp (p : Nat) (f : Bytes) (t : Option Stamp) (s : State) : State :=
  s.updPort p fun x =>
    { x with ptpIn := x.ptpIn.eraseP fun y => y.1 == f, rxStamp := if t.isSome then t else x.rxStamp, tsq := [] }

/-- PTP_MESSAGE on a PTP port: a message that the port has handed on, or now hands on. What the standard's best master choice
and servo decide comes with it; the device holds what they decide to the limits of R382. The PTP ports of a standby send
nothing, and its NTIME follows the active unit's (13 R367, R382, R383, R385; 14 R401, R402). -/
def ptpMessage (p : Nat) (f : Bytes) (a : PtpAction) (s : State) : State :=
  if (portCfg s p).enabled && (portCfg s p).ptp then
    let held := (s.port p).ptpIn.any fun y => y.1 == f
    let s := if !held && plainTakes s p f && isPtp f then handPtp p f s else s
    match (s.port p).ptpIn.find? fun y => y.1 == f with
    | none => s
    | some (_, t) =>
      let s := takePtp p f t s
      if s.isStandby || !ptpServed s f then s else ptpAct p a s
  else s

/-- ANNOUNCE_RECEIPT_TIMEOUT: the servo leaves lock, to holdover, or to free running where it was only acquiring
(13 R382). -/
def announceTimeout (s : State) : State :=
  match (List.range 8).find? fun p => (portCfg s p).enabled && (portCfg s p).ptp with
  | none => s
  | some p =>
    let s := s.updNtime fun t => { t with gmUtc := none }
    setServo p (if s.ntime.servo = 2 then 3 else if s.ntime.servo = 1 then 0 else s.ntime.servo) s

/-- NTIME starts at the lock of PLL_NET from the calendar, or from 0 (13 R380). -/
def startNtime (s : State) : State :=
  if s.cal.osf then s.updNtime fun t => { t with started := true, sec := 0, ns := 0, frac := 0, utcValid := false }
  else
    s.updNtime fun t =>
      { t with started := true, sec := BitVec.ofInt 48 ((s.cal.now.secs : Int) + s.cal.utcOff.toInt), ns := 0, frac := 0
               set := true, utcValid := s.cal.utcValid, utcOff := if s.cal.utcValid then s.cal.utcOff else 0 }

end Sys2Proof.Machine
end

