-- ==== Sys2Proof/Machine/LinkBytes.lean ====
section
/-! DEFINITION. The bytes of crossing-link messages: header, payload and CRC-32C (14 R398, R399). -/

namespace Sys2Proof.Machine

open Sys2Proof

/-- Type of a message (14 R399). -/
def LinkMsg.typeCode : LinkMsg → Nat
  | .lease .. => 1
  | .leaseAck .. => 2
  | .image _ => 3
  | .sample _ => 4
  | .tide _ => 5
  | .events _ => 6
  | .solver _ => 7
  | .digest _ => 8
  | .health _ => 9
  | .resync .. => 0xA
  | .switch _ => 0xB
  | .take => 0xC

/-- A time in a message: 6 bytes of seconds and 4 of nanoseconds (14 R399). -/
def stampBytes (t : Stamp) : Bytes := leBytes 6 t.sec.toNat ++ leBytes 4 t.ns.toNat

/-- The payload of a message. R399 names the contents of types 0x0003 to 0x0007, 0x0009 and 0x000B and gives them no layout:
their bytes are open, by type and sequence, in a whole number of 4 bytes (14 R399, R403). -/
def LinkMsg.payload (seq : Word) : LinkMsg → Bytes
  | .lease n e t1 t4 => leBytes 4 n.toNat ++ leBytes 8 e.toNat ++ stampBytes t1 ++ stampBytes t4 ++ leBytes 8 0
  | .leaseAck n t2 t3 => leBytes 4 n.toNat ++ stampBytes t2 ++ stampBytes t3 ++ leBytes 8 0
  | .digest m =>
    leBytes 1 (if m.fix then 2 else 1) ++ leBytes 3 0 ++ leBytes 4 m.task.toNat ++ leBytes 4 m.scan.toNat ++ leBytes 4 m.cycle.toNat
      ++ slice m.digest 0 32
  | .resync r p b => leBytes 4 r ++ leBytes 4 p ++ slice b 0 4096
  | .take => []
  | m =>
    let b := Config.linkPayload m.typeCode seq.toNat
    slice b 0 (min 65520 (4 * (b.length / 4)))

/-- A copy of a message as each lane carries it: the 12-byte header, the payload, and the CRC-32C over both (14 R398). -/
def linkCopy (seq : Word) (m : LinkMsg) : Bytes :=
  let p := m.payload seq
  let b := leBytes 2 m.typeCode ++ leBytes 2 0 ++ leBytes 4 seq.toNat ++ leBytes 4 p.length ++ p
  b ++ leBytes 4 (crc32c b).toNat

/-- The sequence before another: they run from 1 to 0xFFFF_FFFF and again from 1 (14 R398). -/
def seqBefore (q : Word) : Word := if q ≤ 1 then 0xFFFFFFFF else q - 1

/-- Messages, newest first, with their sequences. -/
def numberBack : Word → List LinkMsg → List (Word × LinkMsg)
  | _, [] => []
  | q, m :: r => (q, m) :: numberBack (seqBefore q) r

/-- The copies that the latest command sent on both lanes, oldest first (14 R398). -/
def State.linkCopies (s : State) : List Bytes :=
  ((numberBack s.pair.txSeq s.pair.sent.reverse).map fun (q, m) => linkCopy q m).reverse

end Sys2Proof.Machine
end

