-- ==== Sys2Proof/Machine/Resync.lean ====
section
/-! DEFINITION. What a joining standby takes from the pages of a resynchronisation (14 R417, R418). -/

namespace Sys2Proof.Machine

open Sys2Proof

/-- A value that the received pages of a region carry, by object, field and position. The manual gives the regions beyond
the data memory no layout (14 R417). -/
def pageVal (s : State) (region object field pos : Nat) : Nat :=
  let pages := (s.pair.received.filter fun x => x.1.toNat == region).map fun x => (x.2.1.toNat, x.2.2)
  Config.resyncValue region pages object field pos

/-- A 32-bit word as a signed number. -/
def signedWord (n : Nat) : Int := (BitVec.ofNat 32 n).toInt

/-- New values for a list of numbers, its length kept. -/
def refill (v : Nat → Nat) (l : List Int) : List Int := l.mapIdx fun i _ => signedWord (v i)

/-- New values for rows of numbers. -/
def refillRows (v : Nat → Nat) (l : List (List Int)) : List (List Int) :=
  l.mapIdx fun k r => refill (fun i => v (k * 2 ^ 20 + i)) r

/-- The master copy of a problem, region 0x03 (05 R122, 14 R417). -/
def takeData (v : Nat → Nat → Nat) (d : ProbData) : ProbData :=
  { p := refill (v 0) d.p, a := refill (v 1) d.a, q := refill (v 2) d.q, lo := refill (v 3) d.lo, hi := refill (v 4) d.hi
    scen := refill (v 5) d.scen, x0 := refill (v 6) d.x0, xPred := refill (v 7) d.xPred }

/-- An iterate set of region 0x04; its fields count from `f` on. -/
def takeSet (v : Nat → Nat → Nat) (f : Nat) (x : IterSet) : IterSet :=
  { x := refillRows (v f) x.x, w := refillRows (v (f + 1)) x.w, rho := signedWord (v (f + 2) 0) }

/-- The accepted result with its set and status, region 0x04 (06 R161). -/
def takeResult (v : Nat → Nat → Nat) (r : SolResult) : SolResult :=
  { code := v 0 0 % 256, warm := v 1 0 % 2 == 1, iter := v 2 0 % 2 ^ 16, regs := v 3 0 % 2 ^ 16, sats := v 4 0 % 2 ^ 16
    resP := signedWord (v 5 0), resD := signedWord (v 6 0), set := takeSet v 7 r.set, q := refillRows (v 10) r.q
    l := refillRows (v 11) r.l, u := refillRows (v 12) r.u }

/-- The factor of a tile part or of a class S problem, region 0x04 (06 R161). -/
def takeFactor (v : Nat → Nat → Nat) (k : Factor) : Factor :=
  { l := refillRows (v 20) k.l, dinv := refill (v 21) k.dinv, rho := signedWord (v 22 0), rinv := signedWord (v 23 0)
    regs := v 24 0 % 2 ^ 16, rangeSat := v 25 0 % 2 == 1 }

/-- Regions 0x03 and 0x04 on a problem that joins lockstep. -/
def takeProblem (s : State) (n : Nat) (p : Problem) : Problem :=
  let v := pageVal s 4 n
  { p with data := takeData (pageVal s 3 n) p.data, acc := takeResult v p.acc, live := takeSet v 30 p.live
           factor := p.factor.map (takeFactor v), lastRho := signedWord (v 33 0) }

/-- The digest of a template that a problem has is that of the active unit's template, as the pages of region 0x04 tell
(14 R418). The manual does not define the digest. -/
def templateMatches (s : State) (n : Nat) : Bool :=
  (s.man.bind fun m => m.problems.find? (·.num == n)).any fun c => pageVal s 4 (2048 + c.template) 40 0 % 2 == 1

/-- The accepted set of a staging standby's problem, where its template's digest matches (14 R418). -/
def takeAccepted (s : State) (n : Nat) (p : Problem) : Problem :=
  if templateMatches s n then { p with acc := takeResult (pageVal s 4 n) p.acc } else p

/-- A staging standby takes the prices where every problem that couples has a template whose digest matches (14 R418). -/
def pricesMatch (s : State) : Bool :=
  s.pair.role != .staging || (coupledNums s).all (templateMatches s)

/-- The prices of region 0x04; they stand beside the problems (08 R225). -/
def takePrices (s : State) (l : List (Int × Int)) : List (Int × Int) :=
  if !pricesMatch s then l
  else
  let v := pageVal s 4 1040
  l.mapIdx fun i _ => (signedWord (v 0 i), signedWord (v 1 i))

/-- A loop of region 0x05. -/
def takeLoop (v : Nat → Nat) (x : LoopSt) : LoopSt :=
  let w := fun k => signedWord (v k)
  let b := fun k => v k % 2 == 1
  { started := b 0, spt := w 1, kp := w 2, ti := v 3 % 2 ^ 32, td := v 4 % 2 ^ 32, lo := w 5, hi := w 6, ramp := w 7
    manual := b 8, man := w 9, pv := w 10, spw := w 11, u := w 12, e := w 13, a := w 14, i := w 15, d := w 16, kk := w 17
    c := w 18, sats := BitVec.ofNat 16 (v 19), bad := BitVec.ofNat 16 (v 20), last := BitVec.ofNat 32 (v 21)
    clamped := b 22, pvBad := b 23, ilk := b 24, forced := b 25, limited := b 26, phase := v 27 % 2 ^ 16
    onUs := v 28 % 2 ^ 32, hand := x.hand, drive := b 29 }

/-- A running test of region 0x05 (11 R323, R324). -/
def takeTest (v : Nat → Nat) : LoopTest :=
  let w := fun k => BitVec.ofNat 32 (v k)
  { loop := v 0 % 512, k := v 1 % 2 ^ 32, s := BitVec.ofNat 15 (v 2), phi := w 3
    set := { kind := BitVec.ofNat 3 (v 4), output := v 5 % 2 == 1, hold := BitVec.ofNat 8 (v 6), amp := w 7, len := w 8
             f0 := w 9, f1 := w 10 } }

/-- A station of region 0x05: its exchange state and its counts, and the `n` words that substitute its inputs while it is not
exchanging. -/
def takeStation (n : Nat) (v0 : Nat → Nat → Nat) (x : Stn) : Stn :=
  let v := fun k => v0 k 0
  let b := fun k => v k % 2 == 1
  { x with seq := BitVec.ofNat 32 (v 0), epoch := BitVec.ofNat 64 (v 1), misses := v 2 % 16
           phase := if v 3 % 3 = 0 then .exchanging else if v 3 % 3 = 1 then .dropped else .rejoining
           permitted := b 4, run := v 5 % 2 ^ 16, stale := BitVec.ofNat 16 (v 6), fresh := b 7, failsafe := b 8
           lostA := b 9, lostB := b 10, status := BitVec.ofNat 32 (v 11), rx := BitVec.ofNat 32 (v 12)
           missTotal := BitVec.ofNat 16 (v 13), drops := BitVec.ofNat 16 (v 14), lossA := BitVec.ofNat 16 (v 15)
           lossB := BitVec.ofNat 16 (v 16), last := BitVec.ofNat 32 (v 17), nextMod := v 18 % 16, nextB := b 19
           timedOut := b 20, heard := b 21
           subst := if v 3 % 3 = 0 then none else some ((List.range n).map fun i => BitVec.ofNat 32 (v0 22 i)) }

/-- A task's counters of region 0x05. -/
def takeTask (v : Nat → Nat) (k : Task) : Task :=
  { k with scans := BitVec.ofNat 32 (v 0), overruns := BitVec.ofNat 16 (v 1), faults := BitVec.ofNat 16 (v 2)
           replays := BitVec.ofNat 16 (v 3), confirms := BitVec.ofNat 16 (v 4), merged := BitVec.ofNat 16 (v 5)
           mismatch := BitVec.ofNat 16 (v 6), last := BitVec.ofNat 32 (v 7), committed := v 8 % 2 == 1
           clamps := BitVec.ofNat 32 (v 9) }

/-- A meter channel of region 0x05 (16 R469). -/
def takeMeter (v : Nat → Nat) (m : Meter) : Meter :=
  let d := fun k => BitVec.ofNat 64 (v k)
  let h := fun k => BitVec.ofNat 16 (v k)
  { m with vals := { total := d 0, acc0 := d 1, acc1 := d 2, acc2 := d 3, acc3 := d 4, wTotal := h 5, w0 := h 6, w1 := h 7
                     w2 := h 8, w3 := h 9, cmds := h 10, since := BitVec.ofNat 32 (v 11) }
           rate := d 12, interval := v 13 % 2 ^ 64, tp := if v 14 % 2 = 1 then some (d 15) else none
           pulses := BitVec.ofNat 32 (v 16), merged := h 17 }

/-- Region 0x05: loops with their running tests, stations, tasks, all 16 meter channels and the commit sequence number; a
timer's instance words are data memory (14 R417, 16 R469, 10 R282, 11 R323). Objects are numbered loops first, then stations,
tasks and meter channels. -/
def takeCounters (s : State) : State :=
  let v := pageVal s 5
  let s' := s.loopTable.foldl (fun t c => t.updLoopSt c.num (takeLoop fun f => v c.num f 0)) s
  let s' := s.stationTable.stations.foldl (fun t c => t.updStation c.num (takeStation (inputWords c).length (v (512 + c.num)))) s'
  let s' := s.taskTable.foldl (fun t c => t.updTask c.num (takeTask fun f => v (2048 + c.num) f 0)) s'
  let s' := (List.range 16).foldl (fun t n => t.updMeter n (takeMeter fun f => v (2080 + n) f 0)) s'
  let s' := s'.updLoop fun e =>
    { e with tests := (List.range (v 2097 0 0 % 5)).map fun i => takeTest fun f => v (2098 + i) f 0 }
  s'.updScan fun x => { x with seq := BitVec.ofNat 32 (v 2096 0 0) }

/-- Regions 0x03 and 0x04 on a standby that joins lockstep; of region 0x04 the accepted sets and prices on a staging
standby (14 R417, R418). -/
def takeSolver (s : State) : State :=
  let f := if s.pair.role = .staging then takeAccepted s else takeProblem s
  s.updSol fun x =>
    { x with probs := x.probs.foldl (fun m e => Store.set {} m e.1 (f e.1 e.2)) x.probs
             prices := takePrices s x.prices, accPrices := takePrices s x.accPrices }

/-- Images that came before the active unit's state and whose scans that state has committed are over; so is every scan
that this unit had begun on its old state (14 R400, R417). -/
def dropStale (s : State) : State :=
  let s := s.updScan fun x => { x with tasks := x.tasks.map fun (n, k) => (n, { k with run := none, due := none }) }
  s.updPair fun p => { p with images := p.images.filter fun m => decide (0 < (m.scan - (s.task m.task.toNat).scans).toInt) }

/-- What a completed round of resynchronisation leaves in the standby (14 R417, R418). -/
def takeRegions (s : State) : State :=
  match s.pair.role with
  | .resync => dropStale (takeCounters (takeSolver s))
  | .staging => takeCounters (takeSolver s)
  | _ => s

end Sys2Proof.Machine
end

