-- ==== Sys2Proof/Machine/PairOps.lean ====
section
/-! DEFINITION. The redundant pair: roles, leases, fencing, takeover, messages of the crossing link, resynchronisation
and self-tests (14). -/

namespace Sys2Proof.Machine

open Sys2Proof

/-- The lease of the active unit is acknowledged: FENCE_OUT is high below this HFIO time since t_a, ns (14 R407). -/
def fenceHold : Nat := 2800000

/-- A decision that the manual leaves to the two units, in `n` ways. -/
def freeChoice (n : Nat) (s : State) : Nat × State :=
  let (x, s) := drawFree s
  (x % n, s)

/-- The unit takes an active role: FENCE_IN is read low again (14 R397, R409). The manual gives the line's fall no rule;
DESIGN CHOICE. -/
def takeActive (s : State) : State :=
  applyOutputs ((s.updPins fun p => { p with fenceIn := false }).updPair fun p => { p with role := .activeAlone, handed := false })

/-- The fence line test at a join or a switch-over: the new standby reads FENCE_IN high, the new active unit low
(14 R414). -/
def fenceTest (high : Bool) (s : State) : State :=
  s.updPair fun p => { p with fenceFault := p.fenceFault || (s.pins.fenceIn != high) }

/-- What this unit's adopted manifest shows the partner (03 R81, R82). -/
def ownRec (s : State) : PartnerRec :=
  { digest := s.mram.dev.digest, tide := (s.man.map (·.tideRaw)).getD [], pairSetup := (s.man.map (·.pairRaw)).getD [] }

/-- The partner's adopted manifest, which no message of the crossing link tells (03 R81, R82). -/
def learnPartner (s : State) : State :=
  let k := s.draws
  let s := { s with draws := k + 1 }
  s.updPair fun p =>
    { p with partner := { digest := Config.partnerDigest k, tide := Config.partnerTide k, pairSetup := Config.partnerPair k } }

/-- How the two manifests let a unit join: in lockstep where the digests agree; staged where they differ and the tide and
pair setup records are identical; else not at all (03 R81, R82). -/
inductive JoinAs where
  | lockstep | staging | apart
  deriving DecidableEq, Repr

/-- The comparison of the two manifests (03 R81, R82). -/
def joinAs (s : State) : JoinAs :=
  let a := ownRec s
  let b := s.pair.partner
  if a.digest = b.digest then .lockstep
  else if a.tide = b.tide ∧ a.pairSetup = b.pairSetup then .staging
  else .apart

/-- The unit joins as standby: it resynchronises, stages, or stays out of the pair (14 R397, R414, R416, R418; 03 R81,
R82). -/
def joinStandby (s : State) : State :=
  let s := learnPartner s
  let a := joinAs s
  let s := s.updPair fun p =>
    { p with role := (match a with
               | .lockstep => .resync
               | .staging => .staging
               | .apart => .notReady)
             digestDiff := decide (a ≠ .lockstep), apart := decide (a = .apart), tideTaken := false, rounds := 0, images := [] }
  let s := s.updPlace fun p => { p with taken := false }
  applyOutputs (if a = .staging then fenceTest true s else s)

/-- The role of a pair unit at step 0x08 (14 R397). -/
def decideRole (s : State) : State :=
  if s.inPair && s.pair.role == .none then
    if s.pair.linkUp then
      if s.pair.peerActive then joinStandby s
      else if s.pins.roleB then applyOutputs (s.updPair fun p => { p with role := .waiting })
      else takeActive s
    else if s.pins.peerOkIn && s.pins.roleB then applyOutputs (s.updPair fun p => { p with role := .waiting })
    else takeActive s
  else s

/-- Step 0x08 is entered at stage 1: tasks start and the role is decided (04 R99, 14 R397). -/
def enterTasks (s : State) : State := decideRole (s.updStart fun x => { x with step := 8 })

/-- Messages are delivered in sequence order; a sequence passed over is lost (14 R398, R405). -/
def receive (seq : Word) (f : State → State) (s : State) : State :=
  let next := nextSeq s.pair.rxSeq
  let ahead := (seq - next).toNat
  if !s.pair.linkUp ∨ seq = 0 ∨ 2 ^ 31 ≤ ahead then s
  else
    let s := if ahead = 0 then s else leaveLockstep s
    f (s.updPair fun p => { p with rxSeq := seq })

/-- The unit is active in a pair. -/
def activePair (s : State) : Bool :=
  match s.pair.role with
  | .activeLockstep | .activeStaging | .activeAlone => true
  | _ => false

/-- A standby is in lockstep or in staging standby (14 R412, R413). -/
def standbyReady (s : State) : Bool := s.pair.role == .activeLockstep || s.pair.role == .activeStaging

/-- The management processor has served its pair keep-alive: PEER_OK_OUT is high at stage 1 or above (14 R396). -/
def servePeerOk (s : State) : State :=
  s.updPair fun p => { p with peerOkOut := p.peerOkOut || decide (1 ≤ s.start.stage) }

/-- A LEASE may be sent: the keep-alive is served, and t_a lies within the last 1.2 ms (14 R406). Before the first
acknowledgement since the link came up there is no t_a, and R406 does not say how the first LEASE comes about: the model
sends it. DESIGN CHOICE, log entry 75. -/
def leaseDue (s : State) : Bool := s.pair.peerOkOut && s.pair.ta.all fun t => decide (s.clk.hfNs ≤ t + 1200000)

/-- LEASE_SEND (14 R399, R406). -/
def leaseSend (s : State) : State :=
  if activePair s && s.pair.linkUp && !s.pair.handed && !s.pair.fenced && leaseDue s then
    let q := s.pair.leaseSeq + 1
    let s := s.updPair fun p =>
      { p with leaseSeq := q, leases := p.leases ++ [(q, s.clk.hfNs)] }
    sendLink (.lease q s.mram.dev.epoch s.ntime.now s.pair.t4) s
  else s

/-- Seconds and nanoseconds as a signed count. -/
def stampInt (t : Stamp) : Int := stampNanos t

/-- The offset of an exchange, halves rounded down (14 R402). The manual states no rounding. DESIGN CHOICE. -/
def leaseOffset (x : Stamp × Stamp × Stamp) (t4 : Stamp) : Int :=
  ((stampInt x.2.1 - stampInt x.1) - (stampInt t4 - stampInt x.2.2)) / 2

/-- The standby's servo: a step, or an increment that the manual does not state (14 R402). -/
def followTime (off : Int) (s : State) : State :=
  let s := s.updPair fun p => { p with ntoff := BitVec.ofInt 32 (max (-2147483648) (min 2147483647 off)) }
  if 1000 < off.natAbs then
    let n := off.natAbs
    stepNtime (decide (0 < off)) (BitVec.ofNat 48 (n / 10 ^ 9)) (BitVec.ofNat 30 (n % 10 ^ 9)) s
  else
    let (k, s) := freeChoice (2 ^ 32 + 1) s
    let v := 7 * 2 ^ 31 + k
    putIncr (BitVec.ofNat 8 (v / 2 ^ 32)) (BitVec.ofNat 32 v) s

/-- The standby steers by the exchange before this one, where there was one (14 R402). -/
def leaseFollow (t4 : Stamp) (s : State) : State :=
  match s.pair.exch with
  | some x => followTime (leaseOffset x t4) s
  | none => s

/-- LEASE on a standby: the epoch, the acknowledgement within 10 µs, and the servo (14 R399, R402, R406, R409, R416). -/
def leaseIn (lease : Word) (epoch : DWord) (t1 t4 : Stamp) (s : State) : State :=
  let s := s.updPair fun p => { p with peerActive := true }
  let s := if s.pair.role = .waiting then joinStandby s else s
  if s.isStandby then
    let s := leaseFollow t4 (s.updDev fun d => { d with epoch := epoch })
    let t2 := s.ntime.now
    let (k, s) := freeChoice 10001 s
    let t3 := stampMoved t2 (k : Nat)
    sendLink (.leaseAck lease t2 t3) (s.updPair fun p => { p with peerOkOut := true, leaseAt := some s.clk.hfNs, expired := false, exch := some (t1, t2, t3) })
  else s

/-- Pages of a whole resynchronisation (14 R417). -/
def allPages (s : State) : Nat :=
  (s.dataArea.varCount + 1023) / 1024 + ((retainedWords s).length + 1023) / 1024 + openSize s 3 + openSize s 4 + 1

/-- A partner takes part after the link came up, and joins as the two manifests let it (14 R414, R417, R418; 03 R81,
R82). -/
def partnerJoins (s : State) : State :=
  if s.pair.role = .activeAlone then
    let s := learnPartner s
    let a := joinAs s
    let s := s.updPair fun p => { p with digestDiff := decide (a ≠ .lockstep), apart := decide (a = .apart) }
    let start := fun s : State => (beginResync s).updPair fun p => { p with pages := BitVec.ofNat 24 (allPages s) }
    match a with
    | .lockstep => start s
    | .staging => start (fenceTest false (s.updPair fun p => { p with role := .activeStaging }))
    | .apart => s
  else s

/-- LEASE_ACK on the active unit (14 R399, R406, R407). -/
def leaseAckIn (lease : Word) (s : State) : State :=
  if activePair s && !s.pair.fenced then
    match s.pair.leases.find? (·.1 == lease) with
    | none => s
    | some (_, t) =>
      let first := s.pair.ta.isNone
      let s := s.updPair fun p =>
        { p with ta := some t, t4 := s.ntime.now, leases := p.leases.filter (fun x => decide (t < x.2))
                 fenceOut := !p.handed && decide (s.clk.hfNs < t + fenceHold) }
      if first then partnerJoins s else s
  else s

/-- HFIO time since t_a has reached a count of ns; an acknowledgement on the same edge comes first (14 R407, R408;
01 R19). -/
def taReached (s : State) (n : Nat) : Bool := s.pair.ta.any fun t => decide (t + n ≤ s.clk.hfNs)

/-- FENCE_OUT_DROP (14 R407). -/
def fenceOutDrop (s : State) : State :=
  if activePair s && taReached s fenceHold then s.updPair fun p => { p with fenceOut := false } else s

/-- The unit self-fences (14 R408). -/
def selfFence (s : State) : State :=
  if s.pair.fenced then s
  else applyOutputs (raise 193 (s.updPair fun p => { p with fenced := true, fenceOut := false }))

/-- SELF_FENCE by time (14 R408). -/
def selfFenceByTime (s : State) : State := if activePair s && taReached s 4200000 then selfFence s else s

/-- FENCE_IN goes high: an active unit self-fences, and the I/O dies release every output (14 R408, R410). -/
def fenceInHigh (s : State) : State :=
  let s := s.updPins fun p => { p with fenceIn := true }
  applyOutputs (endKept (if activePair s then selfFence s else s))

/-- Frames launched after the takeover edge go out; the others stay suppressed (14 R409). -/
def liftQueue (now : Nat) (l : List QFrame) : List QFrame :=
  l.map fun f => { f with suppressed := !(f.launch.any fun t => decide (now < stampNanos t)) }

def liftSuppression (s : State) : State :=
  let now := nowNanos s
  { s with ports := s.ports.map fun (n, x) => (n, { x with q0 := liftQueue now x.q0, q1 := liftQueue now x.q1 }) }

/-- A scan whose start mark has fired without its image having come starts from an image frozen now, with the tide time of
its start mark (14 R410); the mark of a task whose scan still runs is an overrun (10 R280). -/
def startMissed (s : State) (c : TaskCfg) : State :=
  match (s.task c.num).due with
  | none => s
  | some t =>
    let s := s.updTask c.num fun k => { k with due := none }
    if (s.task c.num).run.isSome then overrun c.num s else beginScan c t none s

/-- The statuses and polls of a state task start mark that still awaited the active unit's image (12 R351, R353). -/
def roundMissed (s : State) : State :=
  match s.stn.roundDue with
  | some d => (stationRound d s).updStn fun e => { e with roundDue := none }
  | none => s

/-- The takeover edge, in the rule's order, and what goes on from it (14 R409, R410; 02 R48). Until the first cycle boundary,
at which the source is selected by 02 R46, the tide stands in holdover at the rate it last followed; R48 does not say what
it shows there. DESIGN CHOICE, log entry 61. -/
def takeover (s : State) : State :=
  let s := s.updPair fun p =>
    { p with fenceOut := true, role := .activeAlone, ta := none, leases := [], own := [], peer := []
             joinNext := false, handed := false, peerActive := false }
  let s := applyOutputs (s.updPins fun p => { p with fenceIn := false })
  let s := s.updDev fun d => { d with epoch := d.epoch + 1, takeovers := satInc d.takeovers }
  let s := raise 192 (liftSuppression s)
  let s := s.stationTable.stations.foldl (fun s c => if c.cfgC then s.updStation c.num fun x => { x with launch := none } else s) s
  let s := if s.tide.mode = .follow then s.updTide fun t => { t with mode := .holdover, steer := none, peerSrc := false } else s
  let s := if s.sol.fixing then markReached .solve s else s
  roundMissed (s.taskTable.foldl startMissed s)

/-- A standby may take over (14 R409). -/
def mayTakeOver (s : State) : Bool := s.pair.role == .lockstep || s.pair.role == .staging || s.pair.resynced

/-- The lease of a standby has run out: 3.0 ms of HFIO time since the last LEASE; one that comes on the same edge comes
first (14 R409, 01 R19). -/
def leaseOver (s : State) : Bool := s.pair.leaseAt.any fun t => decide (t + 3000000 ≤ s.clk.hfNs)

/-- PAIR_TAKEOVER: once for each lease that runs out (14 R409). -/
def leaseExpired (s : State) : State :=
  if s.isStandby && leaseOver s && !s.pair.expired then
    if mayTakeOver s then takeover s
    else raise 199 (s.updPair fun p => { p with peerLost := true, expired := true })
  else s

/-- Scan k of a task, begun or waiting here, is two or more before the one whose image comes (14 R405). -/
def behind (m : ImageMsg) (k : Word) : Bool := decide (2 ≤ (m.scan - k).toNat ∧ (m.scan - k).toNat < 2 ^ 31)

/-- A scan of the image's task that this unit has yet to commit is two or more behind (14 R405). -/
def imageLate (m : ImageMsg) (s : State) : Bool :=
  ((s.task m.task.toNat).run.any fun r => behind m r.scan) || s.pair.images.any fun x => x.task == m.task && behind m x.scan

/-- Its image has come for a task's start mark (14 R410). -/
def imageCame (m : ImageMsg) (s : State) : State :=
  s.updTask m.task.toNat fun k => { k with due := if k.due = some m.start then none else k.due }

/-- The image is that of a boundary scan. -/
def noteBoundary (m : ImageMsg) (s : State) : State :=
  if m.task.toNat = s.stateTask ∧ m.start.cycle.toNat % periodModulus s = 0 then
    s.updSol fun x => { x with boundaryScan := some m.scan }
  else s

/-- IMAGE (14 R400, R405, R417; 02 R47): a standby that has not committed scan k when scan k + 2 arrives leaves lockstep. One
that waits for the active unit's state keeps the last image of each task. -/
def imageIn (m : ImageMsg) (s : State) : State :=
  if s.isStandby then
    let again := imageAgain s m
    let s := imageNews m (noteBoundary m (imageCame m (adoptTide m.start s)))
    let s := if runsImages s && imageLate m s then leaveLockstep s else s
    if again then s
    else if runsImages s then s.updPair fun p => { p with images := p.images ++ [m] }
    else s.updPair fun p => { p with images := (p.images.filter fun x => x.task != m.task) ++ [m] }
  else s

/-- SAMPLE (11 R323). -/
def sampleIn (m : SampleMsg) (s : State) : State :=
  if s.isStandby then
    match s.mark? m.mark.toNat with
    | some k =>
      let s := s.updLoop fun e => { e with tstPending := m.tests.head? }
      applyOutputs (sampleGroup k.param m.time m.meas m.volt s)
    | none => s
  else s

/-- The frequency that the active unit's tide follows, nHz, and the run of its invalid cycles: its own valid tracker's, else
that of this unit's own tracker, else the last, and after three cycles without a source the nominal one (02 R42, R46,
R47). -/
def followedRate (t : Tracker) (s : State) : Nat × Nat :=
  if validCycle s.tideSetup t then (t.freq * 1000, 0)
  else if s.tide.freq ≠ 0 then (s.tide.freq, 0)
  else (if 3 ≤ s.tide.invalidRun + 1 then nominalRate s else s.tide.meas, s.tide.invalidRun + 1)

/-- Whether a following standby steers: it goes on until its error changes sign or is zero, and begins beyond 16 steps
(02 R43, R47). -/
def steerBy (was : Option Bool) (e : Int) : Option Bool :=
  if e = 0 then none
  else if was = some (decide (0 < e)) then was
  else if e.natAbs ≤ 16 then none
  else some (decide (0 < e))

/-- The standby's tide at a TIDE message: the active unit's tide stands at angle 0 of a cycle, and this one is steered to it
by the slew rule (02 R43, R47). -/
def steerTide (t : Tracker) (s : State) : State :=
  let (f, n) := followedRate t s
  let side := steerBy s.tide.steer (wrapAngle s.tide.angle)
  s.updTide fun x =>
    { x with meas := f, invalidRun := n, steer := side, rate := match side with | some a => slewRate a f | none => f }

/-- TIDE: the partner's tracker; a following tide takes its rate and is steered (02 R46, R47). -/
def tideIn (t : Tracker) (s : State) : State :=
  if s.isStandby then (if s.tide.mode = .follow then steerTide t s else s)
  else s.updTide fun x => { x with peerTracker := some t }

/-- EVENTS (17 R482). -/
def eventsIn (l : List (BitVec 8 × Nat)) (s : State) : State :=
  if s.isStandby then s.updEvt fun e => { e with edgePeer := e.edgePeer ++ l.map fun (n, k) => (n.toNat, k) } else s

/-- A problem that has passed the active unit's counts goes back to where it stood at them (07 R205). -/
def goBack (n : Nat) (x : Nat × Nat) (s : State) : State :=
  let p := s.prob n
  if p.it ≤ x.1 ∧ p.steps ≤ x.2 then s
  else match (Store.get [] s.sol.back n).find? fun q => q.it == x.1 && q.steps == x.2 with
    | some q => s.updProb n fun p => { q with works := p.works, reports := p.reports, stopQ := p.stopQ }
    | none => s

/-- One reported stop, of the work that the problem is in or of one that it has yet to begin: it stops at exactly the active
unit's counts (07 R205). -/
def stopReported (s : State) (x : BitVec 11 × Nat × Nat) : State :=
  let n := x.1.toNat
  withProblem n s fun c t s =>
    let s := s.updProb n fun p => { p with reports := p.reports + 1 }
    let p := s.prob n
    if p.works < p.reports then s.updProb n fun p => { p with stopQ := p.stopQ ++ [x.2] }
    else if p.reports < p.works then s
    else
      let s := goBack n x.2 s
      if (s.prob n).running then unitEnd n c t (s.updProb n fun p => { p with stopAt := some x.2 }) else s

/-- Rounds that the active unit reports count for the work that it is in (01 R23). -/
def noteRounds (m : SolverMsg) (x : Sol) : Sol :=
  let note := fun (l : Store Nat) (u k : Nat) => Store.set 0 l u (max k (Store.get 0 l u))
  let all := fun l => m.spans.foldl (fun l (u, k) => note l u.toNat k) (m.tiles.foldl (fun l (u, k) => note l u.toNat k) l)
  if x.peerPhase < x.phase then x
  else if x.peerPhase = x.phase then { x with reported := all x.reported }
  else { x with reportedNext := all x.reportedNext }

/-- SOLVER: rounds that pace the standby's own, and the counts of problems stopped (01 R23, 07 R205). -/
def solverIn (m : SolverMsg) (s : State) : State :=
  if s.isStandby then resumeBoundary (m.stopped.foldl stopReported (s.updSol (noteRounds m))) else s

/-- The active unit's digest of a fix, or of the commit of its boundary scan, shows that it has passed to its next work
(01 R23, 14 R403). -/
def passedWith (m : DigestMsg) (s : State) : Bool :=
  m.fix || (m.task.toNat == s.stateTask && s.sol.boundaryScan == some m.scan)

/-- DIGEST: compared with this unit's own; on a standby it also divides the active unit's reports by the work they belong to
(14 R403, R404; 01 R23). -/
def digestIn (m : DigestMsg) (s : State) : State :=
  let s := if s.pair.role = .lockstep ∧ passedWith m s then peerPasses s else s
  peerDigest m s

/-- A unit that joins as standby takes the active unit's epoch, which no message carries, and e0, stores the epoch, and
places anew for the next boundary (01 R24; 05 R116, R135; 14 R416). -/
def takeEpoch (m : HealthMsg) (s : State) : State :=
  match s.man with
  | none => s
  | some x =>
    let (k, s) := drawFree s
    let e := BitVec.ofNat 32 k
    let s := (s.updPlace fun p => { p with taken := true }).updDev fun d => { d with placeEpoch := e }
    joinPlacement x e m.e0Tiles m.e0Cores s

/-- A unit that has joined as standby and not yet taken the active unit's epoch. -/
def epochDue (s : State) : Bool :=
  !s.place.taken && !s.pair.apart && (match s.pair.role with
    | .resync | .staging | .notReady => true
    | _ => false)

/-- HEALTH: the partner's map (05 R129, R135; 14 R414). -/
def healthIn (m : HealthMsg) (s : State) : State :=
  let s := s.updPlace fun p => { p with peer := m, peerSeen := true }
  let s := s.updPair fun p => { p with peerFail := m.selfTest &&& 0xF != 0 }
  if epochDue s then takeEpoch m s else s

/-- RESYNC: pages are kept; data memory is written, whose words hold the retained area's; page 0 of the counter state is the
last, and the standby takes what the regions carry (14 R417, R418). A unit held out, or out of the pair, takes none
(14 R404, 03 R82). -/
def resyncIn (region page : Word) (b : Bytes) (s : State) : State :=
  if s.isStandby && !(s.pair.role == .heldOut) && !s.pair.apart then
    let s := if s.pair.role = .notReady then s.updPair fun p => { p with role := .resync, rounds := 0 } else s
    let s := s.updPair fun p => { p with received := (region, page, b) :: p.received.filter fun x => !(x.1 == region && x.2.1 == page) }
    let s := if region = 1 ∧ s.pair.role = .resync then
        s.updScan fun x => { x with data := Store.setMany 0 x.data (page.toNat * 1024) (bytesToWords (slice b 0 4096)) }
      else s
    if region = 5 ∧ page = 0 then
      (takeRegions s).updPair fun p => { p with rounds := satInc p.rounds, joinNext := decide (p.role = .resync), resynced := p.resynced || decide (p.role = .staging) }
    else s
  else s

/-- SWITCH: a standby takes over without waiting for the lease (14 R412). The fence line test of the new active unit passes
by the fall of the line that `takeover` makes (14 R414; log entry 13). -/
def switchIn (s : State) : State :=
  if s.pair.role = .lockstep ∨ s.pair.role = .staging then
    raise 200 (takeover (s.updDev fun d => { d with switches := satInc d.switches }))
  else s

/-- TAKE: a standby takes over (14 R413). -/
def takeIn (s : State) : State := if s.isStandby && mayTakeOver s then takeover s else s

/-- The crossing link goes down (14 R399, R405). -/
def linkDown (s : State) : State :=
  if s.pair.linkUp then
    let s := leaveLockstep s
    let s := s.updPair fun p =>
      { p with linkUp := false, laneUp := 0, held := none, peerActive := false, joining := false, joinNext := false
               role := if standbyReady s then .activeAlone else p.role }
    raise 197 s
  else s

/-- The crossing link comes up: a lane, or both, begins to deliver, and sequences begin anew (14 R398, R399). While it is up
on one lane the other begins. Which lane begins is open: a free value. No row stands for a lane that stops alone. -/
def linkUp (s : State) : State :=
  if s.pair.linkUp then
    if s.pair.laneUp = 3 then s else raise 197 (s.updPair fun p => { p with laneUp := 3 })
  else
    let (k, s) := freeChoice 3 s
    raise 197 (s.updPair fun p =>
      { p with linkUp := true, laneUp := BitVec.ofNat 2 (k + 1), txSeq := 0, rxSeq := 0, ta := none, leases := [], exch := none })

/-- A copy with a bad CRC, a reserved value or an oversized length is discarded and counted against its lane: more than 16 in
a second mark it bad (14 R398, R399, R414). -/
def badCopy (lane : Bool) (s : State) : State :=
  let i := if lane then 1 else 0
  let l := ((if lane then s.pair.bad1 else s.pair.bad0).filter fun t => decide (s.clk.hfNs < t + 10 ^ 9)) ++ [s.clk.hfNs]
  let s := s.updPair fun p =>
    if lane then { p with crc1 := satInc p.crc1, bad1 := l } else { p with crc0 := satInc p.crc0, bad0 := l }
  if 16 < l.length ∧ !s.pair.laneBad.getLsbD i then
    raise 197 (s.updPair fun p => { p with laneBad := putBit p.laneBad i true })
  else s

/-- A bad lane has run 10 s without an error (14 R399). -/
def laneRecover (lane : Bool) (s : State) : State :=
  let i := if lane then 1 else 0
  if s.pair.laneBad.getLsbD i then raise 197 (s.updPair fun p => { p with laneBad := putBit p.laneBad i false }) else s

/-- PEER_OK_IN has been low for 10 ms: a waiting unit becomes active (14 R397). -/
def peerLow (s : State) : State :=
  if s.pair.role = .waiting ∧ !s.pins.peerOkIn ∧ !s.pair.linkUp then takeActive s else s

/-- PEER_OK_IN changes: unit B's mooring outputs follow it (04 R89). -/
def peerOkChange (v : Bool) (s : State) : State := applyOutputs (s.updPins fun p => { p with peerOkIn := v })

/-- Note the reason of a PAIR_CTRL command. -/
def pairReason (r : Byte) (s : State) : State := s.updPair fun p => { p with reason := r }

/-- PAIR_CTRL.SWITCH (14 R412, R421). -/
def switchCommand (s : State) : State :=
  if !s.inPair then s
  else if s.pair.busy then pairReason 4 s
  else if !activePair s then pairReason 1 s
  else if !standbyReady s then pairReason 2 s
  else s.updPair fun p => { p with reason := 0, busy := true, done := false }

/-- PAIR_CTRL.RESYNC (14 R404, R421). -/
def resyncCommand (s : State) : State :=
  if !s.inPair then s
  else if s.pair.busy then pairReason 4 s
  else if s.pair.role = .heldOut then s.updPair fun p => { p with reason := 0, done := true, role := .resync, rounds := 0 }
  else pairReason 3 s

/-- Bytes of a health frame's payload (14 R415). -/
def healthPayload (s : State) (state health digest : Word) : Bytes :=
  let w := fun (n : Nat) (v : Nat) => leBytes n v
  w 1 1 ++ w 1 (boolNat s.pins.roleB) ++ w 1 (state.toNat / 256 % 16) ++ w 1 0 ++ w 4 health.toNat ++ w 4 (selfTestReg s).toNat
    ++ w 4 digest.toNat ++ w 8 s.mram.dev.epoch.toNat ++ w 6 s.ntime.sec.toNat ++ w 4 s.ntime.ns.toNat ++ w 2 0
    ++ w 8 s.place.tileFault.toNat ++ w 20 0

/-- STATE of PAIR_STATUS (14 R419). -/
def roleCode : PairRole → Nat
  | .none => 0
  | .activeLockstep => 1
  | .activeStaging => 2
  | .activeAlone => 3
  | .lockstep => 4
  | .staging => 5
  | .resync => 6
  | .notReady => 7
  | .heldOut => 8
  | .waiting => 9

/-- Microseconds since t_a, or since the last LEASE on a standby; none where there is none (14 R419). -/
def leaseAge (s : State) : Option Nat :=
  (if s.isStandby then s.pair.leaseAt else s.pair.ta).map fun t => (s.clk.hfNs - t) / 1000

/-- LEASE_OK (14 R419). -/
def leaseOk (s : State) : Bool :=
  (if s.isStandby then s.pair.leaseAt else s.pair.ta).any fun t =>
    decide (s.clk.hfNs ≤ t + (if s.isStandby then 3000000 else 1200000))

/-- This unit has a self-test failure (14 R419). -/
def selfFail (s : State) : Bool := s.pair.tileFail || s.pair.coreFail || s.pair.uncorr || s.pair.outFail

/-- PAIR_STATUS (14 R419). -/
def pairStatusReg (s : State) : Word :=
  regWord [(8, 4, roleCode s.pair.role), (7, 1, boolNat s.pins.peerOkIn), (6, 1, boolNat s.pins.fenceIn)
    , (5, 1, boolNat s.pair.fenceOut), (4, 1, boolNat (leaseOk s)), (1, 1, boolNat s.pins.roleB), (0, 1, boolNat (activePair s))]

/-- PAIR_HEALTH (14 R419): a lane is good when it delivers and is not marked bad. -/
def pairHealthReg (s : State) : Word :=
  let p := s.pair
  regWord [(16, 8, min 255 (mismatchesHour s)), (6, 1, boolNat p.digestDiff), (5, 1, boolNat p.peerFail), (4, 1, boolNat (selfFail s))
    , (3, 1, boolNat p.fenceFault), (2, 1, boolNat p.peerLost), (0, 2, (p.laneUp &&& ~~~ p.laneBad).toNat)]

/-- PAIR_DIGEST (14 R420). -/
def pairDigestReg (s : State) : Word := regWord [(16, 16, s.pair.compared.toNat), (0, 16, s.pair.mismatch.toNat)]

/-- HEALTH_FRAME: one frame for each port of the mask, in queue 3 (14 R415). The health EtherType 0 stands for 0x88B6. -/
def healthFrame (s : State) : State :=
  match s.man.bind (·.pair) with
  | none => s
  | some c =>
    if c.healthFrames then
      let body := healthPayload s (pairStatusReg s) (pairHealthReg s) (pairDigestReg s)
      (List.range 8).foldl (fun s p =>
        if c.healthPorts / 2 ^ p % 2 = 1 then
          let f := c.healthDst ++ (portCfg s p).addr ++ beBytes 2 (if c.healthEtype = 0 then 0x88B6 else c.healthEtype) ++ body
          enqueue p 3 { bytes := f } s
        else s) s
    else s

/-- The placed tile whose BIST is due: in tile order, excluded tiles skipped (14 R414). -/
def bistDue (s : State) : Option Nat :=
  let placed := (List.range 64).filter fun t => !s.place.cur.exclTiles.getLsbD t && !s.place.cur.spareTiles.contains t
  match placed.find? fun t => decide (s.pair.bistNext ≤ t) with
  | some t => some t
  | none => placed.head?

/-- A tile is tested: a spare tile at any time, a placed tile in its turn, an excluded tile not at all (14 R414). -/
def bistTakes (s : State) (n : Nat) : Bool :=
  !s.place.cur.exclTiles.getLsbD n && (s.place.cur.spareTiles.contains n || bistDue s == some n)

/-- TILE_BIST (14 R414). -/
def tileTest (n : Nat) (ok : Bool) (s : State) : State :=
  if !bistTakes s n then s
  else
    let s := s.updPair fun p =>
      { p with lastTile := BitVec.ofNat 6 n, bistNext := if s.place.cur.spareTiles.contains n then p.bistNext else n + 1 }
    if ok then s
    else
      let s := raise 198 (s.updPair fun p => { p with tileFail := true })
      if s.place.tileFault.getLsbD n then s else tileFaulty n s

/-- The spare core pair runs no scan (14 R414). -/
def spareIdle (s : State) (n : Nat) : Bool :=
  s.place.cur.sparePair == some n && !s.scan.tasks.any fun (t, k) => k.run.any fun r => r.live && runPair s t r == n

/-- CORE_PAIR_BIST: of the spare core pair, when it runs no scan (14 R414). -/
def corePairTest (n : Nat) (ok : Bool) (s : State) : State :=
  if ok ∨ !spareIdle s n then s
  else
    let s := raise 198 (s.updPair fun p => { p with coreFail := true })
    if s.place.coreFault.getLsbD n then s else coreFaulty n s

/-- An uncorrectable word in a tile marks it faulty (14 R414). -/
def eccInTile (n : Nat) (s : State) : State :=
  let s := s.updPair fun p => { p with uncorr := true }
  if s.place.tileFault.getLsbD n then s else tileFaulty n s

/-- A corrected word (14 R414). -/
def eccCorrected (s : State) : State := s.updPair fun p => { p with eccCorr := satInc p.eccCorr }

end Sys2Proof.Machine
end

