-- ==== Sys2Proof/Machine/PowerOps.lean ====
section
/-! DEFINITION. Supply, reset and restarts: what a reset clears, the start instant t0, the power-fail flush and the host's
restarts (04 R83, R101 to R107; 14 R413; 17 R485 to R492; 21 R580, R581). -/

namespace Sys2Proof.Machine

open Sys2Proof

/-- A checkpoint being written leaves its slot incomplete (08 R236). -/
def tearCheckpoint (s : State) : State :=
  match s.sol.draft with
  | none => s
  | some _ =>
    let one := !((newestCheckpoint s.mram).map (·.2)).getD true
    s.updMram fun m => if one then { m with ck1 := none } else { m with ck0 := none }

/-- A flash program or erase that is cut off leaves bytes that the manual does not state (20 R570). -/
def tearFlash (s : State) : State :=
  match s.hst.flOp with
  | some .program | some .erase =>
    let (k, s) := drawFree s
    let f := Store.setMany 0xFF s.flash s.hst.flAt (leBytes s.hst.flCount k)
    { s with flash := f, hst := { s.hst with flOp := none } }
  | _ => s

/-- A fuse command that is cut off has blown some of its steps (18 R508). -/
def tearFuses (s : State) : State :=
  match s.keys.job.map (·.effect) with
  | some KeyEffect.fuse =>
    let (k, s) := freeChoice (min 64 s.keys.fwSv.toNat - s.fuses + 1) s
    { s with fuses := s.fuses + k, keys := { s.keys with job := none } }
  | _ => s

/-- Work in MRAM, flash and fuses that a reset or a flush cuts off. -/
def cutOff (s : State) : State :=
  let s := if s.mtr.saving.isEmpty then s else abandonSave s
  tearFuses (tearFlash (tearCheckpoint s))

/-- What a reset of the logic die leaves: the waiting commands, the pins, MRAM, flash, fuses, the backup domain, the coast
counts since power-up and what the I/O dies keep. The forces stay until the next start journals their clearing (02 R56;
04 R103, R104). -/
def bare (s : State) : State :=
  { pending := s.pending, pins := s.pins, mram := { s.mram with retDraft := none }, flash := s.flash, fuses := s.fuses
    cal := s.cal, draws := s.draws, pair := { sent := s.pair.sent }, scan := { forces := s.scan.forces }
    fio := { supply := s.fio.supply, thermal := s.fio.thermal }
    tide := { coastCycles := s.tide.coastCycles, coastEntries := s.tide.coastEntries } }

/-- The logic die is reset: local outputs off, everything volatile lost (04 R87, R104). -/
def resetDie (s : State) : State := bare (cutOff s)

/-- This unit gives over to its standby before it resets, restarts or flushes (14 R413). -/
def givesOver (s : State) : Bool := activePair s && standbyReady s && !s.pair.fenced

/-- An active unit with a ready standby sends TAKE before it resets, restarts or flushes (14 R413). -/
def takeFirst (s : State) : State := if givesOver s then sendLink .take s else s

/-- A reset at once; an active unit with a ready standby sends TAKE first, and its I/O dies keep every output as it stands
until FENCE_IN goes high or the 100 µs are over (04 R104, 14 R413). No row stands for the 100 µs: they end at the latest
with the loading of the safe pattern. DESIGN CHOICE, log entry 15. -/
def resetGiving (s : State) : State :=
  let t := resetDie (takeFirst s)
  if givesOver s then t.updFio fun f => { f with applied := s.fio.applied, kept := true } else t

/-- The watchdog restarts within 60 s of operating time (04 R102). -/
def recentWdog (s : State) : List (BitVec 48) := s.mram.dev.wdog.filter fun t => decide (s.jrn.optime.toNat < t.toNat + 60000)

/-- Age record of the copy used after a flush that did not complete; records never written are dropped (04 R107,
17 R490). -/
def journalIncomplete (s : State) : State :=
  let d := s.mram.dev
  let age := match newestRetained s.mram with
    | some r => (d.warnAt - r.optime).toNat
    | none => 2 ^ 48 - 1
  let s := addRec { source := 1, sev := 6, code := 2, payload := BitVec.ofNat 64 age } s
  let s := dropRecs d.unwritten s
  if d.unwritten = 0 then s else raise 216 s

/-- The watchdog restart limit holds the start (04 R102). -/
def limitRestarts (s : State) : State :=
  if s.mram.dev.wdogLimit ≤ (recentWdog s).length then raise 8 (s.updStart fun x => { x with limited := true }) else s

/-- The device records at a start: OPTIME, the power-cycle count, marks cleared by CLEAR_FAULT. The order key goes on from
the records in MRAM, so that PCYC never decreases along it (05 R129, R140; 17 R483, R485, R486). -/
def startRecords (s : State) : State :=
  let d := s.mram.dev
  let opt := if d.flushDone then d.optime else d.optime + 61000
  let s := s.updDev fun d =>
    { d with pcyc := d.pcyc + 1, clearFault := false, faultTiles := if d.clearFault then 0 else d.faultTiles
             faultCores := if d.clearFault then 0 else d.faultCores }
  let s := s.updJrn fun j =>
    { j with optime := opt, pcyc := s.mram.dev.pcyc
             keyOptime := (topKey s.mram.journal).elim 0 fun k => BitVec.ofNat 48 (k / 16)
             keyOrder := (topKey s.mram.journal).elim 0 fun k => k % 16 + 1 }
  s.updPlace fun p => { p with tileFault := s.mram.dev.faultTiles, coreFault := s.mram.dev.faultCores }

/-- Restarts by cause in the device records: a watchdog restart counts, a host restart clears the count (04 R102). -/
def countRestart (c : Cause) (s : State) : State :=
  match c with
  | .watchdog => s.updDev fun d => { d with wdog := d.wdog ++ [s.jrn.optime] }
  | .hostWarm | .hostCold | .hostDefault => s.updDev fun d => { d with wdog := [] }
  | _ => s

/-- The start instant t0 of a reset logic die (04 R83, R101, R103, R107; 17 R492): the anchor is the first record. -/
def startInstant (cause : Cause) (s : State) : State :=
  let d := s.mram.dev
  let incomplete := d.flushBegan && !d.flushDone
  let s := s.updStart fun x =>
    { x with power := .on, cause := if d.flushBegan then .powerFail else cause, incomplete := incomplete
             incompleteAtStart := incomplete, holdLow := d.holdLow }
  let s := settleEvents (anchor 0 (startRecords s))
  let s := settleEvents (if s.cal.osf then raise 18 s else s)
  let s := if incomplete then journalIncomplete s else s
  let s := s.updDev fun d => { d with flushBegan := false, flushDone := false, unwritten := 0 }
  let s := applyForce .clearAll s
  limitRestarts (countRestart cause s)

/-- Power-up: the coast counts begin anew (02 R56). -/
def powerUp (s : State) : State := if s.pins.vin then s else s.updTide fun t => { t with coastCycles := 0, coastEntries := 0 }

/-- The start instant of a reset die with VIN valid, or reset held by RESET_N (04 R83). -/
def startOrHold (s : State) : State :=
  let s := resetDie (powerUp s)
  if s.pins.resetN then startInstant .powerOn (s.updPins fun p => { p with vin := true })
  else (s.updPins fun p => { p with vin := true }).updStart fun x => { x with power := .held }

/-- VIN_VALID: the start instant, where RESET_N is released (04 R83, R105, R107; 21 R580, R581). A flush whose VIN has
fallen below the reset threshold and is valid again without FLUSH_COMPLETE is one that HOLD could not finish; while VIN has
not fallen so far the flush goes on. DESIGN CHOICE, log entry 72. -/
def vinValid (s : State) : State :=
  match s.start.power with
  | .off | .halted => startOrHold s
  | .flush => if s.pins.vin then s else startOrHold s
  | _ => s.updPins fun p => { p with vin := true }

/-- RESET_N_ASSERT: outputs off and the logic die held in reset, without a flush (04 R104; 14 R413; 21 R580). -/
def resetAssert (s : State) : State :=
  let s := s.updPins fun p => { p with resetN := false }
  match s.start.power with
  | .on => (resetGiving s).updStart fun x => { x with power := .held, cause := .resetPin }
  | .flush | .halted =>
    (resetDie s).updStart fun x => { x with power := if s.pins.vin then .held else .off, cause := .resetPin }
  | _ => s

/-- RESET_N_RELEASE (04 R83; 21 R580). -/
def resetRelease (s : State) : State :=
  let s := s.updPins fun p => { p with resetN := true }
  if s.start.power = .held ∧ s.pins.vin then startInstant s.start.cause s else s

/-- WATCHDOG_EXPIRY: a reset without a flush, and a start at once (04 R104, R102; 14 R413). -/
def watchdogExpiry (s : State) : State := startInstant .watchdog (resetGiving s)

/-- VIN_BELOW_RESET: a flush in progress masks it, and PEER_OK_OUT goes low at once (14 R396; 21 R581). -/
def vinBelowReset (s : State) : State :=
  let s := (s.updPins fun p => { p with vin := false }).updPair fun p => { p with peerOkOut := false }
  match s.start.power with
  | .on | .held => resetDie s
  | _ => s

/-- Every problem of the solver array stops, without results (04 R106). -/
def haltSolver (s : State) : State :=
  s.updSol fun x =>
    { x with draft := none, probs := x.probs.map fun (n, p) => (n, { p with running := false, build := none, work := .idle }) }

/-- Running scans are abandoned, their landing buffers discarded (04 R106). -/
def abandonScans (s : State) : State :=
  s.updScan fun x => { x with tasks := x.tasks.map fun (n, k) => (n, { k with run := none }) }

/-- The first part of a flush: launch queues, scans and solver end, and the retained copy begins (04 R106, 10 R294). -/
def beginFlush (s : State) : State :=
  let s := updPorts (fun x => { x with q0 := [], q1 := [], q2 := [], q3 := [] }) s
  let s := haltSolver (cutOff (abandonScans s))
  if s.start.adopted then beginRetained s else s

/-- The journal buffer is written; before the rebuild has ended it is discarded (04 R106; 17 R489, R490). -/
def flushJournal (s : State) : State :=
  let l := s.jrn.taken ++ s.jrn.buffer
  let s := s.updJrn fun j => { j with taken := [], buffer := [] }
  if s.jrn.rebuilt then (writeAll l s).1 else dropRecs l.length s

/-- The end of a flush: the journal is written, the copy sealed, and the flush recorded complete (04 R106). -/
def completeFlush (time : Nat) (s : State) : State :=
  let s := endRetained (flushJournal s)
  s.updDev fun d => { d with flushDone := true, flushTime := satNat 8 time, optime := s.jrn.optime, unwritten := 0 }

/-- The flush of a power-fail warning begins; with TAKE sent first the outputs are kept, and then released (04 R106, R107,
R112; 14 R413; 17 R490, R491). -/
def warnedFlush (vinMv : BitVec 16) (holdLow : Bool) (s : State) : State :=
  let give := givesOver s
  let s := (takeFirst s).updFio fun f => { f with kept := give, given := give }
  let n := bufferCount s
  let s := s.updStart fun x => { x with power := .flush, warn := true, holdLow := holdLow, vinMv := vinMv }
  let s := s.updDev fun d =>
    { d with holdLow := holdLow, warnAt := s.jrn.optime, flushBegan := true, flushDone := false, unwritten := n }
  let s := raise 1 (addRec { source := 1, sev := 7, code := 1, payload := vinMv.setWidth 64 } s)
  applyOutputs (beginFlush s)

/-- PFAIL_WARN: VIN has fallen below the threshold; a VIN at or above it is no warning (04 R105). -/
def pfailWarn (vinMv : BitVec 16) (holdLow : Bool) (s : State) : State :=
  if vinMv.toNat < s.start.threshold.toNat then warnedFlush vinMv holdLow s else s

/-- FLUSH_COMPLETE: the logic halts, and no longer serves the pair's keep-alive (04 R106, 14 R396, 21 R581). Outputs that
R413 kept are released. -/
def flushComplete (time : Nat) (s : State) : State :=
  if s.start.power = .flush then
    let s := completeFlush time s
    let s := (s.updStart fun x => { x with power := .halted }).updPair fun p => { p with peerOkOut := false }
    if s.fio.kept then applyOutputs (endKept s) else s
  else s

/-- A host restart: the flush, then the reset and a start with its cause; it abandons a verification in progress
(04 R102, R104, R110; 03 R79). The duration of the flush is open. The row is the flush and the restart in one, as the
opcode table has it, so no command comes between them (log entry 72). -/
def hostRestart (cause : Cause) (s : State) : State :=
  let s := settleEvents (takeFirst s)
  let (k, s) := drawFree s
  startInstant cause (bare (completeFlush k (beginFlush s)))

end Sys2Proof.Machine
end

