-- ==== Sys2Proof/Machine/StartUpOps.lean ====
section
/-! DEFINITION. The steps of a start: safe pattern, crystals, firmware, tide acquisition and HOLD (04 R83, R99, R100;
18 R506, R507; 19 R529, R530; 02 R29). -/

namespace Sys2Proof.Machine

open Sys2Proof

/-- Pin XSPI_RESET_N is low: from the start instant until the SFDP read (21 R583, R590). -/
def xspiResetLow (s : State) : Bool := s.start.power == .on && s.hst.flSize == 0

/-- HFIO is qualified; LFIO with it (19 R529). The manual names no instant for LFIO. DESIGN CHOICE. -/
def hfioQualified (s : State) : State := s.updClk fun c => { c with qual := c.qual ||| 3 }

/-- The safe pattern becomes effective; blank MRAM holds every output off (04 R83, R90). -/
def loadSafe (s : State) : State :=
  if s.start.stage = 0 ∧ !s.fio.loaded then
    applyOutputs ((endKept s).updFio fun f => { f with loaded := true, safe := s.mram.safe.getD 0 })
  else s

/-- The HOST channel before adoption: the host blob that the last adopted manifest named (20 R559). -/
def loadHostChannel (s : State) : State :=
  match s.mram.dev.hostBlob with
  | some b => match unwrapBlob b with
    | some k => s.updKeys fun x => { x with hostBlob := BitVec.ofNat 8 b.num, hostKey := some k }
    | none => s
  | none => s

/-- MOORING_EVALUATE: stage 1 is entered (04 R83, R90; 20 R559). -/
def mooringStage (fail : Option Nat) (s : State) : State :=
  if s.start.stage = 0 then loadHostChannel (evaluateMooring fail s) else s

/-- XTAL2 at step 0x01: qualified, or the calendar stands with CAL_OSF set (19 R530, R539). -/
def judgeXtal2 (ok : Bool) (s : State) : State :=
  if ok then s.updClk fun c => { c with qual := putBit c.qual 3 true }
  else raise 11 (setOsf 1 (s.updClk fun c => { c with qual := putBit c.qual 3 false }))

/-- Step 0x01 is in progress, or a restart limit holds the start at step 0x09 with XTAL1 not yet qualified: that hold
runs the management service, whose ports need XTAL1 (04 R98, R99, R102; 19 R528). DEDUCED, log entry 25. -/
def atCrystals (s : State) : Bool :=
  s.start.stage == 1 && (s.start.step == 1 || (s.start.step == 9 && !s.clk.qual.getLsbD 2))

/-- XTAL_QUALIFIED: the loops lock, the monitors arm, and OPTIME and NTIME run on them (04 R99; 13 R380; 17 R485;
19 R530, R531). -/
def xtalQualified (ok : Bool) (s : State) : State :=
  if atCrystals s then
    let s := judgeXtal2 ok s
    let s := s.updClk fun c => { c with qual := putBit c.qual 2 true, lock := 7, armed := true }
    let s := s.updJrn fun j => { j with sub := j.sub / 1000 }
    startNtime (s.updStart fun x => { x with step := if x.step = 9 then 9 else 2 })
  else s

/-- XTAL_RETRY: XTAL1 has failed step 0x01, which begins again (04 R99). -/
def xtalRetry (ok : Bool) (s : State) : State := if atCrystals s then judgeXtal2 ok s else s

/-- What the firmware checks give: a reason with the signature results where they were evaluated, or the security version
and the digest (18 R507). -/
inductive FwRes where
  | refuse (reason : Nat) (sig : Option (Bool × Bool))
  | run (sv : Nat) (digest : Bytes)
  deriving DecidableEq, Repr

/-- The firmware checks from the lengths on (18 R506, R507). -/
def verifyFwBody (s : State) (fail : Option Nat) (base body : Nat) (h : Bytes) : FwRes :=
  match readFlash s fail base (64 + body + 5432) with
  | none => .refuse 1 none
  | some b =>
    let ed := cut b (64 + body) 32
    let ml := cut b (96 + body) 1952
    let sb := cut b (2048 + body) sigLength
    if Config.sha512 ed ≠ Config.vendorEd ∨ Config.sha512 ml ≠ Config.vendorMl then .refuse 9 none
    else if !sigForm sb then .refuse 10 none
    else if !sigDigestOk sb (b.take (2048 + body)) then .refuse 11 none
    else
      let g := sigVerify (ed, ml) "UL-7160 firmware" sb
      if g.1 && g.2 then .run (fld h 17 1) (cut sb 8 64) else .refuse 12 (some g)

/-- The checks of a firmware slot, in order (18 R506, R507). -/
def verifyFirmware (s : State) (p : Pointer) (fail : Option Nat) : FwRes :=
  let base := fwBase p.fwSlot
  match readFlash s fail base 64 with
  | none => .refuse 1 none
  | some h =>
    let total := fld h 12 4
    let body := fld h 28 4
    if h.all (· == 0xFF) then .refuse 2 none
    else if cut h 0 8 ≠ [0x55, 0x4C, 0x46, 0x57, 0x37, 0x31, 0x36, 0x30] ∨ fld h 8 2 ≠ 1 ∨ fld h 10 2 ≠ 64 ∨ 64 < fld h 17 1
        ∨ !zero h 18 2 ∨ !zero h 32 32 then .refuse 3 none
    else if fld h 16 1 ≠ p.fwSlot then .refuse 4 none
    else if body = 0 ∨ body % 8 ≠ 0 ∨ total ≠ 64 + body + 5432 ∨ 8388608 < total then .refuse 5 none
    else if fld h 24 4 ≠ 0x7160 then .refuse 6 none
    else if fld h 20 4 ≠ p.fwSeq then .refuse 7 none
    else if fld h 17 1 < s.fuses then .refuse 8 none
    else verifyFwBody s fail base body h

/-- FIRMWARE_VERIFY at step 0x02 (18 R507). Without a usable pointer block the refusal is the manifest's (03 R62). -/
def firmwareVerify (fail : Option Nat) (s : State) : State :=
  if s.start.stage = 1 ∧ s.start.step = 2 ∧ s.keys.fwReason = 0 then
    match s.start.pointer with
    | none => refuseManifest s.start.pointerBad 0 s
    | some p =>
      let s := s.updKeys fun k => { k with fwSlot := p.fwSlot == 2 }
      match verifyFirmware s p fail with
      | .refuse r g =>
        raise 201 (s.updKeys fun k => { k with fwReason := BitVec.ofNat 8 r, fwOk := false, sigFw := (g.map sigBits).getD k.sigFw })
      | .run sv d =>
        let s := s.updKeys fun k => { k with fwOk := true, fwSv := BitVec.ofNat 8 sv, fwDigest := d, sigFw := 0 }
        s.updStart fun x => { x with step := 3 }
  else s

/-- After a manifest check the outputs follow the channel table in force; a unit that no pair setup record makes part of
a pair heeds FENCE_IN no further (14 R394, 15 R424). DESIGN CHOICE. -/
def settleAdoption (s : State) : State :=
  if s.start.adopted then
    applyOutputs (bindInputs (if s.inPair then s else s.updPins fun p => { p with fenceIn := false }))
  else applyOutputs s

/-- The tide has started at 0:0: HOLD is awaited, or tasks start (04 R99, R100). -/
def tideBegun (s : State) : State :=
  if s.start.step = 6 then (if s.start.holdOk then enterTasks s else s.updStart fun x => { x with step := 7 }) else s

/-- TIDE_LOCK (02 R29). -/
def tideLock (s : State) : State :=
  if s.tide.mode = .acquire ∧ 8 ≤ s.tide.validRun then tideBegun (raise 12 (beginTide .locked s.tide.meas s)) else s

/-- ACQUISITION_TIMEOUT: no eight consecutive valid cycles have come (02 R29, R42). -/
def acquisitionTimeout (s : State) : State :=
  if s.tide.mode = .acquire ∧ s.tide.validRun < 8 then
    let s := beginTide .coast (nominalRate s) s
    tideBegun (raise 13 (s.updTide fun t => { t with coastEntries := satInc t.coastEntries }))
  else s

/-- HOLD_OK (04 R99, R100). -/
def holdRises (s : State) : State :=
  let s := s.updStart fun x => { x with holdOk := true }
  if s.start.stage = 1 ∧ s.start.step = 7 then enterTasks s else s

/-- HOLD_LOW (04 R100). -/
def holdFalls (s : State) : State :=
  s.updStart fun x => { x with holdOk := false, step := if x.stage = 1 ∧ x.step = 8 then 7 else x.step }

end Sys2Proof.Machine
end

