-- ==== Sys2Proof/Machine/FlashOps.lean ====
section
/-! DEFINITION. The flash commands of the SYS block and the acceptance of the other manifest slot (03 R60, R63, R76,
R78; 20 R569, R570). -/

namespace Sys2Proof.Machine

open Sys2Proof

/-- Flash bytes written from an address on. -/
def flashWrite (a : Nat) (b : Bytes) (s : State) : State := { s with flash := Store.setMany 0xFF s.flash a b }

/-- Erase `n` bytes from an address on (03 R58). -/
def flashErase (a n : Nat) (s : State) : State :=
  { s with flash := s.flash.filter fun e => decide (e.1 < a ∨ a + n ≤ e.1) }

/-- Bytes programmed over what the flash holds: an erased byte takes its value, and what one that was not erased takes the
manual does not state (20 R570). -/
def programmed : Bytes → Bytes → State → Bytes × State
  | old :: o, new :: n, s =>
    let (b, s) := if old = 0xFF then (new, s) else let (k, s) := drawFree s; (BitVec.ofNat 8 k, s)
    let (r, s) := programmed o n s
    (b :: r, s)
  | _, _, s => ([], s)

/-- Capacity of the flash in bytes, from its SFDP table (20 R569). -/
def flashSize : Nat := Config.flashMiB * 2 ^ 20

/-- The device reads the flash for a start: until stage 2 is entered, where no hold keeps the start at stage 1
(03 R60, R78). -/
def readsForStart (s : State) : Bool :=
  decide (s.start.stage < 2) && !s.start.refused && !s.start.limited && decide (s.keys.fwReason = 0)

/-- Two ranges of bytes meet. -/
def rangesMeet (a n b m : Nat) : Bool := decide (a < b + m ∧ b < a + n)

/-- Regions that no host command may change at stages 2 and 3: the adopted manifest slot, the adopted firmware slot and the
region of the mooring record in use (03 R59, R78). -/
def protectedRegions (s : State) : List (Nat × Nat) :=
  let moor := match s.moor.record with
    | some r => if s.start.mooring = 1 then [(moorBase r.slot, 0x20000)] else []
    | none => []
  (manBase (if s.mram.dev.manSlot then 2 else 1), 0x4000000) :: (fwBase (if s.keys.fwSlot then 2 else 1), 0x800000) :: moor

/-- Why a program or an erase of a range is rejected, or 0 (03 R78). -/
def changeReason (s : State) (a n : Nat) : Byte :=
  if readsForStart s then 1
  else if decide (2 ≤ s.start.stage) && (protectedRegions s).any fun r => rangesMeet a n r.1 r.2 then 2
  else 0

/-- Why a READ or PROGRAM range is invalid (20 R570). -/
def rangeInvalid (a n : Nat) : Bool := decide (a % 4 ≠ 0 ∨ n % 4 ≠ 0 ∨ n < 4 ∨ 4096 < n ∨ flashSize < a + n)

/-- Accept a flash command, or show why not (20 R569). -/
def flashCommand (op : FlashOp) (count : Nat) (reason : Byte) (s : State) : State :=
  if s.hst.flBusy then s.updHst fun h => { h with flReason := 7 }
  else if reason = 0 then
    s.updHst fun h =>
      { h with flReason := 0, flDone := false, flBusy := true, flOp := some op, flAt := h.flAddr.toNat, flCount := count }
  else s.updHst fun h => { h with flReason := reason }

/-- SYS_FL_CTRL READ (20 R570). -/
def flashReadCommand (s : State) : State :=
  let n := s.hst.flLen.toNat
  flashCommand .read n (if rangeInvalid s.hst.flAddr.toNat n then 3 else 0) s

/-- SYS_FL_CTRL PROGRAM (03 R78; 20 R570). -/
def flashProgramCommand (s : State) : State :=
  let a := s.hst.flAddr.toNat
  let n := s.hst.flLen.toNat
  flashCommand .program n (if rangeInvalid a n then 3 else changeReason s a n) s

/-- SYS_FL_CTRL ERASE (03 R78; 20 R570). -/
def flashEraseCommand (s : State) : State :=
  let a := s.hst.flAddr.toNat
  let bad := decide (a % 65536 ≠ 0 ∨ s.hst.flLen ≠ 0 ∨ flashSize < a + 65536)
  flashCommand .erase 65536 (if bad then 3 else changeReason s a 65536) s

/-- A flash command ends: DONE, and FLASH_DONE (20 R569 to R571). -/
def flashEnds (reason : Byte) (s : State) : State :=
  raise 22 (s.updHst fun h => { h with flOp := none, flBusy := false, flDone := true, flReason := reason })

/-- The effect of a flash command that completes (20 R570). -/
def flashEffect (op : FlashOp) (s : State) : State :=
  let a := s.hst.flAt
  let n := s.hst.flCount
  match op with
  | .read => s.updHst fun h => { h with flBuf := Store.setMany 0 h.flBuf 0 (flashRead s a n) }
  | .erase => flashErase a n s
  | .program =>
    let (b, s) := programmed (flashRead s a n) (Store.getMany 0 s.hst.flBuf 0 n) s
    flashWrite a b s

/-- A program or erase that the flash reports failed leaves a range that the manual does not state (20 R570). -/
def flashTorn (op : FlashOp) (s : State) : State :=
  match op with
  | .read => s
  | _ =>
    let (k, s) := drawFree s
    flashWrite s.hst.flAt (leBytes s.hst.flCount k) s

/-- FLASH_DONE (20 R570). -/
def flashDone (ok : Bool) (s : State) : State :=
  match s.hst.flOp with
  | none => s
  | some op => if ok then flashEnds 0 (flashEffect op s) else flashEnds 4 (flashTorn op s)

/-- The other slot of two (03 R61). -/
def otherSlot (n : Nat) : Nat := if n = 1 then 2 else 1

/-- Base of the pointer block copy that the start does not use: the invalid one, else the older, else copy 1
(03 R59, R63). -/
def spareCopy (s : State) : Nat := if s.start.copy1 then 0 else 0x10000

/-- Write a pointer block copy: its sector is erased and the copy programmed; a failed write leaves bytes that the manual
does not state (03 R63, R76). -/
def writePointer (ok : Bool) (p : Pointer) (s : State) : State :=
  let a := spareCopy s
  if ok then
    (flashWrite a (pointerBytes p) (flashErase a 65536 s)).updStart fun x => { x with pointer := some p, copy1 := !x.copy1 }
  else
    let (b, s) := drawBytes 64 s
    flashWrite a b (flashErase a 65536 s)

/-- The verification of the other slot, the pointer write, and the adoption (03 R76). A pointer write that fails, or
whose copy does not read back, gives FLASH_READ, and raises MANIFEST_REFUSED though no check of R71 failed, which R80 does
not say. DESIGN CHOICE, log entry 67. -/
def acceptSlot (fail : Option Nat) (writeOk : Bool) (p : Pointer) (s : State) : State :=
  let slot := otherSlot p.manSlot
  let seq := s.hst.flSeq.toNat
  match verifyManifest s slot seq fail with
  | .refuse r i g => flashEnds (if r = 1 then 4 else 0) (refuseManifest r i (showVerify slot true g (r == 0x0F) s))
  | .ok v =>
    let q : Pointer := { p with seq := pointerNext p.seq, manSlot := slot, manSeq := seq }
    let back := spareCopy s
    let s := writePointer writeOk q (showVerify slot true (some (true, true)) false s)
    if writeOk && decide (flashRead s back 64 = pointerBytes q) then flashEnds 0 (settleAdoption (adopt v s))
    else flashEnds 4 (refuseManifest 1 0 s)

/-- SYS_FL_CTRL ACCEPT_OTHER (03 R76, R79; 20 R569). Where no copy of the pointer block is usable it names no slot, and the
refusal stands. -/
def acceptOther (fail : Option Nat) (writeOk : Bool) (s : State) : State :=
  if s.hst.flBusy then s.updHst fun h => { h with flReason := 7 }
  else if s.hst.flLen ≠ 0 then s.updHst fun h => { h with flReason := 3 }
  else if !(s.start.refused && s.start.stage == 1) then s.updHst fun h => { h with flReason := 5 }
  else
    match s.start.pointer with
    | some p => acceptSlot fail writeOk p (s.updHst fun h => { h with flDone := false })
    | none => flashEnds 0 (refuseManifest s.start.pointerBad 0 s)

end Sys2Proof.Machine
end

