-- ==== Sys2Proof/Machine/KeyOps.lean ====
section
/-! DEFINITION. The key block: statements, blobs, and the key commands with their checks (18). -/

namespace Sys2Proof.Machine

open Sys2Proof

/-- The blob of an MRAM slot, where it is valid on this unit (18 R513, R514). -/
def slotBlob (s : State) (n : Nat) : Option (Blob × Bytes) :=
  match Store.get none s.mram.blobs n with
  | some b => if blobMine b.raw then (unwrapBlob b).map fun k => (b, k) else none
  | none => none

/-- Bytes of a table of eight or sixteen words. -/
def wordTable (m : Store Word) (n : Nat) : Bytes := wordsToBytes (Store.getMany 0 m 0 n)

/-- The enrolled owner key identifier, zero when unenrolled (18 R509, R519). -/
def ownerIdNow (s : State) : Bytes := ((s.mram.dev.owner).map ownerId).getD (List.replicate 8 0)

/-- Header of a statement (18 R519). -/
def statementHead (s : State) (type : Nat) : Bytes :=
  [0x55, 0x4C, 0x41, 0x54] ++ leBytes 2 1 ++ leBytes 1 type ++ [0] ++ Config.deviceId ++ wordTable s.keys.nonce 8 ++ ownerIdNow s

/-- A field of exactly `n` bytes: cut, or padded with zeros. -/
def fixed (n : Nat) (b : Bytes) : Bytes := slice b 0 n

/-- Pair role of an attestation (18 R520). -/
def roleByte (s : State) : Nat :=
  if !s.inPair then 0
  else if activePair s then 1
  else match s.pair.role with
    | .lockstep => 2
    | .staging => 3
    | _ => 4

/-- Body of an attestation statement, bytes 64 to 383 (18 R520). -/
def attestBody (s : State) : Bytes :=
  let d := s.mram.dev
  let m := (s.moor.record.map (·.digest)).getD []
  fixed 64 Config.romDigest ++ fixed 64 s.keys.fwDigest ++ fixed 64 m ++ fixed 64 (if s.start.adopted then d.digest else [])
    ++ leBytes 1 s.fuses ++ leBytes 1 s.keys.fwSv.toNat ++ [Config.lifecycle, 0]
    ++ leBytes 4 (if s.start.adopted then d.manSeq.toNat else 0) ++ leBytes 6 s.jrn.optime.toNat ++ leBytes 3 s.jrn.pcyc.toNat
    ++ leBytes 1 s.start.stage.toNat ++ leBytes 1 (roleByte s) ++ leBytes 1 (boolNat s.forcing) ++ leBytes 8 d.epoch.toNat
    ++ List.replicate 36 0

/-- A statement signed by the attestation keys or, for an endorsement, by the identity keys (18 R499, R501, R519). -/
def signStatement (edLabel mlLabel : String) (context : Bytes) (name : String) (draw : Nat) (object : Bytes) : Bytes :=
  object ++ sigBlock (deriveKey edLabel context) (deriveKey mlLabel context) name draw object

/-- Attestation statement (18 R520, R523). -/
def attestation (s : State) : Bytes :=
  signStatement "AT-ED25519" "AT-MLDSA65" (ownerIdNow s) "UL-7160 attestation" s.draws (statementHead s 1 ++ attestBody s)

/-- Endorsement of the attestation keys (18 R522). -/
def endorsement (s : State) : Bytes :=
  let ed := Config.edPublic (deriveKey "AT-ED25519" (ownerIdNow s))
  let ml := Config.mlPublic (deriveKey "AT-MLDSA65" (ownerIdNow s))
  signStatement "ID-ED25519" "ID-MLDSA65" [] "UL-7160 endorsement" s.draws (statementHead s 3 ++ fixed 32 ed ++ fixed 1952 ml)

/-- Key-origin statement of a PROVABLE blob (18 R521). -/
def keyOriginOf (s : State) (b : Blob) (key : Bytes) : Bytes :=
  let body := cut b.raw 6 4 ++ cut b.raw 32 9 ++ List.replicate 3 0
    ++ fixed 32 (Config.kmac256 key [] 32 (ascii "UL-7160 key fingerprint")) ++ List.replicate 16 0
  signStatement "AT-ED25519" "AT-MLDSA65" (ownerIdNow s) "UL-7160 key origin" s.draws (statementHead s 2 ++ body)

/-- Fields of KEY_ARGS and KEY_ARGS2 (18 R526). -/
def argSlot (k : Keys) : Nat := fieldOf k.args 24 6
def argUsage (k : Keys) : Nat := fieldOf k.args 16 8
def argPurpose (k : Keys) : Nat := fieldOf k.args 8 8
def argProvable (k : Keys) : Bool := k.args.getLsbD 7
def argWrapped (k : Keys) : Bool := k.args.getLsbD 6
def argTransport (k : Keys) : Nat := fieldOf k.args 0 6
def argPort (k : Keys) : Nat := fieldOf k.args2 8 3
def argRx (k : Keys) : Bool := k.args2.getLsbD 7
def argSc (k : Keys) : Nat := fieldOf k.args2 4 3
def argAn (k : Keys) : Nat := fieldOf k.args2 0 2

/-- What a key command answers at its acceptance: a reason, or its job. -/
abbrev KeyAnswer := Byte ⊕ KeyJob

/-- A key command: a pending one rejects it; else its checks reject it, or it becomes pending (18 R526). -/
def keyCommand (f : State → KeyAnswer) (s : State) : State :=
  if s.keys.job.isSome then s.updKeys fun k => { k with reason := 9 }
  else match f s with
    | .inl r => s.updKeys fun k => { k with reason := r }
    | .inr j =>
      let s := s.updKeys fun k => { k with reason := 0, done := false, job := some j }
      { s with draws := s.draws + 1 }

/-- ATTEST (18 R520, R523). -/
def attestCommand (s : State) : KeyAnswer := .inr { out := attestation s }

/-- ENDORSE (18 R522). -/
def endorseCommand (s : State) : KeyAnswer := .inr { out := endorsement s }

/-- KEY_ORIGIN (18 R521). -/
def keyOriginCommand (s : State) : KeyAnswer :=
  match slotBlob s (argSlot s.keys) with
  | none => .inl 2
  | some (b, k) => if b.provable && decide (argSlot s.keys ≤ 7) then .inr { out := keyOriginOf s b k } else .inl 5

/-- A new blob of a key (18 R513). -/
def newBlob (s : State) (provable generated : Bool) (nonce key : Bytes) : Blob :=
  let a := s.keys
  let flags := boolNat provable + 2 * boolNat generated
  let h := [0x55, 0x4C, 0x4B, 0x42] ++ leBytes 2 1 ++ leBytes 1 (argSlot a) ++ leBytes 1 (argUsage a) ++ leBytes 1 (argPurpose a)
    ++ leBytes 1 flags ++ leBytes 2 key.length ++ leBytes 4 0 ++ fixed 16 Config.deviceId ++ leBytes 6 s.jrn.optime.toNat
    ++ leBytes 3 s.jrn.pcyc.toNat ++ List.replicate 11 0 ++ fixed 12 nonce
  let sealed := fixed (key.length + 16) (Config.gcmSeal (deriveKey "WRAP" []) (fixed 12 nonce) h key)
  { num := argSlot a, usage := argUsage a, purpose := argPurpose a, provable := provable, generated := generated
    keyLen := key.length, raw := h ++ sealed }

/-- The reason shown of those that hold. The manual states no order of them: the lowest code. DESIGN CHOICE, log entry 40. -/
def lowestReason (l : List (Bool × Byte)) : Option Byte := (l.find? (·.1)).map (·.2)

/-- GENERATE (18 R518). -/
def generateCommand (s : State) : KeyAnswer :=
  let k := s.keys
  match lowestReason [(argProvable k && decide (7 < argSlot k), 1), (k.held.getLsbD (argSlot k), 3)
    , (!purposeFits (argUsage k) (argPurpose k), 4)] with
  | some r => .inl r
  | none =>
    let n := purposeLength (argPurpose k)
    let d := fixed (n + 12) (Config.drbg s.draws (n + 12))
    let b := newBlob s (argProvable k) true (d.drop n) (d.take n)
    .inr { out := b.raw, effect := .blob b }

/-- Bytes that KEY_IN must hold for IMPORT: the key, or the key wrapped (18 R518, R526). -/
def importLength (k : Keys) : Nat :=
  let n := purposeLength (argPurpose k)
  if argWrapped k then n + 8 + (8 - n % 8) % 8 else n

/-- The key that KEY_IN carries for IMPORT, none where its unwrap fails (18 R518). -/
def importKeyOf (k : Keys) (transport : Option (Blob × Bytes)) : Option Bytes :=
  let input := fixed k.inLen.toNat (wordTable k.keyIn 16)
  match transport with
  | none => some input
  | some (_, key) => (Config.kwpUnwrap key input).filter fun x => x.length == purposeLength (argPurpose k)

/-- IMPORT (18 R518). -/
def importCommand (s : State) : KeyAnswer :=
  let k := s.keys
  let transport := if argWrapped k then slotBlob s (argTransport k) else none
  match lowestReason [(argProvable k || k.inLen.toNat != importLength k, 1), (argWrapped k && transport.isNone, 2)
    , (k.held.getLsbD (argSlot k), 3)
    , (!purposeFits (argUsage k) (argPurpose k) || transport.any fun t => t.1.purpose != 4, 4)] with
  | some r => .inl r
  | none =>
    match importKeyOf k transport with
    | none => .inl 6
    | some key =>
      let b := newBlob s false false (Config.drbg s.draws 12) key
      .inr { out := b.raw, effect := .blob b }

/-- INSTALL (18 R516, R518). -/
def installCommand (s : State) : KeyAnswer :=
  let k := s.keys
  let p := argPort k
  let chans := (((s.man.bind (·.net)).map (·.chans)).getD []).filter (·.port == p)
  if argRx k && decide (chans.length ≤ argSc k) then .inl 1
  else match slotBlob s (argSlot k) with
    | none => .inl 2
    | some (b, key) =>
      if b.purpose ≠ 1 ∨ b.usage ≠ (if argRx k then 2 else 1) then .inl 4
      else if !argRx k && decide (argAn k = (s.port p).txAn.toNat) then .inl 11
      else .inr { effect := .install p (argRx k) (argSc k) (argAn k) key }

/-- LOAD (18 R516, R518). -/
def loadCommand (s : State) : KeyAnswer :=
  match slotBlob s (argSlot s.keys) with
  | none => .inl 2
  | some (b, key) => if b.purpose = 2 ∨ b.purpose = 3 then .inr { effect := .load b key } else .inl 4

/-- ENROL_ARM (18 R512). -/
def armCommand (s : State) : KeyAnswer :=
  if s.mram.dev.owner.isSome then .inl 7 else .inr { effect := .arm (wordTable s.keys.enrolHash 8) }

/-- FUSE_COMMIT (18 R508). -/
def fuseCommand (s : State) : KeyAnswer :=
  if s.keys.fwSv.toNat ≤ s.fuses then .inl 8
  else if s.start.stage < 2 then .inl 10
  else .inr { effect := .fuse }

/-- READ_CHAIN (18 R526). -/
def chainCommand (_ : State) : KeyAnswer :=
  .inr { out := (List.range 4).flatMap fun n => leBytes 4 (Config.certificate n).length ++ Config.certificate n }

/-- READ_BLOB (18 R526). -/
def blobCommand (s : State) : KeyAnswer :=
  match slotBlob s (argSlot s.keys) with
  | none => .inl 2
  | some (b, _) => .inr { out := b.raw }

/-- The events of a completed command: KEY_CHANGE where a blob is created, a channel loaded or an association installed,
and FUSE_COMMITTED (18 R527). -/
def keyEvents (e : KeyEffect) (s : State) : State :=
  match e with
  | .none => s
  | .blob _ => raise 204 s
  | .install _ _ _ _ _ => raise 204 s
  | .load _ _ => raise 204 s
  | .arm _ => s
  | .fuse => raise 205 s

/-- What a key command does when it completes (18 R508, R512, R516, R518). -/
def keyEffect (e : KeyEffect) (s : State) : State :=
  match e with
  | .none => s
  | .blob b => s.updMram fun m => { m with blobs := Store.set none m.blobs b.num (some b) }
  | .install p rx sc an key => s.updPort p fun x =>
      if rx then { x with rxSa := Store.set none x.rxSa (4 * sc + an) (some (assocOf key)) }
      else { x with txSa := Store.set none x.txSa an (some (assocOf key)) }
  | .load b key =>
    if b.purpose = 2 then
      (s.updDev fun d => { d with sealBlob := some b }).updKeys fun k => { k with sealBlob := BitVec.ofNat 8 b.num, sealKey := some key }
    else s.updKeys fun k => { k with hostBlob := BitVec.ofNat 8 b.num, hostKey := some key }
  | .arm h => s.updDev fun d => { d with armed := some h }
  | .fuse => { s with fuses := max s.fuses (min 64 s.keys.fwSv.toNat) }

/-- KEY_COMMAND_DONE: the effect, the output, and KEY_IN cleared (18 R523, R526). -/
def keyDone (s : State) : State :=
  match s.keys.job with
  | none => s
  | some j =>
    (keyEvents j.effect (keyEffect j.effect s)).updKeys fun k =>
      { k with job := none, done := true, keyIn := [], length := satNat 16 j.out.length
               out := if j.out.isEmpty then k.out else j.out }

/-- KEY_SLOT of a path's selection (18 R524). -/
def keySlotReg (s : State) (n : Nat) : Word :=
  match Store.get none s.mram.blobs n with
  | none => flagWord [(30, s.keys.held.getLsbD n)]
  | some b =>
    let valid := (slotBlob s n).isSome
    regWord [(31, 1, boolNat valid), (30, 1, boolNat (s.keys.held.getLsbD n)), (29, 1, boolNat b.provable)
      , (28, 1, boolNat b.generated), (16, 8, b.purpose), (8, 8, b.usage), (0, 8, b.keyLen)]

/-- The KEY block's registers below KEY_OUT (18 R524 to R526). -/
def keyReg (s : State) (p : PathSt) (off : Nat) : Word :=
  let k := s.keys
  let id := (s.mram.dev.owner.map ownerId).getD []
  if off = 0x00 then regWord [(0, 6, p.key.toNat)]
  else if off = 0x04 then keySlotReg s p.key.toNat
  else if off = 0x08 then regWord [(24, 8, k.hostBlob.toNat), (16, 8, k.sealBlob.toNat)]
  else if off = 0x0C then BitVec.ofNat 32 (fld id 0 4)
  else if off = 0x10 then BitVec.ofNat 32 (fld id 4 4)
  else if off = 0x14 then
    flagWord [(2, s.mram.dev.predecessor.isSome), (1, s.mram.dev.armed.isSome), (0, s.mram.dev.owner.isSome)]
  else if off = 0x18 then regWord [(8, 8, k.fwSv.toNat), (0, 7, s.fuses)]
  else if off = 0x1C then regWord [(8, 8, k.fwReason.toNat), (1, 1, boolNat k.fwSlot), (0, 1, boolNat k.fwOk)]
  else if off = 0x20 then regWord [(4, 2, k.sigMan.toNat), (2, 2, k.sigMoor.toNat), (0, 2, k.sigFw.toNat)]
  else if 0x40 ≤ off ∧ off < 0x60 then Store.get 0 k.enrolHash ((off - 0x40) / 4)
  else if 0x60 ≤ off ∧ off < 0x80 then Store.get 0 k.nonce ((off - 0x60) / 4)
  else if off = 0x80 then regWord [(0, 30, k.args.toNat)]
  else if off = 0x84 then regWord [(8, 3, argPort k), (7, 1, boolNat (argRx k)), (4, 3, argSc k), (0, 2, argAn k)]
  else if off = 0x88 then regWord [(0, 6, k.inLen.toNat)]
  else if off = 0x90 then
    regWord [(16, 16, k.length.toNat), (8, 8, k.reason.toNat), (1, 1, boolNat k.done), (0, 1, boolNat k.job.isSome)]
  else if 0x4000 ≤ off ∧ off < 0x8000 then BitVec.ofNat 32 (fld k.out (off - 0x4000) 4)
  else 0

/-- Writes of the KEY block's registers other than its commands (18 R524 to R526). -/
def keyWrite (path : Path) (off : Nat) (v : Word) (s : State) : State :=
  if off = 0x00 then s.updPath path fun p => { p with key := BitVec.ofNat 6 (fieldOf v 0 6) }
  else if 0x40 ≤ off ∧ off < 0x60 then s.updKeys fun k => { k with enrolHash := Store.set 0 k.enrolHash ((off - 0x40) / 4) v }
  else if 0x60 ≤ off ∧ off < 0x80 then s.updKeys fun k => { k with nonce := Store.set 0 k.nonce ((off - 0x60) / 4) v }
  else if off = 0x80 then s.updKeys fun k => { k with args := v &&& 0x3FFFFFFF }
  else if off = 0x84 then s.updKeys fun k => { k with args2 := v &&& 0x7F3 }
  else if off = 0x88 then s.updKeys fun k => { k with inLen := BitVec.ofNat 6 (fieldOf v 0 6) }
  else if off = 0x90 then s.updKeys fun k => { k with done := k.done && !v.getLsbD 1 }
  else if 0xC0 ≤ off ∧ off < 0x100 then s.updKeys fun k => { k with keyIn := Store.set 0 k.keyIn ((off - 0xC0) / 4) v }
  else s

/-- The command that a KEY_CMD word's OP names (18 R526). -/
def keyOp (op : Nat) : Option (State → KeyAnswer) :=
  match op with
  | 1 => some attestCommand
  | 2 => some endorseCommand
  | 3 => some keyOriginCommand
  | 4 => some generateCommand
  | 5 => some importCommand
  | 6 => some installCommand
  | 7 => some loadCommand
  | 8 => some armCommand
  | 9 => some fuseCommand
  | 10 => some chainCommand
  | 11 => some blobCommand
  | _ => none

end Sys2Proof.Machine
end

