-- ==== Sys2Proof/Machine/RegsField.lean ====
section
/-! DEFINITION. The registers of the blocks EVT, JRN, NET, NTIME, STN, PAIR, FIO and MTR: reads, and the writes that are
no command (12 R359 to R361; 13 R389 to R392; 14 R419 to R421; 15 R444 to R447; 16 R470 to R473; 17 R494, R495). -/

namespace Sys2Proof.Machine

open Sys2Proof

/-- EVT_ROUTE of a source (17 R479, R494). -/
def routeReg (r : RouteCfg) : Word :=
  regWord [(16, 8, r.task.getD 0xFF), (8, 3, r.severity), (2, 4, r.irq.toNat), (1, 1, boolNat r.pair), (0, 1, boolNat r.journal)]

/-- IRQn_N is driven low (17 R480). -/
def irqActive (s : State) (n : Nat) : Bool :=
  s.evt.irqEn.getLsbD n && (List.range 256).any fun k => s.evt.pend.getLsbD k && (routeOf s k).irq.getLsbD n

/-- Reads of the EVT block (17 R494). -/
def evtReg (s : State) (p : PathSt) (off : Nat) : Word :=
  let k := p.evt.toNat
  if off = 0x00 then regWord [(0, 8, k)]
  else if off = 0x04 then routeReg (routeOf s k)
  else if off = 0x08 then Store.get 0 s.evt.count k
  else if off = 0x0C then Store.get 0 s.evt.last k
  else if 0x10 ≤ off ∧ off < 0x30 then s.evt.pend.extractLsb' (8 * (off - 0x10)) 32
  else if off = 0x30 then regWord [(0, 4, s.evt.irqEn.toNat)]
  else if off = 0x34 then flagWord ((List.range 4).map fun n => (n, irqActive s n))
  else 0

/-- Writes of the EVT block (17 R480, R494). -/
def evtWrite (path : Path) (off : Nat) (v : Word) (s : State) : State :=
  if off = 0x00 then s.updPath path fun p => { p with evt := BitVec.ofNat 8 (fieldOf v 0 8) }
  else if 0x10 ≤ off ∧ off < 0x30 then
    s.updEvt fun e => { e with pend := e.pend &&& ~~~ (v.setWidth 256 <<< (8 * (off - 0x10))) }
  else if off = 0x30 then s.updEvt fun e => { e with irqEn := BitVec.ofNat 4 (fieldOf v 0 4) }
  else s

/-- SLOT of a path's JRN_SLOT (17 R495). -/
def jrnSlotOf (p : PathSt) : Nat := fieldOf p.jrnSlot 0 20

/-- A read of JRN_DATA7 increments SLOT with AUTO set, wrapping to 0 (17 R495). -/
def jrnStep (path : Path) (s : State) : State :=
  s.updPath path fun p =>
    if p.jrnSlot.getLsbD 31 then { p with jrnSlot := 0x80000000 ||| BitVec.ofNat 32 ((jrnSlotOf p + 1) % 2 ^ 20) } else p

/-- Reads of the JRN block (17 R495). -/
def jrnReg (s : State) (p : PathSt) (off : Nat) : Word :=
  let j := s.jrn
  if off = 0x00 then regWord [(0, 21, slotsUsed s)]
  else if off = 0x04 then regWord [(16, 1, boolNat j.flushing), (0, 12, bufferCount s)]
  else if off = 0x08 then s.mram.dev.drops
  else if off = 0x0C then j.overwrites
  else if off = 0x10 then j.corrupt
  else if off = 0x14 then j.optime.setWidth 32
  else if off = 0x18 then regWord [(0, 16, (p.snOptime.getD (j.optime.extractLsb' 32 16)).toNat)]
  else if off = 0x1C then regWord [(0, 24, j.pcyc.toNat)]
  else if off = 0x24 then regWord [(8, 8, j.reason.toNat), (1, 1, boolNat j.done), (0, 1, boolNat j.busy)]
  else if off = 0x28 then p.jrnSlot
  else if 0x30 ≤ off ∧ off < 0x50 then BitVec.ofNat 32 (fld (slotBytes s (jrnSlotOf p)) (off - 0x30) 4)
  else if off = 0x50 then regWord [(0, 20, j.extFirst.toNat)]
  else if off = 0x54 then regWord [(0, 11, j.extCount.toNat)]
  else if 0x58 ≤ off ∧ off < 0x68 then j.extNonce.extractLsb' (8 * (off - 0x58)) 32
  else if 0x4000 ≤ off ∧ off < 0xC060 then BitVec.ofNat 32 (fld j.extBuf (off - 0x4000) 4)
  else 0

/-- Writes of the JRN block other than JRN_CTRL (17 R495). -/
def jrnWrite (path : Path) (off : Nat) (v : Word) (s : State) : State :=
  if off = 0x24 then s.updJrn fun j => { j with done := j.done && !v.getLsbD 1 }
  else if off = 0x28 then s.updPath path fun p => { p with jrnSlot := v &&& 0x800FFFFF }
  else if off = 0x50 then s.updJrn fun j => { j with extFirst := BitVec.ofNat 20 (fieldOf v 0 20) }
  else if off = 0x54 then s.updJrn fun j => { j with extCount := BitVec.ofNat 11 (fieldOf v 0 11) }
  else if 0x58 ≤ off ∧ off < 0x68 then
    let n := 8 * (off - 0x58)
    s.updJrn fun j => { j with extNonce := (j.extNonce &&& ~~~ (0xFFFFFFFF#128 <<< n)) ||| (v.setWidth 128 <<< n) }
  else s

/-- The transmit association in use, where it has a key (13 R375, R390). -/
def txAssoc (x : Port) : Option SecAssoc := Store.get none x.txSa x.txAn.toNat

/-- Reads of the NET block (13 R389 to R391). -/
def netReg (s : State) (p : PathSt) (off : Nat) : Word :=
  let n := p.net.toNat
  let c := portCfg s n
  let x := s.port n
  let pn := ((txAssoc x).map (·.pn)).getD 0
  if off = 0x00 then regWord [(0, 3, n)]
  else if off = 0x04 then
    regWord [(31, 1, boolNat c.enabled), (30, 1, n / 4), (28, 2, c.macsec), (27, 1, boolNat c.xpn), (26, 1, boolNat c.ptp)
      , (25, 1, boolNat c.mgmt), (24, 1, boolNat c.ptpBypass), (0, 2, c.ampl)]
  else if off = 0x08 then regWord [(2, 2, x.ampl.toNat), (1, 1, boolNat x.changed), (0, 1, boolNat x.up)]
  else if off = 0x0C then BitVec.ofNat 32 (fld c.addr 0 4)
  else if off = 0x10 then BitVec.ofNat 32 (fld c.addr 4 2)
  else if off = 0x14 then x.tx
  else if off = 0x18 then x.rx
  else if off = 0x1C then regWord [(16, 16, x.fcs.toNat), (0, 16, x.filter.toNat)]
  else if off = 0x20 then regWord [(16, 16, x.icv.toNat), (0, 16, x.other.toNat)]
  else if off = 0x28 then
    regWord [(3, 1, boolNat x.rej), (2, 1, boolNat (!c.xpn && decide (pnWarn ≤ pn.toNat))), (0, 2, x.txAn.toNat)]
  else if off = 0x2C then pn.setWidth 32
  else if off = 0x30 then (if c.xpn then pn.extractLsb' 32 32 else 0)
  else if off = 0x34 then regWord [(16, 16, c.txLat), (0, 16, c.rxLat)]
  else if off = 0x38 then regWord [(16, 16, x.lost.toNat), (5, 1, boolNat x.ovf), (0, 5, x.tsq.length)]
  else if off = 0x3C then regWord [(16, 16, x.late.toNat), (0, 16, x.linkdown.toNat)]
  else if off = 0x40 then regWord [(24, 6, x.q3.length), (16, 6, x.q2.length), (9, 6, x.q1.length), (0, 9, x.q0.length)]
  else if off = 0x44 then regWord [(0, 20, x.lateLimit.toNat)]
  else 0

/-- Writes of the NET block other than NET_MS_CTRL (13 R389 to R391). -/
def netWrite (path : Path) (off : Nat) (v : Word) (s : State) : State :=
  let n := (s.path path).net.toNat
  if off = 0x00 then s.updPath path fun p => { p with net := BitVec.ofNat 3 (fieldOf v 0 3) }
  else if off = 0x08 then s.updPort n fun x => { x with changed := x.changed && !v.getLsbD 1 }
  else if off = 0x28 then s.updPort n fun x => { x with rej := x.rej && !v.getLsbD 3 }
  else if off = 0x38 then s.updPort n fun x => { x with ovf := x.ovf && !v.getLsbD 5 }
  else if off = 0x44 then
    let l := fieldOf v 0 20
    if 1 ≤ l ∧ l ≤ 1000000 then s.updPort n fun x => { x with lateLimit := BitVec.ofNat 20 l } else s
  else s

/-- Reads of the NTIME block: seconds above bit 31, nanoseconds and fraction show the path's snapshot while one is held
(13 R392). -/
def ntimeReg (s : State) (p : PathSt) (off : Nat) : Word :=
  let t := s.ntime
  let (now, frac) := p.snNtime.getD (t.now, t.frac)
  if off = 0x00 then t.sec.setWidth 32
  else if off = 0x04 then regWord [(0, 16, (now.sec.extractLsb' 32 16).toNat)]
  else if off = 0x08 then regWord [(0, 30, now.ns.toNat)]
  else if off = 0x0C then frac
  else if off = 0x10 then regWord [(0, 8, t.incrInt.toNat)]
  else if off = 0x14 then t.incrFrac
  else if off = 0x18 then t.stepSec.setWidth 32
  else if off = 0x1C then regWord [(0, 16, (t.stepSec.extractLsb' 32 16).toNat)]
  else if off = 0x20 then regWord [(31, 1, boolNat t.stepNeg), (0, 30, t.stepNs.toNat)]
  else if off = 0x28 then
    regWord [(4, 1, boolNat t.hostRej), (3, 1, boolNat t.stepRej), (1, 2, t.servo.toNat), (0, 1, boolNat t.set)]
  else if off = 0x2C then t.offset
  else if off = 0x30 then t.steps
  else if off = 0x34 then regWord [(16, 1, boolNat t.utcValid), (0, 16, t.utcOff.toNat)]
  else 0

/-- Writes of the NTIME block other than NTIME_CTRL. Where a port has PTP enabled, and on a standby, the increment
registers ignore the host; the staged step magnitude takes every write (13 R378, R381, R392). -/
def ntimeWrite (off : Nat) (v : Word) (s : State) : State :=
  if off = 0x14 then hostIncr v s
  else if off = 0x28 then
    s.updNtime fun t => { t with hostRej := t.hostRej && !v.getLsbD 4, stepRej := t.stepRej && !v.getLsbD 3 }
  else if off = 0x10 then
    if hostTime s then s.updNtime fun t => { t with incrInt := BitVec.ofNat 8 (fieldOf v 0 8) } else rejectHostTime s
  else if off = 0x18 ∨ off = 0x1C ∨ off = 0x20 then
    s.updNtime fun t =>
      if off = 0x18 then { t with stepSec := t.stepSec.extractLsb' 32 16 ++ v }
      else if off = 0x1C then { t with stepSec := (BitVec.ofNat 16 (fieldOf v 0 16)) ++ t.stepSec.setWidth 32 }
      else { t with stepNeg := v.getLsbD 31, stepNs := BitVec.ofNat 30 (fieldOf v 0 30) }
  else s

/-- STN_CFG of a station (12 R359). -/
def stnCfgReg (s : State) (c : StationCfg) : Word :=
  let w := stationPlace s c.num
  regWord [(31, 1, 1), (30, 1, boolNat c.cfgC), (29, 1, boolNat c.dual), (28, 1, boolNat c.autoRejoin)
    , (24, 4, if c.cfgC then missLimit c else 0), (20, 4, c.rejoinCount), (16, 3, w.portB), (12, 3, w.portA)
    , (8, 4, c.modules - 1), (0, 8, if c.cfgC then c.group else 0)]

/-- Class C stations dropped or rejoining (12 R361). -/
def stnDropped (s : State) : Nat :=
  (s.stationTable.stations.filter fun c => c.cfgC && decide ((s.station c.num).phase ≠ .exchanging)).length

/-- Reads of the STN block (12 R359 to R361). -/
def stnReg (s : State) (p : PathSt) (off : Nat) : Word :=
  let n := p.stn.toNat
  let x := s.station n
  if off = 0x00 then regWord [(0, 11, n)]
  else if off = 0x04 then ((stationCfg s n).map (stnCfgReg s)).getD 0
  else if off = 0x08 then x.status
  else if off = 0x0C then x.seq
  else if off = 0x10 then x.rx
  else if off = 0x14 then regWord [(16, 16, x.missTotal.toNat), (0, 16, x.drops.toNat)]
  else if off = 0x18 then regWord [(16, 16, x.lossA.toNat), (0, 16, x.lossB.toNat)]
  else if off = 0x1C then x.last
  else if off = 0x40 then halfWord s.mram.dev.epoch 0
  else if off = 0x44 then halfWord s.mram.dev.epoch 1
  else if off = 0x48 then regWord [(16, 11, s.stationTable.stations.length), (0, 9, stnDropped s)]
  else if off = 0x4C then (if (s.man.bind (·.stations)).isSome then regWord [(0, 16, s.stationTable.etype)] else 0)
  else if off = 0x50 then s.stn.rxBad
  else if off = 0x54 then s.stn.rounds
  else 0

/-- Writes of the STN block other than STN_CTRL (12 R359). -/
def stnWrite (path : Path) (off : Nat) (v : Word) (s : State) : State :=
  if off = 0x00 then s.updPath path fun p => { p with stn := BitVec.ofNat 11 (fieldOf v 0 11) } else s

/-- The unit is a pair unit by its adopted manifest (14 R394, R421). -/
def pairUnit (s : State) : Bool := (s.man.bind (·.pair)).isSome

/-- PAIR_LINKn (14 R420). -/
def linkReg (crc : BitVec 16) (bad up : Bool) : Word := regWord [(16, 16, crc.toNat), (1, 1, boolNat bad), (0, 1, boolNat up)]

/-- Reads of the PAIR block; on a single unit all but UNIT, PAIR_SELFTEST and PAIR_COUNT read zero (14 R419 to R421). -/
def pairReg (s : State) (off : Nat) : Word :=
  let p := s.pair
  if off = 0x20 then selfTestReg s
  else if off = 0x24 then regWord [(16, 16, s.mram.dev.takeovers.toNat), (0, 16, s.mram.dev.switches.toNat)]
  else if !pairUnit s then (if off = 0x00 then regWord [(1, 1, boolNat s.pins.roleB)] else 0)
  else if off = 0x00 then pairStatusReg s
  else if off = 0x04 then pairHealthReg s
  else if off = 0x08 then regWord [(0, 16, satField 16 ((leaseAge s).getD 65535))]
  else if off = 0x0C then linkReg p.crc0 (p.laneBad.getLsbD 0) (p.laneUp.getLsbD 0)
  else if off = 0x10 then linkReg p.crc1 (p.laneBad.getLsbD 1) (p.laneUp.getLsbD 1)
  else if off = 0x14 then pairDigestReg s
  else if off = 0x18 then regWord [(24, 8, p.rounds.toNat), (0, 24, p.pages.toNat)]
  else if off = 0x1C then p.ntoff
  else if off = 0x2C then regWord [(8, 8, p.reason.toNat), (1, 1, boolNat p.done), (0, 1, boolNat p.busy)]
  else 0

/-- Writes of the PAIR block other than PAIR_CTRL (14 R421). -/
def pairWrite (off : Nat) (v : Word) (s : State) : State :=
  if off = 0x2C ∧ pairUnit s then s.updPair fun p => { p with done := p.done && !v.getLsbD 1 } else s

/-- FIO_CH_CFG of a channel (15 R428, R446). -/
def chCfgReg (s : State) (n : Nat) : Word :=
  let c := channelOf s n
  let mode := match c.mode with
    | .unused => 0
    | .input => 1
    | .output => 2
  let ws := match c.wstate with
    | .off => 0
    | .on => 1
    | .hold => 2
  regWord [(24, 2, mode), (20, 2, if mode = 1 then c.itype else 0), (16, 2, ws)
    , (11, 1, boolNat (s.start.adopted && !(metersOf s n).isEmpty)), (8, 3, c.pset)
    , (0, 8, if mode = 1 then c.filter else if mode = 2 then 5 else 0)]

/-- A binding register: enable and index (15 R446). -/
def bindReg (b : Option Nat) : Word := match b with
  | some i => regWord [(31, 1, 1), (0, 20, i)]
  | none => 0

/-- Reads of the FIO block (15 R444 to R447). -/
def fioReg (s : State) (p : PathSt) (off : Nat) : Word :=
  let n := p.fio.toNat
  if off = 0x00 then regWord [(0, 5, n)]
  else if off = 0x04 then regWord [(2, 2, fioControl s), (1, 1, boolNat s.released), (0, 1, boolNat s.fio.fault)]
  else if off = 0x08 then s.fio.applied &&& bits32 (isOutput s)
  else if off = 0x0C then s.fio.filtered &&& bits32 (isOutput s)
  else if off = 0x10 then s.fio.filtered &&& bits32 fun k => decide ((channelOf s k).mode = .input)
  else if off = 0x14 then chCfgReg s n
  else if off = 0x18 then bindReg (channelOf s n).bind
  else if off = 0x1C then bindReg (channelOf s n).sbind
  else if off = 0x20 then Store.get 0 s.fio.edges n
  else if off = 0x24 then regWord [(0, 10, tSafeOf s (groupOf n))]
  else if off = 0x28 then regWord [(0, 16, s.fio.faults.toNat)]
  else 0

/-- Writes of the FIO block (15 R437, R444). -/
def fioWrite (path : Path) (off : Nat) (v : Word) (s : State) : State :=
  if off = 0x00 then s.updPath path fun p => { p with fio := BitVec.ofNat 5 (fieldOf v 0 5) }
  else if off = 0x04 then
    if v.getLsbD 0 then reportField (s.updFio fun f => { f with fault := false }) else s
  else s

/-- MTR_CFG of a meter channel (16 R470). -/
def meterCfgReg (s : State) (m : Nat) : Word :=
  match meterCfg s m with
  | none => regWord [(2, 1, boolNat (s.meter m).qs)]
  | some c =>
    regWord [(31, 1, 1), (30, 1, boolNat c.onToOff), (24, 3, c.table.getD 7), (16, 5, c.input), (8, 8, c.unit)
      , (2, 1, boolNat (s.meter m).qs), (0, 2, meterTariff s c s.cal.now.secs)]

/-- Word `i` of the snapshot set +0x00C to +0x03C (16 R471). -/
def meterValReg (v : MeterVals) (i : Nat) : Word :=
  match i with
  | 0 => halfWord v.total 0
  | 1 => halfWord v.total 1
  | 2 => halfWord v.acc0 0
  | 3 => halfWord v.acc0 1
  | 4 => halfWord v.acc1 0
  | 5 => halfWord v.acc1 1
  | 6 => halfWord v.acc2 0
  | 7 => halfWord v.acc2 1
  | 8 => halfWord v.acc3 0
  | 9 => halfWord v.acc3 1
  | 10 => v.wTotal ++ v.w0
  | 11 => v.w1 ++ v.w2
  | _ => v.w3 ++ v.cmds

/-- Registers that show the selected meter channel (16 R470, R471). -/
def meterReg (s : State) (p : PathSt) (off : Nat) : Word :=
  let m := p.mtr.toNat
  let x := s.meter m
  if off = 0x04 then meterCfgReg s m
  else if off = 0x08 then ((meterCfg s m).map fun c => BitVec.ofNat 32 c.weight).getD 0
  else if off = 0x0C then halfWord x.vals.total 0
  else if 0x10 ≤ off ∧ off ≤ 0x3C then meterValReg (p.snMeter.getD x.vals) ((off - 0x0C) / 4)
  else if off = 0x40 then halfWord x.rate 0
  else if off = 0x44 then halfWord x.rate 1
  else if off = 0x48 then BitVec.ofNat 32 (x.interval / 1000)
  else if off = 0x4C then x.pulses
  else regWord [(16, 16, x.merged.toNat)]

/-- Reads of the MTR block; a channel never counted or restored reads zero (16 R470 to R473). -/
def mtrReg (s : State) (p : PathSt) (off : Nat) : Word :=
  let t := s.mtr
  if off = 0x00 then regWord [(0, 4, p.mtr.toNat)]
  else if 0x04 ≤ off ∧ off ≤ 0x50 then (if (s.meter p.mtr.toNat).known then meterReg s p off else 0)
  else if off = 0x58 then halfWord t.preset 0
  else if off = 0x5C then halfWord t.preset 1
  else if off = 0x60 then flagWord [(1, t.done)]
  else if off = 0x80 then t.saveSeq
  else if off = 0x84 then halfWord t.saveB 0
  else if off = 0x88 then halfWord t.saveB 1
  else if off = 0x8C then
    regWord [(16, 16, ((s.meterSetup).map (·.saveInterval)).getD 0), (4, 4, t.saveSlot.toNat), (2, 1, boolNat s.cal.osf)
      , (1, 1, boolNat t.abandoned), (0, 1, boolNat t.restored)]
  else 0

/-- Writes of the MTR block other than MTR_CTRL (16 R470, R472, R473). -/
def mtrWrite (path : Path) (off : Nat) (v : Word) (s : State) : State :=
  if off = 0x00 then s.updPath path fun p => { p with mtr := BitVec.ofNat 4 (fieldOf v 0 4) }
  else if off = 0x58 then s.updMtr fun t => { t with preset := t.preset.extractLsb' 32 32 ++ v }
  else if off = 0x5C then s.updMtr fun t => { t with preset := v ++ t.preset.setWidth 32 }
  else if off = 0x60 then s.updMtr fun t => { t with done := t.done && !v.getLsbD 1 }
  else if off = 0x8C then s.updMtr fun t => { t with abandoned := t.abandoned && !v.getLsbD 1 }
  else s

end Sys2Proof.Machine
end

