-- ==== Sys2Proof/Machine/RegsScan.lean ====
section
/-! DEFINITION. The registers of the blocks SCAN and LOOP: reads, and the writes that are no command (10 R299 to R302;
11 R326 to R330). -/

namespace Sys2Proof.Machine

open Sys2Proof

/-- SCAN_T_STATE.PHASE (10 R300). -/
def phaseCode : Phase → Nat
  | .idle => 0
  | .ready => 1
  | .running => 2
  | .speculating => 3
  | .ended => 4
  | .replaying => 5
  | .reexecuting => 6
  | .awaiting => 7

/-- SCAN_T_CFG of a task (10 R300). -/
def taskCfgReg (s : State) (c : TaskCfg) : Word :=
  regWord [(31, 1, 1), (29, 2, c.trigger), (28, 1, boolNat c.spec), (27, 1, boolNat (s.scan.hwTasks.contains c.num))
    , (24, 3, Store.get 0 s.place.cur.taskPair c.num), (16, 5, c.prio), (0, 16, c.await.getD 0xFFFF)]

/-- Reads of the force registers (10 R302). -/
def forceReg (x : Scan) (off : Nat) : Word :=
  if off = 0x80 then regWord [(0, 8, x.frcSel.toNat)]
  else if off = 0x84 then
    regWord [(31, 1, boolNat (Store.get none x.forces x.frcSel.toNat).isSome), (0, 20, x.frcIndex.toNat)]
  else if off = 0x88 then x.frcLo
  else if off = 0x8C then x.frcHi
  else if off = 0x94 then regWord [(8, 8, x.frcReason.toNat), (1, 1, boolNat x.frcDone), (0, 1, boolNat x.frcBusy)]
  else 0

/-- Reads of the SCAN block (10 R299 to R302). -/
def scanReg (s : State) (p : PathSt) (off : Nat) : Word :=
  let t := p.scan.toNat
  let k := s.task t
  let x := s.scan
  if off = 0x00 then regWord [(0, 5, t)]
  else if off = 0x04 then regWord [(16, 9, (x.forces.filter (·.2.isSome)).length), (0, 11, x.hwTimers.toNat)]
  else if off = 0x08 then x.seq
  else if off = 0x0C then regWord [(16, 16, x.recovered.toNat), (0, 16, x.abandoned.toNat)]
  else if off = 0x10 then ((s.taskTable.find? (·.num == t)).map (taskCfgReg s)).getD 0
  else if off = 0x14 then
    regWord [(4, 4, ((k.run.map fun r => phaseCode r.phase)).getD 0), (0, 1, boolNat k.trig)]
  else if off = 0x18 then k.scans
  else if off = 0x1C then regWord [(16, 16, k.overruns.toNat), (0, 16, k.faults.toNat)]
  else if off = 0x20 then regWord [(16, 16, k.replays.toNat), (0, 16, k.confirms.toNat)]
  else if off = 0x24 then k.exec
  else if off = 0x28 then k.execMax
  else if off = 0x2C then k.instr
  else if off = 0x30 then regWord [(16, 16, k.storeHw.toNat), (0, 16, k.deltaHw.toNat)]
  else if off = 0x34 then regWord [(16, 16, k.merged.toNat), (0, 16, k.mismatch.toNat)]
  else if off = 0x38 then k.last
  else if off = 0x40 then
    (if (taskCfg s t).isSome then regWord [(16, 16, x.errDropped.toNat), (0, 6, x.errq.length)] else 0)
  else forceReg x off

/-- Writes of the SCAN block other than SCAN_FRC_CTRL (10 R299, R302). -/
def scanWrite (path : Path) (off : Nat) (v : Word) (s : State) : State :=
  if off = 0x00 then s.updPath path fun p => { p with scan := BitVec.ofNat 5 (fieldOf v 0 5) }
  else if off = 0x80 then selectForce (BitVec.ofNat 8 (fieldOf v 0 8)) s
  else if off = 0x84 then s.updScan fun x => { x with frcIndex := BitVec.ofNat 20 (fieldOf v 0 20) }
  else if off = 0x88 then s.updScan fun x => { x with frcLo := v }
  else if off = 0x8C then s.updScan fun x => { x with frcHi := v }
  else if off = 0x94 then s.updScan fun x => { x with frcDone := x.frcDone && !v.getLsbD 1 }
  else s

/-- LOOP_CFG of a loop; MEASKIND is the kind's code of R305 (11 R326). -/
def loopCfgReg (s : State) (c : LoopCfg) : Word :=
  let meas := match c.measure with
    | .variable => 1
    | .frequency => 2
    | .duty => 3
  let o := overrideOf s c.num
  regWord [(31, 1, 1), (30, 1, boolNat c.direct), (29, 1, boolNat (decide (c.kv ≠ 0))), (26, 2, c.outKind), (24, 2, meas)
    , (23, 1, boolNat o.isSome), (16, 6, (o.map (·.1)).getD 0), (8, 8, c.group)]

/-- LOOP_STATUS of a loop (11 R326). -/
def loopStatusReg (s : State) (n : Nat) : Word :=
  let x := s.loopSt n
  flagWord [(8, (testOn s n).isSome), (7, (overrideOf s n).any fun o => Store.get 0 s.loop.winners o.1 == n + 1)
    , (6, x.clamped), (5, x.pvBad), (4, x.ilk), (3, x.forced), (2, x.limited), (1, decide (x.spw ≠ x.spt)), (0, x.manual)]

/-- A raw Q8.24 value as a register word. -/
def qWord (v : Int) : Word := BitVec.ofInt 32 v

/-- LOOP_CAP_STAT.STATE (11 R329). -/
def capCode : CapState → Nat
  | .idle => 0
  | .armed => 1
  | .recording => 2
  | .stopped => 3

/-- Reads of the capture registers (11 R329). -/
def capReg (s : State) (path : Path) (off : Nat) : Word :=
  let p := s.path path
  let k := Store.get {} s.loop.caps p.cap.toNat
  let t0 := ((k.recs.head?).map (·.time)).getD {}
  if off = 0x80 then regWord [(0, 2, p.cap.toNat)]
  else if off = 0x84 then k.cfg
  else if off = 0x8C then regWord [(16, 15, k.recs.length), (2, 1, boolNat k.wrap), (0, 2, capCode k.state)]
  else if off = 0x90 then t0.cycle.setWidth 32
  else if off = 0x94 then (t0.cycle.extractLsb' 32 16) ++ t0.angle
  else if off = 0x98 then p.capIdx
  else if off = 0x9C then ((capRecord s path).map fun r => qWord r.value).getD 0
  else if off = 0xA0 then capTag s path
  else 0

/-- Reads of the LOOP block (11 R326 to R330). -/
def loopReg (s : State) (path : Path) (off : Nat) : Word :=
  let n := (s.path path).loop.toNat
  let x := s.loopSt n
  let e := s.loop
  if off = 0x00 then regWord [(0, 9, n)]
  else if off = 0x04 then ((loopCfg s n).map (loopCfgReg s)).getD 0
  else if off = 0x08 then (if (loopCfg s n).isSome then loopStatusReg s n else 0)
  else if off = 0x0C then qWord x.pv
  else if off = 0x10 then qWord x.spw
  else if off = 0x14 then qWord x.spt
  else if off = 0x18 then qWord x.u
  else if off = 0x1C then qWord x.a
  else if off = 0x20 then qWord x.i
  else if off = 0x24 then qWord x.kk
  else if off = 0x28 then qWord x.c
  else if off = 0x2C then regWord [(16, 16, x.sats.toNat), (0, 16, x.bad.toNat)]
  else if off = 0x30 then x.last
  else if off = 0x40 then e.tstCfg
  else if off = 0x44 then e.tstAmp
  else if off = 0x48 then e.tstLen
  else if off = 0x4C then e.tstF0
  else if off = 0x50 then e.tstF1
  else if off = 0x58 then
    regWord [(16, 3, e.tests.length), (8, 8, e.tstReason.toNat), (2, 1, boolNat (testOn s n).isSome), (1, 1, boolNat e.tstDone)
      , (0, 1, boolNat e.tstPending.isSome)]
  else if off = 0xC0 then
    regWord [(16, 10, s.loopTable.length), (0, 10, (s.loopTable.filter fun c => (s.loopSt c.num).manual).length)]
  else capReg s path off

/-- A write of LOOP_CAP_CFG: none while the channel is armed or records; a reserved quantity leaves it unchanged
(00 R5, 11 R329). -/
def writeCapCfg (ch : Nat) (v : Word) (s : State) : State :=
  s.updCapture ch fun k =>
    if k.state = .armed ∨ k.state = .recording ∨ fieldOf v 12 3 = 7 then k else { k with cfg := v &&& 0x000371FF }

/-- Writes of the LOOP block other than its command registers (11 R326, R328, R329). -/
def loopWrite (path : Path) (off : Nat) (v : Word) (s : State) : State :=
  if off = 0x00 then s.updPath path fun p => { p with loop := BitVec.ofNat 9 (fieldOf v 0 9) }
  else if off = 0x40 then s.updLoop fun e => { e with tstCfg := v &&& 0x0000FF0F }
  else if off = 0x44 then s.updLoop fun e => { e with tstAmp := v }
  else if off = 0x48 then s.updLoop fun e => { e with tstLen := v }
  else if off = 0x4C then s.updLoop fun e => { e with tstF0 := v }
  else if off = 0x50 then s.updLoop fun e => { e with tstF1 := v }
  else if off = 0x58 then s.updLoop fun e => { e with tstDone := e.tstDone && !v.getLsbD 1 }
  else if off = 0x80 then s.updPath path fun p => { p with cap := BitVec.ofNat 2 (fieldOf v 0 2) }
  else if off = 0x84 then writeCapCfg (s.path path).cap.toNat v s
  else if off = 0x98 then s.updPath path fun p => { p with capIdx := v &&& 0x80003FFF }
  else s

end Sys2Proof.Machine
end

