-- ==== Sys2Proof/Machine/RegsSys.lean ====
section
/-! DEFINITION. The registers of the blocks SYS, CLK, CAL and TIDE: reads, and the writes that are no command
(02 R49 to R57; 04 R108 to R112; 19 R549, R550; 20 R567 to R569). Bits that a table reserves read as zero, and a write's
value in them is dropped. -/

namespace Sys2Proof.Machine

open Sys2Proof

/-- SYS_RESET_CAUSE.CAUSE (04 R109). -/
def causeCode : Cause → Nat
  | .powerOn => 1
  | .resetPin => 2
  | .watchdog => 3
  | .powerFail => 4
  | .hostWarm => 5
  | .hostCold => 6
  | .hostDefault => 7

/-- SYS_STATUS (20 R567). -/
def sysStatus (s : State) : Word :=
  flagWord [(4, ioFaultLow s), (3, (s.man.bind (·.pair)).isSome), (2, s.start.refused), (1, s.start.adopted), (0, s.forcing)]

/-- SYS_BOOT_STATUS (20 R567). -/
def bootStatus (h : Hst) : Word :=
  regWord [(23, 1, boolNat h.bootOther), (22, 1, boolNat h.bootSlot), (21, 1, boolNat h.bootMl), (20, 1, boolNat h.bootEd)
    , (8, 12, h.bootIndex.toNat), (0, 8, h.bootReason.toNat)]

/-- SYS_STAGE (04 R108). -/
def stageReg (x : Start) : Word :=
  regWord [(8, 8, x.step.toNat), (5, 1, boolNat x.late3), (4, 1, boolNat x.holdOk), (2, 2, x.mooring.toNat), (0, 2, x.stage.toNat)]

/-- SYS_FL_STAT (20 R569). -/
def flashStat (h : Hst) : Word :=
  regWord [(20, 12, h.flSize.toNat), (8, 8, h.flReason.toNat), (1, 1, boolNat h.flDone), (0, 1, boolNat h.flBusy)]

/-- Word `i` of a string of bytes, least significant byte first (00 R3); zero beyond its end. -/
def wordAt (b : Bytes) (i : Nat) : Word := BitVec.ofNat 32 (fld b (4 * i) 4)

/-- Reads of the SYS block (04 R108 to R112; 20 R567 to R569). -/
def sysReg (s : State) (off : Nat) : Word :=
  if off = 0x00 then 0x71600100
  else if 0x04 ≤ off ∧ off < 0x14 then wordAt Config.deviceId ((off - 4) / 4)
  else if off = 0x14 then sysStatus s
  else if off = 0x18 then bootStatus s.hst
  else if off = 0x1C then (if s.start.adopted then s.mram.dev.manSeq else 0)
  else if off = 0x20 then s.mram.dev.floor
  else if off = 0x40 then stageReg s.start
  else if off = 0x44 then
    regWord [(16, 4, min 15 (recentWdog s).length), (8, 1, boolNat s.start.kind), (0, 8, causeCode s.start.cause)]
  else if off = 0x4C then regWord [(0, 13, s.start.threshold.toNat)]
  else if off = 0x50 then
    regWord [(16, 8, s.mram.dev.flushTime.toNat), (2, 1, boolNat s.start.incomplete), (1, 1, boolNat s.start.holdLow)
      , (0, 1, boolNat s.start.warn)]
  else if off = 0x54 then s.moor.ilk
  else if off = 0x60 then s.hst.flAddr
  else if off = 0x64 then regWord [(0, 13, s.hst.flLen.toNat)]
  else if off = 0x6C then flashStat s.hst
  else if off = 0x70 then s.hst.flSeq
  else if off = 0x74 then regWord [(16, 16, s.hst.authFail.toNat), (0, 1, boolNat s.hst.session.isSome)]
  else if 0x80 ≤ off ∧ off < 0xC0 then (if s.start.adopted then wordAt s.mram.dev.digest ((off - 0x80) / 4) else 0)
  else if 0x1000 ≤ off ∧ off < 0x2000 then wordAt (Store.getMany 0 s.hst.flBuf (off - 0x1000) 4) 0
  else 0

/-- Writes of the SYS block other than SYS_RESTART and SYS_FL_CTRL (04 R111, R112; 20 R569). -/
def sysWrite (off : Nat) (v : Word) (s : State) : State :=
  if off = 0x4C then
    let t := fieldOf v 0 13
    if 2500 ≤ t ∧ t ≤ 5000 then s.updStart fun x => { x with threshold := BitVec.ofNat 13 t } else s
  else if off = 0x50 then
    (s.updStart fun x => { x with incomplete := x.incomplete && !v.getLsbD 2, holdLow := x.holdLow && !v.getLsbD 1 }).updDev
      fun d => { d with holdLow := d.holdLow && !v.getLsbD 1 }
  else if off = 0x60 then s.updHst fun h => { h with flAddr := v }
  else if off = 0x64 then s.updHst fun h => { h with flLen := BitVec.ofNat 13 (fieldOf v 0 13) }
  else if off = 0x6C then s.updHst fun h => { h with flDone := h.flDone && !v.getLsbD 1 }
  else if off = 0x70 then s.updHst fun h => { h with flSeq := v }
  else if 0x1000 ≤ off ∧ off < 0x2000 then
    s.updHst fun h => { h with flBuf := Store.setMany 0 h.flBuf (off - 0x1000) (leBytes 4 v.toNat) }
  else s

/-- CLK_STATUS.MODE (19 R549). -/
def modeCode : PowerMode → Nat
  | .run => 0
  | .sleep => 1
  | .deep => 2

/-- Reads of the CLK block (19 R549). -/
def clkReg (s : State) (off : Nat) : Word :=
  let k := s.clk
  if off = 0x00 then regWord [(12, 2, modeCode k.mode), (8, 3, k.onHfio.toNat), (4, 3, k.lock.toNat), (0, 4, k.qual.toNat)]
  else if off = 0x04 then regWord [(16, 16, k.trips.toNat), (4, 3, k.fail.toNat), (0, 4, k.trip.toNat)]
  else if off = 0x08 then regWord [(0, 12, k.runEn.toNat)]
  else if off = 0x0C then regWord [(0, 12, k.sleepEn.toNat)]
  else if off = 0x10 then regWord [(0, 12, k.deepEn.toNat)]
  else if off = 0x18 then regWord [(8, 3, k.wakeCause.toNat), (0, 3, k.wakeEn.toNat)]
  else if off = 0x20 then k.fmCfg
  else if off = 0x28 then k.fmCount
  else if off = 0x2C then
    flagWord [(3, k.fmErr), (2, k.fmOvf), (1, k.fmDone), (0, k.fmBusy)]
  else 0

/-- Writes of the CLK block other than CLK_MODE and CLK_FMEAS_CTRL (19 R535, R549). A reserved source leaves
CLK_FMEAS_CFG unchanged (00 R5). -/
def clkWrite (off : Nat) (v : Word) (s : State) : State :=
  if off = 0x04 then s.updClk fun k => { k with trip := k.trip &&& ~~~ BitVec.ofNat 4 (fieldOf v 0 4) }
  else if off = 0x08 then s.updClk fun k => { k with runEn := BitVec.ofNat 12 (fieldOf v 0 12) ||| blocksInUse s }
  else if off = 0x0C then s.updClk fun k => { k with sleepEn := BitVec.ofNat 12 (fieldOf v 0 12) }
  else if off = 0x10 then s.updClk fun k => { k with deepEn := BitVec.ofNat 12 (fieldOf v 0 12) }
  else if off = 0x18 then s.updClk fun k => { k with wakeEn := BitVec.ofNat 3 (fieldOf v 0 3) }
  else if off = 0x20 then
    if fieldOf v 28 3 = 7 ∨ fieldOf v 24 3 = 7 then s else s.updClk fun k => { k with fmCfg := v &&& 0x77FFFFFF }
  else if off = 0x2C then
    s.updClk fun k => { k with fmErr := k.fmErr && !v.getLsbD 3, fmOvf := k.fmOvf && !v.getLsbD 2, fmDone := k.fmDone && !v.getLsbD 1 }
  else s

/-- CAL_TIME of a calendar time (19 R550). -/
def calTimeReg (c : CalTime) : Word := regWord [(24, 3, c.wday), (16, 5, c.hour), (8, 6, c.min), (0, 6, c.sec)]

/-- CAL_DATE of a calendar time (19 R550). -/
def calDateReg (c : CalTime) : Word := regWord [(8, 4, c.month), (0, 5, c.day)]

/-- Reads of the CAL block: the calendar registers show the path's snapshot while one is held (19 R543, R550). A command
takes effect in its own step, so CMD_BUSY reads zero. -/
def calReg (s : State) (p : PathSt) (off : Nat) : Word :=
  let c := s.cal
  let now := p.snCal.getD c.now
  if off = 0x00 then regWord [(0, 15, c.now.sub)]
  else if off = 0x04 then calTimeReg now
  else if off = 0x08 then calDateReg now
  else if off = 0x0C then regWord [(0, 12, now.year)]
  else if off = 0x10 then regWord [(0, 15, s.stg.sub.toNat)]
  else if off = 0x14 then s.stg.time
  else if off = 0x18 then s.stg.date
  else if off = 0x1C then regWord [(0, 12, s.stg.year.toNat)]
  else if off = 0x24 then regWord [(0, 18, c.shift.toNat)]
  else if off = 0x28 then regWord [(0, 11, c.trim.toNat)]
  else if off = 0x2C then
    regWord [(12, 3, c.cause.toNat), (8, 2, c.alm.toNat), (4, 1, boolNat c.vbatLow), (3, 1, boolNat c.onVbat)
      , (2, 1, boolNat c.cmdRej), (0, 1, boolNat c.osf)]
  else if off = 0x30 then regWord [(16, 1, boolNat c.utcValid), (0, 16, c.utcOff.toNat)]
  else if off = 0x34 then regWord [(0, 16, c.bkpSwitch.toNat)]
  else if off = 0x38 then c.bkpSecs
  else if off = 0x40 then c.alm0Time
  else if off = 0x44 then c.alm0Date
  else if off = 0x48 then c.alm1Time
  else if off = 0x4C then c.alm1Date
  else 0

/-- Writes of the CAL block other than CAL_CMD (19 R541, R544, R550). -/
def calWrite (off : Nat) (v : Word) (s : State) : State :=
  if off = 0x10 then s.updStg fun g => { g with sub := BitVec.ofNat 15 (fieldOf v 0 15) }
  else if off = 0x14 then s.updStg fun g => { g with time := v &&& 0x001F3F3F }
  else if off = 0x18 then s.updStg fun g => { g with date := v &&& 0x00000F1F }
  else if off = 0x1C then s.updStg fun g => { g with year := BitVec.ofNat 12 (fieldOf v 0 12) }
  else if off = 0x24 then s.updCal fun c => { c with shift := BitVec.ofNat 18 (fieldOf v 0 18) }
  else if off = 0x28 then
    let t : BitVec 11 := BitVec.ofNat 11 (fieldOf v 0 11)
    if -537 ≤ t.toInt ∧ t.toInt ≤ 537 then s.updCal fun c => { c with trim := t } else s
  else if off = 0x2C then
    s.updCal fun c => { c with alm := c.alm &&& ~~~ BitVec.ofNat 2 (fieldOf v 8 2), cmdRej := c.cmdRej && !v.getLsbD 2 }
  else if off = 0x30 then s.updCal fun c => { c with utcOff := BitVec.ofNat 16 (fieldOf v 0 16), utcValid := true }
  else if off = 0x40 then s.updCal fun c => { c with alm0Time := v &&& 0x8F9FBFBF }
  else if off = 0x44 then s.updCal fun c => { c with alm0Date := v &&& 0x8FFF8F9F }
  else if off = 0x48 then s.updCal fun c => { c with alm1Time := v &&& 0x8F9FBFBF }
  else if off = 0x4C then s.updCal fun c => { c with alm1Date := v &&& 0x8FFF8F9F }
  else s

/-- TIDE_STATUS (02 R50). -/
def tideStatus (t : Tide) : Word :=
  regWord [(11, 1, boolNat t.rotErr), (8, 3, t.phases.toNat), (6, 1, boolNat (decide (t.mode = .follow)))
    , (5, 1, boolNat (t.peerSrc && (t.mode == .locked || t.mode == .slew))), (4, 1, boolNat (decide (t.mode = .holdover))), (3, 1, boolNat (decide (t.mode = .slew)))
    , (2, 1, boolNat (decide (t.mode = .coast))), (1, 1, boolNat (decide (t.mode = .locked)))
    , (0, 1, boolNat (decide (t.mode = .acquire)))]

/-- The next cycle in which a mark fires (02 R34, R57): the present one where it is due and has not fired yet. -/
def nextFiring (s : State) (m : Nat) (k : TideMark) : Nat :=
  let c := s.tide.cycle.toNat
  let c := if Store.get 0 s.tide.lastFired m = c + 1 then c + 1 else c
  c + (k.offset + k.modulus - c % k.modulus) % k.modulus

/-- The mark window (02 R57). -/
def markReg (s : State) (m off : Nat) : Word :=
  match s.mark? m with
  | none => 0
  | some k =>
    if off = 0x80 then regWord [(16, 16, k.offset), (0, 16, k.modulus)]
    else if off = 0x84 then regWord [(16, 8, k.action), (0, 16, k.angle)]
    else if off = 0x88 then BitVec.ofNat 32 k.param
    else if off = 0x8C then Store.get 0 s.tide.fired m
    else BitVec.ofNat 32 (nextFiring s m k)

/-- The latest stamp, zero before the first (02 R54). -/
def stampRegs (s : State) (p : PathSt) : BitVec 48 × Stamp := (p.snStamp.orElse fun _ => s.tide.stamp).getD (0, {})

/-- Reads of the TIDE block (02 R49 to R57). -/
def tideReg (s : State) (p : PathSt) (off : Nat) : Word :=
  let t := s.tide
  if off = 0x00 then regWord [(0, 8, p.tide.toNat)]
  else if off = 0x04 then tideStatus t
  else if off = 0x08 then t.cycle.setWidth 32
  else if off = 0x0C then
    let x := p.snTide.getD s.tideNow
    (x.cycle.extractLsb' 32 16) ++ x.angle
  else if off = 0x10 then q16Freq t.freq
  else if off = 0x14 then q16Freq t.rate
  else if off = 0x18 then regWord [(0, 16, t.pherr.toNat)]
  else if off = 0x1C then t.period
  else if off = 0x20 then t.vrmsA
  else if off = 0x24 then t.vrmsB
  else if off = 0x28 then t.vrmsC
  else if off = 0x2C then t.vrmsPs
  else if off = 0x30 then (t.stamp.getD (0, {})).1.setWidth 32
  else if off = 0x34 then regWord [(0, 30, (stampRegs s p).2.ns.toNat)]
  else if off = 0x38 then (stampRegs s p).2.sec.setWidth 32
  else if off = 0x3C then regWord [(0, 16, ((stampRegs s p).2.sec.extractLsb' 32 16).toNat)]
  else if off = 0x40 then t.convCycle
  else if off = 0x44 then regWord [(0, 16, t.convAngle.toNat)]
  else if off = 0x48 then regWord [(31, 1, boolNat t.convDone), (30, 1, boolNat t.convErr), (0, 30, t.convOut.ns.toNat)]
  else if off = 0x4C then t.convOut.sec.setWidth 32
  else if off = 0x50 then regWord [(0, 16, (t.convOut.sec.extractLsb' 32 16).toNat)]
  else if off = 0x54 then regWord [(16, 16, t.coastCycles.toNat), (0, 16, t.coastEntries.toNat)]
  else if 0x80 ≤ off ∧ off ≤ 0x90 then markReg s p.tide.toNat off
  else 0

/-- TIDE_CONV_CTRL.GO: a conversion of TIDE_CONV_CYCLE at an angle begins, and DONE and ERR clear (02 R55). -/
def startConv (angle : BitVec 16) (s : State) : State :=
  s.updTide fun t => { t with convAngle := angle, convReq := some (t.convCycle, angle), convDone := false, convErr := false }

/-- Writes of the TIDE block (02 R49, R55). -/
def tideWrite (path : Path) (off : Nat) (v : Word) (s : State) : State :=
  if off = 0x00 then s.updPath path fun p => { p with tide := BitVec.ofNat 8 (fieldOf v 0 8) }
  else if off = 0x40 then s.updTide fun t => { t with convCycle := v }
  else if off = 0x44 then
    let a : BitVec 16 := BitVec.ofNat 16 (fieldOf v 0 16)
    if v.getLsbD 16 then startConv a s else s.updTide fun t => { t with convAngle := a }
  else s

end Sys2Proof.Machine
end

