-- ==== Sys2Proof/Machine/AccessOps.lean ====
section
/-! DEFINITION. The register map: one read and one write of a word through an access path, with their side effects
(00 R5, R6; 20 R562 to R565). -/

namespace Sys2Proof.Machine

open Sys2Proof

/-- What a word of the register map reads as through a path (20 R562). -/
def regValue (path : Path) (addr : Word) (s : State) : Word :=
  let p := s.path path
  let off := addr.toNat % 65536
  let b := addr.toNat / 65536
  if b = 0x4000 then sysReg s off
  else if b = 0x4001 then clkReg s off
  else if b = 0x4002 then calReg s p off
  else if b = 0x4003 then tideReg s p off
  else if b = 0x4004 then evtReg s p off
  else if b = 0x4005 then jrnReg s p off
  else if b = 0x4006 then keyReg s p off
  else if b = 0x4008 then netReg s p off
  else if b = 0x4009 then ntimeReg s p off
  else if b = 0x400A then stnReg s p off
  else if b = 0x400B then pairReg s off
  else if b = 0x400C then fioReg s p off
  else if b = 0x400D then mtrReg s p off
  else if b = 0x4010 then scanReg s p off
  else if b = 0x4011 then loopReg s path off
  else if b = 0x4012 then solReg s p off
  else if b = 0x4013 then placeReg s p off
  else 0

/-- What a read does beside returning the word: snapshots, AUTO increments, and the register that a read clears
(00 R6; 02 R51, R54; 13 R392; 16 R471; 17 R495; 19 R543; 20 R563). -/
def readEffect (path : Path) (addr : Word) (s : State) : State :=
  let a := addr.toNat
  if a = 0x40030008 then s.updPath path fun p => { p with snTide := some s.tideNow }
  else if a = 0x4003000C then s.updPath path fun p => { p with snTide := none }
  else if a = 0x40030030 then s.updPath path fun p => { p with snStamp := some (s.tide.stamp.getD (0, {})) }
  else if a = 0x4003003C then s.updPath path fun p => { p with snStamp := none }
  else if a = 0x40090000 then s.updPath path fun p => { p with snNtime := some (s.ntime.now, s.ntime.frac) }
  else if a = 0x4009000C then s.updPath path fun p => { p with snNtime := none }
  else if a = 0x400D000C then s.updPath path fun p => { p with snMeter := some (s.meter p.mtr.toNat).vals }
  else if a = 0x400D003C then s.updPath path fun p => { p with snMeter := none }
  else if a = 0x40050014 then s.updPath path fun p => { p with snOptime := some (s.jrn.optime.extractLsb' 32 16) }
  else if a = 0x40050018 then s.updPath path fun p => { p with snOptime := none }
  else if a = 0x40020000 then s.updPath path fun p => { p with snCal := some s.cal.now }
  else if a = 0x4002000C then s.updPath path fun p => { p with snCal := none }
  else if a = 0x4005004C then jrnStep path s
  else if a = 0x40100028 then s.updTask (s.path path).scan.toNat fun k => { k with execMax := 0 }
  else if a = 0x401100A0 then capTagStep path s
  else if a = 0x40120040 then s.updPath path solVnext
  else s

/-- Read one word (20 R564). -/
def readWord (path : Path) (addr : Word) (s : State) : Word × State := (regValue path addr s, readEffect path addr s)

/-- Read `n` consecutive words (20 R554, R561). -/
def readRegs (path : Path) : Nat → Word → State → List Word × State
  | 0, _, s => ([], s)
  | n + 1, addr, s =>
    let (v, s) := readWord path addr s
    let (r, s) := readRegs path n (addr + 4) s
    (v :: r, s)

/-- A read of one word by its register's address: the path returns the word. -/
def readRegister (path : Path) (addr : Word) (s : State) : State :=
  let (v, s) := readWord path addr s
  s.updPath path fun p => { p with out := [v] }

/-- The key field of a command word is right. -/
def keyed (v : Word) (key : Nat) : Bool := decide (fieldOf v 16 16 = key)

/-- Of the lowest `n` bits of a command word, the number of the only one that is set. -/
def soleBit (v : Word) (n : Nat) : Option Nat :=
  match (List.range n).filter fun i => v.getLsbD i with
  | [i] => some i
  | _ => none

/-- SYS_RESTART.KIND (04 R110). -/
def restartKind (k : Nat) (s : State) : State :=
  match k with
  | 1 => hostRestart .hostWarm s
  | 2 => hostRestart .hostCold s
  | 3 => hostRestart .hostDefault s
  | _ => s

/-- SYS_FL_CTRL.OP; through a register write an accept-other-slot command finds the flash without error (20 R569). -/
def flashControl (op : Nat) (s : State) : State :=
  match op with
  | 1 => flashReadCommand s
  | 2 => flashProgramCommand s
  | 3 => flashEraseCommand s
  | 4 => acceptOther none true s
  | _ => s

/-- CLK_MODE.MODE (19 R534, R549). -/
def modeControl (m : Nat) (s : State) : State :=
  match m with
  | 1 => enterSleep s
  | 2 => enterDeep s
  | _ => s

/-- CAL_CMD: a wrong key, and other than exactly one command bit, is rejected (19 R546). -/
def calControl (v : Word) (s : State) : State :=
  if keyed v 0xCA1D then
    match soleBit v 3 with
    | some 0 => calendarSet s
    | some 1 => calendarShift s
    | some 2 => calendarPtpSet s
    | _ => rejectCal s
  else rejectCal s

/-- Command registers without a key of 16 bits, and those whose wrong key has an effect (13 R375; 19 R536, R546). -/
def plainCommand (path : Path) (addr : Word) (v : Word) (s : State) : Option State :=
  let a := addr.toNat
  if a = 0x40010024 then some (if v.getLsbD 0 then startMeasure s else s)
  else if a = 0x40020020 then some (calControl v s)
  else if a = 0x40080024 then
    some (selectAn (s.path path).net.toNat (keyed v 0x5A17) (BitVec.ofNat 2 (fieldOf v 0 2)) s)
  else none

/-- The command that a keyed command register's word gives, with the register's key; none for another register
(04 R110; 10 R302; 11 R328, R329; 12 R360; 13 R392; 14 R421; 16 R472; 17 R495; 18 R526; 19 R549; 20 R569). -/
def keyedCommand (path : Path) (addr : Word) (v : Word) : Option (Nat × (State → State)) :=
  let a := addr.toNat
  if a = 0x40000048 then some (0xB0A7, restartKind (fieldOf v 0 2))
  else if a = 0x40000068 then some (0xF1A5, flashControl (fieldOf v 0 3))
  else if a = 0x40010014 then some (0xD7E5, modeControl (fieldOf v 0 2))
  else if a = 0x40050020 then some (0x6A52, fun s => match soleBit v 2 with
    | some 0 => hostFlush s
    | some 1 => startExtract s
    | _ => s)
  else if a = 0x4006008C then some (0xC3E9, fun s => match keyOp (fieldOf v 0 4) with
    | some f => keyCommand f s
    | none => s)
  else if a = 0x40090024 then some (0x7143, fun s => if v.getLsbD 0 then hostStep s else s)
  else if a = 0x400A0020 then some (0x4E57, fun s => if v.getLsbD 0 then rejoinCommand (s.path path).stn.toNat s else s)
  else if a = 0x400B0028 then some (0xF3C8, fun s => if !pairUnit s then s else match soleBit v 2 with
    | some 0 => switchCommand s
    | some 1 => resyncCommand s
    | _ => s)
  else if a = 0x400D0054 then some (0x3E7A, fun s => match soleBit v 2 with
    | some 0 => clearMeter (s.path path).mtr.toNat s
    | some 1 => presetMeter (s.path path).mtr.toNat (fieldOf v 4 3) s
    | _ => s)
  else if a = 0x40100090 then some (0x6F0D, fun s => match soleBit v 3 with
    | some 0 => forceSet path s
    | some 1 => forceClear path s
    | some 2 => forceClearAll path s
    | _ => s)
  else if a = 0x40110054 then some (0x7E57, fun s => match soleBit v 2 with
    | some 0 => testStart (s.path path).loop.toNat s
    | some 1 => testStop (s.path path).loop.toNat s
    | _ => s)
  else if a = 0x40110088 then some (0xCA9E, fun s => match soleBit v 2 with
    | some 0 => captureArm (s.path path).cap.toNat s
    | some 1 => captureStop (s.path path).cap.toNat s
    | _ => s)
  else none

/-- A write of a register that is no command register, and of those of SOL and PLACE (20 R562). -/
def dataWrite (path : Path) (addr : Word) (v : Word) (s : State) : State :=
  let off := addr.toNat % 65536
  let b := addr.toNat / 65536
  if b = 0x4000 then sysWrite off v s
  else if b = 0x4001 then clkWrite off v s
  else if b = 0x4002 then calWrite off v s
  else if b = 0x4003 then tideWrite path off v s
  else if b = 0x4004 then evtWrite path off v s
  else if b = 0x4005 then jrnWrite path off v s
  else if b = 0x4006 then keyWrite path off v s
  else if b = 0x4008 then netWrite path off v s
  else if b = 0x4009 then ntimeWrite off v s
  else if b = 0x400A then stnWrite path off v s
  else if b = 0x400B then pairWrite off v s
  else if b = 0x400C then fioWrite path off v s
  else if b = 0x400D then mtrWrite path off v s
  else if b = 0x4010 then scanWrite path off v s
  else if b = 0x4011 then loopWrite path off v s
  else if b = 0x4012 then solWrite path off v s
  else if b = 0x4013 then placeWrite path off v s
  else s

/-- Write one word (20 R562 to R564). -/
def writeWord (path : Path) (addr v : Word) (s : State) : State :=
  match plainCommand path addr v s with
  | some s => s
  | none =>
    match keyedCommand path addr v with
    | some (key, f) => if keyed v key then f s else s
    | none => dataWrite path addr v s

/-- Write words to consecutive addresses while a condition on the state holds (20 R555, R561). -/
def writeRegs (path : Path) (go : State → Bool) : List Word → Word → State → State
  | [], _, s => s
  | v :: r, addr, s => if go s then writeRegs path go r (addr + 4) (writeWord path addr v s) else s

end Sys2Proof.Machine
end

