-- ==== Sys2Proof/Machine/SessionOps.lean ====
section
/-! DEFINITION. The two access paths: transactions of the host SPI port and frames of the management service
(20 R552 to R561). -/

namespace Sys2Proof.Machine

open Sys2Proof

/-- The host SPI port serves transactions: from stage 1 of a start on, with the port clocked; a transaction that wakes the
device from DEEP is ignored (19 R534, R535; 20 R552, R556). -/
def spiServed (s : State) : Bool :=
  decide (s.start.power = .on) && decide (1 ≤ s.start.stage)
    && (match s.clk.mode with
      | .run => true
      | .sleep => s.clk.sleepEn.getLsbD 11
      | .deep => s.clk.deepEn.getLsbD 11 && !s.clk.wakeEn.getLsbD 0)

/-- A transaction of the port: its falling edge of HSPI_CS_N wakes the device; a transaction that the port does not serve
is ignored whole, as is one that wakes the device from DEEP (19 R534; 20 R552, R556). -/
def spiTransaction (f : State → State) (s : State) : State :=
  let served := spiServed s
  let s := wakeUp .hspiCs s
  if served then f s else s

/-- Set a bit of the port status (20 R556). -/
def portStatus (bit : Nat) (s : State) : State := s.updHst fun h => { h with port := putBit h.port bit true }

/-- An address of whole words (20 R555, R562). -/
def aligned (addr : Word) : Bool := addr.toNat % 4 == 0

/-- Marked words as the port sends them (20 R554). -/
def marked (l : List Word) : Bytes := l.flatMap fun v => 0xA5 :: leBytes 4 v.toNat

/-- READ of as many words as have had their 0xA5 marker sent (20 R554, R555). -/
def spiRead (addr : Word) (n : Nat) (s : State) : State :=
  if aligned addr then
    let (l, s) := readRegs .spi n addr s
    let s := s.updPath .spi fun p => { p with out := l }
    s.updHst fun h => { h with spiOut := marked l }
  else portStatus 1 (s.updHst fun h => { h with spiOut := List.replicate n 0x5A })

/-- A word that is not available within 20 µs ends the read (20 R554). -/
def spiReadTimeout (addr : Word) (s : State) : State :=
  if aligned addr then portStatus 0 (s.updHst fun h => { h with spiOut := [0x5A, 0, 0, 0, 0] })
  else portStatus 1 (s.updHst fun h => { h with spiOut := [0x5A] })

/-- WRITE of words, with a partial word at its end or not; a restart that a word commands ends the port's service
(20 R555). -/
def spiWrite (addr : Word) (l : List Word) (part : Bool) (s : State) : State :=
  let s := s.updHst fun h => { h with spiOut := [] }
  if aligned addr then
    let s := writeRegs .spi spiServed l addr s
    if part && spiServed s then portStatus 3 s else s
  else portStatus 1 s

/-- STATUS returns the port status and clears it (20 R556). -/
def spiStatus (s : State) : State := s.updHst fun h => { h with spiOut := leBytes 4 h.port.toNat, port := 0 }

/-- A reserved command byte is ignored whole (20 R553, R556). -/
def spiIgnored (command : Byte) (s : State) : State :=
  if command = 0x0B ∨ command = 0x02 ∨ command = 0x05 then s else portStatus 2 s

/-- A port that runs the management service (04 R98; 13 R367, R372). -/
def servesMgmt (s : State) (p : Nat) : Bool :=
  decide (1 ≤ s.start.stage) && decide (s.start.step ≠ 1) && (portCfg s p).enabled && (portCfg s p).mgmt

/-- Header of a management frame (20 R557). -/
def mgmtHeader (kind : Byte) (sid counter : Word) (len : Nat) (status : Byte) : Bytes :=
  [0x55, 0x4D, 1, kind] ++ leBytes 4 sid.toNat ++ leBytes 4 counter.toNat ++ leBytes 2 len ++ [status, 0]

/-- Queue a management frame on a port. The operands of a command do not carry the host's address: the destination is an
open value. -/
def sendMgmt (p : Nat) (msg : Bytes) (s : State) : State :=
  let (dst, s) := drawBytes 6 s
  let pad := List.replicate (46 - msg.length) 0
  enqueue p 3 { bytes := dst ++ (portCfg s p).addr ++ beBytes 2 0x88B6 ++ msg ++ pad } s

/-- REFUSE with a status (20 R557 to R559). -/
def refuseMgmt (p : Nat) (sid : Word) (status : Byte) (s : State) : State := sendMgmt p (mgmtHeader 0x0A sid 0 0 status) s

/-- AUTH_FAIL increases, saturating, and MGMT_AUTH_FAIL is raised where it does (20 R560, R568, R571). -/
def authFails (s : State) : State :=
  if s.hst.authFail = 0xFFFF then s else raise 21 (s.updHst fun h => { h with authFail := h.authFail + 1 })

/-- The session ends (20 R559, R560, R571). -/
def endSession (s : State) : State :=
  if s.hst.session.isSome then raise 20 (s.updHst fun h => { h with session := none }) else s

/-- A HELLO frame that the device answers: at most eight in a second of operating time (20 R559). -/
def helloAllowed (s : State) : Bool := decide (s.hst.helloAt ≠ s.jrn.optime.toNat / 1000) || decide (s.hst.hellos < 8)

/-- Count an answered HELLO (20 R559). -/
def countHello (s : State) : State :=
  let sec := s.jrn.optime.toNat / 1000
  s.updHst fun h => { h with hellos := if h.helloAt = sec then h.hellos + 1 else 1, helloAt := sec }

/-- The open session has carried no accepted request for 60 s (20 R559). -/
def sessionStale (s : State) (x : Session) : Bool := decide (x.lastAt.toNat + 60000 ≤ s.jrn.optime.toNat)

/-- CHALLENGE: a session setup begins with a drawn identifier and nonce (20 R558). -/
def challenge (p : Nat) (nh : Bytes) (s : State) : State :=
  let (k, s) := drawFree s
  let sid : Word := BitVec.ofNat 32 k
  let nd := slice (Config.drbg s.draws 16) 0 16
  let s := { s with draws := s.draws + 1 }
  let s := s.updHst fun h => { h with setup := some { sid := sid, nh := nh, nd := nd } }
  sendMgmt p (mgmtHeader 0x02 sid 0 36 0 ++ leBytes 4 sid.toNat ++ nd ++ slice Config.deviceId 0 16) s

/-- HELLO (20 R557 to R559). -/
def helloFrame (p : Nat) (nh : Bytes) (s : State) : State :=
  if !servesMgmt s p || nh.length != 16 || !helloAllowed s then s
  else
    let s := countHello s
    if s.keys.hostKey.isNone then refuseMgmt p 0 4 s
    else match s.hst.session with
      | none => challenge p nh s
      | some x => if sessionStale s x then challenge p nh (endSession s) else refuseMgmt p 0 3 s

/-- A tag of the session setup (20 R558). -/
def setupTag (kh : Bytes) (head : Byte) (x : Setup) : Bytes :=
  Config.kmac256 kh (head :: x.nh ++ x.nd ++ leBytes 4 x.sid.toNat ++ slice Config.deviceId 0 16) 32 (ascii "UL-7160 session")

/-- A path with the selection registers reset (20 R563). -/
def PathSt.reselected (p : PathSt) : PathSt :=
  { snTide := p.snTide, snStamp := p.snStamp, snNtime := p.snNtime, snMeter := p.snMeter, snOptime := p.snOptime
    snCal := p.snCal, out := p.out }

/-- The session opens (20 R558, R563, R571). -/
def openSession (kh : Bytes) (x : Setup) (s : State) : State :=
  let ks := deriveFrom kh "MGMT-SESSION" (x.nh ++ x.nd ++ leBytes 4 x.sid.toNat)
  let s := s.updPath .mgmt PathSt.reselected
  raise 20 (s.updHst fun h => { h with setup := none, session := some { sid := x.sid, key := ks, lastAt := s.jrn.optime } })

/-- PROVE (20 R558): a setup, its identifier and its tag; else REFUSE, and the setup ends. -/
def proveFrame (p : Nat) (sid : Word) (tag : Bytes) (s : State) : State :=
  if !servesMgmt s p then s
  else match s.hst.setup, s.keys.hostKey with
    | some x, some kh =>
      if x.sid = sid ∧ tag = setupTag kh 0x48 x then
        sendMgmt p (mgmtHeader 0x04 sid 0 32 0 ++ setupTag kh 0x44 x) (openSession kh x s)
      else refuseMgmt p sid 5 (authFails (s.updHst fun h => { h with setup := none }))
    | _, _ => refuseMgmt p sid 5 (authFails (s.updHst fun h => { h with setup := none }))

/-- The header and payload of a request, as its fields give them (20 R557, R561). -/
def requestBytes (kind : Byte) (h : MgmtHead) (payload : Bytes) : Bytes :=
  mgmtHeader kind h.session h.counter payload.length 0 ++ payload

/-- Tag of a frame of kinds 0x05 to 0x09 (20 R560). -/
def frameTag (ks : Bytes) (msg : Bytes) (custom : String) : Bytes := Config.kmac256 ks msg 16 (ascii custom)

/-- A reply: its header with the request's counter, its payload and its tag (20 R557, R560). -/
def replyMgmt (p : Nat) (x : Session) (kind : Byte) (counter : Word) (status : Byte) (payload : Bytes) (s : State) : State :=
  let msg := mgmtHeader kind x.sid counter payload.length status ++ payload
  sendMgmt p (msg ++ frameTag x.key msg "UL-7160 mgmt reply") s

/-- A request frame: one whose bytes are not what its fields give is invalid as a whole (00 R5); one that its session,
counter or tag does not vouch for is discarded and counted; else it is accepted and performed (20 R560). -/
def mgmtRequest (kind : Byte) (h : MgmtHead) (payload : Bytes) (f : Session → State → State) (s : State) : State :=
  if !servesMgmt s h.port.toNat || h.raw != requestBytes kind h payload then s
  else match s.hst.session with
    | none => authFails s
    | some x =>
      if x.sid = h.session ∧ x.last.all (· < h.counter) ∧ h.tag = frameTag x.key h.raw "UL-7160 mgmt request" then
        let x := { x with last := some h.counter, lastAt := s.jrn.optime }
        f x (s.updHst fun t => { t with session := some x })
      else authFails s

/-- The payload head of READ and WRITE (20 R561). -/
def accessPayload (addr : Word) (count : BitVec 16) : Bytes := leBytes 4 addr.toNat ++ leBytes 2 count.toNat ++ [0, 0]

/-- Status of a READ or WRITE: 0, or why nothing is performed (20 R557, R561). -/
def accessStatus (addr : Word) (count : BitVec 16) : Byte :=
  if count.toNat < 1 ∨ 256 < count.toNat then 2 else if aligned addr then 0 else 1

/-- READ (20 R561). -/
def mgmtRead (h : MgmtHead) (addr : Word) (count : BitVec 16) (s : State) : State :=
  mgmtRequest 0x05 h (accessPayload addr count) (fun x s =>
    let st := accessStatus addr count
    if st = 0 then
      let (l, s) := readRegs .mgmt count.toNat addr s
      let s := s.updPath .mgmt fun p => { p with out := l }
      replyMgmt h.port.toNat x 0x06 h.counter 0 (wordsToBytes l) s
    else replyMgmt h.port.toNat x 0x06 h.counter st [] s) s

/-- WRITE (20 R561): a restart that a word commands ends the session, and no reply follows. -/
def mgmtWrite (h : MgmtHead) (addr : Word) (count : BitVec 16) (l : List Word) (s : State) : State :=
  if l.length ≠ count.toNat then s
  else
    mgmtRequest 0x07 h (accessPayload addr count ++ wordsToBytes l) (fun x s =>
      let st := accessStatus addr count
      if st = 0 then
        let s := writeRegs .mgmt (fun s => s.hst.session.isSome) l addr s
        if s.hst.session.isSome then replyMgmt h.port.toNat x 0x08 h.counter 0 [] s else s
      else replyMgmt h.port.toNat x 0x08 h.counter st [] s) s

/-- CLOSE: the session ends with a WRITE_REPLY (20 R560). -/
def closeFrame (h : MgmtHead) (s : State) : State :=
  mgmtRequest 0x09 h [] (fun x s => endSession (replyMgmt h.port.toNat x 0x08 h.counter 0 [] s)) s

/-- A write of one register (00 R6; 20 R555, R562). -/
def registerWrite (path : Path) (addr v : Word) (s : State) : State :=
  if aligned addr then writeWord path addr v s
  else match path with
    | .spi => portStatus 1 s
    | .mgmt => s

/-- The address of the register whose read ends a snapshot (02 R51, R54; 13 R392; 16 R471; 17 R495; 19 R543). -/
def snapEnd (k : SnapKind) : Word :=
  match k with
  | .tide => 0x4003000C
  | .stamp => 0x4003003C
  | .ntime => 0x4009000C
  | .meter => 0x400D003C
  | .optime => 0x40050018
  | .calendar => 0x4002000C

/-- A snapshot lapses 1 ms after it was taken. -/
def snapLapse (path : Path) (k : SnapKind) (s : State) : State :=
  s.updPath path fun p =>
    match k with
    | .tide => { p with snTide := none }
    | .stamp => { p with snStamp := none }
    | .ntime => { p with snNtime := none }
    | .meter => { p with snMeter := none }
    | .optime => { p with snOptime := none }
    | .calendar => { p with snCal := none }

end Sys2Proof.Machine
end

