-- ==== Sys2Proof/Machine/Access.lean ====
section
/-! DEFINITION. The commands of the host access: host SPI transactions, management frames, single register accesses, flash
commands (20; 03 R76). -/

namespace Sys2Proof.Machine

open Sys2Proof

/-- HSPI_READ (20 R554). -/
def execHspiRead (addr : Word) (words : Nat) (s : State) : Host.Outcome State Fault Refusal :=
  actOn s (spiTransaction (spiRead addr words))

/-- HSPI_READ_TIMEOUT (20 R554). -/
def execHspiReadTimeout (addr : Word) (s : State) : Host.Outcome State Fault Refusal :=
  actOn s (spiTransaction (spiReadTimeout addr))

/-- HSPI_WRITE (20 R555). -/
def execHspiWrite (addr : Word) (words : List Word) (partialWord : Bool) (s : State) : Host.Outcome State Fault Refusal :=
  actOn s (spiTransaction (spiWrite addr words partialWord))

/-- HSPI_STATUS (20 R556). -/
def execHspiStatus (s : State) : Host.Outcome State Fault Refusal := actOn s (spiTransaction spiStatus)

/-- HSPI_IGNORED_TRANSACTION (20 R553). -/
def execHspiIgnoredTransaction (command : Byte) (s : State) : Host.Outcome State Fault Refusal :=
  actOn s (spiTransaction (spiIgnored command))

/-- HELLO (20 R559). -/
def execHello (port : BitVec 3) (nonce : Bytes) (s : State) : Host.Outcome State Fault Refusal :=
  actOn s (helloFrame port.toNat nonce)

/-- PROVE (20 R558). -/
def execProve (port : BitVec 3) (sid : Word) (tag : Bytes) (s : State) : Host.Outcome State Fault Refusal :=
  actOn s (proveFrame port.toNat sid tag)

/-- MGMT_READ (20 R561). -/
def execMgmtRead (h : MgmtHead) (addr : Word) (count : BitVec 16) (s : State) : Host.Outcome State Fault Refusal :=
  actOn s (mgmtRead h addr count)

/-- MGMT_WRITE (20 R561). -/
def execMgmtWrite (h : MgmtHead) (addr : Word) (count : BitVec 16) (words : List Word) (s : State) :
    Host.Outcome State Fault Refusal :=
  actOn s (mgmtWrite h addr count words)

/-- CLOSE (20 R560). -/
def execClose (h : MgmtHead) (s : State) : Host.Outcome State Fault Refusal := actOn s (closeFrame h)

/-- FL_READ (20 R570). -/
def execFlRead (path : Path) (key : BitVec 16) (s : State) : Host.Outcome State Fault Refusal :=
  match path with
  | _ => actKey s key 0xF1A5 flashReadCommand

/-- FL_PROGRAM (20 R570). -/
def execFlProgram (path : Path) (key : BitVec 16) (s : State) : Host.Outcome State Fault Refusal :=
  match path with
  | _ => actKey s key 0xF1A5 flashProgramCommand

/-- FL_ERASE (20 R570). -/
def execFlErase (path : Path) (key : BitVec 16) (s : State) : Host.Outcome State Fault Refusal :=
  match path with
  | _ => actKey s key 0xF1A5 flashEraseCommand

/-- ACCEPT_OTHER (03 R76). While the flush of a power-fail warning runs, a restart is pending, and the command is rejected
(03 R79; 20 R569). -/
def execAcceptOther (path : Path) (key : BitVec 16) (failFrom : Option Nat) (writeOk : Bool) (s : State) :
    Host.Outcome State Fault Refusal :=
  match path with
  | _ =>
    if s.start.power = .flush ∧ key = 0xF1A5 then act s fun s => s.updHst fun h => { h with flReason := 6 }
    else actKey s key 0xF1A5 (acceptOther failFrom writeOk)

/-- FLASH_DONE (20 R570). -/
def execFlashDone (ok : Bool) (s : State) : Host.Outcome State Fault Refusal := actOn s (flashDone ok)

/-- REGISTER_WRITE (00 R6). -/
def execRegisterWrite (path : Path) (addr value : Word) (s : State) : Host.Outcome State Fault Refusal :=
  actOn s (registerWrite path addr value)

/-- TIDE_CYCLE_READ (02 R51). -/
def execTideCycleRead (path : Path) (s : State) : Host.Outcome State Fault Refusal :=
  actOn s (readRegister path 0x40030008)

/-- TIDE_ZC_CYCLE_READ (02 R54). -/
def execTideZcCycleRead (path : Path) (s : State) : Host.Outcome State Fault Refusal :=
  actOn s (readRegister path 0x40030030)

/-- NTIME_SEC_LO_READ (13 R392). -/
def execNtimeSecLoRead (path : Path) (s : State) : Host.Outcome State Fault Refusal :=
  actOn s (readRegister path 0x40090000)

/-- MTR_TOTAL_LO_READ (16 R471). -/
def execMtrTotalLoRead (path : Path) (s : State) : Host.Outcome State Fault Refusal :=
  actOn s (readRegister path 0x400D000C)

/-- JRN_OPTIME_LO_READ (17 R495). -/
def execJrnOptimeLoRead (path : Path) (s : State) : Host.Outcome State Fault Refusal :=
  actOn s (readRegister path 0x40050014)

/-- CAL_SUBSEC_READ (19 R543). -/
def execCalSubsecRead (path : Path) (s : State) : Host.Outcome State Fault Refusal :=
  actOn s (readRegister path 0x40020000)

/-- SNAPSHOT_END_READ (02 R51). -/
def execSnapshotEndRead (path : Path) (snap : SnapKind) (s : State) : Host.Outcome State Fault Refusal :=
  actOn s (readRegister path (snapEnd snap))

/-- SNAPSHOT_TIMEOUT (02 R51). -/
def execSnapshotTimeout (path : Path) (snap : SnapKind) (s : State) : Host.Outcome State Fault Refusal :=
  actOn s (snapLapse path snap)

/-- JRN_DATA7_READ (17 R495). -/
def execJrnData7Read (path : Path) (s : State) : Host.Outcome State Fault Refusal :=
  actOn s (readRegister path 0x4005004C)

end Sys2Proof.Machine
end

