-- ==== Sys2Proof/Machine/Clock.lean ====
section
/-! DEFINITION. The commands of the clocks and of the calendar (19). -/

namespace Sys2Proof.Machine

open Sys2Proof

/-- CLK_MON_TRIP (19 R532). -/
def execClkMonTrip (clock : MonClock) (s : State) : Host.Outcome State Fault Refusal := actOn s (monitorTrip clock)

/-- LOOP_REFERENCE_SWITCH (19 R532, R533). -/
def execLoopReferenceSwitch (s : State) : Host.Outcome State Fault Refusal := actOn s switchReference

/-- HFIO_TRIM: every 1 ms while XTAL1 is qualified (19 R529). -/
def execHfioTrim (s : State) : Host.Outcome State Fault Refusal :=
  actOn s fun s => if s.clk.qual.getLsbD 2 then s.updClk fun c => { c with trimmed := true } else s

/-- SLEEP (19 R534, R549). -/
def execSleep (path : Path) (key : BitVec 16) (s : State) : Host.Outcome State Fault Refusal :=
  match path with
  | _ => actKey s key 0xD7E5 enterSleep

/-- DEEP (19 R534, R549). -/
def execDeep (path : Path) (key : BitVec 16) (s : State) : Host.Outcome State Fault Refusal :=
  match path with
  | _ => actKey s key 0xD7E5 enterDeep

/-- WAKE (19 R533, R534). -/
def execWake (src : WakeSource) (s : State) : Host.Outcome State Fault Refusal := actOn s (wakeUp src)

/-- CLK_RUN_EN_WRITE (19 R535). -/
def execClkRunEnWrite (path : Path) (value : BitVec 12) (s : State) : Host.Outcome State Fault Refusal :=
  match path with
  | _ => actOn s fun s => s.updClk fun c => { c with runEn := value ||| blocksInUse s }

/-- FMEAS_START (19 R536). -/
def execFmeasStart (path : Path) (s : State) : Host.Outcome State Fault Refusal :=
  match path with
  | _ => actOn s startMeasure

/-- FMEAS_DONE (19 R536). -/
def execFmeasDone (count : Nat) (s : State) : Host.Outcome State Fault Refusal := actOn s (endMeasure count)

/-- FMEAS_ERR (19 R536). -/
def execFmeasErr (s : State) : Host.Outcome State Fault Refusal := actOn s failMeasure

/-- CALENDAR_SECOND (19 R540). -/
def execCalendarSecond (s : State) : Host.Outcome State Fault Refusal := act s calendarSecond

/-- CAL_ALARM (19 R547). -/
def execCalAlarm (alarm : Bool) (s : State) : Host.Outcome State Fault Refusal := act s (calendarAlarm alarm)

/-- XTAL2_STOP (19 R539). -/
def execXtal2Stop (s : State) : Host.Outcome State Fault Refusal :=
  act s fun s => setOsf 1 (s.updClk fun c => { c with qual := putBit c.qual 3 false })

/-- BACKUP_BROWNOUT (19 R538). -/
def execBackupBrownout (s : State) : Host.Outcome State Fault Refusal := act s (setOsf 2)

/-- BACKUP_POWER_ON_RESET: every backup register takes its reset value (19 R538, R550). -/
def execBackupPowerOnReset (s : State) : Host.Outcome State Fault Refusal :=
  act s fun s =>
    let was := s.cal.osf
    let s := { s with cal := {} }
    if was then s else raise 18 s

/-- VBAT_SWITCH (19 R537). -/
def execVbatSwitch (toVbat : Bool) (s : State) : Host.Outcome State Fault Refusal :=
  act s fun s => s.updCal fun c =>
    { c with onVbat := toVbat
             bkpSwitch := if toVbat && !c.onVbat then satInc c.bkpSwitch else c.bkpSwitch }

/-- VBAT_CHECK (19 R550). -/
def execVbatCheck (low : Bool) (s : State) : Host.Outcome State Fault Refusal :=
  act s fun s => s.updCal fun c => { c with vbatLow := low }

/-- SET (19 R544, R546): a wrong key is rejected. -/
def execCalSet (path : Path) (key : BitVec 16) (s : State) : Host.Outcome State Fault Refusal :=
  match path with
  | _ => actOn s (if key = 0xCA1D then calendarSet else rejectCal)

/-- SHIFT (19 R542, R546): a wrong key is rejected. -/
def execShift (path : Path) (key : BitVec 16) (s : State) : Host.Outcome State Fault Refusal :=
  match path with
  | _ => actOn s (if key = 0xCA1D then calendarShift else rejectCal)

/-- PTP_SET (19 R545, R546): a wrong key is rejected. -/
def execPtpSet (path : Path) (key : BitVec 16) (s : State) : Host.Outcome State Fault Refusal :=
  match path with
  | _ => actOn s (if key = 0xCA1D then calendarPtpSet else rejectCal)

/-- AUTOMATIC_SETTING (19 R548). -/
def execAutomaticSetting (s : State) : Host.Outcome State Fault Refusal :=
  actOn s fun s => if s.start.adopted then automaticSet s else s

end Sys2Proof.Machine
end

