-- ==== Sys2Proof/Machine/Field.lean ====
section
/-! DEFINITION. The commands of the field inputs and outputs (15). -/

namespace Sys2Proof.Machine

open Sys2Proof

/-- IO_DIE_UPDATE (15 R426); a mooring loop's cycle that began since its last sample shows here (04 R95). -/
def execIoDieUpdate (s : State) : Host.Outcome State Fault Refusal := actOn s fun s => ioUpdate (moorCycles s)

/-- INPUT_FILTER_CHANGE (15 R431, R436). -/
def execInputFilterChange (channel : BitVec 5) (state : Bool) (s : State) : Host.Outcome State Fault Refusal :=
  actOn s (filterChange channel.toNat state)

/-- READBACK_MISMATCH (15 R437). -/
def execReadbackMismatch (channel : BitVec 5) (s : State) : Host.Outcome State Fault Refusal :=
  actOn s (readbackDiffers channel.toNat)

/-- THERMAL_SHUTDOWN (15 R434). -/
def execThermalShutdown (channel : BitVec 5) (s : State) : Host.Outcome State Fault Refusal :=
  actOn s (thermalTrip channel.toNat)

/-- THERMAL_RESTART (15 R434). -/
def execThermalRestart (channel : BitVec 5) (s : State) : Host.Outcome State Fault Refusal :=
  actOn s (thermalCooled channel.toNat)

/-- IO_WATCHDOG_TRIP (15 R440): the die acts on its own. -/
def execIoWatchdogTrip (group : BitVec 2) (s : State) : Host.Outcome State Fault Refusal := act s (dieWatchdog group.toNat)

/-- GROUP_TIMER_EXPIRY (15 R440): the die acts on its own. -/
def execGroupTimerExpiry (group : BitVec 2) (s : State) : Host.Outcome State Fault Refusal :=
  act s (groupExpired group.toNat)

/-- VFLD_FAULT (15 R440): the die acts on its own. -/
def execVfldFault (group : BitVec 2) (s : State) : Host.Outcome State Fault Refusal := act s (supplyLost group.toNat)

/-- VFLD_RETURN (15 R441). -/
def execVfldReturn (group : BitVec 2) (s : State) : Host.Outcome State Fault Refusal := act s (supplyBack group.toNat)

/-- OUTPUT_STAGE_TEST (15 R443). -/
def execOutputStageTest (channel : BitVec 5) (readback : Bool) (s : State) : Host.Outcome State Fault Refusal :=
  actOn s (stageTest channel.toNat readback)

end Sys2Proof.Machine
end

