-- ==== Sys2Proof/Machine/Journal.lean ====
section
/-! DEFINITION. The commands of the journal (17). -/

namespace Sys2Proof.Machine

open Sys2Proof

/-- JOURNAL_FLUSH_END (17 R488, R490). -/
def execJournalFlushEnd (s : State) : Host.Outcome State Fault Refusal := actOn s endFlush

/-- FLUSH (17 R488, R495). -/
def execFlush (path : Path) (key : BitVec 16) (s : State) : Host.Outcome State Fault Refusal :=
  match path with
  | _ => actKey s key 0x6A52 hostFlush

/-- EXTRACT (17 R493, R495). -/
def execExtract (path : Path) (key : BitVec 16) (s : State) : Host.Outcome State Fault Refusal :=
  match path with
  | _ => actKey s key 0x6A52 startExtract

/-- JRN_EXTRACT_DONE (17 R493). -/
def execJrnExtractDone (s : State) : Host.Outcome State Fault Refusal := actOn s endExtract

/-- JOURNAL_REBUILD_END (17 R489). -/
def execJournalRebuildEnd (s : State) : Host.Outcome State Fault Refusal := actOn s endRebuild

/-- OPTIME_STORE (17 R485). The management processor serves its pair keep-alive as it does other work; no row stands for
serving it, so this one shows it for a unit that neither sends nor answers leases (14 R396). DESIGN CHOICE, log entry 71. -/
def execOptimeStore (s : State) : Host.Outcome State Fault Refusal :=
  actOn s fun s => servePeerOk (s.updDev fun d => { d with optime := s.jrn.optime })

/-- DAILY_ANCHOR (17 R492). -/
def execDailyAnchor (s : State) : Host.Outcome State Fault Refusal := actOn s (anchor 4)

end Sys2Proof.Machine
end

