-- ==== Sys2Proof/Machine/Keys.lean ====
section
/-! DEFINITION. The commands of the key block (18). -/

namespace Sys2Proof.Machine

open Sys2Proof

/-- ATTEST (18 R520, R523). -/
def execAttest (path : Path) (key : BitVec 16) (s : State) : Host.Outcome State Fault Refusal :=
  match path with
  | _ => actKey s key 0xC3E9 (keyCommand attestCommand)

/-- ENDORSE (18 R522). -/
def execEndorse (path : Path) (key : BitVec 16) (s : State) : Host.Outcome State Fault Refusal :=
  match path with
  | _ => actKey s key 0xC3E9 (keyCommand endorseCommand)

/-- KEY_ORIGIN (18 R521). -/
def execKeyOrigin (path : Path) (key : BitVec 16) (s : State) : Host.Outcome State Fault Refusal :=
  match path with
  | _ => actKey s key 0xC3E9 (keyCommand keyOriginCommand)

/-- GENERATE (18 R518). -/
def execGenerate (path : Path) (key : BitVec 16) (s : State) : Host.Outcome State Fault Refusal :=
  match path with
  | _ => actKey s key 0xC3E9 (keyCommand generateCommand)

/-- IMPORT (18 R518). -/
def execImportKey (path : Path) (key : BitVec 16) (s : State) : Host.Outcome State Fault Refusal :=
  match path with
  | _ => actKey s key 0xC3E9 (keyCommand importCommand)

/-- INSTALL (18 R518). -/
def execInstall (path : Path) (key : BitVec 16) (s : State) : Host.Outcome State Fault Refusal :=
  match path with
  | _ => actKey s key 0xC3E9 (keyCommand installCommand)

/-- LOAD (18 R518). -/
def execLoad (path : Path) (key : BitVec 16) (s : State) : Host.Outcome State Fault Refusal :=
  match path with
  | _ => actKey s key 0xC3E9 (keyCommand loadCommand)

/-- ENROL_ARM (18 R512). -/
def execEnrolArm (path : Path) (key : BitVec 16) (s : State) : Host.Outcome State Fault Refusal :=
  match path with
  | _ => actKey s key 0xC3E9 (keyCommand armCommand)

/-- FUSE_COMMIT (18 R508). -/
def execFuseCommit (path : Path) (key : BitVec 16) (s : State) : Host.Outcome State Fault Refusal :=
  match path with
  | _ => actKey s key 0xC3E9 (keyCommand fuseCommand)

/-- READ_CHAIN (18 R526). -/
def execReadChain (path : Path) (key : BitVec 16) (s : State) : Host.Outcome State Fault Refusal :=
  match path with
  | _ => actKey s key 0xC3E9 (keyCommand chainCommand)

/-- READ_BLOB (18 R526). -/
def execReadBlob (path : Path) (key : BitVec 16) (s : State) : Host.Outcome State Fault Refusal :=
  match path with
  | _ => actKey s key 0xC3E9 (keyCommand blobCommand)

/-- KEY_COMMAND_DONE (18 R523, R526). -/
def execKeyCommandDone (s : State) : Host.Outcome State Fault Refusal := actOn s keyDone

end Sys2Proof.Machine
end

