-- ==== Sys2Proof/Machine/Loops.lean ====
section
/-! DEFINITION. The commands of the closed-loop engine (11). -/

namespace Sys2Proof.Machine

open Sys2Proof

/-- LOOP_GROUP_SAMPLE (11 R308, R311; 15 R425, R426). -/
def execLoopGroupSample (mark : BitVec 8) (s : State) : Host.Outcome State Fault Refusal :=
  actOn s fun s => atMark mark.toNat 3 s fun k s => applyOutputs (loopSample k mark.toNat s)

/-- LOOP_PULSE_END (11 R319, 15 R426). -/
def execLoopPulseEnd (loop : BitVec 9) (s : State) : Host.Outcome State Fault Refusal := 
  actOn s fun s => applyOutputs (pulseEnd loop.toNat s)

/-- TEST_START (11 R324, R328). -/
def execTestStart (path : Path) (key : BitVec 16) (s : State) : Host.Outcome State Fault Refusal :=
  actKey s key 0x7E57 (testStart (s.path path).loop.toNat)

/-- TEST_STOP (11 R324, R328). -/
def execTestStop (path : Path) (key : BitVec 16) (s : State) : Host.Outcome State Fault Refusal :=
  actKey s key 0x7E57 (testStop (s.path path).loop.toNat)

/-- CAPTURE_ARM (11 R325, R329). -/
def execCaptureArm (path : Path) (key : BitVec 16) (s : State) : Host.Outcome State Fault Refusal :=
  actKey s key 0xCA9E (captureArm (s.path path).cap.toNat)

/-- CAPTURE_STOP (11 R329). -/
def execCaptureStop (path : Path) (key : BitVec 16) (s : State) : Host.Outcome State Fault Refusal :=
  actKey s key 0xCA9E (captureStop (s.path path).cap.toNat)

/-- LOOP_CAP_TAG_READ (11 R329). -/
def execLoopCapTagRead (path : Path) (s : State) : Host.Outcome State Fault Refusal :=
  actOn s fun s => capTagStep path (s.updPath path fun p => { p with out := [capTag s path] })

end Sys2Proof.Machine
end

