-- ==== Sys2Proof/Machine/Metering.lean ====
section
/-! DEFINITION. The commands of the meter channels (16). -/

namespace Sys2Proof.Machine

open Sys2Proof

/-- Write an enabled meter binding into the live input area (16 R464). -/
def writeMeterVar (t : Ty) (i : Option Nat) (v : DWord) (s : State) : State :=
  match i with
  | some i => writeInput t i v s
  | none => s

/-- A tariff check on one channel: its bindings, and TARIFF_CHANGE where its tariff differs from that at the previous check
(16 R464). -/
def checkMeter (s : State) (c : MeterCfg) : State :=
  let x := s.meter c.chan
  let k := meterTariff s c s.cal.now.secs
  let s := writeMeterVar .ulint c.totalVar x.vals.total s
  let s := writeMeterVar .ulint c.accVar x.vals.acc0 s
  let s := writeMeterVar .ulint (c.accVar.map (· + 2)) x.vals.acc1 s
  let s := writeMeterVar .ulint (c.accVar.map (· + 4)) x.vals.acc2 s
  let s := writeMeterVar .ulint (c.accVar.map (· + 6)) x.vals.acc3 s
  let s := writeMeterVar .usint c.tariffVar (BitVec.ofNat 64 k) s
  let s := s.updMeter c.chan fun m => { m with tariff := some k }
  match x.tariff with
  | some j => if j = k then s else raise 35 s c.chan
  | none => s

/-- METER_TARIFF_CHECK (16 R464). -/
def execMeterTariffCheck (mark : BitVec 8) (s : State) : Host.Outcome State Fault Refusal :=
  actOn s fun s => atMark mark.toNat 7 s fun _ s => (definedMeters s).foldl checkMeter s

/-- PULSE_INPUT_CHANGE (15 R432, 16 R449): a merge window that is over has ended before the change. -/
def execPulseInputChange (channel : BitVec 5) (state : Bool) (s : State) : Host.Outcome State Fault Refusal :=
  actOn s fun s =>
    let ch := channel.toNat
    if s.fio.raw.getLsbD ch == state then s
    else
      let s := mergeEnd ch s
      let s := s.updFio fun f => { f with raw := putBit f.raw ch state, rawAt := Store.set 0 f.rawAt ch s.clk.us }
      if s.start.adopted then pulseChange ch state s else s

/-- PULSE_MERGE_END (16 R449). -/
def execPulseMergeEnd (channel : BitVec 5) (s : State) : Host.Outcome State Fault Refusal :=
  actOn s (mergeEnd channel.toNat)

/-- METER_EDGE_QUALIFIED (16 R450). -/
def execMeterEdgeQualified (meter : BitVec 4) (s : State) : Host.Outcome State Fault Refusal :=
  actOn s (qualifyEdge meter.toNat)

/-- METER_COUNT_BEGIN (16 R451, R468). -/
def execMeterCountBegin (meter : BitVec 4) (s : State) : Host.Outcome State Fault Refusal :=
  actOn s fun s => if s.start.adopted then beginCount meter.toNat s else s

/-- METER_RATE_UPDATE (16 R461). -/
def execMeterRateUpdate (s : State) : Host.Outcome State Fault Refusal :=
  actOn s fun s => (definedMeters s).foldl decayRate s

/-- METER_CLEAR (16 R463, R472). -/
def execMeterClear (path : Path) (key : BitVec 16) (s : State) : Host.Outcome State Fault Refusal :=
  actKey s key 0x3E7A fun s => clearMeter (s.path path).mtr.toNat s

/-- METER_PRESET (16 R463, R472). -/
def execMeterPreset (path : Path) (key : BitVec 16) (target : BitVec 3) (s : State) :
    Host.Outcome State Fault Refusal :=
  actKey s key 0x3E7A fun s => presetMeter (s.path path).mtr.toNat target.toNat s

/-- METER_SAVE_DONE (16 R465). -/
def execMeterSaveDone (s : State) : Host.Outcome State Fault Refusal :=
  actOn s fun s => if s.mtr.saving.isEmpty then s else endSave s

end Sys2Proof.Machine
end

