-- ==== Sys2Proof/Machine/Net.lean ====
section
/-! DEFINITION. The commands of the Ethernet ports and of network time (13). -/

namespace Sys2Proof.Machine

open Sys2Proof

/-- FRAME_RECEIVED (13 R367, R373). -/
def execFrameReceived (port : BitVec 3) (frame : Bytes) (fcsOk : Bool) (s : State) : Host.Outcome State Fault Refusal :=
  actOn s (frameReceived port.toNat frame fcsOk)

/-- PTP_MESSAGE (13 R382): the firmware's decision is given with the message. -/
def execPtpMessage (port : BitVec 3) (msg : Bytes) (action : PtpAction) (s : State) : Host.Outcome State Fault Refusal :=
  actOn s (ptpMessage port.toNat msg action)

/-- ANNOUNCE_RECEIPT_TIMEOUT (13 R382). -/
def execAnnounceReceiptTimeout (s : State) : Host.Outcome State Fault Refusal := actOn s announceTimeout

/-- LINK_CHANGE (13 R365, R366, R388, R389). -/
def execLinkChange (port : BitVec 3) (signal : LinkSignal) (offers24 : Bool) (s : State) : Host.Outcome State Fault Refusal :=
  actOn s (linkChange port.toNat signal offers24)

/-- FRAME_LAUNCH (13 R387, R388). -/
def execFrameLaunch (port : BitVec 3) (s : State) : Host.Outcome State Fault Refusal := actOn s (frameLaunch port.toNat)

/-- TXAN_CHANGE (13 R375): a wrong key is rejected with REJ. -/
def execTxanChange (path : Path) (key : BitVec 16) (an : BitVec 2) (s : State) : Host.Outcome State Fault Refusal :=
  actOn s fun s => selectAn (s.path path).net.toNat (key == 0x5A17) an s

/-- NTIME_INCR_FRAC_WRITE (13 R378, R381). -/
def execNtimeIncrFracWrite (path : Path) (frac : Word) (s : State) : Host.Outcome State Fault Refusal :=
  match path with
  | _ => actOn s (hostIncr frac)

/-- NTIME_STEP (13 R379, R392). -/
def execNtimeStep (path : Path) (key : BitVec 16) (s : State) : Host.Outcome State Fault Refusal :=
  match path with
  | _ => actKey s key 0x7143 hostStep

end Sys2Proof.Machine
end

