-- ==== Sys2Proof/Machine/Pair.lean ====
section
/-! DEFINITION. The commands of the redundant pair and of the self-tests (14). -/

namespace Sys2Proof.Machine

open Sys2Proof

/-- LEASE_SEND (14 R406). -/
def execLeaseSend (s : State) : Host.Outcome State Fault Refusal := actOn s leaseSend

/-- LEASE (14 R402). -/
def execLease (seq lease : Word) (epoch : BitVec 64) (t1 t4 : Stamp) (s : State) : Host.Outcome State Fault Refusal :=
  actOn s (receive seq (leaseIn lease epoch t1 t4))

/-- LEASE_ACK (14 R407): the standby's t2 and t3 serve its own servo (14 R402). -/
def execLeaseAck (seq lease : Word) (t2 t3 : Stamp) (s : State) : Host.Outcome State Fault Refusal :=
  match t2, t3 with
  | _, _ => actOn s (receive seq (leaseAckIn lease))

/-- FENCE_OUT_DROP (14 R407). -/
def execFenceOutDrop (s : State) : Host.Outcome State Fault Refusal := actOn s fenceOutDrop

/-- SELF_FENCE (14 R408). -/
def execSelfFence (s : State) : Host.Outcome State Fault Refusal := actOn s selfFenceByTime

/-- FENCE_IN_HIGH (14 R410): the I/O dies act whatever the logic die does. -/
def execFenceInHigh (s : State) : Host.Outcome State Fault Refusal := act s fenceInHigh

/-- FENCE_RESTART (14 R408): 100 ms after self-fencing. -/
def execFenceRestart (s : State) : Host.Outcome State Fault Refusal :=
  actOn s fun s => if s.pair.fenced then hostRestart .hostWarm s else s

/-- PAIR_TAKEOVER (14 R409). -/
def execPairTakeover (s : State) : Host.Outcome State Fault Refusal := actOn s leaseExpired

/-- IMAGE (14 R400). -/
def execImage (seq : Word) (m : ImageMsg) (s : State) : Host.Outcome State Fault Refusal := actOn s (receive seq (imageIn m))

/-- SAMPLE (11 R323). -/
def execSample (seq : Word) (m : SampleMsg) (s : State) : Host.Outcome State Fault Refusal :=
  actOn s (receive seq (sampleIn m))

/-- TIDE_MESSAGE (02 R46, R47). -/
def execTideMessage (seq : Word) (t : Tracker) (s : State) : Host.Outcome State Fault Refusal := actOn s (receive seq (tideIn t))

/-- EVENTS (17 R482). -/
def execEvents (seq : Word) (sources : List (BitVec 8 × Nat)) (s : State) : Host.Outcome State Fault Refusal :=
  actOn s (receive seq (eventsIn sources))

/-- SOLVER (01 R23). -/
def execSolver (seq : Word) (m : SolverMsg) (s : State) : Host.Outcome State Fault Refusal :=
  actOn s (receive seq (solverIn m))

/-- DIGEST (14 R403, R404). -/
def execDigest (seq : Word) (m : DigestMsg) (s : State) : Host.Outcome State Fault Refusal :=
  actOn s (receive seq (digestIn m))

/-- HEALTH (05 R135). -/
def execHealth (seq : Word) (m : HealthMsg) (s : State) : Host.Outcome State Fault Refusal :=
  actOn s (receive seq (healthIn m))

/-- RESYNC (14 R417). -/
def execResync (seq region page : Word) (contents : Bytes) (s : State) : Host.Outcome State Fault Refusal :=
  actOn s (receive seq (resyncIn region page contents))

/-- SWITCH (14 R412): the takeover edge is that of its receipt. -/
def execSwitchMsg (seq : Word) (time : TideTime) (s : State) : Host.Outcome State Fault Refusal :=
  match time with
  | _ => actOn s (receive seq switchIn)

/-- TAKE (14 R413). -/
def execTake (seq : Word) (s : State) : Host.Outcome State Fault Refusal := actOn s (receive seq takeIn)

/-- CROSSING_LINK_DOWN (14 R399). -/
def execCrossingLinkDown (s : State) : Host.Outcome State Fault Refusal := actOn s linkDown

/-- CROSSING_LINK_UP (14 R398). -/
def execCrossingLinkUp (s : State) : Host.Outcome State Fault Refusal := actOn s linkUp

/-- LANE_RECOVER (14 R399). -/
def execLaneRecover (lane : Bool) (s : State) : Host.Outcome State Fault Refusal := actOn s (laneRecover lane)

/-- BAD_CRC_COPY (14 R399). -/
def execBadCrcCopy (lane : Bool) (s : State) : Host.Outcome State Fault Refusal := actOn s (badCopy lane)

/-- PEER_OK_IN_LOW (14 R397). -/
def execPeerOkInLow (s : State) : Host.Outcome State Fault Refusal := actOn s peerLow

/-- PEER_OK_IN_CHANGE (04 R89). -/
def execPeerOkInChange (level : Bool) (s : State) : Host.Outcome State Fault Refusal := act s (peerOkChange level)

/-- PEER_OK_TIMEOUT (14 R396). -/
def execPeerOkTimeout (s : State) : Host.Outcome State Fault Refusal :=
  actOn s fun s => s.updPair fun p => { p with peerOkOut := false }

/-- PAIR_CTRL.SWITCH (14 R412, R421). -/
def execPairCtrlSwitch (path : Path) (key : BitVec 16) (s : State) : Host.Outcome State Fault Refusal :=
  match path with
  | _ => actKey s key 0xF3C8 switchCommand

/-- PAIR_CTRL.RESYNC (14 R404, R421). -/
def execPairCtrlResync (path : Path) (key : BitVec 16) (s : State) : Host.Outcome State Fault Refusal :=
  match path with
  | _ => actKey s key 0xF3C8 resyncCommand

/-- HEALTH_FRAME (14 R415). -/
def execHealthFrame (s : State) : Host.Outcome State Fault Refusal := actOn s healthFrame

/-- TILE_BIST (14 R414). -/
def execTileBist (tile : BitVec 6) (passed : Bool) (s : State) : Host.Outcome State Fault Refusal :=
  actOn s (tileTest tile.toNat passed)

/-- CORE_PAIR_BIST (14 R414). -/
def execCorePairBist (pair : BitVec 3) (passed : Bool) (s : State) : Host.Outcome State Fault Refusal :=
  actOn s (corePairTest pair.toNat passed)

/-- ECC_SCRUB_ERROR (14 R414): an uncorrectable word outside the tiles restarts the unit warm. -/
def execEccScrubError (place : EccPlace) (corrected : Bool) (s : State) : Host.Outcome State Fault Refusal :=
  actOn s fun s =>
    if corrected then eccCorrected s
    else match place with
      | .tile n => eccInTile n.toNat s
      | .other => hostRestart .hostWarm (s.updPair fun p => { p with uncorr := true })

end Sys2Proof.Machine
end

