-- ==== Sys2Proof/Machine/ScanControl.lean ====
section
/-! DEFINITION. The commands that start and resolve scans, forces and retained copies (10). -/

namespace Sys2Proof.Machine

open Sys2Proof

/-- SCAN_TASK_START (10 R280, R281). -/
def execScanTaskStart (mark : BitVec 8) (s : State) : Host.Outcome State Fault Refusal :=
  actOn s fun s => atMark mark.toNat 2 s startTask

/-- EVENT_TASK_DISPATCH (10 R277). -/
def execEventTaskDispatch (task : BitVec 5) (s : State) : Host.Outcome State Fault Refusal :=
  actOn s (dispatchEvent task.toNat)

/-- ERROR_TASK_DISPATCH (10 R278). -/
def execErrorTaskDispatch (s : State) : Host.Outcome State Fault Refusal := actOn s dispatchError

/-- RESOLUTION (10 R287): a standby applies the active unit's decision instead (R288). -/
def execResolution (task : BitVec 5) (s : State) : Host.Outcome State Fault Refusal :=
  actOn s fun s => if s.isStandby then s else resolveScan task.toNat none s

/-- RETAIN_COPY (10 R294). -/
def execRetainCopy (s : State) : Host.Outcome State Fault Refusal :=
  actOn s fun s => if s.start.adopted then beginRetained s else s

/-- RETAINED_COPY_SEALED (10 R294). -/
def execRetainedCopySealed (s : State) : Host.Outcome State Fault Refusal := actOn s endRetained

/-- FORCE_SET (10 R296, R302). -/
def execForceSet (path : Path) (key : BitVec 16) (s : State) : Host.Outcome State Fault Refusal :=
  actKey s key 0x6F0D (forceSet path)

/-- FORCE_CLEAR (10 R296, R302). -/
def execForceClear (path : Path) (key : BitVec 16) (s : State) : Host.Outcome State Fault Refusal :=
  actKey s key 0x6F0D (forceClear path)

/-- FORCE_CLEAR_ALL (10 R296, R302). -/
def execForceClearAll (path : Path) (key : BitVec 16) (s : State) : Host.Outcome State Fault Refusal :=
  actKey s key 0x6F0D (forceClearAll path)

/-- SCAN_FRC_SEL_WRITE (10 R302). -/
def execScanFrcSelWrite (path : Path) (slot : BitVec 8) (s : State) : Host.Outcome State Fault Refusal :=
  match path with
  | _ => actOn s (selectForce slot)

/-- SCAN_T_EXECMAX_READ (10 R301). -/
def execScanTExecmaxRead (path : Path) (s : State) : Host.Outcome State Fault Refusal := actOn s (readExecMax path)

end Sys2Proof.Machine
end

