-- ==== Sys2Proof/Machine/Solver.lean ====
section
/-! DEFINITION. The commands of the optimisation period, the solver array and scan commits (01, 05, 06, 07, 08, 10). -/

namespace Sys2Proof.Machine

open Sys2Proof

/-- OPTIMISATION_PERIOD_BOUNDARY (01 R22). -/
def execOptimisationPeriodBoundary (mark : BitVec 8) (s : State) : Host.Outcome State Fault Refusal :=
  actOn s fun s => atMark mark.toNat 1 s fun _ s => periodBoundary s

/-- RUN_AHEAD_START (08 R229). -/
def execRunAheadStart (mark : BitVec 8) (s : State) : Host.Outcome State Fault Refusal :=
  actOn s fun s => atMark mark.toNat 5 s fun _ s => runAheadStart s

/-- SOLVER_DEADLINE (07 R204). -/
def execSolverDeadline (mark : BitVec 8) (rates : List (Option Nat)) (s : State) : Host.Outcome State Fault Refusal :=
  actOn s fun s => atMark mark.toNat 6 s fun k s => solverDeadline k rates s

/-- UNIT_SLOW (05 R130). -/
def execUnitSlow (tile : BitVec 6) (s : State) : Host.Outcome State Fault Refusal := actOn s (unitSlow tile.toNat)

/-- ITERATION (07 R187). -/
def execIteration (problem : BitVec 11) (s : State) : Host.Outcome State Fault Refusal := actOn s fun s => resumeBoundary (iterationDone problem.toNat s)

/-- FACTOR_STEP (07 R197). -/
def execFactorStep (problem : BitVec 11) (s : State) : Host.Outcome State Fault Refusal :=
  actOn s fun s => resumeBoundary (factorStepDone problem.toNat s)

/-- OUTER_ITERATION_END (08 R225). -/
def execOuterIterationEnd (s : State) : Host.Outcome State Fault Refusal := actOn s outerEnd

/-- DELIVERY_PASS (07 R207). -/
def execDeliveryPass (s : State) : Host.Outcome State Fault Refusal := actOn s deliveryPass

/-- RESULTS_FIXED (07 R207). -/
def execResultsFixed (s : State) : Host.Outcome State Fault Refusal := actOn s resultsFixed

/-- CHECKPOINT_DONE (08 R236). -/
def execCheckpointDone (s : State) : Host.Outcome State Fault Refusal := actOn s checkpointDone

/-- SUBMIT (06 R172, R184). -/
def execSubmit (path : Path) (s : State) : Host.Outcome State Fault Refusal :=
  match path with
  | _ => actOn s submitHost

/-- SOL_VDATA_READ (06 R183). -/
def execSolVdataRead (path : Path) (s : State) : Host.Outcome State Fault Refusal := actOn s (readSolVdata path)

/-- SCAN_COMMIT (10 R284). -/
def execScanCommit (task : BitVec 5) (s : State) : Host.Outcome State Fault Refusal := actOn s (scanCommit task.toNat)

/-- CORE_MISMATCH (10 R289). -/
def execCoreMismatch (task : BitVec 5) (s : State) : Host.Outcome State Fault Refusal := actOn s (coreMismatch task.toNat)

/-- CLEAR_FAULT (05 R140). -/
def execClearFault (path : Path) (key : BitVec 16) (s : State) : Host.Outcome State Fault Refusal :=
  match path with
  | _ => actKey s key 0x9E1D clearFaultCommand

/-- UNCORRECTABLE_ERROR (05 R131). -/
def execUncorrectableError (tile : BitVec 6) (s : State) : Host.Outcome State Fault Refusal :=
  actOn s fun s => if s.place.tileFault.getLsbD tile.toNat then s else tileFaulty tile.toNat s

end Sys2Proof.Machine
end

