-- ==== Sys2Proof/Machine/StartUp.lean ====
section
/-! DEFINITION. The commands of supply, reset, restarts and the start sequence (02, 03, 04, 18, 19, 21). -/

namespace Sys2Proof.Machine

open Sys2Proof

/-- VIN_VALID (04 R83; 21 R580). -/
def execVinValid (s : State) : Host.Outcome State Fault Refusal := act s vinValid

/-- RESET_N_ASSERT (04 R104). -/
def execResetNAssert (s : State) : Host.Outcome State Fault Refusal := act s resetAssert

/-- RESET_N_RELEASE (04 R83). -/
def execResetNRelease (s : State) : Host.Outcome State Fault Refusal := act s resetRelease

/-- WATCHDOG_EXPIRY (04 R104). -/
def execWatchdogExpiry (s : State) : Host.Outcome State Fault Refusal := actOn s watchdogExpiry

/-- PFAIL_WARN (04 R105). -/
def execPfailWarn (vinMv : BitVec 16) (holdLow : Bool) (s : State) : Host.Outcome State Fault Refusal :=
  actOn s (pfailWarn vinMv holdLow)

/-- FLUSH_COMPLETE (04 R106). -/
def execFlushComplete (time10us : Nat) (s : State) : Host.Outcome State Fault Refusal := act s (flushComplete time10us)

/-- VIN_BELOW_RESET (21 R581). -/
def execVinBelowReset (s : State) : Host.Outcome State Fault Refusal := act s vinBelowReset

/-- HOST_WARM (04 R110). -/
def execHostWarm (path : Path) (key : BitVec 16) (s : State) : Host.Outcome State Fault Refusal :=
  match path with
  | _ => actKey s key 0xB0A7 (hostRestart .hostWarm)

/-- HOST_COLD (04 R110). -/
def execHostCold (path : Path) (key : BitVec 16) (s : State) : Host.Outcome State Fault Refusal :=
  match path with
  | _ => actKey s key 0xB0A7 (hostRestart .hostCold)

/-- HOST_DEFAULT (04 R110). -/
def execHostDefault (path : Path) (key : BitVec 16) (s : State) : Host.Outcome State Fault Refusal :=
  match path with
  | _ => actKey s key 0xB0A7 (hostRestart .hostDefault)

/-- HFIO_QUALIFIED (19 R529). -/
def execHfioQualified (s : State) : Host.Outcome State Fault Refusal := actOn s hfioQualified

/-- The loop that a monitored clock is the output of (19 R532). -/
def loopBit (c : MonClock) : Option Nat :=
  match c with
  | .xtal1 => none
  | .pllSys => some 0
  | .pllSol => some 1
  | .pllNet => some 2

/-- A loop has not relocked within 1 ms of its switch: it is marked failed, and the unit restarts as after an
uncorrectable error of the logic die (14 R413, R414; 19 R532, R551). -/
def loopFails (c : MonClock) (s : State) : State :=
  match loopBit c with
  | none => s
  | some i =>
    if s.clk.relocking.getLsbD i then
      hostRestart .hostWarm (raise 10 (s.updClk fun k => { k with fail := putBit k.fail i true, lock := putBit k.lock i false }))
    else s

/-- CLK_LOOP_FAIL (19 R532). -/
def execClkLoopFail (clock : MonClock) (s : State) : Host.Outcome State Fault Refusal := actOn s (loopFails clock)

/-- SAFE_PATTERN_LOADED (04 R83). -/
def execSafePatternLoaded (s : State) : Host.Outcome State Fault Refusal := actOn s loadSafe

/-- MOORING_EVALUATE (04 R90). -/
def execMooringEvaluate (failFrom : Option Nat) (s : State) : Host.Outcome State Fault Refusal :=
  actOn s (mooringStage failFrom)

/-- MOORING_LOOP_SAMPLE (04 R95). -/
def execMooringLoopSample (loop : BitVec 4) (s : State) : Host.Outcome State Fault Refusal := actOn s (moorSample loop.toNat)

/-- MOORING_PULSE_END (04 R95). -/
def execMooringPulseEnd (loop : BitVec 4) (s : State) : Host.Outcome State Fault Refusal := actOn s (moorPulseEnd loop.toNat)

/-- INTERLOCK_EVALUATION (04 R97). -/
def execInterlockEvaluation (s : State) : Host.Outcome State Fault Refusal := actOn s evalInterlocks

/-- XTAL_QUALIFIED (19 R530). -/
def execXtalQualified (xtal2Ok : Bool) (s : State) : Host.Outcome State Fault Refusal := actOn s (xtalQualified xtal2Ok)

/-- XTAL_RETRY (04 R99). -/
def execXtalRetry (xtal2Ok : Bool) (s : State) : Host.Outcome State Fault Refusal := actOn s (xtalRetry xtal2Ok)

/-- FIRMWARE_VERIFY (18 R507). -/
def execFirmwareVerify (failFrom : Option Nat) (s : State) : Host.Outcome State Fault Refusal :=
  actOn s (firmwareVerify failFrom)

/-- MANIFEST_VERIFY (03 R71). -/
def execManifestVerify (failFrom : Option Nat) (s : State) : Host.Outcome State Fault Refusal :=
  actOn s fun s => settleAdoption (manifestVerify failFrom s)

/-- HOLD_OK (04 R100). -/
def execHoldOk (s : State) : Host.Outcome State Fault Refusal := actOn s holdRises

/-- HOLD_LOW (04 R100). -/
def execHoldLow (s : State) : Host.Outcome State Fault Refusal := actOn s holdFalls

/-- TIDE_LOCK (02 R29). -/
def execTideLock (s : State) : Host.Outcome State Fault Refusal := actOn s tideLock

/-- ACQUISITION_TIMEOUT (02 R29). -/
def execAcquisitionTimeout (s : State) : Host.Outcome State Fault Refusal := actOn s acquisitionTimeout

end Sys2Proof.Machine
end

