-- ==== Sys2Proof/Machine/Stations.lean ====
section
/-! DEFINITION. The commands of the station engine (12). -/

namespace Sys2Proof.Machine

open Sys2Proof

/-- FERRY_FRAME_LAUNCH (12 R343). -/
def execFerryFrameLaunch (mark : BitVec 8) (s : State) : Host.Outcome State Fault Refusal :=
  actOn s fun s => atMark mark.toNat 4 s fun k s => launchGroup mark.toNat k s

/-- FERRY_REPLY (12 R345): the frame as its port hands it on (13 R367). -/
def execFerryReply (port : BitVec 3) (frame : Bytes) (s : State) : Host.Outcome State Fault Refusal :=
  actOn s fun s => if toStations s port.toNat frame then ferryReply port.toNat frame s else s

/-- POLL_REPLY (12 R352): the frame as its port hands it on (13 R367). -/
def execPollReply (port : BitVec 3) (frame : Bytes) (s : State) : Host.Outcome State Fault Refusal :=
  actOn s fun s => if toStations s port.toNat frame then pollReply port.toNat frame s else s

/-- POLL_TIMEOUT (12 R351, R352). -/
def execPollTimeout (station : BitVec 11) (s : State) : Host.Outcome State Fault Refusal :=
  actOn s (pollTimeout station.toNat)

/-- REJOIN (12 R349, R360). -/
def execRejoin (path : Path) (key : BitVec 16) (s : State) : Host.Outcome State Fault Refusal :=
  actKey s key 0x4E57 (rejoinCommand (s.path path).stn.toNat)

end Sys2Proof.Machine
end

