-- ==== Sys2Proof/Machine/TicStep.lean ====
section
/-! DEFINITION. One TIC instruction as a command: its place in the running scan and its budget (09 R270, R272). -/

namespace Sys2Proof.Machine

open Sys2Proof

/-- Execute one instruction of `words` code words of the scan of a task: only the scan that its core pair runs
executes; an instruction that would pass the worst-case count faults with BUDGET instead (09 R270, R272). -/
def ticStep (t : BitVec 5) (words : Nat) (units : Run → Nat) (f : TaskCfg → Run → State → TicRes) (s : State) : State :=
  match (s.task t.toNat).run, taskCfg s t.toNat with
  | some r, some c =>
    if isRunning s t.toNat r then
      if c.worst < r.units + units r then ticFault t.toNat 4 r s
      else
        match f c { r with units := r.units + units r, pc := r.pc + words
                           phase := if r.phase = .ready then .running else r.phase } s with
        | .none => s
        | .fault code => ticFault t.toNat code r s
        | .ok r' s' => s'.updTask t.toNat fun k => { k with run := some r' }
    else s
  | _, _ => s

/-- That instruction as a command. -/
def tic (t : BitVec 5) (words : Nat) (units : Run → Nat) (f : TaskCfg → Run → State → TicRes) (s : State) :
    Host.Outcome State Fault Refusal := actOn s (ticStep t words units f)

/-- A one-word instruction that only changes the scan. -/
def ticRun (t : BitVec 5) (units : Nat) (f : Run → Option Run) (s : State) : Host.Outcome State Fault Refusal :=
  tic t 1 (fun _ => units) (fun _ r s => match f r with
    | some r => .ok r s
    | none => .none) s

end Sys2Proof.Machine
end

