-- ==== Sys2Proof/Machine/TicCompute.lean ====
section
/-! DEFINITION. The TIC instructions that move values and compute (09 R255 to R259). -/

namespace Sys2Proof.Machine

open Sys2Proof

/-- LD (09 R250, R255). -/
def execLd (task : BitVec 5) (ty : Ty) (index : BitVec 20) (s : State) : Host.Outcome State Fault Refusal :=
  ticRun task 1 (fun r => some (pushVar ty index.toNat r)) s

/-- LDF (09 R254, R255). -/
def execLdf (task : BitVec 5) (ty : Ty) (off : BitVec 20) (s : State) : Host.Outcome State Fault Refusal :=
  ticRun task 1 (fun r => some (pushVar ty (operandIndex r true off) r)) s

/-- ST (09 R250, R255). -/
def execSt (task : BitVec 5) (ty : Ty) (index : BitVec 20) (s : State) : Host.Outcome State Fault Refusal :=
  tic task 1 (fun _ => 1) (popStore ty index.toNat) s

/-- STF (09 R254, R255). -/
def execStf (task : BitVec 5) (ty : Ty) (off : BitVec 20) (s : State) : Host.Outcome State Fault Refusal :=
  tic task 1 (fun _ => 1) (fun c r => popStore ty (operandIndex r true off) c r) s

/-- LDI: the signed immediate converted exactly to TYPE (09 R255). -/
def execLdi (task : BitVec 5) (ty : Ty) (imm : BitVec 20) (s : State) : Host.Outcome State Fault Refusal :=
  ticRun task 1 (fun r =>
    let v := if tyFloat ty then fSlot ty (intF imm.toInt) else intSlot ty imm.toInt
    some { r with stack := v :: r.stack }) s

/-- LDX: its extension value (09 R242, R255). -/
def execLdx (task : BitVec 5) (ty : Ty) (value : BitVec 64) (s : State) : Host.Outcome State Fault Refusal :=
  tic task (1 + tyWords ty) (fun _ => 1) (fun _ r s => .ok { r with stack := canon ty value :: r.stack } s) s

/-- LDIX (09 R262). -/
def execLdix (task : BitVec 5) (ty : Ty) (index : BitVec 20) (s : State) : Host.Outcome State Fault Refusal :=
  tic task 1 (fun _ => 1) (fun _ r s =>
    match r.stack with
    | i :: k =>
      match elementIndex s ty index.toNat (slotInt .dint i) with
      | some j => .ok (pushVar ty j { r with stack := k }) s
      | none => .fault 2
    | _ => .none) s

/-- STIX (09 R262). -/
def execStix (task : BitVec 5) (ty : Ty) (index : BitVec 20) (s : State) : Host.Outcome State Fault Refusal :=
  tic task 1 (fun _ => 1) (fun c r s =>
    match r.stack with
    | v :: i :: k =>
      match elementIndex s ty index.toNat (slotInt .dint i) with
      | some j => okOrFull (storeVar c { r with stack := k } ty j v) s
      | none => .fault 2
    | _ => .none) s

/-- DUP (09 R255). -/
def execDup (task : BitVec 5) (s : State) : Host.Outcome State Fault Refusal :=
  ticRun task 1 (fun r =>
    match r.stack with
    | a :: k => some { r with stack := a :: a :: k }
    | _ => none) s

/-- DROP (09 R255). -/
def execDrop (task : BitVec 5) (s : State) : Host.Outcome State Fault Refusal :=
  ticRun task 1 (fun r =>
    match r.stack with
    | _ :: k => some { r with stack := k }
    | _ => none) s

/-- SWAP (09 R255). -/
def execSwap (task : BitVec 5) (s : State) : Host.Outcome State Fault Refusal :=
  ticRun task 1 (fun r =>
    match r.stack with
    | a :: b :: k => some { r with stack := b :: a :: k }
    | _ => none) s

/-- ADD (09 R256, R257). -/
def execAdd (task : BitVec 5) (ty : Ty) (s : State) : Host.Outcome State Fault Refusal :=
  ticRun task 1 (fun r => given (tyN ty) (mapTwo r (arith 0 ty))) s

/-- SUB (09 R256, R257). -/
def execSub (task : BitVec 5) (ty : Ty) (s : State) : Host.Outcome State Fault Refusal :=
  ticRun task 1 (fun r => given (tyN ty) (mapTwo r (arith 1 ty))) s

/-- MUL (09 R256, R257). -/
def execMul (task : BitVec 5) (ty : Ty) (s : State) : Host.Outcome State Fault Refusal :=
  ticRun task 1 (fun r => given (tyN ty) (mapTwo r (arith 2 ty))) s

/-- DIV: an integer zero faults with DIV_ZERO (09 R256, R257). -/
def execDiv (task : BitVec 5) (ty : Ty) (s : State) : Host.Outcome State Fault Refusal :=
  tic task 1 (fun _ => 1) (fun _ r s =>
    match r.stack with
    | b :: a :: k =>
      if !tyN ty then .none
      else if !tyFloat ty && slotInt ty b == 0 then .fault 1
      else .ok { r with stack := divSlot ty a b :: k } s
    | _ => .none) s

/-- MOD: an integer zero faults with DIV_ZERO (09 R256). -/
def execMod (task : BitVec 5) (ty : Ty) (s : State) : Host.Outcome State Fault Refusal :=
  tic task 1 (fun _ => 1) (fun _ r s =>
    match r.stack with
    | b :: a :: k =>
      if !tyI ty then .none
      else if slotInt ty b = 0 then .fault 1
      else .ok { r with stack := intSlot ty ((slotInt ty a).tmod (slotInt ty b)) :: k } s
    | _ => .none) s

/-- NEG (09 R256, R257). -/
def execNeg (task : BitVec 5) (ty : Ty) (s : State) : Host.Outcome State Fault Refusal :=
  ticRun task 1 (fun r => given (tyN ty) (mapTop r (negSlot ty))) s

/-- ABS (09 R256, R257). -/
def execAbs (task : BitVec 5) (ty : Ty) (s : State) : Host.Outcome State Fault Refusal :=
  ticRun task 1 (fun r => given (tyN ty) (mapTop r (absSlot ty))) s

/-- MIN (09 R255, R257). -/
def execMin (task : BitVec 5) (ty : Ty) (s : State) : Host.Outcome State Fault Refusal :=
  ticRun task 1 (fun r => mapTwo r (minSlot ty)) s

/-- MAX (09 R255, R257). -/
def execMax (task : BitVec 5) (ty : Ty) (s : State) : Host.Outcome State Fault Refusal :=
  ticRun task 1 (fun r => mapTwo r (maxSlot ty)) s

/-- LIMIT: pops MX, IN, MN (09 R255, R257). -/
def execLimit (task : BitVec 5) (ty : Ty) (s : State) : Host.Outcome State Fault Refusal :=
  ticRun task 1 (fun r =>
    match r.stack with
    | mx :: x :: mn :: k => some { r with stack := limitSlot ty mn x mx :: k }
    | _ => none) s

/-- MATH: functions 0 to 11 (09 R257). -/
def execMath (task : BitVec 5) (ty : Ty) (fn : BitVec 4) (s : State) : Host.Outcome State Fault Refusal :=
  ticRun task 24 (fun r =>
    let f := fn.toNat
    let one := fun (a b : DWord) => let (v, st) := mathF f (slotF ty a) (slotF ty b); fSlot ty v st
    if !tyFloat ty || decide (11 < f) then none
    else if f < 10 then mapTop r (fun a => one a a) else mapTwo r one) s

/-- SEL: pops IN1, IN0, then BOOL G (09 R255). -/
def execSel (task : BitVec 5) (ty : Ty) (s : State) : Host.Outcome State Fault Refusal :=
  ticRun task 1 (fun r =>
    match r.stack with
    | b :: a :: g :: k => some { r with stack := canon ty (if slotBool g then b else a) :: k }
    | _ => none) s

/-- AND (09 R255). -/
def execAndB (task : BitVec 5) (ty : Ty) (s : State) : Host.Outcome State Fault Refusal :=
  ticRun task 1 (fun r => given (tyB ty) (mapTwo r (fun a b => canon ty a &&& canon ty b))) s

/-- OR (09 R255). -/
def execOrB (task : BitVec 5) (ty : Ty) (s : State) : Host.Outcome State Fault Refusal :=
  ticRun task 1 (fun r => given (tyB ty) (mapTwo r (fun a b => canon ty a ||| canon ty b))) s

/-- XOR (09 R255). -/
def execXor (task : BitVec 5) (ty : Ty) (s : State) : Host.Outcome State Fault Refusal :=
  ticRun task 1 (fun r => given (tyB ty) (mapTwo r (fun a b => canon ty a ^^^ canon ty b))) s

/-- NOT (09 R255). -/
def execNotB (task : BitVec 5) (ty : Ty) (s : State) : Host.Outcome State Fault Refusal :=
  ticRun task 1 (fun r => given (tyB ty) (mapTop r (notSlot ty))) s

/-- SHL: pops DINT N, then IN (09 R258). -/
def execShl (task : BitVec 5) (ty : Ty) (s : State) : Host.Outcome State Fault Refusal :=
  ticRun task 1 (fun r => given (tyB ty && ty != .bool) (mapTwo r (shiftSlot 0 ty))) s

/-- SHR: pops DINT N, then IN (09 R258). -/
def execShr (task : BitVec 5) (ty : Ty) (s : State) : Host.Outcome State Fault Refusal :=
  ticRun task 1 (fun r => given (tyB ty && ty != .bool) (mapTwo r (shiftSlot 1 ty))) s

/-- ROL: pops DINT N, then IN (09 R258). -/
def execRol (task : BitVec 5) (ty : Ty) (s : State) : Host.Outcome State Fault Refusal :=
  ticRun task 1 (fun r => given (tyB ty && ty != .bool) (mapTwo r (shiftSlot 2 ty))) s

/-- ROR: pops DINT N, then IN (09 R258). -/
def execRor (task : BitVec 5) (ty : Ty) (s : State) : Host.Outcome State Fault Refusal :=
  ticRun task 1 (fun r => given (tyB ty && ty != .bool) (mapTwo r (shiftSlot 3 ty))) s

/-- EQ (09 R255, R257). -/
def execEq (task : BitVec 5) (ty : Ty) (s : State) : Host.Outcome State Fault Refusal :=
  ticRun task 1 (fun r => mapTwo r (compareSlot 0 ty)) s

/-- NE (09 R255, R257). -/
def execNe (task : BitVec 5) (ty : Ty) (s : State) : Host.Outcome State Fault Refusal :=
  ticRun task 1 (fun r => mapTwo r (compareSlot 1 ty)) s

/-- LT (09 R255, R257). -/
def execLt (task : BitVec 5) (ty : Ty) (s : State) : Host.Outcome State Fault Refusal :=
  ticRun task 1 (fun r => mapTwo r (compareSlot 2 ty)) s

/-- LE (09 R255, R257). -/
def execLe (task : BitVec 5) (ty : Ty) (s : State) : Host.Outcome State Fault Refusal :=
  ticRun task 1 (fun r => mapTwo r (compareSlot 3 ty)) s

/-- GT (09 R255, R257). -/
def execGt (task : BitVec 5) (ty : Ty) (s : State) : Host.Outcome State Fault Refusal :=
  ticRun task 1 (fun r => mapTwo r (compareSlot 4 ty)) s

/-- GE (09 R255, R257). -/
def execGe (task : BitVec 5) (ty : Ty) (s : State) : Host.Outcome State Fault Refusal :=
  ticRun task 1 (fun r => mapTwo r (compareSlot 5 ty)) s

/-- CVT: each NaN or saturation counts as a clamp (09 R259). -/
def execCvt (task : BitVec 5) (ty target : Ty) (s : State) : Host.Outcome State Fault Refusal :=
  tic task 1 (fun _ => 1) (fun _ r s =>
    match r.stack with
    | a :: k =>
      let (v, c) := convertSlot ty target a
      .ok { r with stack := v :: k } (if c then countClamp task.toNat s else s)
    | _ => .none) s

end Sys2Proof.Machine
end

