-- ==== Sys2Proof/Machine/TicControl.lean ====
section
/-! DEFINITION. The TIC instructions of control flow, standard function blocks and device access (09 R254, R260 to R268). -/

namespace Sys2Proof.Machine

open Sys2Proof

/-- JMP (09 R255). -/
def execJmp (task : BitVec 5) (off : BitVec 20) (s : State) : Host.Outcome State Fault Refusal :=
  ticRun task 1 (fun r => some (jumpBy off r)) s

/-- JMPC (09 R255). -/
def execJmpc (task : BitVec 5) (off : BitVec 20) (s : State) : Host.Outcome State Fault Refusal :=
  ticRun task 1 (fun r =>
    match r.stack with
    | c :: k => some (if slotBool c then jumpBy off { r with stack := k } else { r with stack := k })
    | _ => none) s

/-- JMPCN (09 R255). -/
def execJmpcn (task : BitVec 5) (off : BitVec 20) (s : State) : Host.Outcome State Fault Refusal :=
  ticRun task 1 (fun r =>
    match r.stack with
    | c :: k => some (if !slotBool c then jumpBy off { r with stack := k } else { r with stack := k })
    | _ => none) s

/-- CALL (09 R254). -/
def execCall (task : BitVec 5) (rel : Bool) (base : BitVec 20) (pou : BitVec 12) (s : State) : Host.Outcome State Fault Refusal :=
  tic task 2 (fun _ => 2) (fun _ r s =>
    match callPou s rel base pou.toNat r with
    | some r => .ok r s
    | none => .none) s

/-- RET (09 R254, 10 R287). -/
def execRet (task : BitVec 5) (s : State) : Host.Outcome State Fault Refusal :=
  ticRun task 1 (fun r => some (retPou r)) s

/-- TON: pops TIME PT, then BOOL IN (09 R261). -/
def execTon (task : BitVec 5) (rel : Bool) (base : BitVec 20) (s : State) : Host.Outcome State Fault Refusal :=
  tic task 1 (fun _ => 2) (fun c r => timerInstr tonStep (operandIndex r rel base) c r) s

/-- TOF: pops TIME PT, then BOOL IN (09 R261). -/
def execTof (task : BitVec 5) (rel : Bool) (base : BitVec 20) (s : State) : Host.Outcome State Fault Refusal :=
  tic task 1 (fun _ => 2) (fun c r => timerInstr tofStep (operandIndex r rel base) c r) s

/-- TP: pops TIME PT, then BOOL IN (09 R261). -/
def execTp (task : BitVec 5) (rel : Bool) (base : BitVec 20) (s : State) : Host.Outcome State Fault Refusal :=
  tic task 1 (fun _ => 2) (fun c r => timerInstr tpStep (operandIndex r rel base) c r) s

/-- CTU (09 R261, R601). -/
def execCtu (task : BitVec 5) (rel : Bool) (base : BitVec 20) (s : State) : Host.Outcome State Fault Refusal :=
  tic task 1 (fun _ => 2) (fun c r => ctuInstr (operandIndex r rel base) c r) s

/-- CTD (09 R261, R601). -/
def execCtd (task : BitVec 5) (rel : Bool) (base : BitVec 20) (s : State) : Host.Outcome State Fault Refusal :=
  tic task 1 (fun _ => 2) (fun c r => ctdInstr (operandIndex r rel base) c r) s

/-- CTUD (09 R261, R601). -/
def execCtud (task : BitVec 5) (rel : Bool) (base : BitVec 20) (s : State) : Host.Outcome State Fault Refusal :=
  tic task 1 (fun _ => 2) (fun c r => ctudInstr (operandIndex r rel base) c r) s

/-- R_TRIG (09 R261). -/
def execRTrig (task : BitVec 5) (rel : Bool) (base : BitVec 20) (s : State) : Host.Outcome State Fault Refusal :=
  tic task 1 (fun _ => 1) (fun c r => trigInstr true (operandIndex r rel base) c r) s

/-- F_TRIG (09 R261). -/
def execFTrig (task : BitVec 5) (rel : Bool) (base : BitVec 20) (s : State) : Host.Outcome State Fault Refusal :=
  tic task 1 (fun _ => 1) (fun c r => trigInstr false (operandIndex r rel base) c r) s

/-- LPR (09 R266). -/
def execLpr (task : BitVec 5) (ty : Ty) (loop : BitVec 9) (param : BitVec 8) (s : State) : Host.Outcome State Fault Refusal :=
  tic task 1 (fun _ => 2) (fun _ r s => lprInstr ty loop.toNat param.toNat r s) s

/-- LPW (09 R266, 10 R283). -/
def execLpw (task : BitVec 5) (ty : Ty) (loop : BitVec 9) (param : BitVec 8) (s : State) : Host.Outcome State Fault Refusal :=
  tic task 1 (fun _ => 2) (lpwInstr ty loop.toNat param.toNat) s

/-- JRN (09 R267). -/
def execJrn (task : BitVec 5) (src : BitVec 5) (severity : BitVec 3) (code : BitVec 16) (sub : BitVec 8) (s : State) : Host.Outcome State Fault Refusal :=
  tic task 2 (fun _ => 4) (jrnInstr src.toNat severity.toNat code.toNat sub.toNat) s

/-- EVR: raised once at commit (09 R267). -/
def execEvr (task : BitVec 5) (src : BitVec 5) (s : State) : Host.Outcome State Fault Refusal :=
  ticRun task 2 (fun r =>
    some (if r.events.contains src.toNat then r else { r with events := r.events ++ [src.toNat] })) s

/-- LDS (09 R268). -/
def execLds (task : BitVec 5) (ty : Ty) (sel : BitVec 20) (s : State) : Host.Outcome State Fault Refusal :=
  ticRun task 1 (fun r =>
    given (ldsType sel.toNat == some ty) (some { r with stack := ldsValue r.lds sel.toNat :: r.stack })) s

end Sys2Proof.Machine
end

