-- ==== Sys2Proof/Machine/TicSolver.lean ====
section
/-! DEFINITION. The TIC instructions that reach the solver: DFW and SRD (09 R264, R265; 07 R210). -/

namespace Sys2Proof.Machine

open Sys2Proof

/-- Words of a UDINT region as the scan sees them, each recorded as a load (09 R264, 10 R286). -/
def loadDelta : Nat → Nat → Run → List Word × Run
  | _, 0, r => ([], r)
  | i, n + 1, r =>
    let (v, r) := loadVar r .udint i
    let (l, r) := loadDelta (i + 1) n r
    (v.setWidth 32 :: l, r)

/-- Count field of the frame in a DFW buffer (09 R264). -/
def dfwCount (r : Run) (i : Nat) : Nat := ((readVar r .udint (i + 1)).setWidth 16).toNat

/-- Bytes of a task's delta area in use: the scan's frames, and released frames that wait there until they are applied
(06 R170, 10 R283). -/
def deltaUsed (t : Nat) (r : Run) (s : State) : Nat :=
  let waiting := s.sol.waiting ++ (s.sol.commitLater.map (·.2)).getD []
  (r.delta.map List.length).sum + ((waiting.filter fun f => f.1 == .scan t).map fun f => f.2.length).sum

/-- DFW: check the frame in the buffer, and copy it where it is accepted and fits (09 R264, 06 R170). -/
def dfwInstr (i capacity : Nat) (c : TaskCfg) (r : Run) (s : State) : TicRes :=
  let need := 8 + 8 * min (dfwCount r i) 4096
  let (ws, r) := loadDelta i (min need capacity / 4) r
  let b := wordsToBytes ws
  let k := deltaReason s b capacity false
  let push := fun (v : Int) (r : Run) => { r with stack := intSlot .dint v :: r.stack }
  if k ≠ 0 then .ok (push k { r with rejects := r.rejects ++ [(fld b 0 2, k)] }) s
  else if c.deltaSize < deltaUsed c.num r s + need then .ok (push (-1) r) s
  else .ok (push 0 { r with delta := r.delta ++ [frameOf b] }) s

/-- DFW (09 R264). -/
def execDfw (task : BitVec 5) (rel : Bool) (base : BitVec 20) (capacity : Word) (s : State) : Host.Outcome State Fault Refusal :=
  tic task 2 (fun r => 2 + (dfwCount r (operandIndex r rel base) + 3) / 4)
    (fun c r s => dfwInstr (operandIndex r rel base) capacity.toNat c r s) s

/-- The result that a scan reads: none while it is not fixed (07 R210). -/
def resultFor (s : State) (r : Run) (n : Nat) : Option SolResult :=
  if s.sol.fixes < r.marks then none
  else if r.marks = s.sol.fixes then some (s.prob n).acc
  else match s.sol.older.find? (·.1 == r.marks) with
    | some (_, m) => some (Store.get (s.prob n).acc m n)
    | none => some (s.prob n).acc

/-- Elements of a result vector with their fractional bits (09 R265, 06 R152). -/
def resultVec (t : Template) (x : SolResult) (vec k : Nat) : List Int × Nat :=
  match vec with
  | 0 => (x.set.x.getD k [], t.fmt fx)
  | 1 => (accZ t x k, t.fmt fw)
  | _ => (accY t x k, t.fmt fy)

/-- Counts of a result as SOL_COUNTS (06 R180, 09 R265). -/
def SolResult.counts (x : SolResult) : Word := BitVec.ofNat 32 (min x.regs 65535 * 65536 + min x.sats 65535)

/-- SRD: the value and the status word, a wait for the fix instant, or SOLREAD (09 R265, 07 R210). -/
def srdInstr (t : Ty) (n vec scen : Nat) (r : Run) (s : State) : TicRes :=
  match r.stack, problemDef s n with
  | i :: k, some (c, tp) =>
    let idx := slotInt .dint i
    let ok := (t == .dint && decide (vec ≤ 3)) || (t == .lreal && decide (vec ≤ 2))
    if !ok then .none
    else match resultFor s r n with
      | none => .ok { r with pc := r.pc - 2, units := r.units - 4, waitFix := true } s
      | some x =>
        let push := fun (v : DWord) =>
          TicRes.ok { r with stack := intSlot .dint (wordInt x.status) :: v :: k } s
        if c.scenarios ≤ scen ∨ idx < 0 then .fault 3
        else if vec = 3 then
          match [wordInt x.status, x.resP, x.resD, wordInt x.counts][idx.toNat]? with
          | some v => push (intSlot .dint v)
          | none => .fault 3
        else
          let (l, f) := resultVec tp x vec scen
          match l[idx.toNat]? with
          | some v =>
            push (if t = .lreal then fSlot .lreal (.fin (decide (v < 0)) v.natAbs (-(f : Int))) else intSlot .dint v)
          | none => .fault 3
  | _, _ => .none

/-- SRD (09 R265). -/
def execSrd (task : BitVec 5) (ty : Ty) (problem : BitVec 20) (vec : BitVec 4) (scen : BitVec 3) (s : State) :
    Host.Outcome State Fault Refusal :=
  tic task 2 (fun _ => 4) (fun _ r s => srdInstr ty problem.toNat vec.toNat scen.toNat r s) s

end Sys2Proof.Machine
end

