-- ==== Sys2Proof/Machine/Tide.lean ====
section
/-! DEFINITION. The commands of the tide (02). -/

namespace Sys2Proof.Machine

open Sys2Proof

/-- TIDE_CYCLE_BOUNDARY (02 R26, R36, R37, R39): a pair unit tells its partner (14 R399). -/
def execTideCycleBoundary (t : Tracker) (s : State) : Host.Outcome State Fault Refusal :=
  actOn s fun s =>
    let s := cycleBoundary t s
    if s.inPair then sendLink (.tide t) s else s

/-- COAST_START: three invalid cycles have passed in holdover (02 R42). -/
def execCoastStart (s : State) : Host.Outcome State Fault Refusal :=
  actOn s fun s => if s.tide.mode = .holdover ∧ 3 ≤ s.tide.invalidRun then enterCoast s else s

/-- RELOCK_START: eight valid cycles have passed while coasting (02 R43). -/
def execRelockStart (trackerAngle : BitVec 16) (s : State) : Host.Outcome State Fault Refusal :=
  actOn s fun s =>
    if s.tide.mode = .coast ∧ 8 ≤ s.tide.validRun then restamp (relock (angleError s trackerAngle) true s) else s

/-- PHASE_JUMP: the locked tide is more than 1,024 steps from its tracker (02 R28). -/
def execPhaseJump (trackerAngle : BitVec 16) (s : State) : Host.Outcome State Fault Refusal :=
  actOn s fun s =>
    let e := angleError s trackerAngle
    if s.tide.mode = .locked ∧ 1024 < e.natAbs then enterSlew e s else s

/-- SLEW_END: the error has reached zero (02 R43); a following standby stops steering (02 R47). -/
def execSlewEnd (s : State) : Host.Outcome State Fault Refusal :=
  actOn s fun s =>
    if s.tide.mode = .slew then lockTide true s
    else if s.tide.mode = .follow then s.updTide fun t => { t with steer := none, rate := if t.steer.isSome then t.meas else t.rate }
    else s

/-- TIDE_CONV_GO (02 R55). -/
def execTideConvGo (path : Path) (angle : BitVec 16) (s : State) : Host.Outcome State Fault Refusal :=
  match path with
  | _ => actOn s (startConv angle)

/-- TIDE_CONV_DONE (02 R55). -/
def execTideConvDone (s : State) : Host.Outcome State Fault Refusal := actOn s finishConv

end Sys2Proof.Machine
end

