-- ==== Sys2Proof/Machine/Dispatch.lean ====
section
/-! DEFINITION. One arm per command: a direct call of its meaning. -/

namespace Sys2Proof.Machine

open Sys2Proof

/-- The effect of a command on everything but the queue. -/
def exec (i : Instr) (s : State) : Host.Outcome State Fault Refusal :=
  match i with
  | .vinValid => Sys2Proof.Machine.execVinValid s
  | .resetNAssert => Sys2Proof.Machine.execResetNAssert s
  | .resetNRelease => Sys2Proof.Machine.execResetNRelease s
  | .watchdogExpiry => Sys2Proof.Machine.execWatchdogExpiry s
  | .pfailWarn vinMv holdLow => Sys2Proof.Machine.execPfailWarn vinMv holdLow s
  | .flushComplete time10us => Sys2Proof.Machine.execFlushComplete time10us s
  | .vinBelowReset => Sys2Proof.Machine.execVinBelowReset s
  | .hostWarm path key => Sys2Proof.Machine.execHostWarm path key s
  | .hostCold path key => Sys2Proof.Machine.execHostCold path key s
  | .hostDefault path key => Sys2Proof.Machine.execHostDefault path key s
  | .hfioQualified => Sys2Proof.Machine.execHfioQualified s
  | .safePatternLoaded => Sys2Proof.Machine.execSafePatternLoaded s
  | .mooringEvaluate failFrom => Sys2Proof.Machine.execMooringEvaluate failFrom s
  | .mooringLoopSample loop => Sys2Proof.Machine.execMooringLoopSample loop s
  | .mooringPulseEnd loop => Sys2Proof.Machine.execMooringPulseEnd loop s
  | .interlockEvaluation => Sys2Proof.Machine.execInterlockEvaluation s
  | .xtalQualified xtal2Ok => Sys2Proof.Machine.execXtalQualified xtal2Ok s
  | .xtalRetry xtal2Ok => Sys2Proof.Machine.execXtalRetry xtal2Ok s
  | .firmwareVerify failFrom => Sys2Proof.Machine.execFirmwareVerify failFrom s
  | .manifestVerify failFrom => Sys2Proof.Machine.execManifestVerify failFrom s
  | .holdOk => Sys2Proof.Machine.execHoldOk s
  | .tideCycleBoundary t => Sys2Proof.Machine.execTideCycleBoundary t s
  | .tideLock => Sys2Proof.Machine.execTideLock s
  | .acquisitionTimeout => Sys2Proof.Machine.execAcquisitionTimeout s
  | .coastStart => Sys2Proof.Machine.execCoastStart s
  | .relockStart trackerAngle => Sys2Proof.Machine.execRelockStart trackerAngle s
  | .phaseJump trackerAngle => Sys2Proof.Machine.execPhaseJump trackerAngle s
  | .slewEnd => Sys2Proof.Machine.execSlewEnd s
  | .tideCycleRead path => Sys2Proof.Machine.execTideCycleRead path s
  | .tideZcCycleRead path => Sys2Proof.Machine.execTideZcCycleRead path s
  | .snapshotEndRead path snap => Sys2Proof.Machine.execSnapshotEndRead path snap s
  | .snapshotTimeout path snap => Sys2Proof.Machine.execSnapshotTimeout path snap s
  | .tideConvGo path angle => Sys2Proof.Machine.execTideConvGo path angle s
  | .tideConvDone => Sys2Proof.Machine.execTideConvDone s
  | .optimisationPeriodBoundary mark => Sys2Proof.Machine.execOptimisationPeriodBoundary mark s
  | .scanTaskStart mark => Sys2Proof.Machine.execScanTaskStart mark s
  | .loopGroupSample mark => Sys2Proof.Machine.execLoopGroupSample mark s
  | .loopPulseEnd loop => Sys2Proof.Machine.execLoopPulseEnd loop s
  | .ferryFrameLaunch mark => Sys2Proof.Machine.execFerryFrameLaunch mark s
  | .runAheadStart mark => Sys2Proof.Machine.execRunAheadStart mark s
  | .solverDeadline mark rates => Sys2Proof.Machine.execSolverDeadline mark rates s
  | .unitSlow tile => Sys2Proof.Machine.execUnitSlow tile s
  | .meterTariffCheck mark => Sys2Proof.Machine.execMeterTariffCheck mark s
  | .iteration problem => Sys2Proof.Machine.execIteration problem s
  | .factorStep problem => Sys2Proof.Machine.execFactorStep problem s
  | .outerIterationEnd => Sys2Proof.Machine.execOuterIterationEnd s
  | .deliveryPass => Sys2Proof.Machine.execDeliveryPass s
  | .resultsFixed => Sys2Proof.Machine.execResultsFixed s
  | .checkpointDone => Sys2Proof.Machine.execCheckpointDone s
  | .submit path => Sys2Proof.Machine.execSubmit path s
  | .solVdataRead path => Sys2Proof.Machine.execSolVdataRead path s
  | .eventTaskDispatch task => Sys2Proof.Machine.execEventTaskDispatch task s
  | .errorTaskDispatch => Sys2Proof.Machine.execErrorTaskDispatch s
  | .scanCommit task => Sys2Proof.Machine.execScanCommit task s
  | .resolution task => Sys2Proof.Machine.execResolution task s
  | .coreMismatch task => Sys2Proof.Machine.execCoreMismatch task s
  | .retainCopy => Sys2Proof.Machine.execRetainCopy s
  | .forceSet path key => Sys2Proof.Machine.execForceSet path key s
  | .forceClear path key => Sys2Proof.Machine.execForceClear path key s
  | .forceClearAll path key => Sys2Proof.Machine.execForceClearAll path key s
  | .scanFrcSelWrite path slot => Sys2Proof.Machine.execScanFrcSelWrite path slot s
  | .scanTExecmaxRead path => Sys2Proof.Machine.execScanTExecmaxRead path s
  | .ld task ty index => Sys2Proof.Machine.execLd task ty index s
  | .ldf task ty off => Sys2Proof.Machine.execLdf task ty off s
  | .st task ty index => Sys2Proof.Machine.execSt task ty index s
  | .stf task ty off => Sys2Proof.Machine.execStf task ty off s
  | .ldi task ty imm => Sys2Proof.Machine.execLdi task ty imm s
  | .ldx task ty value => Sys2Proof.Machine.execLdx task ty value s
  | .ldix task ty index => Sys2Proof.Machine.execLdix task ty index s
  | .stix task ty index => Sys2Proof.Machine.execStix task ty index s
  | .dup task => Sys2Proof.Machine.execDup task s
  | .drop task => Sys2Proof.Machine.execDrop task s
  | .swap task => Sys2Proof.Machine.execSwap task s
  | .add task ty => Sys2Proof.Machine.execAdd task ty s
  | .sub task ty => Sys2Proof.Machine.execSub task ty s
  | .mul task ty => Sys2Proof.Machine.execMul task ty s
  | .div task ty => Sys2Proof.Machine.execDiv task ty s
  | .mod task ty => Sys2Proof.Machine.execMod task ty s
  | .neg task ty => Sys2Proof.Machine.execNeg task ty s
  | .abs task ty => Sys2Proof.Machine.execAbs task ty s
  | .min task ty => Sys2Proof.Machine.execMin task ty s
  | .max task ty => Sys2Proof.Machine.execMax task ty s
  | .limit task ty => Sys2Proof.Machine.execLimit task ty s
  | .math task ty fn => Sys2Proof.Machine.execMath task ty fn s
  | .sel task ty => Sys2Proof.Machine.execSel task ty s
  | .andB task ty => Sys2Proof.Machine.execAndB task ty s
  | .orB task ty => Sys2Proof.Machine.execOrB task ty s
  | .xor task ty => Sys2Proof.Machine.execXor task ty s
  | .notB task ty => Sys2Proof.Machine.execNotB task ty s
  | .shl task ty => Sys2Proof.Machine.execShl task ty s
  | .shr task ty => Sys2Proof.Machine.execShr task ty s
  | .rol task ty => Sys2Proof.Machine.execRol task ty s
  | .ror task ty => Sys2Proof.Machine.execRor task ty s
  | .eq task ty => Sys2Proof.Machine.execEq task ty s
  | .ne task ty => Sys2Proof.Machine.execNe task ty s
  | .lt task ty => Sys2Proof.Machine.execLt task ty s
  | .le task ty => Sys2Proof.Machine.execLe task ty s
  | .gt task ty => Sys2Proof.Machine.execGt task ty s
  | .ge task ty => Sys2Proof.Machine.execGe task ty s
  | .cvt task ty target => Sys2Proof.Machine.execCvt task ty target s
  | .jmp task off => Sys2Proof.Machine.execJmp task off s
  | .jmpc task off => Sys2Proof.Machine.execJmpc task off s
  | .jmpcn task off => Sys2Proof.Machine.execJmpcn task off s
  | .call task rel base pou => Sys2Proof.Machine.execCall task rel base pou s
  | .ret task => Sys2Proof.Machine.execRet task s
  | .ton task rel base => Sys2Proof.Machine.execTon task rel base s
  | .tof task rel base => Sys2Proof.Machine.execTof task rel base s
  | .tp task rel base => Sys2Proof.Machine.execTp task rel base s
  | .ctu task rel base => Sys2Proof.Machine.execCtu task rel base s
  | .ctd task rel base => Sys2Proof.Machine.execCtd task rel base s
  | .ctud task rel base => Sys2Proof.Machine.execCtud task rel base s
  | .rTrig task rel base => Sys2Proof.Machine.execRTrig task rel base s
  | .fTrig task rel base => Sys2Proof.Machine.execFTrig task rel base s
  | .dfw task rel base capacity => Sys2Proof.Machine.execDfw task rel base capacity s
  | .srd task ty problem vec scen => Sys2Proof.Machine.execSrd task ty problem vec scen s
  | .lpr task ty loop param => Sys2Proof.Machine.execLpr task ty loop param s
  | .lpw task ty loop param => Sys2Proof.Machine.execLpw task ty loop param s
  | .jrn task src severity code sub => Sys2Proof.Machine.execJrn task src severity code sub s
  | .evr task src => Sys2Proof.Machine.execEvr task src s
  | .lds task ty sel => Sys2Proof.Machine.execLds task ty sel s
  | .testStart path key => Sys2Proof.Machine.execTestStart path key s
  | .testStop path key => Sys2Proof.Machine.execTestStop path key s
  | .captureArm path key => Sys2Proof.Machine.execCaptureArm path key s
  | .captureStop path key => Sys2Proof.Machine.execCaptureStop path key s
  | .loopCapTagRead path => Sys2Proof.Machine.execLoopCapTagRead path s
  | .ferryReply port frame => Sys2Proof.Machine.execFerryReply port frame s
  | .pollReply port frame => Sys2Proof.Machine.execPollReply port frame s
  | .pollTimeout station => Sys2Proof.Machine.execPollTimeout station s
  | .rejoin path key => Sys2Proof.Machine.execRejoin path key s
  | .frameReceived port frame fcsOk => Sys2Proof.Machine.execFrameReceived port frame fcsOk s
  | .ptpMessage port msg act => Sys2Proof.Machine.execPtpMessage port msg act s
  | .linkChange port signal offers24 => Sys2Proof.Machine.execLinkChange port signal offers24 s
  | .frameLaunch port => Sys2Proof.Machine.execFrameLaunch port s
  | .txanChange path key an => Sys2Proof.Machine.execTxanChange path key an s
  | .ntimeIncrFracWrite path frac => Sys2Proof.Machine.execNtimeIncrFracWrite path frac s
  | .ntimeStep path key => Sys2Proof.Machine.execNtimeStep path key s
  | .leaseSend => Sys2Proof.Machine.execLeaseSend s
  | .lease seq lease epoch t1 t4 => Sys2Proof.Machine.execLease seq lease epoch t1 t4 s
  | .leaseAck seq lease t2 t3 => Sys2Proof.Machine.execLeaseAck seq lease t2 t3 s
  | .fenceOutDrop => Sys2Proof.Machine.execFenceOutDrop s
  | .selfFence => Sys2Proof.Machine.execSelfFence s
  | .fenceInHigh => Sys2Proof.Machine.execFenceInHigh s
  | .fenceRestart => Sys2Proof.Machine.execFenceRestart s
  | .pairTakeover => Sys2Proof.Machine.execPairTakeover s
  | .image seq m => Sys2Proof.Machine.execImage seq m s
  | .sample seq m => Sys2Proof.Machine.execSample seq m s
  | .tideMessage seq t => Sys2Proof.Machine.execTideMessage seq t s
  | .events seq sources => Sys2Proof.Machine.execEvents seq sources s
  | .solver seq m => Sys2Proof.Machine.execSolver seq m s
  | .digest seq m => Sys2Proof.Machine.execDigest seq m s
  | .health seq m => Sys2Proof.Machine.execHealth seq m s
  | .resync seq region page contents => Sys2Proof.Machine.execResync seq region page contents s
  | .switchMsg seq time => Sys2Proof.Machine.execSwitchMsg seq time s
  | .take seq => Sys2Proof.Machine.execTake seq s
  | .crossingLinkDown => Sys2Proof.Machine.execCrossingLinkDown s
  | .laneRecover lane => Sys2Proof.Machine.execLaneRecover lane s
  | .peerOkInLow => Sys2Proof.Machine.execPeerOkInLow s
  | .peerOkTimeout => Sys2Proof.Machine.execPeerOkTimeout s
  | .pairCtrlSwitch path key => Sys2Proof.Machine.execPairCtrlSwitch path key s
  | .pairCtrlResync path key => Sys2Proof.Machine.execPairCtrlResync path key s
  | .healthFrame => Sys2Proof.Machine.execHealthFrame s
  | .tileBist tile passed => Sys2Proof.Machine.execTileBist tile passed s
  | .corePairBist pair passed => Sys2Proof.Machine.execCorePairBist pair passed s
  | .eccScrubError place corrected => Sys2Proof.Machine.execEccScrubError place corrected s
  | .outputStageTest channel readback => Sys2Proof.Machine.execOutputStageTest channel readback s
  | .clearFault path key => Sys2Proof.Machine.execClearFault path key s
  | .ioDieUpdate => Sys2Proof.Machine.execIoDieUpdate s
  | .inputFilterChange channel state => Sys2Proof.Machine.execInputFilterChange channel state s
  | .pulseInputChange channel state => Sys2Proof.Machine.execPulseInputChange channel state s
  | .pulseMergeEnd channel => Sys2Proof.Machine.execPulseMergeEnd channel s
  | .meterEdgeQualified meter => Sys2Proof.Machine.execMeterEdgeQualified meter s
  | .meterCountBegin meter => Sys2Proof.Machine.execMeterCountBegin meter s
  | .meterRateUpdate => Sys2Proof.Machine.execMeterRateUpdate s
  | .meterClear path key => Sys2Proof.Machine.execMeterClear path key s
  | .meterPreset path key target => Sys2Proof.Machine.execMeterPreset path key target s
  | .readbackMismatch channel => Sys2Proof.Machine.execReadbackMismatch channel s
  | .thermalShutdown channel => Sys2Proof.Machine.execThermalShutdown channel s
  | .thermalRestart channel => Sys2Proof.Machine.execThermalRestart channel s
  | .ioWatchdogTrip group => Sys2Proof.Machine.execIoWatchdogTrip group s
  | .groupTimerExpiry group => Sys2Proof.Machine.execGroupTimerExpiry group s
  | .vfldFault group => Sys2Proof.Machine.execVfldFault group s
  | .vfldReturn group => Sys2Proof.Machine.execVfldReturn group s
  | .journalFlushEnd => Sys2Proof.Machine.execJournalFlushEnd s
  | .flush path key => Sys2Proof.Machine.execFlush path key s
  | .extract path key => Sys2Proof.Machine.execExtract path key s
  | .jrnExtractDone => Sys2Proof.Machine.execJrnExtractDone s
  | .journalRebuildEnd => Sys2Proof.Machine.execJournalRebuildEnd s
  | .optimeStore => Sys2Proof.Machine.execOptimeStore s
  | .dailyAnchor => Sys2Proof.Machine.execDailyAnchor s
  | .jrnData7Read path => Sys2Proof.Machine.execJrnData7Read path s
  | .attest path key => Sys2Proof.Machine.execAttest path key s
  | .endorse path key => Sys2Proof.Machine.execEndorse path key s
  | .keyOrigin path key => Sys2Proof.Machine.execKeyOrigin path key s
  | .generate path key => Sys2Proof.Machine.execGenerate path key s
  | .importKey path key => Sys2Proof.Machine.execImportKey path key s
  | .install path key => Sys2Proof.Machine.execInstall path key s
  | .load path key => Sys2Proof.Machine.execLoad path key s
  | .enrolArm path key => Sys2Proof.Machine.execEnrolArm path key s
  | .fuseCommit path key => Sys2Proof.Machine.execFuseCommit path key s
  | .readChain path key => Sys2Proof.Machine.execReadChain path key s
  | .readBlob path key => Sys2Proof.Machine.execReadBlob path key s
  | .keyCommandDone => Sys2Proof.Machine.execKeyCommandDone s
  | .clkMonTrip clock => Sys2Proof.Machine.execClkMonTrip clock s
  | .loopReferenceSwitch => Sys2Proof.Machine.execLoopReferenceSwitch s
  | .clkLoopFail clock => Sys2Proof.Machine.execClkLoopFail clock s
  | .hfioTrim => Sys2Proof.Machine.execHfioTrim s
  | .sleep path key => Sys2Proof.Machine.execSleep path key s
  | .deep path key => Sys2Proof.Machine.execDeep path key s
  | .wake src => Sys2Proof.Machine.execWake src s
  | .clkRunEnWrite path value => Sys2Proof.Machine.execClkRunEnWrite path value s
  | .fmeasStart path => Sys2Proof.Machine.execFmeasStart path s
  | .fmeasDone count => Sys2Proof.Machine.execFmeasDone count s
  | .fmeasErr => Sys2Proof.Machine.execFmeasErr s
  | .calendarSecond => Sys2Proof.Machine.execCalendarSecond s
  | .calAlarm alarm => Sys2Proof.Machine.execCalAlarm alarm s
  | .xtal2Stop => Sys2Proof.Machine.execXtal2Stop s
  | .backupBrownout => Sys2Proof.Machine.execBackupBrownout s
  | .backupPowerOnReset => Sys2Proof.Machine.execBackupPowerOnReset s
  | .vbatSwitch toVbat => Sys2Proof.Machine.execVbatSwitch toVbat s
  | .vbatCheck low => Sys2Proof.Machine.execVbatCheck low s
  | .calSet path key => Sys2Proof.Machine.execCalSet path key s
  | .shift path key => Sys2Proof.Machine.execShift path key s
  | .ptpSet path key => Sys2Proof.Machine.execPtpSet path key s
  | .automaticSetting => Sys2Proof.Machine.execAutomaticSetting s
  | .hspiRead addr words => Sys2Proof.Machine.execHspiRead addr words s
  | .hspiReadTimeout addr => Sys2Proof.Machine.execHspiReadTimeout addr s
  | .hspiWrite addr words partialWord => Sys2Proof.Machine.execHspiWrite addr words partialWord s
  | .hspiStatus => Sys2Proof.Machine.execHspiStatus s
  | .hello port nonce => Sys2Proof.Machine.execHello port nonce s
  | .prove port sid tag => Sys2Proof.Machine.execProve port sid tag s
  | .mgmtRead h addr count => Sys2Proof.Machine.execMgmtRead h addr count s
  | .mgmtWrite h addr count words => Sys2Proof.Machine.execMgmtWrite h addr count words s
  | .close h => Sys2Proof.Machine.execClose h s
  | .flRead path key => Sys2Proof.Machine.execFlRead path key s
  | .flProgram path key => Sys2Proof.Machine.execFlProgram path key s
  | .flErase path key => Sys2Proof.Machine.execFlErase path key s
  | .acceptOther path key failFrom writeOk => Sys2Proof.Machine.execAcceptOther path key failFrom writeOk s
  | .flashDone ok => Sys2Proof.Machine.execFlashDone ok s
  | .registerWrite path addr value => Sys2Proof.Machine.execRegisterWrite path addr value s
  | .crossingLinkUp => Sys2Proof.Machine.execCrossingLinkUp s
  | .badCrcCopy lane => Sys2Proof.Machine.execBadCrcCopy lane s
  | .peerOkInChange level => Sys2Proof.Machine.execPeerOkInChange level s
  | .announceReceiptTimeout => Sys2Proof.Machine.execAnnounceReceiptTimeout s
  | .holdLow => Sys2Proof.Machine.execHoldLow s
  | .uncorrectableError tile => Sys2Proof.Machine.execUncorrectableError tile s
  | .meterSaveDone => Sys2Proof.Machine.execMeterSaveDone s
  | .retainedCopySealed => Sys2Proof.Machine.execRetainedCopySealed s
  | .ntimeSecLoRead path => Sys2Proof.Machine.execNtimeSecLoRead path s
  | .mtrTotalLoRead path => Sys2Proof.Machine.execMtrTotalLoRead path s
  | .jrnOptimeLoRead path => Sys2Proof.Machine.execJrnOptimeLoRead path s
  | .calSubsecRead path => Sys2Proof.Machine.execCalSubsecRead path s
  | .hspiIgnoredTransaction command => Sys2Proof.Machine.execHspiIgnoredTransaction command s

end Sys2Proof.Machine
end

