-- ==== Sys2Proof/Machine/TicCode.lean ====
section
/-! DEFINITION. The code words of the TIC instructions: an encoder, and the instruction that decoded fields name (09 R241,
R242, R255). -/

namespace Sys2Proof.Machine

open Sys2Proof

/-- Extension words of LDX: the value's words, low word first (09 R242). -/
def ldxExt (ty : Ty) (v : DWord) : List Nat :=
  if tyWords ty = 2 then [(v.extractLsb' 0 32).toNat, (v.extractLsb' 32 32).toNat] else [(v.extractLsb' 0 32).toNat]

/-- Fields of a TIC instruction's code words: opcode, TYPE, operand and extension words (09 R241, R255). -/
def ticFields : Instr → Option Ins
  | .ld _ ty index => some { pos := 0, op := 0x01, ty := tyCode ty, opnd := index.toNat, ext := [] }
  | .ldf _ ty off => some { pos := 0, op := 0x02, ty := tyCode ty, opnd := off.toNat, ext := [] }
  | .st _ ty index => some { pos := 0, op := 0x03, ty := tyCode ty, opnd := index.toNat, ext := [] }
  | .stf _ ty off => some { pos := 0, op := 0x04, ty := tyCode ty, opnd := off.toNat, ext := [] }
  | .ldi _ ty imm => some { pos := 0, op := 0x05, ty := tyCode ty, opnd := imm.toNat, ext := [] }
  | .ldx _ ty value => some { pos := 0, op := 0x06, ty := tyCode ty, opnd := 0, ext := ldxExt ty value }
  | .ldix _ ty index => some { pos := 0, op := 0x07, ty := tyCode ty, opnd := index.toNat, ext := [] }
  | .stix _ ty index => some { pos := 0, op := 0x08, ty := tyCode ty, opnd := index.toNat, ext := [] }
  | .dup _ => some { pos := 0, op := 0x09, ty := 0, opnd := 0, ext := [] }
  | .drop _ => some { pos := 0, op := 0x0A, ty := 0, opnd := 0, ext := [] }
  | .swap _ => some { pos := 0, op := 0x0B, ty := 0, opnd := 0, ext := [] }
  | .add _ ty => some { pos := 0, op := 0x10, ty := tyCode ty, opnd := 0, ext := [] }
  | .sub _ ty => some { pos := 0, op := 0x11, ty := tyCode ty, opnd := 0, ext := [] }
  | .mul _ ty => some { pos := 0, op := 0x12, ty := tyCode ty, opnd := 0, ext := [] }
  | .div _ ty => some { pos := 0, op := 0x13, ty := tyCode ty, opnd := 0, ext := [] }
  | .mod _ ty => some { pos := 0, op := 0x14, ty := tyCode ty, opnd := 0, ext := [] }
  | .neg _ ty => some { pos := 0, op := 0x15, ty := tyCode ty, opnd := 0, ext := [] }
  | .abs _ ty => some { pos := 0, op := 0x16, ty := tyCode ty, opnd := 0, ext := [] }
  | .min _ ty => some { pos := 0, op := 0x17, ty := tyCode ty, opnd := 0, ext := [] }
  | .max _ ty => some { pos := 0, op := 0x18, ty := tyCode ty, opnd := 0, ext := [] }
  | .limit _ ty => some { pos := 0, op := 0x19, ty := tyCode ty, opnd := 0, ext := [] }
  | .math _ ty fn => some { pos := 0, op := 0x1A, ty := tyCode ty, opnd := fn.toNat, ext := [] }
  | .sel _ ty => some { pos := 0, op := 0x1B, ty := tyCode ty, opnd := 0, ext := [] }
  | .andB _ ty => some { pos := 0, op := 0x20, ty := tyCode ty, opnd := 0, ext := [] }
  | .orB _ ty => some { pos := 0, op := 0x21, ty := tyCode ty, opnd := 0, ext := [] }
  | .xor _ ty => some { pos := 0, op := 0x22, ty := tyCode ty, opnd := 0, ext := [] }
  | .notB _ ty => some { pos := 0, op := 0x23, ty := tyCode ty, opnd := 0, ext := [] }
  | .shl _ ty => some { pos := 0, op := 0x24, ty := tyCode ty, opnd := 0, ext := [] }
  | .shr _ ty => some { pos := 0, op := 0x25, ty := tyCode ty, opnd := 0, ext := [] }
  | .rol _ ty => some { pos := 0, op := 0x26, ty := tyCode ty, opnd := 0, ext := [] }
  | .ror _ ty => some { pos := 0, op := 0x27, ty := tyCode ty, opnd := 0, ext := [] }
  | .eq _ ty => some { pos := 0, op := 0x30, ty := tyCode ty, opnd := 0, ext := [] }
  | .ne _ ty => some { pos := 0, op := 0x31, ty := tyCode ty, opnd := 0, ext := [] }
  | .lt _ ty => some { pos := 0, op := 0x32, ty := tyCode ty, opnd := 0, ext := [] }
  | .le _ ty => some { pos := 0, op := 0x33, ty := tyCode ty, opnd := 0, ext := [] }
  | .gt _ ty => some { pos := 0, op := 0x34, ty := tyCode ty, opnd := 0, ext := [] }
  | .ge _ ty => some { pos := 0, op := 0x35, ty := tyCode ty, opnd := 0, ext := [] }
  | .cvt _ ty target => some { pos := 0, op := 0x38, ty := tyCode ty, opnd := tyCode target, ext := [] }
  | .jmp _ off => some { pos := 0, op := 0x40, ty := 0, opnd := off.toNat, ext := [] }
  | .jmpc _ off => some { pos := 0, op := 0x41, ty := 0, opnd := off.toNat, ext := [] }
  | .jmpcn _ off => some { pos := 0, op := 0x42, ty := 0, opnd := off.toNat, ext := [] }
  | .call _ rel base pou => some { pos := 0, op := 0x43, ty := boolNat rel, opnd := base.toNat, ext := [pou.toNat] }
  | .ret _ => some { pos := 0, op := 0x44, ty := 0, opnd := 0, ext := [] }
  | .ton _ rel base => some { pos := 0, op := 0x50, ty := boolNat rel, opnd := base.toNat, ext := [] }
  | .tof _ rel base => some { pos := 0, op := 0x51, ty := boolNat rel, opnd := base.toNat, ext := [] }
  | .tp _ rel base => some { pos := 0, op := 0x52, ty := boolNat rel, opnd := base.toNat, ext := [] }
  | .ctu _ rel base => some { pos := 0, op := 0x53, ty := boolNat rel, opnd := base.toNat, ext := [] }
  | .ctd _ rel base => some { pos := 0, op := 0x54, ty := boolNat rel, opnd := base.toNat, ext := [] }
  | .ctud _ rel base => some { pos := 0, op := 0x55, ty := boolNat rel, opnd := base.toNat, ext := [] }
  | .rTrig _ rel base => some { pos := 0, op := 0x56, ty := boolNat rel, opnd := base.toNat, ext := [] }
  | .fTrig _ rel base => some { pos := 0, op := 0x57, ty := boolNat rel, opnd := base.toNat, ext := [] }
  | .dfw _ rel base capacity => some { pos := 0, op := 0x60, ty := boolNat rel, opnd := base.toNat, ext := [capacity.toNat] }
  | .srd _ ty problem vec scen => some { pos := 0, op := 0x61, ty := tyCode ty, opnd := problem.toNat, ext := [scen.toNat * 16 + vec.toNat] }
  | .lpr _ ty loop param => some { pos := 0, op := 0x62, ty := tyCode ty, opnd := param.toNat * 4096 + loop.toNat, ext := [] }
  | .lpw _ ty loop param => some { pos := 0, op := 0x63, ty := tyCode ty, opnd := param.toNat * 4096 + loop.toNat, ext := [] }
  | .jrn _ src severity code sub => some { pos := 0, op := 0x64, ty := 0, opnd := severity.toNat * 256 + src.toNat, ext := [sub.toNat * 65536 + code.toNat] }
  | .evr _ src => some { pos := 0, op := 0x65, ty := 0, opnd := src.toNat, ext := [] }
  | .lds _ ty sel => some { pos := 0, op := 0x66, ty := tyCode ty, opnd := sel.toNat, ext := [] }
  | .vinValid => none
  | .resetNAssert => none
  | .resetNRelease => none
  | .watchdogExpiry => none
  | .pfailWarn _ _ => none
  | .flushComplete _ => none
  | .vinBelowReset => none
  | .hostWarm _ _ => none
  | .hostCold _ _ => none
  | .hostDefault _ _ => none
  | .hfioQualified => none
  | .safePatternLoaded => none
  | .mooringEvaluate _ => none
  | .mooringLoopSample _ => none
  | .mooringPulseEnd _ => none
  | .interlockEvaluation => none
  | .xtalQualified _ => none
  | .xtalRetry _ => none
  | .firmwareVerify _ => none
  | .manifestVerify _ => none
  | .holdOk => none
  | .tideCycleBoundary _ => none
  | .tideLock => none
  | .acquisitionTimeout => none
  | .coastStart => none
  | .relockStart _ => none
  | .phaseJump _ => none
  | .slewEnd => none
  | .tideCycleRead _ => none
  | .tideZcCycleRead _ => none
  | .snapshotEndRead _ _ => none
  | .snapshotTimeout _ _ => none
  | .tideConvGo _ _ => none
  | .tideConvDone => none
  | .optimisationPeriodBoundary _ => none
  | .scanTaskStart _ => none
  | .loopGroupSample _ => none
  | .loopPulseEnd _ => none
  | .ferryFrameLaunch _ => none
  | .runAheadStart _ => none
  | .solverDeadline _ _ => none
  | .unitSlow _ => none
  | .meterTariffCheck _ => none
  | .iteration _ => none
  | .factorStep _ => none
  | .outerIterationEnd => none
  | .deliveryPass => none
  | .resultsFixed => none
  | .checkpointDone => none
  | .submit _ => none
  | .solVdataRead _ => none
  | .eventTaskDispatch _ => none
  | .errorTaskDispatch => none
  | .scanCommit _ => none
  | .resolution _ => none
  | .coreMismatch _ => none
  | .retainCopy => none
  | .forceSet _ _ => none
  | .forceClear _ _ => none
  | .forceClearAll _ _ => none
  | .scanFrcSelWrite _ _ => none
  | .scanTExecmaxRead _ => none
  | .testStart _ _ => none
  | .testStop _ _ => none
  | .captureArm _ _ => none
  | .captureStop _ _ => none
  | .loopCapTagRead _ => none
  | .ferryReply _ _ => none
  | .pollReply _ _ => none
  | .pollTimeout _ => none
  | .rejoin _ _ => none
  | .frameReceived _ _ _ => none
  | .ptpMessage _ _ _ => none
  | .linkChange _ _ _ => none
  | .frameLaunch _ => none
  | .txanChange _ _ _ => none
  | .ntimeIncrFracWrite _ _ => none
  | .ntimeStep _ _ => none
  | .leaseSend => none
  | .lease _ _ _ _ _ => none
  | .leaseAck _ _ _ _ => none
  | .fenceOutDrop => none
  | .selfFence => none
  | .fenceInHigh => none
  | .fenceRestart => none
  | .pairTakeover => none
  | .image _ _ => none
  | .sample _ _ => none
  | .tideMessage _ _ => none
  | .events _ _ => none
  | .solver _ _ => none
  | .digest _ _ => none
  | .health _ _ => none
  | .resync _ _ _ _ => none
  | .switchMsg _ _ => none
  | .take _ => none
  | .crossingLinkDown => none
  | .laneRecover _ => none
  | .peerOkInLow => none
  | .peerOkTimeout => none
  | .pairCtrlSwitch _ _ => none
  | .pairCtrlResync _ _ => none
  | .healthFrame => none
  | .tileBist _ _ => none
  | .corePairBist _ _ => none
  | .eccScrubError _ _ => none
  | .outputStageTest _ _ => none
  | .clearFault _ _ => none
  | .ioDieUpdate => none
  | .inputFilterChange _ _ => none
  | .pulseInputChange _ _ => none
  | .pulseMergeEnd _ => none
  | .meterEdgeQualified _ => none
  | .meterCountBegin _ => none
  | .meterRateUpdate => none
  | .meterClear _ _ => none
  | .meterPreset _ _ _ => none
  | .readbackMismatch _ => none
  | .thermalShutdown _ => none
  | .thermalRestart _ => none
  | .ioWatchdogTrip _ => none
  | .groupTimerExpiry _ => none
  | .vfldFault _ => none
  | .vfldReturn _ => none
  | .journalFlushEnd => none
  | .flush _ _ => none
  | .extract _ _ => none
  | .jrnExtractDone => none
  | .journalRebuildEnd => none
  | .optimeStore => none
  | .dailyAnchor => none
  | .jrnData7Read _ => none
  | .attest _ _ => none
  | .endorse _ _ => none
  | .keyOrigin _ _ => none
  | .generate _ _ => none
  | .importKey _ _ => none
  | .install _ _ => none
  | .load _ _ => none
  | .enrolArm _ _ => none
  | .fuseCommit _ _ => none
  | .readChain _ _ => none
  | .readBlob _ _ => none
  | .keyCommandDone => none
  | .clkMonTrip _ => none
  | .loopReferenceSwitch => none
  | .clkLoopFail _ => none
  | .hfioTrim => none
  | .sleep _ _ => none
  | .deep _ _ => none
  | .wake _ => none
  | .clkRunEnWrite _ _ => none
  | .fmeasStart _ => none
  | .fmeasDone _ => none
  | .fmeasErr => none
  | .calendarSecond => none
  | .calAlarm _ => none
  | .xtal2Stop => none
  | .backupBrownout => none
  | .backupPowerOnReset => none
  | .vbatSwitch _ => none
  | .vbatCheck _ => none
  | .calSet _ _ => none
  | .shift _ _ => none
  | .ptpSet _ _ => none
  | .automaticSetting => none
  | .hspiRead _ _ => none
  | .hspiReadTimeout _ => none
  | .hspiWrite _ _ _ => none
  | .hspiStatus => none
  | .hello _ _ => none
  | .prove _ _ _ => none
  | .mgmtRead _ _ _ => none
  | .mgmtWrite _ _ _ _ => none
  | .close _ => none
  | .flRead _ _ => none
  | .flProgram _ _ => none
  | .flErase _ _ => none
  | .acceptOther _ _ _ _ => none
  | .flashDone _ => none
  | .registerWrite _ _ _ => none
  | .crossingLinkUp => none
  | .badCrcCopy _ => none
  | .peerOkInChange _ => none
  | .announceReceiptTimeout => none
  | .holdLow => none
  | .uncorrectableError _ => none
  | .meterSaveDone => none
  | .retainedCopySealed => none
  | .ntimeSecLoRead _ => none
  | .mtrTotalLoRead _ => none
  | .jrnOptimeLoRead _ => none
  | .calSubsecRead _ => none
  | .hspiIgnoredTransaction _ => none

/-- The code words that fields spell: the instruction word and its extension words (09 R241, R242). -/
def insCode (i : Ins) : List Word :=
  BitVec.ofNat 32 (i.op * 2 ^ 24 + i.ty * 2 ^ 20 + i.opnd) :: i.ext.map (BitVec.ofNat 32)

/-- The checks that verification makes of one instruction word (09 R253 rules 1 and 2). -/
def insOk (i : Ins) : Bool :=
  (opTypes i.op i.opnd).contains i.ty && operandOk i.op i.ty i.opnd && i.ext.length == opExt i.op i.ty
    && extOk i.op i.ty i.ext

/-- The instruction of a task that decoded fields name (09 R241, R242, R255, R264 to R268). -/
def ticInstr (t : BitVec 5) (f : Ins) : Option Instr :=
  match f.op with
  | 0x01 => (tyOfCode f.ty).map (.ld t · (BitVec.ofNat 20 f.opnd))
  | 0x02 => (tyOfCode f.ty).map (.ldf t · (BitVec.ofNat 20 f.opnd))
  | 0x03 => (tyOfCode f.ty).map (.st t · (BitVec.ofNat 20 f.opnd))
  | 0x04 => (tyOfCode f.ty).map (.stf t · (BitVec.ofNat 20 f.opnd))
  | 0x05 => (tyOfCode f.ty).map (.ldi t · (BitVec.ofNat 20 f.opnd))
  | 0x06 => (tyOfCode f.ty).map (.ldx t · (BitVec.ofNat 64 (f.ext.headD 0 + (f.ext.drop 1).headD 0 * 2 ^ 32)))
  | 0x07 => (tyOfCode f.ty).map (.ldix t · (BitVec.ofNat 20 f.opnd))
  | 0x08 => (tyOfCode f.ty).map (.stix t · (BitVec.ofNat 20 f.opnd))
  | 0x09 => some (.dup t)
  | 0x0A => some (.drop t)
  | 0x0B => some (.swap t)
  | 0x10 => (tyOfCode f.ty).map (.add t ·)
  | 0x11 => (tyOfCode f.ty).map (.sub t ·)
  | 0x12 => (tyOfCode f.ty).map (.mul t ·)
  | 0x13 => (tyOfCode f.ty).map (.div t ·)
  | 0x14 => (tyOfCode f.ty).map (.mod t ·)
  | 0x15 => (tyOfCode f.ty).map (.neg t ·)
  | 0x16 => (tyOfCode f.ty).map (.abs t ·)
  | 0x17 => (tyOfCode f.ty).map (.min t ·)
  | 0x18 => (tyOfCode f.ty).map (.max t ·)
  | 0x19 => (tyOfCode f.ty).map (.limit t ·)
  | 0x1A => (tyOfCode f.ty).map (.math t · (BitVec.ofNat 4 f.opnd))
  | 0x1B => (tyOfCode f.ty).map (.sel t ·)
  | 0x20 => (tyOfCode f.ty).map (.andB t ·)
  | 0x21 => (tyOfCode f.ty).map (.orB t ·)
  | 0x22 => (tyOfCode f.ty).map (.xor t ·)
  | 0x23 => (tyOfCode f.ty).map (.notB t ·)
  | 0x24 => (tyOfCode f.ty).map (.shl t ·)
  | 0x25 => (tyOfCode f.ty).map (.shr t ·)
  | 0x26 => (tyOfCode f.ty).map (.rol t ·)
  | 0x27 => (tyOfCode f.ty).map (.ror t ·)
  | 0x30 => (tyOfCode f.ty).map (.eq t ·)
  | 0x31 => (tyOfCode f.ty).map (.ne t ·)
  | 0x32 => (tyOfCode f.ty).map (.lt t ·)
  | 0x33 => (tyOfCode f.ty).map (.le t ·)
  | 0x34 => (tyOfCode f.ty).map (.gt t ·)
  | 0x35 => (tyOfCode f.ty).map (.ge t ·)
  | 0x38 => match tyOfCode f.ty, tyOfCode f.opnd with
    | some a, some b => some (.cvt t a b)
    | _, _ => none
  | 0x40 => some (.jmp t (BitVec.ofNat 20 f.opnd))
  | 0x41 => some (.jmpc t (BitVec.ofNat 20 f.opnd))
  | 0x42 => some (.jmpcn t (BitVec.ofNat 20 f.opnd))
  | 0x43 => some (.call t (f.ty == 1) (BitVec.ofNat 20 f.opnd) (BitVec.ofNat 12 (f.ext.headD 0)))
  | 0x44 => some (.ret t)
  | 0x50 => some (.ton t (f.ty == 1) (BitVec.ofNat 20 f.opnd))
  | 0x51 => some (.tof t (f.ty == 1) (BitVec.ofNat 20 f.opnd))
  | 0x52 => some (.tp t (f.ty == 1) (BitVec.ofNat 20 f.opnd))
  | 0x53 => some (.ctu t (f.ty == 1) (BitVec.ofNat 20 f.opnd))
  | 0x54 => some (.ctd t (f.ty == 1) (BitVec.ofNat 20 f.opnd))
  | 0x55 => some (.ctud t (f.ty == 1) (BitVec.ofNat 20 f.opnd))
  | 0x56 => some (.rTrig t (f.ty == 1) (BitVec.ofNat 20 f.opnd))
  | 0x57 => some (.fTrig t (f.ty == 1) (BitVec.ofNat 20 f.opnd))
  | 0x60 => some (.dfw t (f.ty == 1) (BitVec.ofNat 20 f.opnd) (BitVec.ofNat 32 (f.ext.headD 0)))
  | 0x61 => (tyOfCode f.ty).map (.srd t · (BitVec.ofNat 20 f.opnd) (BitVec.ofNat 4 (f.ext.headD 0 % 16)) (BitVec.ofNat 3 (f.ext.headD 0 / 16)))
  | 0x62 => (tyOfCode f.ty).map (.lpr t · (BitVec.ofNat 9 (f.opnd % 512)) (BitVec.ofNat 8 (f.opnd / 4096)))
  | 0x63 => (tyOfCode f.ty).map (.lpw t · (BitVec.ofNat 9 (f.opnd % 512)) (BitVec.ofNat 8 (f.opnd / 4096)))
  | 0x64 => some (.jrn t (BitVec.ofNat 5 (f.opnd % 32)) (BitVec.ofNat 3 (f.opnd / 256)) (BitVec.ofNat 16 (f.ext.headD 0 % 65536))
    (BitVec.ofNat 8 (f.ext.headD 0 / 65536)))
  | 0x65 => some (.evr t (BitVec.ofNat 5 f.opnd))
  | 0x66 => (tyOfCode f.ty).map (.lds t · (BitVec.ofNat 20 f.opnd))
  | _ => none

/-- The task whose scan runs a TIC instruction. -/
def ticTask : Instr → Option (BitVec 5)
  | .ld t _ _ => some t
  | .ldf t _ _ => some t
  | .st t _ _ => some t
  | .stf t _ _ => some t
  | .ldi t _ _ => some t
  | .ldx t _ _ => some t
  | .ldix t _ _ => some t
  | .stix t _ _ => some t
  | .dup t => some t
  | .drop t => some t
  | .swap t => some t
  | .add t _ => some t
  | .sub t _ => some t
  | .mul t _ => some t
  | .div t _ => some t
  | .mod t _ => some t
  | .neg t _ => some t
  | .abs t _ => some t
  | .min t _ => some t
  | .max t _ => some t
  | .limit t _ => some t
  | .math t _ _ => some t
  | .sel t _ => some t
  | .andB t _ => some t
  | .orB t _ => some t
  | .xor t _ => some t
  | .notB t _ => some t
  | .shl t _ => some t
  | .shr t _ => some t
  | .rol t _ => some t
  | .ror t _ => some t
  | .eq t _ => some t
  | .ne t _ => some t
  | .lt t _ => some t
  | .le t _ => some t
  | .gt t _ => some t
  | .ge t _ => some t
  | .cvt t _ _ => some t
  | .jmp t _ => some t
  | .jmpc t _ => some t
  | .jmpcn t _ => some t
  | .call t _ _ _ => some t
  | .ret t => some t
  | .ton t _ _ => some t
  | .tof t _ _ => some t
  | .tp t _ _ => some t
  | .ctu t _ _ => some t
  | .ctd t _ _ => some t
  | .ctud t _ _ => some t
  | .rTrig t _ _ => some t
  | .fTrig t _ _ => some t
  | .dfw t _ _ _ => some t
  | .srd t _ _ _ _ => some t
  | .lpr t _ _ _ => some t
  | .lpw t _ _ _ => some t
  | .jrn t _ _ _ _ => some t
  | .evr t _ => some t
  | .lds t _ _ => some t
  | .vinValid => none
  | .resetNAssert => none
  | .resetNRelease => none
  | .watchdogExpiry => none
  | .pfailWarn _ _ => none
  | .flushComplete _ => none
  | .vinBelowReset => none
  | .hostWarm _ _ => none
  | .hostCold _ _ => none
  | .hostDefault _ _ => none
  | .hfioQualified => none
  | .safePatternLoaded => none
  | .mooringEvaluate _ => none
  | .mooringLoopSample _ => none
  | .mooringPulseEnd _ => none
  | .interlockEvaluation => none
  | .xtalQualified _ => none
  | .xtalRetry _ => none
  | .firmwareVerify _ => none
  | .manifestVerify _ => none
  | .holdOk => none
  | .tideCycleBoundary _ => none
  | .tideLock => none
  | .acquisitionTimeout => none
  | .coastStart => none
  | .relockStart _ => none
  | .phaseJump _ => none
  | .slewEnd => none
  | .tideCycleRead _ => none
  | .tideZcCycleRead _ => none
  | .snapshotEndRead _ _ => none
  | .snapshotTimeout _ _ => none
  | .tideConvGo _ _ => none
  | .tideConvDone => none
  | .optimisationPeriodBoundary _ => none
  | .scanTaskStart _ => none
  | .loopGroupSample _ => none
  | .loopPulseEnd _ => none
  | .ferryFrameLaunch _ => none
  | .runAheadStart _ => none
  | .solverDeadline _ _ => none
  | .unitSlow _ => none
  | .meterTariffCheck _ => none
  | .iteration _ => none
  | .factorStep _ => none
  | .outerIterationEnd => none
  | .deliveryPass => none
  | .resultsFixed => none
  | .checkpointDone => none
  | .submit _ => none
  | .solVdataRead _ => none
  | .eventTaskDispatch _ => none
  | .errorTaskDispatch => none
  | .scanCommit _ => none
  | .resolution _ => none
  | .coreMismatch _ => none
  | .retainCopy => none
  | .forceSet _ _ => none
  | .forceClear _ _ => none
  | .forceClearAll _ _ => none
  | .scanFrcSelWrite _ _ => none
  | .scanTExecmaxRead _ => none
  | .testStart _ _ => none
  | .testStop _ _ => none
  | .captureArm _ _ => none
  | .captureStop _ _ => none
  | .loopCapTagRead _ => none
  | .ferryReply _ _ => none
  | .pollReply _ _ => none
  | .pollTimeout _ => none
  | .rejoin _ _ => none
  | .frameReceived _ _ _ => none
  | .ptpMessage _ _ _ => none
  | .linkChange _ _ _ => none
  | .frameLaunch _ => none
  | .txanChange _ _ _ => none
  | .ntimeIncrFracWrite _ _ => none
  | .ntimeStep _ _ => none
  | .leaseSend => none
  | .lease _ _ _ _ _ => none
  | .leaseAck _ _ _ _ => none
  | .fenceOutDrop => none
  | .selfFence => none
  | .fenceInHigh => none
  | .fenceRestart => none
  | .pairTakeover => none
  | .image _ _ => none
  | .sample _ _ => none
  | .tideMessage _ _ => none
  | .events _ _ => none
  | .solver _ _ => none
  | .digest _ _ => none
  | .health _ _ => none
  | .resync _ _ _ _ => none
  | .switchMsg _ _ => none
  | .take _ => none
  | .crossingLinkDown => none
  | .laneRecover _ => none
  | .peerOkInLow => none
  | .peerOkTimeout => none
  | .pairCtrlSwitch _ _ => none
  | .pairCtrlResync _ _ => none
  | .healthFrame => none
  | .tileBist _ _ => none
  | .corePairBist _ _ => none
  | .eccScrubError _ _ => none
  | .outputStageTest _ _ => none
  | .clearFault _ _ => none
  | .ioDieUpdate => none
  | .inputFilterChange _ _ => none
  | .pulseInputChange _ _ => none
  | .pulseMergeEnd _ => none
  | .meterEdgeQualified _ => none
  | .meterCountBegin _ => none
  | .meterRateUpdate => none
  | .meterClear _ _ => none
  | .meterPreset _ _ _ => none
  | .readbackMismatch _ => none
  | .thermalShutdown _ => none
  | .thermalRestart _ => none
  | .ioWatchdogTrip _ => none
  | .groupTimerExpiry _ => none
  | .vfldFault _ => none
  | .vfldReturn _ => none
  | .journalFlushEnd => none
  | .flush _ _ => none
  | .extract _ _ => none
  | .jrnExtractDone => none
  | .journalRebuildEnd => none
  | .optimeStore => none
  | .dailyAnchor => none
  | .jrnData7Read _ => none
  | .attest _ _ => none
  | .endorse _ _ => none
  | .keyOrigin _ _ => none
  | .generate _ _ => none
  | .importKey _ _ => none
  | .install _ _ => none
  | .load _ _ => none
  | .enrolArm _ _ => none
  | .fuseCommit _ _ => none
  | .readChain _ _ => none
  | .readBlob _ _ => none
  | .keyCommandDone => none
  | .clkMonTrip _ => none
  | .loopReferenceSwitch => none
  | .clkLoopFail _ => none
  | .hfioTrim => none
  | .sleep _ _ => none
  | .deep _ _ => none
  | .wake _ => none
  | .clkRunEnWrite _ _ => none
  | .fmeasStart _ => none
  | .fmeasDone _ => none
  | .fmeasErr => none
  | .calendarSecond => none
  | .calAlarm _ => none
  | .xtal2Stop => none
  | .backupBrownout => none
  | .backupPowerOnReset => none
  | .vbatSwitch _ => none
  | .vbatCheck _ => none
  | .calSet _ _ => none
  | .shift _ _ => none
  | .ptpSet _ _ => none
  | .automaticSetting => none
  | .hspiRead _ _ => none
  | .hspiReadTimeout _ => none
  | .hspiWrite _ _ _ => none
  | .hspiStatus => none
  | .hello _ _ => none
  | .prove _ _ _ => none
  | .mgmtRead _ _ _ => none
  | .mgmtWrite _ _ _ _ => none
  | .close _ => none
  | .flRead _ _ => none
  | .flProgram _ _ => none
  | .flErase _ _ => none
  | .acceptOther _ _ _ _ => none
  | .flashDone _ => none
  | .registerWrite _ _ _ => none
  | .crossingLinkUp => none
  | .badCrcCopy _ => none
  | .peerOkInChange _ => none
  | .announceReceiptTimeout => none
  | .holdLow => none
  | .uncorrectableError _ => none
  | .meterSaveDone => none
  | .retainedCopySealed => none
  | .ntimeSecLoRead _ => none
  | .mtrTotalLoRead _ => none
  | .jrnOptimeLoRead _ => none
  | .calSubsecRead _ => none
  | .hspiIgnoredTransaction _ => none

/-- Units of an instruction towards its scan's count (09 R255, R270); DFW's depend on the count in its buffer. -/
def ticUnits (r : Run) : Instr → Nat
  | .ld _ _ _ => 1
  | .ldf _ _ _ => 1
  | .st _ _ _ => 1
  | .stf _ _ _ => 1
  | .ldi _ _ _ => 1
  | .ldx _ _ _ => 1
  | .ldix _ _ _ => 1
  | .stix _ _ _ => 1
  | .dup _ => 1
  | .drop _ => 1
  | .swap _ => 1
  | .add _ _ => 1
  | .sub _ _ => 1
  | .mul _ _ => 1
  | .div _ _ => 1
  | .mod _ _ => 1
  | .neg _ _ => 1
  | .abs _ _ => 1
  | .min _ _ => 1
  | .max _ _ => 1
  | .limit _ _ => 1
  | .math _ _ _ => 24
  | .sel _ _ => 1
  | .andB _ _ => 1
  | .orB _ _ => 1
  | .xor _ _ => 1
  | .notB _ _ => 1
  | .shl _ _ => 1
  | .shr _ _ => 1
  | .rol _ _ => 1
  | .ror _ _ => 1
  | .eq _ _ => 1
  | .ne _ _ => 1
  | .lt _ _ => 1
  | .le _ _ => 1
  | .gt _ _ => 1
  | .ge _ _ => 1
  | .cvt _ _ _ => 1
  | .jmp _ _ => 1
  | .jmpc _ _ => 1
  | .jmpcn _ _ => 1
  | .call _ _ _ _ => 2
  | .ret _ => 1
  | .ton _ _ _ => 2
  | .tof _ _ _ => 2
  | .tp _ _ _ => 2
  | .ctu _ _ _ => 2
  | .ctd _ _ _ => 2
  | .ctud _ _ _ => 2
  | .rTrig _ _ _ => 1
  | .fTrig _ _ _ => 1
  | .dfw _ rel base _ => 2 + (dfwCount r (operandIndex r rel base) + 3) / 4
  | .srd _ _ _ _ _ => 4
  | .lpr _ _ _ _ => 2
  | .lpw _ _ _ _ => 2
  | .jrn _ _ _ _ _ => 4
  | .evr _ _ => 2
  | .lds _ _ _ => 1
  | .vinValid => 0
  | .resetNAssert => 0
  | .resetNRelease => 0
  | .watchdogExpiry => 0
  | .pfailWarn _ _ => 0
  | .flushComplete _ => 0
  | .vinBelowReset => 0
  | .hostWarm _ _ => 0
  | .hostCold _ _ => 0
  | .hostDefault _ _ => 0
  | .hfioQualified => 0
  | .safePatternLoaded => 0
  | .mooringEvaluate _ => 0
  | .mooringLoopSample _ => 0
  | .mooringPulseEnd _ => 0
  | .interlockEvaluation => 0
  | .xtalQualified _ => 0
  | .xtalRetry _ => 0
  | .firmwareVerify _ => 0
  | .manifestVerify _ => 0
  | .holdOk => 0
  | .tideCycleBoundary _ => 0
  | .tideLock => 0
  | .acquisitionTimeout => 0
  | .coastStart => 0
  | .relockStart _ => 0
  | .phaseJump _ => 0
  | .slewEnd => 0
  | .tideCycleRead _ => 0
  | .tideZcCycleRead _ => 0
  | .snapshotEndRead _ _ => 0
  | .snapshotTimeout _ _ => 0
  | .tideConvGo _ _ => 0
  | .tideConvDone => 0
  | .optimisationPeriodBoundary _ => 0
  | .scanTaskStart _ => 0
  | .loopGroupSample _ => 0
  | .loopPulseEnd _ => 0
  | .ferryFrameLaunch _ => 0
  | .runAheadStart _ => 0
  | .solverDeadline _ _ => 0
  | .unitSlow _ => 0
  | .meterTariffCheck _ => 0
  | .iteration _ => 0
  | .factorStep _ => 0
  | .outerIterationEnd => 0
  | .deliveryPass => 0
  | .resultsFixed => 0
  | .checkpointDone => 0
  | .submit _ => 0
  | .solVdataRead _ => 0
  | .eventTaskDispatch _ => 0
  | .errorTaskDispatch => 0
  | .scanCommit _ => 0
  | .resolution _ => 0
  | .coreMismatch _ => 0
  | .retainCopy => 0
  | .forceSet _ _ => 0
  | .forceClear _ _ => 0
  | .forceClearAll _ _ => 0
  | .scanFrcSelWrite _ _ => 0
  | .scanTExecmaxRead _ => 0
  | .testStart _ _ => 0
  | .testStop _ _ => 0
  | .captureArm _ _ => 0
  | .captureStop _ _ => 0
  | .loopCapTagRead _ => 0
  | .ferryReply _ _ => 0
  | .pollReply _ _ => 0
  | .pollTimeout _ => 0
  | .rejoin _ _ => 0
  | .frameReceived _ _ _ => 0
  | .ptpMessage _ _ _ => 0
  | .linkChange _ _ _ => 0
  | .frameLaunch _ => 0
  | .txanChange _ _ _ => 0
  | .ntimeIncrFracWrite _ _ => 0
  | .ntimeStep _ _ => 0
  | .leaseSend => 0
  | .lease _ _ _ _ _ => 0
  | .leaseAck _ _ _ _ => 0
  | .fenceOutDrop => 0
  | .selfFence => 0
  | .fenceInHigh => 0
  | .fenceRestart => 0
  | .pairTakeover => 0
  | .image _ _ => 0
  | .sample _ _ => 0
  | .tideMessage _ _ => 0
  | .events _ _ => 0
  | .solver _ _ => 0
  | .digest _ _ => 0
  | .health _ _ => 0
  | .resync _ _ _ _ => 0
  | .switchMsg _ _ => 0
  | .take _ => 0
  | .crossingLinkDown => 0
  | .laneRecover _ => 0
  | .peerOkInLow => 0
  | .peerOkTimeout => 0
  | .pairCtrlSwitch _ _ => 0
  | .pairCtrlResync _ _ => 0
  | .healthFrame => 0
  | .tileBist _ _ => 0
  | .corePairBist _ _ => 0
  | .eccScrubError _ _ => 0
  | .outputStageTest _ _ => 0
  | .clearFault _ _ => 0
  | .ioDieUpdate => 0
  | .inputFilterChange _ _ => 0
  | .pulseInputChange _ _ => 0
  | .pulseMergeEnd _ => 0
  | .meterEdgeQualified _ => 0
  | .meterCountBegin _ => 0
  | .meterRateUpdate => 0
  | .meterClear _ _ => 0
  | .meterPreset _ _ _ => 0
  | .readbackMismatch _ => 0
  | .thermalShutdown _ => 0
  | .thermalRestart _ => 0
  | .ioWatchdogTrip _ => 0
  | .groupTimerExpiry _ => 0
  | .vfldFault _ => 0
  | .vfldReturn _ => 0
  | .journalFlushEnd => 0
  | .flush _ _ => 0
  | .extract _ _ => 0
  | .jrnExtractDone => 0
  | .journalRebuildEnd => 0
  | .optimeStore => 0
  | .dailyAnchor => 0
  | .jrnData7Read _ => 0
  | .attest _ _ => 0
  | .endorse _ _ => 0
  | .keyOrigin _ _ => 0
  | .generate _ _ => 0
  | .importKey _ _ => 0
  | .install _ _ => 0
  | .load _ _ => 0
  | .enrolArm _ _ => 0
  | .fuseCommit _ _ => 0
  | .readChain _ _ => 0
  | .readBlob _ _ => 0
  | .keyCommandDone => 0
  | .clkMonTrip _ => 0
  | .loopReferenceSwitch => 0
  | .clkLoopFail _ => 0
  | .hfioTrim => 0
  | .sleep _ _ => 0
  | .deep _ _ => 0
  | .wake _ => 0
  | .clkRunEnWrite _ _ => 0
  | .fmeasStart _ => 0
  | .fmeasDone _ => 0
  | .fmeasErr => 0
  | .calendarSecond => 0
  | .calAlarm _ => 0
  | .xtal2Stop => 0
  | .backupBrownout => 0
  | .backupPowerOnReset => 0
  | .vbatSwitch _ => 0
  | .vbatCheck _ => 0
  | .calSet _ _ => 0
  | .shift _ _ => 0
  | .ptpSet _ _ => 0
  | .automaticSetting => 0
  | .hspiRead _ _ => 0
  | .hspiReadTimeout _ => 0
  | .hspiWrite _ _ _ => 0
  | .hspiStatus => 0
  | .hello _ _ => 0
  | .prove _ _ _ => 0
  | .mgmtRead _ _ _ => 0
  | .mgmtWrite _ _ _ _ => 0
  | .close _ => 0
  | .flRead _ _ => 0
  | .flProgram _ _ => 0
  | .flErase _ _ => 0
  | .acceptOther _ _ _ _ => 0
  | .flashDone _ => 0
  | .registerWrite _ _ _ => 0
  | .crossingLinkUp => 0
  | .badCrcCopy _ => 0
  | .peerOkInChange _ => 0
  | .announceReceiptTimeout => 0
  | .holdLow => 0
  | .uncorrectableError _ => 0
  | .meterSaveDone => 0
  | .retainedCopySealed => 0
  | .ntimeSecLoRead _ => 0
  | .mtrTotalLoRead _ => 0
  | .jrnOptimeLoRead _ => 0
  | .calSubsecRead _ => 0
  | .hspiIgnoredTransaction _ => 0

end Sys2Proof.Machine
end

