-- ==== Sys2Proof/WellFormed.lean ====
section
/-! DEFINITION. Which commands are well formed: the code words of a TIC instruction and the checks that verification makes
of one (09 R241, R242, R253), and the lengths and ranges that a frame, a message or a name has. -/

namespace Sys2Proof

open Sys2Proof.Machine

/-- A TIC instruction that verification admits. -/
def ticOk (i : Instr) : Bool := (ticFields i).any insOk

/-- The value of LDX fits its extension words (09 R242). -/
def ldxFits (ty : Ty) (v : DWord) : Bool := tyWords ty == 2 || decide (v.toNat < 2 ^ 32)

/-- A frame without its FCS has 60 to 1,556 bytes (13 R367). -/
def frameOk (f : Bytes) : Bool := decide (60 ≤ f.length ∧ f.length ≤ 1556)

/-- Nanoseconds stay below one second (13 R377). -/
def Stamp.wf (t : Stamp) : Bool := decide (t.ns.toNat < 10 ^ 9)

/-- What the firmware decides is well formed: a step's nanoseconds and a reply's length. -/
def PtpAction.wf (a : PtpAction) : Bool :=
  (a.step.all fun x => decide (x.2.2.toNat < 10 ^ 9)) && a.reply.all fun r => frameOk r.2

/-- A command is well formed. -/
def Instr.wf : Instr → Bool
  | .vinValid => true
  | .resetNAssert => true
  | .resetNRelease => true
  | .watchdogExpiry => true
  | .pfailWarn _ _ => true
  | .flushComplete _ => true
  | .vinBelowReset => true
  | .hostWarm _ _ => true
  | .hostCold _ _ => true
  | .hostDefault _ _ => true
  | .hfioQualified => true
  | .safePatternLoaded => true
  | .mooringEvaluate _ => true
  | .mooringLoopSample _ => true
  | .mooringPulseEnd _ => true
  | .interlockEvaluation => true
  | .xtalQualified _ => true
  | .xtalRetry _ => true
  | .firmwareVerify _ => true
  | .manifestVerify _ => true
  | .holdOk => true
  | .tideCycleBoundary _ => true
  | .tideLock => true
  | .acquisitionTimeout => true
  | .coastStart => true
  | .relockStart _ => true
  | .phaseJump _ => true
  | .slewEnd => true
  | .tideCycleRead _ => true
  | .tideZcCycleRead _ => true
  | .snapshotEndRead _ _ => true
  | .snapshotTimeout _ _ => true
  | .tideConvGo _ _ => true
  | .tideConvDone => true
  | .optimisationPeriodBoundary _ => true
  | .scanTaskStart _ => true
  | .loopGroupSample _ => true
  | .loopPulseEnd _ => true
  | .ferryFrameLaunch _ => true
  | .runAheadStart _ => true
  | .solverDeadline _ rates => decide (rates.length ≤ 64)
  | .unitSlow _ => true
  | .meterTariffCheck _ => true
  | .iteration problem => decide (problem.toNat < 1040)
  | .factorStep problem => decide (problem.toNat < 1040)
  | .outerIterationEnd => true
  | .deliveryPass => true
  | .resultsFixed => true
  | .checkpointDone => true
  | .submit _ => true
  | .solVdataRead _ => true
  | .eventTaskDispatch _ => true
  | .errorTaskDispatch => true
  | .scanCommit _ => true
  | .resolution _ => true
  | .coreMismatch _ => true
  | .retainCopy => true
  | .forceSet _ _ => true
  | .forceClear _ _ => true
  | .forceClearAll _ _ => true
  | .scanFrcSelWrite _ _ => true
  | .scanTExecmaxRead _ => true
  | .ld task ty index => ticOk (.ld task ty index)
  | .ldf task ty off => ticOk (.ldf task ty off)
  | .st task ty index => ticOk (.st task ty index)
  | .stf task ty off => ticOk (.stf task ty off)
  | .ldi task ty imm => ticOk (.ldi task ty imm)
  | .ldx task ty value => ticOk (.ldx task ty value) && ldxFits ty value
  | .ldix task ty index => ticOk (.ldix task ty index)
  | .stix task ty index => ticOk (.stix task ty index)
  | .dup task => ticOk (.dup task)
  | .drop task => ticOk (.drop task)
  | .swap task => ticOk (.swap task)
  | .add task ty => ticOk (.add task ty)
  | .sub task ty => ticOk (.sub task ty)
  | .mul task ty => ticOk (.mul task ty)
  | .div task ty => ticOk (.div task ty)
  | .mod task ty => ticOk (.mod task ty)
  | .neg task ty => ticOk (.neg task ty)
  | .abs task ty => ticOk (.abs task ty)
  | .min task ty => ticOk (.min task ty)
  | .max task ty => ticOk (.max task ty)
  | .limit task ty => ticOk (.limit task ty)
  | .math task ty fn => ticOk (.math task ty fn)
  | .sel task ty => ticOk (.sel task ty)
  | .andB task ty => ticOk (.andB task ty)
  | .orB task ty => ticOk (.orB task ty)
  | .xor task ty => ticOk (.xor task ty)
  | .notB task ty => ticOk (.notB task ty)
  | .shl task ty => ticOk (.shl task ty)
  | .shr task ty => ticOk (.shr task ty)
  | .rol task ty => ticOk (.rol task ty)
  | .ror task ty => ticOk (.ror task ty)
  | .eq task ty => ticOk (.eq task ty)
  | .ne task ty => ticOk (.ne task ty)
  | .lt task ty => ticOk (.lt task ty)
  | .le task ty => ticOk (.le task ty)
  | .gt task ty => ticOk (.gt task ty)
  | .ge task ty => ticOk (.ge task ty)
  | .cvt task ty target => ticOk (.cvt task ty target)
  | .jmp task off => ticOk (.jmp task off)
  | .jmpc task off => ticOk (.jmpc task off)
  | .jmpcn task off => ticOk (.jmpcn task off)
  | .call task rel base pou => ticOk (.call task rel base pou)
  | .ret task => ticOk (.ret task)
  | .ton task rel base => ticOk (.ton task rel base)
  | .tof task rel base => ticOk (.tof task rel base)
  | .tp task rel base => ticOk (.tp task rel base)
  | .ctu task rel base => ticOk (.ctu task rel base)
  | .ctd task rel base => ticOk (.ctd task rel base)
  | .ctud task rel base => ticOk (.ctud task rel base)
  | .rTrig task rel base => ticOk (.rTrig task rel base)
  | .fTrig task rel base => ticOk (.fTrig task rel base)
  | .dfw task rel base capacity => ticOk (.dfw task rel base capacity)
  | .srd task ty problem vec scen => ticOk (.srd task ty problem vec scen)
  | .lpr task ty loop param => ticOk (.lpr task ty loop param)
  | .lpw task ty loop param => ticOk (.lpw task ty loop param)
  | .jrn task src severity code x => ticOk (.jrn task src severity code x)
  | .evr task src => ticOk (.evr task src)
  | .lds task ty x => ticOk (.lds task ty x)
  | .testStart _ _ => true
  | .testStop _ _ => true
  | .captureArm _ _ => true
  | .captureStop _ _ => true
  | .loopCapTagRead _ => true
  | .ferryReply _ frame => frameOk frame
  | .pollReply _ frame => frameOk frame
  | .pollTimeout station => decide (station.toNat < 1280)
  | .rejoin _ _ => true
  | .frameReceived _ _ _ => true
  | .ptpMessage _ msg act => frameOk msg && act.wf
  | .linkChange _ _ _ => true
  | .frameLaunch _ => true
  | .txanChange _ _ _ => true
  | .ntimeIncrFracWrite _ _ => true
  | .ntimeStep _ _ => true
  | .leaseSend => true
  | .lease _ _ _ t1 t4 => t1.wf && t4.wf
  | .leaseAck _ _ t2 t3 => t2.wf && t3.wf
  | .fenceOutDrop => true
  | .selfFence => true
  | .fenceInHigh => true
  | .fenceRestart => true
  | .pairTakeover => true
  | .image _ m => m.words.all fun e => decide (e.1 < 2 ^ 20)
  | .sample _ m => m.meas.all fun x => decide (0 < x.den)
  | .tideMessage _ _ => true
  | .events _ _ => true
  | .solver _ m => (m.spans.all fun x => decide (x.1.toNat < 1040)) && m.stopped.all fun x => decide (x.1.toNat < 1040)
  | .digest _ m => m.digest.length == 32
  | .health _ _ => true
  | .resync _ _ _ contents => contents.length == 4096
  | .switchMsg _ _ => true
  | .take _ => true
  | .crossingLinkDown => true
  | .laneRecover _ => true
  | .peerOkInLow => true
  | .peerOkTimeout => true
  | .pairCtrlSwitch _ _ => true
  | .pairCtrlResync _ _ => true
  | .healthFrame => true
  | .tileBist _ _ => true
  | .corePairBist pair _ => decide (pair.toNat < 5)
  | .eccScrubError _ _ => true
  | .outputStageTest _ _ => true
  | .clearFault _ _ => true
  | .ioDieUpdate => true
  | .inputFilterChange _ _ => true
  | .pulseInputChange _ _ => true
  | .pulseMergeEnd _ => true
  | .meterEdgeQualified _ => true
  | .meterCountBegin _ => true
  | .meterRateUpdate => true
  | .meterClear _ _ => true
  | .meterPreset _ _ _ => true
  | .readbackMismatch _ => true
  | .thermalShutdown _ => true
  | .thermalRestart _ => true
  | .ioWatchdogTrip _ => true
  | .groupTimerExpiry _ => true
  | .vfldFault _ => true
  | .vfldReturn _ => true
  | .journalFlushEnd => true
  | .flush _ _ => true
  | .extract _ _ => true
  | .jrnExtractDone => true
  | .journalRebuildEnd => true
  | .optimeStore => true
  | .dailyAnchor => true
  | .jrnData7Read _ => true
  | .attest _ _ => true
  | .endorse _ _ => true
  | .keyOrigin _ _ => true
  | .generate _ _ => true
  | .importKey _ _ => true
  | .install _ _ => true
  | .load _ _ => true
  | .enrolArm _ _ => true
  | .fuseCommit _ _ => true
  | .readChain _ _ => true
  | .readBlob _ _ => true
  | .keyCommandDone => true
  | .clkMonTrip _ => true
  | .loopReferenceSwitch => true
  | .clkLoopFail _ => true
  | .hfioTrim => true
  | .sleep _ _ => true
  | .deep _ _ => true
  | .wake _ => true
  | .clkRunEnWrite _ _ => true
  | .fmeasStart _ => true
  | .fmeasDone _ => true
  | .fmeasErr => true
  | .calendarSecond => true
  | .calAlarm _ => true
  | .xtal2Stop => true
  | .backupBrownout => true
  | .backupPowerOnReset => true
  | .vbatSwitch _ => true
  | .vbatCheck _ => true
  | .calSet _ _ => true
  | .shift _ _ => true
  | .ptpSet _ _ => true
  | .automaticSetting => true
  | .hspiRead _ _ => true
  | .hspiReadTimeout _ => true
  | .hspiWrite _ _ _ => true
  | .hspiStatus => true
  | .hello _ nonce => nonce.length == 16
  | .prove _ _ tag => tag.length == 32
  | .mgmtRead h _ _ => h.tag.length == 16
  | .mgmtWrite h _ count words => h.tag.length == 16 && words.length == count.toNat
  | .close h => h.tag.length == 16
  | .flRead _ _ => true
  | .flProgram _ _ => true
  | .flErase _ _ => true
  | .acceptOther _ _ _ _ => true
  | .flashDone _ => true
  | .registerWrite _ _ _ => true
  | .crossingLinkUp => true
  | .badCrcCopy _ => true
  | .peerOkInChange _ => true
  | .announceReceiptTimeout => true
  | .holdLow => true
  | .uncorrectableError _ => true
  | .meterSaveDone => true
  | .retainedCopySealed => true
  | .ntimeSecLoRead _ => true
  | .mtrTotalLoRead _ => true
  | .jrnOptimeLoRead _ => true
  | .calSubsecRead _ => true
  | .hspiIgnoredTransaction command => command != 0x0B && command != 0x02 && command != 0x05

end Sys2Proof
end

