-- ==== Sys2Proof/Safety.lean ====
section
/-! DEFINITION. The terms that the statements use: what a command gives, when a scan executes an instruction, and the
invariants of the block. -/

namespace Sys2Proof.Machine

open Sys2Proof

/-- A command answers a next state of which `P` holds. -/
def Gives (c : Instr) (s : State) (P : State → Prop) : Prop := ∃ t, exec c s = .next t ∧ P t

/-- The logic die runs, and no image of the active unit waits for its scan (a unit that is no standby has none). -/
structure Calm (s : State) : Prop where
  on : s.start.power = .on
  images : s.pair.images = []

/-- The core pair executes the scan `r` of task `t` next, and its count leaves room for `n` units (09 R270, 10 R279). -/
structure Scanning (s : State) (t : BitVec 5) (r : Run) (c : TaskCfg) (n : Nat) : Prop where
  calm : Calm s
  run : (s.task t.toNat).run = some r
  cfg : taskCfg s t.toNat = some c
  first : isRunning s t.toNat r = true
  room : r.units + n ≤ c.worst

/-- A scan after an instruction of so many words and units that leaves this evaluation stack. -/
def Run.after (r : Run) (words units : Nat) (stack : List DWord) : Run :=
  { r with stack := stack, pc := r.pc + words, units := r.units + units
           phase := if r.phase = .ready then .running else r.phase }

/-- An instruction takes the scan of its task on to `r`, and the data memory keeps its values. -/
def Continues (i : Instr) (s : State) (t : BitVec 5) (r : Run) : Prop :=
  Gives i s fun u => (u.task t.toNat).run = some r ∧ u.scan.data = s.scan.data

/-- An instruction faults: a speculated scan holds the fault until its resolution (10 R287); another is abandoned and its
task counts the fault (09 R272). The data memory keeps its values. -/
def FaultsWith (i : Instr) (s : State) (t : BitVec 5) (code : Nat) (r : Run) : Prop :=
  Gives i s fun u => u.scan.data = s.scan.data
    ∧ (r.spec = true → (u.task t.toNat).run = some { r with held := some { code := code, task := t.toNat, off := r.pc } })
    ∧ (r.spec = false → (u.task t.toNat).run = none ∧ (u.task t.toNat).faults = satInc (s.task t.toNat).faults
      ∧ u.evt.pend.getLsbD 160 = true)

/-- The words of a timer instance as a scan sees them (09 R260). -/
def timerAt (r : Run) (b : Nat) : TimerSt :=
  { q := (readVar r .udint b).getLsbD 1, run := (readVar r .udint b).getLsbD 2
    et := slotInt .time (readVar r .time (b + 2)), start := slotInt .time (readVar r .time (b + 4)) }

/-- An integer wrapped modulo 2^w, in the range of its type (09 R244, R256). -/
def wrapInt (ty : Ty) (x : Int) : Int := if tySigned ty then x.bmod (2 ^ tyBits ty) else x % (2 ^ tyBits ty : Nat)

/-- A start has begun at t0: its anchor is the first record, where the order keys in MRAM leave it room (17 R486), the power
cycle is counted, the forces are cleared and
everything volatile stands at its reset value but the coast counts, which go on since power-up; the calendar runs on
(02 R56; 04 R83, R101, R103; 17 R483, R492). -/
structure Restarted (why : Cause) (s t : State) : Prop where
  start : t.start.power = .on ∧ t.start.stage = 0 ∧ t.start.step = 0 ∧ t.start.adopted = false ∧ t.start.warn = false
  cause : t.start.cause = if s.mram.dev.flushBegan then .powerFail else why
  cycles : t.mram.dev.pcyc = s.mram.dev.pcyc + 1
  anchor : (∀ k, topKey t.mram.journal = some k → k / 16 < t.jrn.optime.toNat + 1000) →
    (t.jrn.buffer[0]?).map (fun r => (r.source, r.sub, r.code, r.payload)) = some (220, 0, 1, anchorPayload s)
  forces : ∀ n, n < 256 → Store.get none t.scan.forces n = none
  scans : t.scan.data = [] ∧ ∀ n, (t.task n).run = none
  outputs : t.fio.loaded = false
  tide : t.tide = { coastCycles := if why = .powerOn ∧ s.pins.vin = false then 0 else s.tide.coastCycles
                    coastEntries := if why = .powerOn ∧ s.pins.vin = false then 0 else s.tide.coastEntries }
  volatile : t.loop = {} ∧ t.sol = {} ∧ t.stn = {} ∧ t.clk = {} ∧ t.mtr = {} ∧ t.ntime = {} ∧ t.keys = {}
    ∧ t.hst = {} ∧ t.ports = [] ∧ t.moor = {} ∧ t.man = none
  calendar : t.cal = s.cal

/-- What every step keeps: flash in its canonical form, and at most 64 fuse steps blown (18 R508, R525). -/
def Fits (s : State) : Prop := Memory.wf 0xFF s.flash = true ∧ s.fuses ≤ 64

/-- No raise and no record of an edge is left undone (17 R475). -/
def Settled (s : State) : Prop := s.evt.edge = [] ∧ s.evt.edgePeer = [] ∧ s.jrn.edge = []

end Sys2Proof.Machine
end

