-- ==== Sys2Proof/Certificates/Slice0/Obligations.lean ====
section
/-! DEFINITION. The statements about the block. -/

open Sys2Proof Sys2Proof.Machine

/-! ## The queue, the step and the invariants -/

/-- A step runs the command at the front of the queue on the rest of the queue. -/
def Obligations.StepRunsFrontCommand : Prop :=
  ∀ (s : State) (c : Instr) (rest : List Instr), s.pending = c :: rest → step s = exec c { s with pending := rest }

/-- With no command waiting one PLL_NET cycle passes (model's choice, log entry 3): with the clocks running NTIME moves by
one increment, the microsecond counter by 4 ns while PLL_NET is locked, and nothing but the clocks changes. -/
def Obligations.IdleStepPassesOneCycle : Prop :=
  ∀ s : State, s.pending = [] → s.start.power = .on → s.ntime.started = true →
    ∃ t, step s = .next t
      ∧ t.ntime.ns.toNat * 2 ^ 32 + t.ntime.frac.toNat
          = (s.ntime.ns.toNat * 2 ^ 32 + s.ntime.frac.toNat + s.ntime.incr.toNat) % (10 ^ 9 * 2 ^ 32)
      ∧ (s.clk.lock.getLsbD 2 = true → t.clk.us = s.clk.us + BitVec.ofNat 64 ((s.clk.usSub + 1) / 250))
      ∧ t.pending = [] ∧ t.scan = s.scan ∧ t.loop = s.loop ∧ t.sol = s.sol ∧ t.stn = s.stn ∧ t.fio = s.fio ∧ t.mtr = s.mtr
      ∧ t.keys = s.keys ∧ t.pair = s.pair ∧ t.place = s.place ∧ t.hst = s.hst ∧ t.evt = s.evt ∧ t.ports = s.ports
      ∧ t.mram = s.mram ∧ t.flash = s.flash ∧ t.fuses = s.fuses ∧ t.start = s.start ∧ t.pins = s.pins ∧ t.man = s.man

/-- No command ends a run, adds or removes a waiting command, or lowers the fuse count.
The model's choices it rests on: log entry 2. -/
def Obligations.CommandsKeepQueueAndFuses : Prop :=
  ∀ (c : Instr) (s : State), ∃ t, exec c s = .next t ∧ t.pending = s.pending ∧ s.fuses ≤ t.fuses

/-- Every step keeps the flash in its canonical form and the fuse count at most 64. -/
def Obligations.StepKeepsFlashAndFuses : Prop :=
  ∀ s t : State, Fits s → step s = .next t → Fits t

/-- Every step finishes the raises and records of its edge.
The model's choices it rests on: log entry 8. -/
def Obligations.StepFinishesEdge : Prop :=
  ∀ s t : State, Settled s → step s = .next t → Settled t

/-- The invariants hold at reset.
The model's choices it rests on: log entry 1. -/
def Obligations.InvariantsHoldAtReset : Prop := Fits State.reset ∧ Settled State.reset ∧ State.reset.pending = []

/-! ## TIC -/

/-- For every well-formed TIC instruction, decoding its code words gives it back, whatever words follow. -/
def Obligations.TicDecodeOfEncode : Prop :=
  ∀ (i : Instr) (t : BitVec 5) (f : Ins) (pos : Nat) (rest : List Word),
    i.wf = true → ticTask i = some t → ticFields i = some f →
      (decodeIns pos (insCode f ++ rest)).bind (ticInstr t) = some i
      ∧ (decodeIns pos (insCode f ++ rest)).map Ins.size = some (insCode f).length

/-- Some code words written out from the encoding table decode to their instructions. -/
def Obligations.TicWordsDecode : Prop :=
  (decodeIns 0 [0x01400123]).bind (ticInstr 3) = some (.ld 3 .dint 0x123)
  ∧ (decodeIns 0 [0x05AFFFFF]).bind (ticInstr 0) = some (.ldi 0 .real (-1))
  ∧ (decodeIns 0 [0x06B00000, 0x54442D18, 0x400921FB]).bind (ticInstr 0) = some (.ldx 0 .lreal 0x400921FB54442D18)
  ∧ (decodeIns 0 [0x10400000]).bind (ticInstr 1) = some (.add 1 .dint)
  ∧ (decodeIns 0 [0x38A0000B]).bind (ticInstr 1) = some (.cvt 1 .real .lreal)
  ∧ (decodeIns 0 [0x43100040, 0x00000007]).bind (ticInstr 2) = some (.call 2 true 0x40 7)
  ∧ (decodeIns 0 [0x50000100]).bind (ticInstr 2) = some (.ton 2 false 0x100)
  ∧ (decodeIns 0 [0x61400009, 0x00000031]).bind (ticInstr 2) = some (.srd 2 .dint 9 1 3)
  ∧ (decodeIns 0 [0x6240200A]).bind (ticInstr 2) = some (.lpr 2 .dint 10 2)
  ∧ (decodeIns 0 [0x64000305, 0x00121234]).bind (ticInstr 2) = some (.jrn 2 5 3 0x1234 0x12)
  ∧ (decodeIns 0 [0x66400000]).bind (ticInstr 2) = none
  ∧ (decodeIns 0 [0x00000000]).bind (ticInstr 2) = none
  ∧ (decodeIns 0 [0x10100000]).bind (ticInstr 2) = none

/-- Loads, immediates and stack instructions: what each leaves on the stack.
The model's choices it rests on: log entry 26. -/
def Obligations.TicPushesAndStackMoves : Prop :=
  ∀ (s : State) (t : BitVec 5) (r : Run) (c : TaskCfg), Scanning s t r c 1 →
    (∀ (ty : Ty) (i : BitVec 20), Continues (.ld t ty i) s t
      { r.after 1 1 (readVar r ty i.toNat :: r.stack) with loads := (loadVar r ty i.toNat).2.loads })
    ∧ (∀ (ty : Ty) (i : BitVec 20), Continues (.ldf t ty i) s t
      { r.after 1 1 (readVar r ty (r.base + i.toNat) :: r.stack) with
        loads := (loadVar r ty (r.base + i.toNat)).2.loads })
    ∧ (∀ (ty : Ty) (x : BitVec 20), Continues (.ldi t ty x) s t
      (r.after 1 1 ((if tyFloat ty then fSlot ty (intF x.toInt) else canon ty (BitVec.ofInt 64 x.toInt)) :: r.stack)))
    ∧ (∀ (ty : Ty) (v : DWord), Continues (.ldx t ty v) s t (r.after (1 + tyWords ty) 1 (canon ty v :: r.stack)))
    ∧ (∀ (ty : Ty) (n : BitVec 20), ldsType n.toNat = some ty →
      Continues (.lds t ty n) s t (r.after 1 1 (ldsValue r.lds n.toNat :: r.stack)))
    ∧ (∀ a k, r.stack = a :: k → Continues (.dup t) s t (r.after 1 1 (a :: a :: k))
      ∧ Continues (.drop t) s t (r.after 1 1 k))
    ∧ (∀ a b k, r.stack = a :: b :: k → Continues (.swap t) s t (r.after 1 1 (b :: a :: k)))

/-- Stores land in the landing buffer: the scan reads the stored value back, every other variable as before, and the data
memory keeps its values.
The model's choices it rests on: log entries 26 and 28. -/
def Obligations.TicStoresLand : Prop :=
  ∀ (s : State) (t : BitVec 5) (r : Run) (c : TaskCfg) (ty : Ty) (v : DWord) (k : List DWord),
    Scanning s t r c 1 → r.stack = v :: k → (r.entries.length + 1) * 16 ≤ c.storeSize →
      ∀ (x : BitVec 20) (i : Instr) (n : Nat), (i = .st t ty x ∧ n = x.toNat) ∨ (i = .stf t ty x ∧ n = r.base + x.toNat) →
        ∃ r', Continues i s t r' ∧ r'.stack = k ∧ r'.pc = r.pc + 1 ∧ r'.units = r.units + 1
          ∧ readVar r' ty n = canon ty v ∧ ∀ m, m ≠ n → ∀ ty', readVar r' ty' m = readVar r ty' m

/-- LDIX and STIX reach element i of the region that holds their operand, and fault with INDEX outside it. -/
def Obligations.TicIndexedElements : Prop :=
  ∀ (s : State) (t : BitVec 5) (r : Run) (c : TaskCfg) (ty : Ty) (x : BitVec 20) (g : Region),
    Scanning s t r c 1 → regionAt s.dataArea x.toNat = some g →
      (∀ i k, r.stack = i :: k →
        (∀ j : Nat, 0 ≤ slotInt .dint i → (j : Int) = x.toNat + slotInt .dint i * tyWords ty → j < g.stop →
          Continues (.ldix t ty x) s t { r.after 1 1 (readVar r ty j :: k) with loads := (loadVar r ty j).2.loads })
        ∧ (slotInt .dint i < 0 ∨ (g.stop : Int) ≤ x.toNat + slotInt .dint i * tyWords ty →
          FaultsWith (.ldix t ty x) s t 2 r))
      ∧ (∀ v i k, r.stack = v :: i :: k →
        (∀ j : Nat, 0 ≤ slotInt .dint i → (j : Int) = x.toNat + slotInt .dint i * tyWords ty → j < g.stop →
          (r.entries.length + 1) * 16 ≤ c.storeSize →
            ∃ r', Continues (.stix t ty x) s t r' ∧ r'.stack = k ∧ readVar r' ty j = canon ty v)
        ∧ (slotInt .dint i < 0 ∨ (g.stop : Int) ≤ x.toNat + slotInt .dint i * tyWords ty →
          FaultsWith (.stix t ty x) s t 2 r))

/-- Two-operand instructions pop right and then left and push their result.
The model's choices it rests on: log entry 26. -/
def Obligations.TicTwoOperandResults : Prop :=
  ∀ (s : State) (t : BitVec 5) (r : Run) (c : TaskCfg) (ty : Ty) (a b : DWord) (k : List DWord),
    Scanning s t r c 1 → r.stack = b :: a :: k →
      let gives := fun (i : Instr) (v : DWord) => Continues i s t (r.after 1 1 (v :: k))
      (tyN ty = true → gives (.add t ty) (arith 0 ty a b) ∧ gives (.sub t ty) (arith 1 ty a b)
        ∧ gives (.mul t ty) (arith 2 ty a b))
      ∧ gives (.min t ty) (minSlot ty a b) ∧ gives (.max t ty) (maxSlot ty a b)
      ∧ (tyB ty = true → gives (.andB t ty) (canon ty a &&& canon ty b) ∧ gives (.orB t ty) (canon ty a ||| canon ty b)
        ∧ gives (.xor t ty) (canon ty a ^^^ canon ty b))
      ∧ (tyB ty = true → ty ≠ .bool → gives (.shl t ty) (shiftSlot 0 ty a b) ∧ gives (.shr t ty) (shiftSlot 1 ty a b)
        ∧ gives (.rol t ty) (shiftSlot 2 ty a b) ∧ gives (.ror t ty) (shiftSlot 3 ty a b))
      ∧ (tyFloat ty = false →
        gives (.eq t ty) (boolSlot (decide (slotInt ty a = slotInt ty b)))
        ∧ gives (.ne t ty) (boolSlot (decide (slotInt ty a ≠ slotInt ty b)))
        ∧ gives (.lt t ty) (boolSlot (decide (slotInt ty a < slotInt ty b)))
        ∧ gives (.le t ty) (boolSlot (decide (slotInt ty a ≤ slotInt ty b)))
        ∧ gives (.gt t ty) (boolSlot (decide (slotInt ty b < slotInt ty a)))
        ∧ gives (.ge t ty) (boolSlot (decide (slotInt ty b ≤ slotInt ty a))))
      ∧ (tyFloat ty = true → slotF ty a = .nan ∨ slotF ty b = .nan →
        gives (.eq t ty) 0 ∧ gives (.ne t ty) 1 ∧ gives (.lt t ty) 0 ∧ gives (.le t ty) 0 ∧ gives (.gt t ty) 0
        ∧ gives (.ge t ty) 0)

/-- Integer arithmetic wraps modulo 2^w; DIV truncates; MOD follows the left operand; a zero right operand faults with
DIV_ZERO. -/
def Obligations.TicIntegerArithmetic : Prop :=
  ∀ (s : State) (t : BitVec 5) (r : Run) (c : TaskCfg) (ty : Ty),
    Scanning s t r c 1 → tyN ty = true → tyFloat ty = false →
      (∀ a b k, r.stack = b :: a :: k →
        let x := slotInt ty a
        let y := slotInt ty b
        let gives := fun (i : Instr) (n : Int) =>
          ∃ v, Continues i s t (r.after 1 1 (v :: k)) ∧ canon ty v = v ∧ slotInt ty v = wrapInt ty n
        gives (.add t ty) (x + y) ∧ gives (.sub t ty) (x - y) ∧ gives (.mul t ty) (x * y)
        ∧ (y ≠ 0 → gives (.div t ty) (x.tdiv y))
        ∧ (y ≠ 0 → tyI ty = true → gives (.mod t ty) (x - x.tdiv y * y))
        ∧ (y = 0 → FaultsWith (.div t ty) s t 1 r)
        ∧ (y = 0 → tyI ty = true → FaultsWith (.mod t ty) s t 1 r))
      ∧ (∀ a k, r.stack = a :: k →
        let gives := fun (i : Instr) (n : Int) =>
          ∃ v, Continues i s t (r.after 1 1 (v :: k)) ∧ canon ty v = v ∧ slotInt ty v = wrapInt ty n
        gives (.neg t ty) (-slotInt ty a) ∧ gives (.abs t ty) (slotInt ty a).natAbs)

/-- One-operand instructions, the functions of MATH, LIMIT and SEL.
The model's choices it rests on: log entries 26 and 57. -/
def Obligations.TicOneAndThreeOperandResults : Prop :=
  ∀ (s : State) (t : BitVec 5) (r : Run) (c : TaskCfg) (ty : Ty), Scanning s t r c 1 →
    (∀ a k, r.stack = a :: k →
      (tyB ty = true → ty ≠ .bool → Continues (.notB t ty) s t (r.after 1 1 (canon ty (~~~ canon ty a) :: k)))
      ∧ Continues (.notB t .bool) s t (r.after 1 1 (boolSlot (!slotBool a) :: k))
      ∧ (∀ u : Ty, Continues (.cvt t ty u) s t (r.after 1 1 ((convertSlot ty u a).1 :: k)))
      ∧ (∀ f : BitVec 4, tyFloat ty = true → f.toNat < 10 → r.units + 24 ≤ c.worst →
        Continues (.math t ty f) s t
          (r.after 1 24 (fSlot ty (mathF f.toNat (slotF ty a) (slotF ty a)).1 (mathF f.toNat (slotF ty a) (slotF ty a)).2
            :: k))))
    ∧ (∀ a b k, r.stack = b :: a :: k → ∀ f : BitVec 4, tyFloat ty = true → 10 ≤ f.toNat → f.toNat ≤ 11 →
      r.units + 24 ≤ c.worst → Continues (.math t ty f) s t
        (r.after 1 24 (fSlot ty (mathF f.toNat (slotF ty a) (slotF ty b)).1 (mathF f.toNat (slotF ty a) (slotF ty b)).2
          :: k)))
    ∧ (∀ x y z k, r.stack = z :: y :: x :: k →
      Continues (.limit t ty) s t (r.after 1 1 (limitSlot ty x y z :: k))
      ∧ Continues (.sel t ty) s t (r.after 1 1 (canon ty (if slotBool x then z else y) :: k)))

/-- Jumps, calls and returns: a callee begins with an empty share of the evaluation stack and its caller's slots return
with RET.
The model's choices it rests on: log entry 26. -/
def Obligations.TicControlFlow : Prop :=
  ∀ (s : State) (t : BitVec 5) (r : Run) (c : TaskCfg), Scanning s t r c 2 →
    (∀ o : BitVec 20, Continues (.jmp t o) s t { r.after 1 1 r.stack with pc := ((r.pc : Int) + 1 + o.toInt).toNat })
    ∧ (∀ (o : BitVec 20) (b : DWord) (k : List DWord), r.stack = b :: k →
      let stay := r.after 1 1 k
      let jump := { r.after 1 1 k with pc := ((r.pc : Int) + 1 + o.toInt).toNat }
      Continues (.jmpc t o) s t (if slotBool b then jump else stay)
      ∧ Continues (.jmpcn t o) s t (if slotBool b then stay else jump))
    ∧ (∀ (rel : Bool) (o : BitVec 20) (n : BitVec 12) (p : Pou),
      (s.man.map (·.code.pous)).bind (·[n.toNat]?) = some p → p.kind ≠ 1 →
        Continues (.call t rel o n) s t
          { r.after 2 2 [] with
            pc := p.first, base := (if rel then r.base + o.toNat else o.toNat)
            calls := { pc := r.pc + 2, base := r.base, stack := r.stack, gives := p.result != 0 } :: r.calls })
    ∧ (∀ v k, r.calls = v :: k →
      Continues (.ret t) s t { r.after 1 1 ((if v.gives then r.stack.take 1 else []) ++ v.stack) with
        pc := v.pc, base := v.base, calls := k })
    ∧ (r.calls = [] → ∃ r', Continues (.ret t) s t r' ∧ r'.done = true ∧ r'.stack = r.stack ∧ r'.entries = r.entries)

/-- TON, TOF and TP: the pseudocode of the timers on their instance words.
The model's choices it rests on: log entry 26. -/
def Obligations.TicTimerInstances : Prop :=
  ∀ (s : State) (t : BitVec 5) (r : Run) (c : TaskCfg) (rel : Bool) (o : BitVec 20) (inp p : DWord) (k : List DWord),
    Scanning s t r c 2 → r.stack = p :: inp :: k → (r.entries.length + 3) * 16 ≤ c.storeSize →
      let b := if rel then r.base + o.toNat else o.toNat
      let x := timerAt r b
      let last := (readVar r .udint b).getLsbD 0
      let pt : Int := max 0 (slotInt .time p)
      let now : Int := r.now
      let gives := fun (i : Instr) (y : TimerSt) => ∃ r', Continues i s t r' ∧ r'.stack = boolSlot y.q :: k
        ∧ r'.pc = r.pc + 1 ∧ (readVar r' .udint b).getLsbD 0 = slotBool inp ∧ (readVar r' .udint b).toNat < 8
        ∧ timerAt r' b = { y with et := wrapInt .time y.et, start := wrapInt .time y.start }
      (slotBool inp = false → gives (.ton t rel o) { x with q := false, et := 0, run := false })
      ∧ (slotBool inp = true → last = false →
        gives (.ton t rel o) { q := decide (pt ≤ min 0 pt), run := true, et := min 0 pt, start := now })
      ∧ (slotBool inp = true → last = true →
        gives (.ton t rel o) { x with q := decide (pt ≤ min (now - x.start) pt), et := min (now - x.start) pt })
      ∧ (slotBool inp = true → gives (.tof t rel o) { x with q := true, et := 0, run := false })
      ∧ (slotBool inp = false → last = true → gives (.tof t rel o)
        { x with q := decide (0 < pt) && x.q, run := decide (0 < pt), et := min 0 pt, start := now })
      ∧ (slotBool inp = false → last = false → x.run = true → gives (.tof t rel o)
        { x with q := decide (now - x.start < pt) && x.q, run := decide (now - x.start < pt), et := min (now - x.start) pt })
      ∧ (slotBool inp = false → last = false → x.run = false → gives (.tof t rel o) x)
      ∧ (slotBool inp = true → last = false → x.run = false → gives (.tp t rel o)
        { q := decide (0 < pt), run := decide (0 < pt), et := min 0 pt, start := now })
      ∧ (x.run = true → gives (.tp t rel o)
        { x with q := decide (now - x.start < pt), run := decide (now - x.start < pt)
                 et := if slotBool inp = false ∧ pt ≤ now - x.start then 0 else min (now - x.start) pt })
      ∧ (x.run = false → slotBool inp = false → gives (.tp t rel o) { x with q := false, et := 0 })
      ∧ (x.run = false → slotBool inp = true → last = true → gives (.tp t rel o) { x with q := false })

/-- CTU, CTD, CTUD, R_TRIG and F_TRIG: the pseudocode of counters and edges on their instance words.
The model's choices it rests on: log entry 26. -/
def Obligations.TicCounterAndEdgeInstances : Prop :=
  ∀ (s : State) (t : BitVec 5) (r : Run) (c : TaskCfg) (rel : Bool) (o : BitVec 20),
    Scanning s t r c 2 → (r.entries.length + 2) * 16 ≤ c.storeSize →
      let b := if rel then r.base + o.toNat else o.toNat
      let bit := fun n => (readVar r .udint b).getLsbD n
      let cv := slotInt .dint (readVar r .dint (b + 1))
      let up := fun (e : Bool) (n : Int) => if e && decide (n < 2147483647) then n + 1 else n
      let down := fun (e : Bool) (n : Int) => if e && decide (-2147483648 < n) then n - 1 else n
      let gives := fun (i : Instr) (q : Bool) (k : List DWord) (n : Int) (bits : List (Nat × Bool)) =>
        ∃ r', Continues i s t r' ∧ r'.stack = boolSlot q :: k ∧ slotInt .dint (readVar r' .dint (b + 1)) = n
          ∧ ∀ e ∈ bits, (readVar r' .udint b).getLsbD e.1 = e.2
      (∀ pv rs cu k, r.stack = pv :: rs :: cu :: k →
        let n := if slotBool rs then 0 else up (slotBool cu && !bit 0) cv
        gives (.ctu t rel o) (decide (slotInt .dint pv ≤ n)) k n
          [(0, slotBool cu), (1, bit 1), (2, decide (slotInt .dint pv ≤ n)), (3, bit 3)])
      ∧ (∀ pv ld cd k, r.stack = pv :: ld :: cd :: k →
        let n := if slotBool ld then slotInt .dint pv else down (slotBool cd && !bit 1) cv
        gives (.ctd t rel o) (decide (n ≤ 0)) k n [(0, bit 0), (1, slotBool cd), (2, decide (n ≤ 0)), (3, bit 3)])
      ∧ (∀ pv ld rs cd cu k, r.stack = pv :: ld :: rs :: cd :: cu :: k →
        let n := if slotBool rs then 0 else if slotBool ld then slotInt .dint pv
          else down (slotBool cd && !bit 1) (up (slotBool cu && !bit 0) cv)
        gives (.ctud t rel o) (decide (slotInt .dint pv ≤ n)) k n
          [(0, slotBool cu), (1, slotBool cd), (2, decide (slotInt .dint pv ≤ n)), (3, decide (n ≤ 0))])
      ∧ (∀ x k, r.stack = x :: k →
        gives (.rTrig t rel o) (slotBool x && !bit 0) k cv [(0, slotBool x)]
        ∧ gives (.fTrig t rel o) (!slotBool x && bit 0) k cv [(0, slotBool x)])

/-- Loop parameters, journal writes, events and system reads of a scan wait in it for its commit.
The model's choices it rests on: log entries 26 and 27. -/
def Obligations.TicDeviceWritesWait : Prop :=
  ∀ (s : State) (t : BitVec 5) (r : Run) (c : TaskCfg), Scanning s t r c 4 → (r.entries.length + 1) * 16 ≤ c.storeSize →
    (∀ (ty : Ty) (n : BitVec 9) (p : BitVec 8), paramAllowed ty p.toNat = true → (loopCfg s n.toNat).isSome = true →
      let v := (loopParam (Store.get {} r.loops n.toNat) p.toNat).1
      Continues (.lpr t ty n p) s t
        (r.after 1 2 ((if ty = .lreal then fSlot .lreal (.fin (decide (v < 0)) v.natAbs (-24)) else intSlot .dint v)
          :: r.stack)))
    ∧ (∀ v k, r.stack = v :: k →
      (∀ (ty : Ty) (n : BitVec 9) (p : BitVec 8), paramAllowed ty p.toNat = true → paramWritable p.toNat = true →
        (loopCfg s n.toNat).isSome = true →
          ∃ r', Continues (.lpw t ty n p) s t r' ∧ r'.stack = k ∧ Landing.lpw n.toNat p.toNat ty (canon ty v) ∈ r'.entries)
      ∧ (∀ (src : BitVec 5) (sev : BitVec 3) (code : BitVec 16) (sub : BitVec 8),
        (jrnCount r < 256 → Continues (.jrn t src sev code sub) s t
          { r.after 2 4 k with entries := r.entries ++ [.jrn src.toNat sev.toNat code.toNat sub.toNat v] })
        ∧ (256 ≤ jrnCount r → Continues (.jrn t src sev code sub) s t (r.after 2 4 k))))
    ∧ (∀ src : BitVec 5, ∃ r', Continues (.evr t src) s t r' ∧ src.toNat ∈ r'.events ∧ r'.stack = r.stack
      ∧ ∀ n, n ∈ r.events → n ∈ r'.events)

/-- DFW and SRD.
The model's choices it rests on: log entry 26. -/
def Obligations.TicSolverAccess : Prop :=
  ∀ (s : State) (t : BitVec 5) (r : Run) (c : TaskCfg),
    (∀ (rel : Bool) (o : BitVec 20) (cap : Word),
      let b := if rel then r.base + o.toNat else o.toNat
      let need := 8 + 8 * min (dfwCount r b) 4096
      let bytes := wordsToBytes (loadDelta b (min need cap.toNat / 4) r).1
      let reason := deltaReason s bytes cap.toNat false
      Scanning s t r c (2 + (dfwCount r b + 3) / 4) →
        ∃ r', Continues (.dfw t rel o cap) s t r'
          ∧ (reason ≠ 0 → r'.stack = intSlot .dint reason :: r.stack ∧ r'.delta = r.delta
            ∧ r'.rejects = r.rejects ++ [(fld bytes 0 2, reason)])
          ∧ (reason = 0 → c.deltaSize < deltaUsed c.num r s + need →
            r'.stack = intSlot .dint (-1) :: r.stack ∧ r'.delta = r.delta ∧ r'.rejects = r.rejects)
          ∧ (reason = 0 → deltaUsed c.num r s + need ≤ c.deltaSize →
            r'.stack = 0 :: r.stack ∧ r'.delta = r.delta ++ [frameOf bytes] ∧ r'.rejects = r.rejects))
    ∧ (∀ (ty : Ty) (n : BitVec 20) (vec : BitVec 4) (sc : BitVec 3) (i : DWord) (k : List DWord) (p : ProblemCfg)
        (tp : Template),
      Scanning s t r c 4 → r.stack = i :: k → problemDef s n.toNat = some (p, tp) →
        (ty = .dint ∧ vec.toNat ≤ 3 ∨ ty = .lreal ∧ vec.toNat ≤ 2) →
          (∀ x, resultFor s r n.toNat = some x →
            (p.scenarios ≤ sc.toNat ∨ slotInt .dint i < 0 → FaultsWith (.srd t ty n vec sc) s t 3 r)
            ∧ (sc.toNat < p.scenarios → vec.toNat < 3 → ∀ (j : Nat) (v : Int), slotInt .dint i = j →
              (resultVec tp x vec.toNat sc.toNat).1[j]? = some v → ty = .dint →
                Continues (.srd t ty n vec sc) s t
                  (r.after 2 4 (intSlot .dint (wordInt x.status) :: intSlot .dint v :: k))))
          ∧ (resultFor s r n.toNat = none → ∃ r', Continues (.srd t ty n vec sc) s t r' ∧ r'.waitFix = true
            ∧ r'.stack = r.stack ∧ r'.pc = r.pc ∧ r'.units = r.units))

/-- An instruction whose units would pass the task's worst-case count faults with BUDGET instead of executing.
The model's choices it rests on: log entries 26 and 27. -/
def Obligations.TicBudgetFault : Prop :=
  ∀ (i : Instr) (s : State) (t : BitVec 5) (r : Run) (c : TaskCfg),
    ticTask i = some t → Scanning s t r c 0 → c.worst < r.units + ticUnits r i → FaultsWith i s t 4 r

/-- What no TIC instruction changes.
The model's choices it rests on: log entry 26. -/
def Obligations.TicFrame : Prop :=
  ∀ (i : Instr) (s u : State) (t : BitVec 5), ticTask i = some t → s.pair.images = [] → exec i s = .next u →
    u.scan.data = s.scan.data ∧ u.scan.forces = s.scan.forces ∧ u.scan.seq = s.scan.seq
    ∧ (∀ n, n ≠ t.toNat → (u.task n).run = (s.task n).run)
    ∧ u.loop = s.loop ∧ u.sol = s.sol ∧ u.stn = s.stn ∧ u.fio = s.fio ∧ u.mtr = s.mtr ∧ u.tide = s.tide ∧ u.ntime = s.ntime
    ∧ u.clk = s.clk ∧ u.cal = s.cal ∧ u.start = s.start ∧ { u.place with pairScans := s.place.pairScans } = s.place
    ∧ u.keys = s.keys ∧ u.hst = s.hst ∧ u.ports = s.ports ∧ u.flash = s.flash ∧ u.fuses = s.fuses ∧ u.pins = s.pins ∧ u.man = s.man

/-! ## Supply, reset, restarts and the start sequence -/

/-- Each start begins at t0 in stage 0: power-up, the release of RESET_N, a watchdog expiry and the host's restarts.
The model's choices it rests on: log entries 1, 8, 14 and 72. -/
def Obligations.StartsBeginAtT0 : Prop :=
  ∀ s : State,
    (s.start.power = .off ∨ s.start.power = .halted →
      (s.pins.resetN = true → Gives .vinValid s fun t => Restarted .powerOn s t ∧ t.fio.applied = 0)
      ∧ (s.pins.resetN = false → Gives .vinValid s fun t => t.start.power = .held ∧ t.fio.applied = 0))
    ∧ (s.start.power = .held → s.pins.vin = true → Gives .resetNRelease s fun t => t.start.power = .on
      ∧ t.start.cause = (if s.mram.dev.flushBegan then .powerFail else s.start.cause)
      ∧ t.mram.dev.pcyc = s.mram.dev.pcyc + 1)
    ∧ (s.start.power = .on →
      let fresh := fun (k : Cause) (t : State) => Restarted k s t ∧ t.mram.dev.wdog = [] ∧ t.fio.applied = 0
      Gives .watchdogExpiry s (fun t => Restarted .watchdog s t ∧ t.fio.kept = givesOver s
        ∧ t.fio.applied = if givesOver s then s.fio.applied else 0)
      ∧ ∀ path, Gives (.hostWarm path 0xB0A7) s (fresh .hostWarm) ∧ Gives (.hostCold path 0xB0A7) s (fresh .hostCold)
        ∧ Gives (.hostDefault path 0xB0A7) s (fresh .hostDefault))

/-- RESET_N low and a supply loss end operation without a flush; a power-fail warning flushes first, and nothing
interrupts the flush but RESET_N.
The model's choices it rests on: log entries 9, 14, 15 and 72. -/
def Obligations.SupplyLossAndFlush : Prop :=
  ∀ s : State,
    let lost := fun (t : State) => t.scan.data = [] ∧ t.loop = {} ∧ t.sol = {}
      ∧ t.tide = { coastCycles := s.tide.coastCycles, coastEntries := s.tide.coastEntries } ∧ t.jrn.buffer = [] ∧ t.cal = s.cal ∧ t.mram.journal = s.mram.journal ∧ t.mram.dev.warnAt = s.mram.dev.warnAt
    (s.start.power = .on ∨ s.start.power = .held →
      Gives .vinBelowReset s fun t => t.start = {} ∧ t.pins.vin = false ∧ t.fio.applied = 0 ∧ lost t)
    ∧ (s.start.power = .flush → Gives .vinBelowReset s fun t => t.start = s.start ∧ t.pins.vin = false
      ∧ t.pair.peerOkOut = false ∧ t.mram.journal = s.mram.journal)
    ∧ (s.start.power = .on → Gives .resetNAssert s fun t => t.start = { power := .held, cause := .resetPin }
      ∧ t.pins.resetN = false ∧ lost t ∧ t.fio.kept = givesOver s
      ∧ t.fio.applied = if givesOver s then s.fio.applied else 0)
    ∧ (s.start.power = .flush ∨ s.start.power = .halted → Gives .resetNAssert s fun t => t.pins.resetN = false ∧ lost t
      ∧ t.start = { power := if s.pins.vin then .held else .off, cause := .resetPin } ∧ t.fio.applied = 0)
    ∧ (∀ (vin : BitVec 16) (low : Bool), Calm s → s.start.threshold.toNat ≤ vin.toNat → Gives (.pfailWarn vin low) s fun t =>
      t.start = s.start ∧ t.fio = s.fio ∧ t.scan = s.scan ∧ t.mram = s.mram)
    ∧ (∀ (vin : BitVec 16) (low : Bool), Calm s → vin.toNat < s.start.threshold.toNat → Gives (.pfailWarn vin low) s fun t =>
      t.start = { s.start with power := .flush, warn := true, holdLow := low, vinMv := vin }
      ∧ t.mram.dev.flushBegan = true ∧ t.mram.dev.flushDone = false ∧ t.mram.dev.warnAt = s.jrn.optime
      ∧ t.mram.dev.unwritten = s.jrn.buffer.length + s.jrn.taken.length
      ∧ (∀ n, (t.task n).run = none) ∧ t.evt.pend.getLsbD 1 = true
      ∧ t.fio.kept = givesOver s
      ∧ (givesOver s = false → ∀ n, n < 32 → t.fio.applied.getLsbD n = dieApplies t n (t.fio.loaded && safeOn t n))
      ∧ ∀ n, (t.port n).q0 = [] ∧ (t.port n).q1 = [] ∧ (t.port n).q2 = [] ∧ (t.port n).q3 = [])
    ∧ (∀ time : Nat, s.start.power = .flush → Gives (.flushComplete time) s fun t =>
      t.start = { s.start with power := .halted } ∧ t.pair.peerOkOut = false ∧ t.mram.dev.flushDone = true
      ∧ t.mram.dev.flushTime.toNat = min time 255 ∧ t.mram.dev.optime = s.jrn.optime ∧ t.jrn.buffer = [] ∧ t.jrn.taken = []
      ∧ t.cal = s.cal)

/-- From t0 to the boot of the firmware: HFIO, the safe pattern, the mooring record and the crystals.
The model's choices it rests on: log entries 16, 21 and 25. -/
def Obligations.StagesZeroAndOne : Prop :=
  ∀ s : State, Calm s →
    (Gives .hfioQualified s fun t => t.clk = { s.clk with qual := s.clk.qual ||| 3 })
    ∧ (s.start.stage = 0 → s.fio.loaded = false → Gives .safePatternLoaded s fun t =>
      t.fio.loaded = true ∧ t.fio.safe = s.mram.safe.getD 0 ∧ t.start = s.start
      ∧ ∀ n, n < 32 → t.fio.applied.getLsbD n = dieApplies t n (wantOut t n))
    ∧ (∀ fail, s.start.stage = 0 → Gives (.mooringEvaluate fail) s fun t =>
      t.start.stage = 1 ∧ t.start.step = (if s.start.limited then 9 else 1) ∧ t.pair.peerOkOut = true
      ∧ (t.moor.record = none → t.start.mooring = s.start.mooring)
      ∧ ∀ n, n < 32 → t.fio.applied.getLsbD n = dieApplies t n (wantOut t n))
    ∧ (∀ ok, s.start.stage = 1 → s.start.step = 9 → s.clk.qual.getLsbD 2 = false → Gives (.xtalQualified ok) s fun t =>
      t.start = s.start ∧ t.clk.lock = 7 ∧ t.clk.qual.getLsbD 2 = true ∧ t.ntime.started = true)
    ∧ (∀ ok, s.start.stage = 1 → s.start.step = 1 →
      (Gives (.xtalQualified ok) s fun t => t.start = { s.start with step := 2 } ∧ t.clk.lock = 7 ∧ t.clk.armed = true
        ∧ t.clk.qual = putBit (putBit s.clk.qual 3 ok) 2 true ∧ t.ntime.started = true ∧ (ok = false → t.cal.osf = true)
        ∧ (ok = true → t.cal = s.cal))
      ∧ (Gives (.xtalRetry ok) s fun t => t.start = s.start ∧ t.clk = { s.clk with qual := putBit s.clk.qual 3 ok }
        ∧ (ok = false → t.cal.osf = true) ∧ (ok = true → t.cal = s.cal)))

/-- FIRMWARE_VERIFY and MANIFEST_VERIFY: a firmware that passes runs, another is refused with its reason; a manifest that
passes is adopted in one transaction, another holds the start at stage 1.
The model's choices it rests on: log entries 36, 37 and 66. -/
def Obligations.FirmwareAndManifestChecks : Prop :=
  ∀ (s : State) (fail : Option Nat) (p : Pointer), Calm s → s.start.stage = 1 → s.start.pointer = some p →
    (s.start.step = 2 → s.keys.fwReason = 0 →
      (∀ n d, verifyFirmware s p fail = .run n d → Gives (.firmwareVerify fail) s fun t =>
        t.start = { s.start with step := 3 } ∧ t.keys.fwOk = true ∧ t.keys.fwSv = BitVec.ofNat 8 n ∧ t.keys.fwDigest = d
        ∧ t.keys.fwSlot = (p.fwSlot == 2) ∧ t.fuses = s.fuses ∧ t.flash = s.flash)
      ∧ (∀ n g, verifyFirmware s p fail = .refuse n g → Gives (.firmwareVerify fail) s fun t =>
        t.start = s.start ∧ t.keys.fwOk = false ∧ t.keys.fwReason = BitVec.ofNat 8 n ∧ t.evt.pend.getLsbD 201 = true))
    ∧ (s.start.step = 3 → s.start.refused = false →
      (∀ v, verifyManifest s p.manSlot p.manSeq fail = .ok v → Gives (.manifestVerify fail) s fun t =>
        t.man = some v.m ∧ t.evt.routes = v.m.routes ∧ t.tide.mode = .acquire ∧ t.evt.pend.getLsbD 5 = true
        ∧ t.start = { s.start with adopted := true, step := 6, kind := coldStart v.m.policy s.start.cause
                                   threshold := BitVec.ofNat 13 v.m.policy.pfailMv }
        ∧ t.mram.dev.digest = v.digest ∧ t.mram.dev.epoch = s.mram.dev.epoch + 1 ∧ t.mram.dev.manSeq = BitVec.ofNat 32 v.seq
        ∧ t.mram.dev.retainRaw = v.m.retainRaw ∧ t.mram.journal = s.mram.journal ∧ t.flash = s.flash)
      ∧ (∀ n i g, verifyManifest s p.manSlot p.manSeq fail = .refuse n i g → Gives (.manifestVerify fail) s fun t =>
        t.start = { s.start with refused := true, step := if n = 0x12 then 4 else 3 } ∧ t.man = s.man
        ∧ t.hst.bootReason = BitVec.ofNat 8 n ∧ t.hst.bootIndex = BitVec.ofNat 12 i ∧ t.evt.pend.getLsbD 4 = true
        ∧ t.mram.dev.digest = s.mram.dev.digest ∧ t.flash = s.flash))

/-- HOLD and the tide's start: tasks start once the tide runs at 0:0 and HOLD is ready.
The model's choices it rests on: log entry 5. -/
def Obligations.HoldAndTideStart : Prop :=
  ∀ s : State, Calm s →
    (Gives .holdOk s fun t => t.start.holdOk = true ∧ (s.start.stage = 1 → s.start.step = 7 → t.start.step = 8)
      ∧ (¬ (s.start.stage = 1 ∧ s.start.step = 7) → t.start = { s.start with holdOk := true }))
    ∧ (Gives .holdLow s fun t => t.start = { s.start with
        holdOk := false, step := if s.start.stage = 1 ∧ s.start.step = 8 then 7 else s.start.step })
    ∧ (s.tide.mode = .acquire →
      let began := fun (t : State) => t.tide.cycle = 0 ∧ t.tide.angle = 0 ∧ t.tide.fired = []
        ∧ t.tide.stamp = some (0, s.ntime.now)
        ∧ (s.start.step = 6 → t.start.step = if s.start.holdOk then 8 else 7)
        ∧ (s.start.step ≠ 6 → t.start = s.start)
      (8 ≤ s.tide.validRun → Gives .tideLock s fun t => t.tide.mode = .locked ∧ t.tide.rate = s.tide.meas ∧ began t
        ∧ t.evt.pend.getLsbD 12 = true)
      ∧ (s.tide.validRun < 8 → Gives .acquisitionTimeout s fun t => t.tide.mode = .coast ∧ t.tide.rate = nominalRate s ∧ began t
        ∧ t.tide.coastEntries = satInc s.tide.coastEntries ∧ t.evt.pend.getLsbD 13 = true))

/-! ## The mooring function -/

/-- A mooring loop's sample, the end of its on-time, and the interlock evaluation every 10 ms.
The model's choices it rests on: log entries 41, 62, 63 and 64. -/
def Obligations.MooringLoopsAndInterlocks : Prop :=
  ∀ s : State, Calm s →
    (∀ (n : BitVec 4) (k : MoorLoop), s.moor.running = true → (s.moor.record.map (·.loops)).bind (·[n.toNat]?) = some k →
      let r := Store.get {} s.moor.loops n.toNat
      (Gives (.mooringLoopSample n) s fun t =>
        let pv := moorPv s k
        let e := if k.direct then pv - k.sp else k.sp - pv
        Store.get {} t.moor.loops n.toNat = { (if k.pi then piSample s.clk.hfNs k e r else twoPosition k e r) with pv := pv }
        ∧ (∀ m, m ≠ n.toNat → Store.get {} t.moor.loops m = Store.get {} s.moor.loops m)
        ∧ t.moor.ilk = s.moor.ilk ∧ t.start = s.start ∧ t.loop = s.loop)
      ∧ (k.pi = true → Gives (.mooringPulseEnd n) s fun t =>
        Store.get {} t.moor.loops n.toNat = (if r.onMs < k.cycle then { r with out := false } else r)
        ∧ (∀ m, m ≠ n.toNat → Store.get {} t.moor.loops m = Store.get {} s.moor.loops m)
        ∧ t.moor.ilk = s.moor.ilk ∧ t.start = s.start ∧ t.loop = s.loop))
    ∧ (Gives .interlockEvaluation s fun t =>
      t.moor.loops = s.moor.loops ∧ t.start = s.start
      ∧ ∀ (n : Nat) (k : Interlock), ((s.moor.record.map (·.ilks)).getD [])[n]? = some k → n < 32 →
        let holds := (decide (s.start.stage < 2) || k.persistent) && conditionHolds s k
        let held := if holds then Store.get 0 s.moor.held n + 1 else 0
        let was := s.moor.ilk.getLsbD n
        let now := decide (k.delay < held) || (was && k.latching)
        t.moor.ilk.getLsbD n = now ∧ (now = true → was = false → t.evt.pend.getLsbD 3 = true))

/-! ## The tide -/

/-- The cycle boundary: in acquisition the valid cycles count; a running tide goes on to angle 0 of the next cycle, stamps
it, and its mode follows the source.
The model's choices it rests on: log entries 5 and 58. -/
def Obligations.TideCycleBoundaries : Prop :=
  ∀ (s : State) (k : Tracker), Calm s →
    let good := validCycle s.tideSetup k
    let e := wrapAngle (0 - k.angle)
    let hz := k.freq * 1000
    (s.tide.mode = .acquire → Gives (.tideCycleBoundary k) s fun t =>
      t.tide.mode = .acquire ∧ t.tide.freq = (if good then hz else 0)
      ∧ t.tide.validRun = (if good then s.tide.validRun + 1 else 0) ∧ (good = true → t.tide.meas = hz))
    ∧ (s.tide.runs = true → Gives (.tideCycleBoundary k) s fun t =>
      t.tide.cycle = s.tide.cycle + 1 ∧ t.tide.angle = 0 ∧ t.tide.stamp = some (s.tide.cycle + 1, t.ntime.now)
      ∧ t.tide.freq = (if good then hz else 0) ∧ t.tide.fired = s.tide.fired
      ∧ (s.tide.mode = .locked → s.tide.peerSrc = false → good = true → t.tide.mode = .locked ∧ t.tide.rate = hz)
      ∧ (s.tide.mode = .locked → s.tide.peerTracker = none → good = false →
        t.tide.mode = .holdover ∧ t.tide.rate = s.tide.rate ∧ t.tide.invalidRun = s.tide.invalidRun + 1)
      ∧ (s.tide.mode = .holdover → good = true → e.natAbs ≤ 16 → t.tide.mode = .locked ∧ t.tide.rate = hz)
      ∧ (s.tide.mode = .holdover → good = true → 16 < e.natAbs →
        t.tide.mode = .slew ∧ t.tide.rate = slewRate (decide (0 < e)) hz ∧ t.evt.pend.getLsbD 14 = true)
      ∧ (s.tide.mode = .coast → t.tide.mode = .coast ∧ t.tide.rate = s.tide.rate
        ∧ t.tide.coastCycles = satInc s.tide.coastCycles
        ∧ (good = true → t.tide.validRun = s.tide.validRun + 1)))

/-- Coasting, relocking, phase jumps and the end of slewing change the tide's mode and rate, and leave its cycle count and
angle.
The model's choices it rests on: log entries 5 and 59. -/
def Obligations.TideModeChanges : Prop :=
  ∀ (s : State) (a : BitVec 16), Calm s →
    let same := fun (t : State) => t.tide.cycle = s.tide.cycle ∧ t.tide.angle = s.tide.angle ∧ t.tide.stamp = s.tide.stamp
      ∧ t.tide.fired = s.tide.fired ∧ t.start = s.start
    let e := wrapAngle (s.tide.angle - a)
    let slews := fun (t : State) => t.tide.mode = .slew ∧ t.tide.ahead = decide (0 < e)
      ∧ t.tide.rate = slewRate (decide (0 < e)) s.tide.meas ∧ t.evt.pend.getLsbD 14 = true ∧ same t
    let locks := fun (t : State) => t.tide.mode = .locked ∧ t.tide.rate = s.tide.meas ∧ t.evt.pend.getLsbD 12 = true
      ∧ same t
    (s.tide.mode = .holdover → 3 ≤ s.tide.invalidRun → Gives .coastStart s fun t =>
      t.tide.mode = .coast ∧ t.tide.rate = nominalRate s ∧ t.tide.coastEntries = satInc s.tide.coastEntries
      ∧ t.evt.pend.getLsbD 13 = true ∧ same t)
    ∧ (s.tide.mode = .coast → 8 ≤ s.tide.validRun →
      (e.natAbs ≤ 16 → Gives (.relockStart a) s locks) ∧ (16 < e.natAbs → Gives (.relockStart a) s slews))
    ∧ (s.tide.mode = .locked → 1024 < e.natAbs → Gives (.phaseJump a) s slews)
    ∧ (s.tide.mode = .slew → Gives .slewEnd s locks)

/-- A tide-time conversion: what it starts, and its result within 65,535 cycles of the latest stamp, else ERR.
The model's choices it rests on: log entry 5. -/
def Obligations.TideConversions : Prop :=
  ∀ s : State, Calm s →
    (∀ (path : Path) (a : BitVec 16), Gives (.tideConvGo path a) s fun t =>
      t.tide = { s.tide with convAngle := a, convReq := some (s.tide.convCycle, a), convDone := false, convErr := false })
    ∧ (∀ (c : Word) (a : BitVec 16), s.tide.convReq = some (c, a) → Gives .tideConvDone s fun t =>
      t.tide.convReq = none ∧ t.tide.cycle = s.tide.cycle ∧ t.tide.mode = s.tide.mode
      ∧ (s.tide.stamp = none → t.tide.convErr = true ∧ t.tide.convOut = {})
      ∧ ∀ c0 z0, s.tide.stamp = some (c0, z0) →
        let d := (c - c0.setWidth 32).toNat
        (65535 < d → t.tide.convErr = true ∧ t.tide.convOut = {})
        ∧ (d ≤ 65535 → t.tide.convDone = true
          ∧ t.tide.convOut = stampOf (stampNanos z0 + convertNs (d * 65536 + a.toNat) s.tide.period.toNat)))

/-! ## Register accesses -/

/-- A read of the low word of a group takes the path's snapshot; the registers of the group show it until its last word is
read or it lapses; the other path and the block read keep their values.
The model's choices it rests on: log entries 6 and 7. -/
def Obligations.SnapshotReads : Prop :=
  ∀ (s : State) (path : Path), Calm s →
    let p := s.path path
    let keeps := fun (t : State) => (∀ q, q ≠ path → t.path q = s.path q) ∧ t.tide = s.tide ∧ t.ntime = s.ntime
      ∧ t.mtr = s.mtr ∧ t.cal = s.cal ∧ t.start = s.start ∧ t.scan.data = s.scan.data ∧ t.flash = s.flash
    let reads := fun (i : Instr) (q : PathSt) => Gives i s fun t => t.path path = q ∧ keeps t
    let old := p.snTide.getD s.tideNow
    let stamp := p.snStamp.getD (s.tide.stamp.getD (0, {}))
    reads (.tideCycleRead path) { p with snTide := some s.tideNow, out := [s.tide.cycle.setWidth 32] }
    ∧ reads (.snapshotEndRead path .tide) { p with snTide := none, out := [old.cycle.extractLsb' 32 16 ++ old.angle] }
    ∧ reads (.tideZcCycleRead path)
      { p with snStamp := some (s.tide.stamp.getD (0, {})), out := [(s.tide.stamp.getD (0, {})).1.setWidth 32] }
    ∧ reads (.snapshotEndRead path .stamp)
      { p with snStamp := none, out := [(stamp.2.sec.extractLsb' 32 16).setWidth 32] }
    ∧ reads (.ntimeSecLoRead path)
      { p with snNtime := some (s.ntime.now, s.ntime.frac), out := [s.ntime.sec.setWidth 32] }
    ∧ reads (.snapshotEndRead path .ntime)
      { p with snNtime := none, out := [(p.snNtime.getD (s.ntime.now, s.ntime.frac)).2] }
    ∧ reads (.jrnOptimeLoRead path)
      { p with snOptime := some (s.jrn.optime.extractLsb' 32 16), out := [s.jrn.optime.setWidth 32] }
    ∧ reads (.snapshotEndRead path .optime)
      { p with snOptime := none, out := [(p.snOptime.getD (s.jrn.optime.extractLsb' 32 16)).setWidth 32] }
    ∧ reads (.calSubsecRead path) { p with snCal := some s.cal.now, out := [BitVec.ofNat 32 (s.cal.now.sub % 2 ^ 15)] }
    ∧ reads (.snapshotEndRead path .calendar)
      { p with snCal := none, out := [BitVec.ofNat 32 ((p.snCal.getD s.cal.now).year % 2 ^ 12)] }
    ∧ ((s.meter p.mtr.toNat).known = true → reads (.mtrTotalLoRead path)
      { p with snMeter := some (s.meter p.mtr.toNat).vals, out := [(s.meter p.mtr.toNat).vals.total.setWidth 32] })
    ∧ reads (.snapshotEndRead path .meter)
      { p with snMeter := none
               out := [if (s.meter p.mtr.toNat).known then meterValReg (p.snMeter.getD (s.meter p.mtr.toNat).vals) 12 else 0] }
    ∧ reads (.snapshotTimeout path .tide) { p with snTide := none }
    ∧ reads (.snapshotTimeout path .stamp) { p with snStamp := none }
    ∧ reads (.snapshotTimeout path .ntime) { p with snNtime := none }
    ∧ reads (.snapshotTimeout path .meter) { p with snMeter := none }
    ∧ reads (.snapshotTimeout path .optime) { p with snOptime := none }
    ∧ reads (.snapshotTimeout path .calendar) { p with snCal := none }
    ∧ reads (.jrnData7Read path)
      { p with jrnSlot := if p.jrnSlot.getLsbD 31 then 0x80000000 ||| BitVec.ofNat 32 ((jrnSlotOf p + 1) % 2 ^ 20) else p.jrnSlot
               out := [BitVec.ofNat 32 (fld (slotBytes s (jrnSlotOf p)) 28 4)] }

/-! ## Access paths and the register map -/

/-- A write of a command register's word is its command.
The model's choices it rests on: log entry 6. -/
def Obligations.CommandWordsAreTheirCommands : Prop :=
  ∀ (s : State) (p : Path),
    let word := fun (a v : Word) (i : Instr) => exec (.registerWrite p a v) s = exec i s
    word 0x40000048 0xB0A70001 (.hostWarm p 0xB0A7) ∧ word 0x40000048 0xB0A70002 (.hostCold p 0xB0A7)
    ∧ word 0x40000048 0xB0A70003 (.hostDefault p 0xB0A7) ∧ word 0x40000068 0xF1A50001 (.flRead p 0xF1A5)
    ∧ word 0x40000068 0xF1A50002 (.flProgram p 0xF1A5) ∧ word 0x40000068 0xF1A50003 (.flErase p 0xF1A5)
    ∧ (s.start.power ≠ .flush → word 0x40000068 0xF1A50004 (.acceptOther p 0xF1A5 none true)) ∧ word 0x40010014 0xD7E50001 (.sleep p 0xD7E5)
    ∧ word 0x40010014 0xD7E50002 (.deep p 0xD7E5) ∧ word 0x40010024 0x00000001 (.fmeasStart p)
    ∧ word 0x40020020 0xCA1D0001 (.calSet p 0xCA1D) ∧ word 0x40020020 0xCA1D0002 (.shift p 0xCA1D)
    ∧ word 0x40020020 0xCA1D0004 (.ptpSet p 0xCA1D) ∧ word 0x40050020 0x6A520001 (.flush p 0x6A52)
    ∧ word 0x40050020 0x6A520002 (.extract p 0x6A52) ∧ word 0x40090024 0x71430001 (.ntimeStep p 0x7143)
    ∧ word 0x400A0020 0x4E570001 (.rejoin p 0x4E57) ∧ word 0x400D0054 0x3E7A0001 (.meterClear p 0x3E7A)
    ∧ word 0x40100090 0x6F0D0001 (.forceSet p 0x6F0D) ∧ word 0x40100090 0x6F0D0002 (.forceClear p 0x6F0D)
    ∧ word 0x40100090 0x6F0D0004 (.forceClearAll p 0x6F0D) ∧ word 0x40110054 0x7E570001 (.testStart p 0x7E57)
    ∧ word 0x40110054 0x7E570002 (.testStop p 0x7E57) ∧ word 0x40110088 0xCA9E0001 (.captureArm p 0xCA9E)
    ∧ word 0x40110088 0xCA9E0002 (.captureStop p 0xCA9E)
    ∧ word 0x4006008C 0xC3E90001 (.attest p 0xC3E9) ∧ word 0x4006008C 0xC3E90002 (.endorse p 0xC3E9)
    ∧ word 0x4006008C 0xC3E90003 (.keyOrigin p 0xC3E9) ∧ word 0x4006008C 0xC3E90004 (.generate p 0xC3E9)
    ∧ word 0x4006008C 0xC3E90005 (.importKey p 0xC3E9) ∧ word 0x4006008C 0xC3E90006 (.install p 0xC3E9)
    ∧ word 0x4006008C 0xC3E90007 (.load p 0xC3E9) ∧ word 0x4006008C 0xC3E90008 (.enrolArm p 0xC3E9)
    ∧ word 0x4006008C 0xC3E90009 (.fuseCommit p 0xC3E9) ∧ word 0x4006008C 0xC3E9000A (.readChain p 0xC3E9)
    ∧ word 0x4006008C 0xC3E9000B (.readBlob p 0xC3E9)
    ∧ (∀ n : BitVec 2, word 0x40080024 (0x5A170000 ||| n.setWidth 32) (.txanChange p 0x5A17 n))
    ∧ (∀ n : BitVec 3, word 0x400D0054 (0x3E7A0002 ||| (n.setWidth 32 <<< 4)) (.meterPreset p 0x3E7A n))
    ∧ (∀ a : BitVec 16, word 0x40030044 (0x00010000 ||| a.setWidth 32) (.tideConvGo p a))
    ∧ (∀ f : Word, word 0x40090014 f (.ntimeIncrFracWrite p f))
    ∧ (∀ e : BitVec 12, word 0x40010008 (e.setWidth 32) (.clkRunEnWrite p e))
    ∧ (∀ n : BitVec 8, word 0x40100080 (n.setWidth 32) (.scanFrcSelWrite p n))

/-- A write that is no command changes its register and nothing else; a misaligned address, and an address outside the
blocks, change no register.
The model's choices it rests on: log entry 10. -/
def Obligations.RegisterWrites : Prop :=
  ∀ (s : State) (p : Path) (v : Word), Calm s →
    let writes := fun (a : Word) (t : State) => Gives (.registerWrite p a v) s fun u =>
      u.start = t.start ∧ u.hst = t.hst ∧ u.clk = t.clk ∧ u.cal = t.cal ∧ u.stg = t.stg ∧ u.tide = t.tide ∧ u.ntime = t.ntime
      ∧ u.ports = t.ports ∧ u.fio = t.fio ∧ u.mtr = t.mtr ∧ u.keys = t.keys ∧ u.loop = t.loop ∧ u.sol = t.sol ∧ u.stn = t.stn
      ∧ u.place = t.place ∧ u.scan.data = t.scan.data ∧ u.scan.frcLo = t.scan.frcLo ∧ u.flash = t.flash ∧ u.fuses = t.fuses ∧ u.pins = t.pins
      ∧ u.man = t.man ∧ u.mram.journal = t.mram.journal ∧ u.mram.saves = t.mram.saves ∧ u.mram.blobs = t.mram.blobs
    writes 0x40000060 (s.updHst fun h => { h with flAddr := v })
    ∧ writes 0x40000070 (s.updHst fun h => { h with flSeq := v })
    ∧ writes 0x40030000 (s.updPath p fun x => { x with tide := v.setWidth 8 })
    ∧ writes 0x40030040 (s.updTide fun x => { x with convCycle := v })
    ∧ writes 0x40020018 (s.updStg fun x => { x with date := v &&& 0x00000F1F })
    ∧ writes 0x4001000C (s.updClk fun x => { x with sleepEn := v.setWidth 12 })
    ∧ writes 0x40060080 (s.updKeys fun x => { x with args := v &&& 0x3FFFFFFF })
    ∧ writes 0x400D005C (s.updMtr fun x => { x with preset := v ++ x.preset.setWidth 32 })
    ∧ writes 0x40100000 (s.updPath p fun x => { x with scan := v.setWidth 5 })
    ∧ writes 0x40100088 (s.updScan fun x => { x with frcLo := v })
    ∧ (∀ a : Word, a.toNat % 4 = 0 → (a.toNat / 65536 < 0x4000 ∨ 0x4013 < a.toNat / 65536 ∨ a.toNat / 65536 = 0x4007
      ∨ a.toNat / 65536 = 0x400E ∨ a.toNat / 65536 = 0x400F) → writes a s ∧ regValue p a s = 0)
    ∧ (∀ a : Word, a.toNat % 4 ≠ 0 →
      writes a (if p = .spi then s.updHst fun h => { h with port := putBit h.port 1 true } else s))

/-- SYS_PFAIL_CFG (R111): reset value, reads, and writes within and outside its range. -/
def Obligations.PfailConfigRegister : Prop :=
  State.reset.start.threshold = 0x0A28
  ∧ ∀ (s : State) (p : Path) (v : Word),
    regValue p 0x4000004C s = s.start.threshold.setWidth 32
    ∧ (Calm s →
      (2500 ≤ v.toNat % 8192 → v.toNat % 8192 ≤ 5000 → Gives (.registerWrite p 0x4000004C v) s fun t =>
        t.start = { s.start with threshold := v.setWidth 13 })
      ∧ (v.toNat % 8192 < 2500 ∨ 5000 < v.toNat % 8192 → Gives (.registerWrite p 0x4000004C v) s fun t =>
        t.start = s.start))

/-- The host SPI port, while it is served: words read and written, the status, and what it ignores.
The model's choices it rests on: log entries 7, 23 and 54. -/
def Obligations.HostSpiPort : Prop :=
  ∀ s : State, Calm s → spiServed s = true → s.clk.mode = .run →
    let keeps := fun (t : State) => t.start = s.start ∧ t.clk = s.clk ∧ t.tide = s.tide ∧ t.cal = s.cal ∧ t.fio = s.fio
      ∧ t.flash = s.flash ∧ t.hst.mgmt = s.hst.mgmt ∧ t.hst.session = s.hst.session
    (∀ (a : Word) (n : Nat),
      (a.toNat % 4 = 0 → Gives (.hspiRead a n) s fun t =>
        t.hst.spiOut = marked (readRegs .spi n a (clearSent s)).1 ∧ t.hst.spi.out = (readRegs .spi n a (clearSent s)).1
        ∧ t.hst.port = s.hst.port ∧ keeps t)
      ∧ (a.toNat % 4 ≠ 0 → Gives (.hspiRead a n) s fun t =>
        t.hst.spiOut = List.replicate n 0x5A ∧ t.hst.port = putBit s.hst.port 1 true ∧ t.hst.spi = s.hst.spi ∧ keeps t)
      ∧ (a.toNat % 4 = 0 → Gives (.hspiReadTimeout a) s fun t =>
        t.hst.spiOut = [0x5A, 0, 0, 0, 0] ∧ t.hst.port = putBit s.hst.port 0 true ∧ t.hst.spi = s.hst.spi ∧ keeps t))
    ∧ (∀ (v : Word) (part : Bool), Gives (.hspiWrite 0x40030000 [v] part) s fun t =>
      t.hst.spi = { s.hst.spi with tide := v.setWidth 8 } ∧ t.hst.spiOut = []
      ∧ t.hst.port = (if part then putBit s.hst.port 3 true else s.hst.port) ∧ keeps t)
    ∧ (∀ (a : Word) (l : List Word) (part : Bool), a.toNat % 4 ≠ 0 → Gives (.hspiWrite a l part) s fun t =>
      t.hst.spi = s.hst.spi ∧ t.hst.port = putBit s.hst.port 1 true ∧ keeps t)
    ∧ (Gives .hspiStatus s fun t => t.hst.spiOut = leBytes 4 s.hst.port.toNat ∧ t.hst.port = 0 ∧ t.hst.spi = s.hst.spi
      ∧ keeps t)
    ∧ (∀ c : Byte, c ≠ 0x0B → c ≠ 0x02 → c ≠ 0x05 → Gives (.hspiIgnoredTransaction c) s fun t =>
      t.hst.port = putBit s.hst.port 2 true ∧ t.hst.spi = s.hst.spi ∧ t.hst.spiOut = s.hst.spiOut ∧ keeps t)

/-- Management sessions: setup, proof, authenticated requests, and what a frame without a valid tag meets.
The model's choices it rests on: log entries 6, 12 and 54. -/
def Obligations.ManagementSessions : Prop :=
  ∀ s : State, Calm s →
    (∀ (p : BitVec 3) (nonce : Bytes), servesMgmt s p.toNat = true → nonce.length = 16 → helloAllowed s = true →
      s.keys.hostKey.isSome = true → s.hst.session = none → Gives (.hello p nonce) s fun t =>
        (∃ x, t.hst.setup = some x ∧ x.nh = nonce) ∧ t.hst.session = none ∧ t.hst.helloAt = s.jrn.optime.toNat / 1000
        ∧ t.hst.authFail = s.hst.authFail)
    ∧ (∀ (p : BitVec 3) (sid : Word) (tag : Bytes) (x : Setup) (kh : Bytes), servesMgmt s p.toNat = true →
      s.hst.setup = some x → s.keys.hostKey = some kh →
        (x.sid = sid → tag = setupTag kh 0x48 x → Gives (.prove p sid tag) s fun t =>
          (∃ y, t.hst.session = some y ∧ y.sid = sid ∧ y.last = none) ∧ t.hst.setup = none
          ∧ t.hst.mgmt = s.hst.mgmt.reselected ∧ t.hst.spi = s.hst.spi ∧ t.evt.pend.getLsbD 20 = true
          ∧ t.hst.authFail = s.hst.authFail)
        ∧ (¬ (x.sid = sid ∧ tag = setupTag kh 0x48 x) → Gives (.prove p sid tag) s fun t =>
          t.hst.session = s.hst.session ∧ t.hst.setup = none ∧ t.hst.mgmt = s.hst.mgmt
          ∧ (s.hst.authFail ≠ 0xFFFF → t.hst.authFail = s.hst.authFail + 1 ∧ t.evt.pend.getLsbD 21 = true)))
    ∧ (∀ (h : MgmtHead) (x : Session), servesMgmt s h.port.toNat = true → s.hst.session = some x →
      let good := x.sid = h.session ∧ x.last.all (· < h.counter) = true ∧ h.tag = frameTag x.key h.raw "UL-7160 mgmt request"
      let y := { x with last := some h.counter, lastAt := s.jrn.optime }
      (∀ (a : Word) (n : BitVec 16), h.raw = requestBytes 0x05 h (accessPayload a n) →
        (good → accessStatus a n = 0 → Gives (.mgmtRead h a n) s fun t =>
          t.hst.mgmt.out = (readRegs .mgmt n.toNat a ((clearSent s).updHst fun z => { z with session := some y })).1
          ∧ t.hst.session = some y ∧ t.hst.spi = s.hst.spi)
        ∧ (good → accessStatus a n ≠ 0 → Gives (.mgmtRead h a n) s fun t =>
          t.hst.mgmt = s.hst.mgmt ∧ t.hst.session = some y)
        ∧ (¬ good → Gives (.mgmtRead h a n) s fun t => t.hst.mgmt = s.hst.mgmt ∧ t.hst.session = some x
          ∧ (s.hst.authFail ≠ 0xFFFF → t.hst.authFail = s.hst.authFail + 1)))
      ∧ (∀ v : Word, h.raw = requestBytes 0x07 h (accessPayload 0x40030000 1 ++ wordsToBytes [v]) → good →
        Gives (.mgmtWrite h 0x40030000 1 [v]) s fun t =>
          t.hst.mgmt = { s.hst.mgmt with tide := v.setWidth 8 } ∧ t.hst.session = some y ∧ t.hst.spi = s.hst.spi)
      ∧ (h.raw = requestBytes 0x09 h [] → good → Gives (.close h) s fun t =>
        t.hst.session = none ∧ t.evt.pend.getLsbD 20 = true ∧ t.hst.mgmt = s.hst.mgmt ∧ t.hst.spi = s.hst.spi))

/-- The flash commands: acceptance, the ranges and regions they refuse, and their effect when they complete.
The model's choices it rests on: log entries 12 and 52. -/
def Obligations.FlashCommands : Prop :=
  ∀ (s : State) (p : Path), Calm s → Memory.wf 0xFF s.flash = true →
    let a := s.hst.flAddr.toNat
    let n := s.hst.flLen.toNat
    let keeps := fun (t : State) => t.flash = s.flash ∧ t.start = s.start ∧ t.hst.flBuf = s.hst.flBuf ∧ t.hst.spi = s.hst.spi
    let starts := fun (i : Instr) (op : FlashOp) (m : Nat) => Gives i s fun t =>
      t.hst.flBusy = true ∧ t.hst.flDone = false ∧ t.hst.flReason = 0 ∧ t.hst.flOp = some op ∧ t.hst.flAt = a
      ∧ t.hst.flCount = m ∧ keeps t
    let refuses := fun (i : Instr) (r : Byte) => Gives i s fun t =>
      t.hst.flReason = r ∧ t.hst.flBusy = s.hst.flBusy ∧ t.hst.flOp = s.hst.flOp ∧ keeps t
    let range := a % 4 = 0 ∧ n % 4 = 0 ∧ 4 ≤ n ∧ n ≤ 4096 ∧ a + n ≤ Config.flashMiB * 2 ^ 20
    let sector := a % 65536 = 0 ∧ n = 0 ∧ a + 65536 ≤ Config.flashMiB * 2 ^ 20
    (s.hst.flBusy = false →
      (range → starts (.flRead p 0xF1A5) .read n)
      ∧ (range → changeReason s a n = 0 → starts (.flProgram p 0xF1A5) .program n)
      ∧ (range → changeReason s a n ≠ 0 → refuses (.flProgram p 0xF1A5) (changeReason s a n))
      ∧ (sector → changeReason s a 65536 = 0 → starts (.flErase p 0xF1A5) .erase 65536)
      ∧ (¬ range → refuses (.flRead p 0xF1A5) 3 ∧ refuses (.flProgram p 0xF1A5) 3)
      ∧ (¬ sector → refuses (.flErase p 0xF1A5) 3))
    ∧ (s.hst.flBusy = true → refuses (.flRead p 0xF1A5) 7 ∧ refuses (.flProgram p 0xF1A5) 7 ∧ refuses (.flErase p 0xF1A5) 7)
    ∧ (∀ op, s.hst.flOp = some op →
      let b := s.hst.flAt
      let m := s.hst.flCount
      let at' := fun (t : State) (x : Nat) => Store.get 0xFF t.flash x
      (Gives (.flashDone true) s fun t => t.hst.flDone = true ∧ t.hst.flBusy = false ∧ t.hst.flReason = 0
        ∧ t.hst.flOp = none ∧ t.evt.pend.getLsbD 22 = true ∧ t.start = s.start
        ∧ (∀ x, x < b ∨ b + m ≤ x → at' t x = at' s x)
        ∧ (op = .read → t.flash = s.flash ∧ ∀ i, i < m → Store.get 0 t.hst.flBuf i = at' s (b + i))
        ∧ (op = .erase → ∀ i, i < m → at' t (b + i) = 0xFF)
        ∧ (op = .program → ∀ i, i < m → at' s (b + i) = 0xFF → at' t (b + i) = Store.get 0 s.hst.flBuf i))
      ∧ (Gives (.flashDone false) s fun t => t.hst.flDone = true ∧ t.hst.flBusy = false ∧ t.hst.flReason = 4
        ∧ t.evt.pend.getLsbD 22 = true ∧ ∀ x, x < b ∨ b + m ≤ x → at' t x = at' s x))

/-- ACCEPT_OTHER on a start that a refused manifest holds: a manifest of the other slot that passes is pointed to and
adopted; one that fails, and a pointer write that fails, leave the refusal and the adopted state.
The model's choices it rests on: log entries 13, 53, 66 and 67. -/
def Obligations.AcceptOtherSlot : Prop :=
  ∀ (s : State) (path : Path) (fail : Option Nat) (ok : Bool) (p : Pointer), Calm s → Memory.wf 0xFF s.flash = true →
    s.hst.flBusy = false → s.hst.flLen = 0 → s.start.refused = true → s.start.stage = 1 → s.start.pointer = some p →
      (∀ v, verifyManifest s (otherSlot p.manSlot) s.hst.flSeq.toNat fail = .ok v →
        Gives (.acceptOther path 0xF1A5 fail true) s fun t =>
          t.man = some v.m ∧ t.start.adopted = true ∧ t.start.refused = false ∧ t.start.step = 6
          ∧ t.start.pointer = some { p with seq := pointerNext p.seq, manSlot := otherSlot p.manSlot
                                            manSeq := s.hst.flSeq.toNat }
          ∧ t.hst.flDone = true ∧ t.hst.flReason = 0 ∧ t.tide.mode = .acquire ∧ t.evt.pend.getLsbD 22 = true)
      ∧ (∀ v, verifyManifest s (otherSlot p.manSlot) s.hst.flSeq.toNat fail = .ok v →
        Gives (.acceptOther path 0xF1A5 fail false) s fun t =>
          t.man = s.man ∧ t.start.adopted = s.start.adopted ∧ t.start.refused = true ∧ t.start.pointer = s.start.pointer
          ∧ t.hst.flDone = true ∧ t.hst.flReason = 4 ∧ t.evt.pend.getLsbD 22 = true)
      ∧ (∀ n i g, verifyManifest s (otherSlot p.manSlot) s.hst.flSeq.toNat fail = .refuse n i g →
        Gives (.acceptOther path 0xF1A5 fail ok) s fun t =>
          t.man = s.man ∧ t.start.adopted = s.start.adopted ∧ t.start.refused = true ∧ t.start.pointer = s.start.pointer
          ∧ t.hst.flDone = true ∧ t.hst.bootReason = BitVec.ofNat 8 n ∧ t.flash = s.flash ∧ t.evt.pend.getLsbD 22 = true)

/-! ## Event router and journal -/

/-- A raise of one source on an edge of its own: count, pending bit, time, journal record, forwarding and task, by the
source's route.
The model's choices it rests on: log entry 8. -/
def Obligations.RaisesAreRouted : Prop :=
  ∀ (s : State) (n sub : Nat), Settled s → n < 256 →
    let r := routeOf s n
    let t := settleEvents (raise n s sub)
    t.evt.pend.getLsbD n = true ∧ Settled t
    ∧ Store.get 0 t.evt.count n = Store.get 0 s.evt.count n + 1
    ∧ Store.get 0 t.evt.last n = s.jrn.optime.setWidth 32
    ∧ (∀ m, m ≠ n → m ≠ 216 → Store.get 0 t.evt.count m = Store.get 0 s.evt.count m
      ∧ t.evt.pend.getLsbD m = s.evt.pend.getLsbD m)
    ∧ (r.pair = true → s.isActive = true → (n, sub) ∈ t.evt.forward)
    ∧ (∀ k, r.task = some k → s.isActive = true → (t.task k).trig = true
      ∧ ((s.task k).trig = true → (routeOf s 216).task = none → (t.task k).merged = satInc (s.task k).merged))
    ∧ (r.journal = false ∨ recordless n = true → t.jrn.buffer = s.jrn.buffer)
    ∧ (r.journal = true → recordless n = false → r.severity < 6 →
      mergeLast s.jrn.optime (routedRec r n sub false) s.jrn.buffer = none →
      bufferCount s < 2048 → bufferCount s ≠ 1535 → (nextKey s.jrn).1 ≤ s.jrn.optime.toNat + 1000 →
        t.jrn.buffer = s.jrn.buffer ++ [{
          optime := BitVec.ofNat 48 (nextKey s.jrn).1, order := BitVec.ofNat 4 (nextKey s.jrn).2, pcyc := s.jrn.pcyc
          sev := BitVec.ofNat 3 r.severity, source := BitVec.ofNat 8 n
          payload := if payloadSource n then BitVec.ofNat 64 (sub % 2 ^ 32) else 0 }])

/-- Journal flushes, sealed extracts, the rebuild, and the times that the journal keeps.
The model's choices it rests on: log entries 12 and 71. -/
def Obligations.JournalCommands : Prop :=
  ∀ s : State, Calm s → Settled s →
    let keeps := fun (t : State) => t.start = s.start ∧ t.tide = s.tide ∧ t.cal = s.cal ∧ t.flash = s.flash ∧ t.loop = s.loop
    (∀ p : Path,
      (s.jrn.busy = false → s.jrn.flushing = false → s.jrn.rebuilt = true → Gives (.flush p 0x6A52) s fun t =>
        t.jrn = { s.jrn with flushing := true, taken := s.jrn.buffer, buffer := [], busy := true, done := false
                             reason := 0, hostFlush := true }
        ∧ t.mram.journal = s.mram.journal ∧ keeps t)
      ∧ (s.jrn.busy = true → (Gives (.flush p 0x6A52) s fun t => t.jrn = { s.jrn with reason := 3 } ∧ keeps t)
        ∧ Gives (.extract p 0x6A52) s fun t => t.jrn = { s.jrn with reason := 3 } ∧ keeps t)
      ∧ (∀ k, s.jrn.busy = false → 1 ≤ s.jrn.extCount.toNat → s.jrn.extCount.toNat ≤ 1024 →
        s.jrn.extFirst.toNat + s.jrn.extCount.toNat ≤ 1048576 → s.keys.sealKey = some k → s.keys.sealBlob ≠ 0xFF →
          Gives (.extract p 0x6A52) s fun t =>
            t.jrn = { s.jrn with reason := 0, busy := true, done := false, extNext := extractBytes s k } ∧ keeps t))
    ∧ (s.jrn.flushing = true → s.jrn.again = false → Gives .journalFlushEnd s fun t =>
      t.jrn.flushing = false ∧ t.jrn.taken = [] ∧ keeps t
      ∧ (s.jrn.hostFlush = true → t.jrn.busy = false ∧ t.jrn.done = true)
      ∧ ∀ (r : JRec) (v : Nat), s.jrn.taken = [r] → freeSlot 0 s.mram.journal = some v →
        Store.get [] t.mram.journal v = recBytes r
        ∧ ∀ w, w ≠ v → Store.get [] t.mram.journal w = Store.get [] s.mram.journal w)
    ∧ (s.jrn.extNext ≠ [] → Gives .jrnExtractDone s fun t =>
      t.jrn.extBuf = s.jrn.extNext ∧ t.jrn.extNext = [] ∧ t.jrn.busy = false ∧ t.jrn.done = true
      ∧ t.evt.pend.getLsbD 218 = true ∧ keeps t)
    ∧ (s.jrn.rebuilt = false → s.jrn.again = false → Gives .journalRebuildEnd s fun t =>
      t.jrn.rebuilt = true ∧ t.jrn.flushing = s.jrn.flushing ∧ t.mram.journal = s.mram.journal ∧ keeps t
      ∧ t.jrn.corrupt = satNat 32 (s.mram.journal.filter fun e => !zeros e.2 0 32 && !slotValid e.2).length)
    ∧ (Gives .optimeStore s fun t => t.mram = { s.mram with dev := { s.mram.dev with optime := s.jrn.optime } }
      ∧ t.jrn = s.jrn ∧ keeps t)
    ∧ (s.jrn.buffer = [] → s.jrn.taken = [] → s.jrn.flushing = false → s.jrn.rebuilt = true →
      (nextKey s.jrn).1 ≤ s.jrn.optime.toNat + 1000 → Gives .dailyAnchor s fun t =>
        t.jrn.taken.map (fun r => (r.source, r.sub, r.sev, r.code, r.payload)) = [(220, 4, 7, 1, anchorPayload s)]
        ∧ t.jrn.flushing = true ∧ t.evt.pend.getLsbD 220 = true ∧ keeps t)

/-! ## Keys -/

/-- An accepted key command is pending with what it will answer and do; while one is pending, any further one is
rejected.
The model's choices it rests on: log entry 40. -/
def Obligations.KeyCommandsBecomePending : Prop :=
  ∀ (s : State) (p : Path), Calm s →
    let k := s.keys
    let pends := fun (i : Instr) (j : KeyJob) => Gives i s fun t =>
      t.keys = { k with reason := 0, done := false, job := some j } ∧ t.fuses = s.fuses ∧ t.mram.blobs = s.mram.blobs
      ∧ t.mram.dev.owner = s.mram.dev.owner ∧ t.mram.dev.armed = s.mram.dev.armed ∧ t.ports = s.ports
    let rejects := fun (i : Instr) (r : Byte) => Gives i s fun t =>
      t.keys = { k with reason := r } ∧ t.fuses = s.fuses ∧ t.mram.blobs = s.mram.blobs ∧ t.ports = s.ports
    (k.job.isSome = true → ∀ i ∈ [Instr.attest p 0xC3E9, .endorse p 0xC3E9, .keyOrigin p 0xC3E9, .generate p 0xC3E9
      , .importKey p 0xC3E9, .install p 0xC3E9, .load p 0xC3E9, .enrolArm p 0xC3E9, .fuseCommit p 0xC3E9
      , .readChain p 0xC3E9, .readBlob p 0xC3E9], rejects i 9)
    ∧ (k.job = none →
      pends (.attest p 0xC3E9) { out := attestation s }
      ∧ pends (.endorse p 0xC3E9) { out := endorsement s }
      ∧ pends (.readChain p 0xC3E9)
        { out := (List.range 4).flatMap fun n => leBytes 4 (Config.certificate n).length ++ Config.certificate n }
      ∧ (∀ b x, slotBlob s (argSlot k) = some (b, x) →
        (b.provable = true → argSlot k ≤ 7 → pends (.keyOrigin p 0xC3E9) { out := keyOriginOf s b x })
        ∧ (b.provable = false ∨ 7 < argSlot k → rejects (.keyOrigin p 0xC3E9) 5)
        ∧ pends (.readBlob p 0xC3E9) { out := b.raw }
        ∧ (b.purpose = 2 ∨ b.purpose = 3 → pends (.load p 0xC3E9) { effect := .load b x })
        ∧ (b.purpose ≠ 2 → b.purpose ≠ 3 → rejects (.load p 0xC3E9) 4)
        ∧ (argRx k = false → b.purpose = 1 → b.usage = 1 → argAn k ≠ (s.port (argPort k)).txAn.toNat →
          pends (.install p 0xC3E9) { effect := .install (argPort k) false (argSc k) (argAn k) x })
        ∧ (argRx k = false → b.purpose = 1 → b.usage = 1 → argAn k = (s.port (argPort k)).txAn.toNat →
          rejects (.install p 0xC3E9) 11))
      ∧ (slotBlob s (argSlot k) = none → rejects (.keyOrigin p 0xC3E9) 2 ∧ rejects (.readBlob p 0xC3E9) 2
        ∧ rejects (.load p 0xC3E9) 2)
      ∧ (k.held.getLsbD (argSlot k) = false → purposeFits (argUsage k) (argPurpose k) = true → argProvable k = false →
        (∃ b, pends (.generate p 0xC3E9) { out := b.raw, effect := .blob b } ∧ b.num = argSlot k ∧ b.generated = true
          ∧ b.usage = argUsage k ∧ b.purpose = argPurpose k)
        ∧ (argWrapped k = false → k.inLen.toNat = purposeLength (argPurpose k) →
          ∃ b, pends (.importKey p 0xC3E9) { out := b.raw, effect := .blob b } ∧ b.num = argSlot k ∧ b.generated = false
            ∧ b.provable = false ∧ b.usage = argUsage k ∧ b.purpose = argPurpose k))
      ∧ (argProvable k = true → rejects (.importKey p 0xC3E9) 1)
      ∧ (s.mram.dev.owner = none → pends (.enrolArm p 0xC3E9) { effect := .arm (wordTable k.enrolHash 8) })
      ∧ (s.mram.dev.owner.isSome = true → rejects (.enrolArm p 0xC3E9) 7)
      ∧ (2 ≤ s.start.stage → s.fuses < k.fwSv.toNat → pends (.fuseCommit p 0xC3E9) { effect := .fuse })
      ∧ (k.fwSv.toNat ≤ s.fuses → rejects (.fuseCommit p 0xC3E9) 8)
      ∧ (s.start.stage < 2 → s.fuses < k.fwSv.toNat → rejects (.fuseCommit p 0xC3E9) 10))

/-- KEY_COMMAND_DONE: the output stands in KEY_OUT, KEY_IN is cleared, and the effect has happened.
The model's choices it rests on: log entry 40. -/
def Obligations.KeyCommandDone : Prop :=
  ∀ (s : State) (j : KeyJob), Calm s → s.keys.job = some j → Gives .keyCommandDone s fun t =>
    t.keys.job = none ∧ t.keys.done = true ∧ t.keys.keyIn = [] ∧ t.keys.length = satNat 16 j.out.length
    ∧ (j.out ≠ [] → t.keys.out = j.out) ∧ (j.out = [] → t.keys.out = s.keys.out) ∧ t.keys.args = s.keys.args
    ∧ t.start = s.start ∧ t.flash = s.flash ∧ t.mram.journal = s.mram.journal
    ∧ (j.effect ≠ .fuse → t.fuses = s.fuses)
    ∧ (j.effect = .fuse → t.fuses = max s.fuses (min 64 s.keys.fwSv.toNat) ∧ t.mram.blobs = s.mram.blobs)
    ∧ (j.effect = .none → t.mram.blobs = s.mram.blobs ∧ t.ports = s.ports)
    ∧ ((∃ b, j.effect = .blob b) ∨ (∃ n rx sc an key, j.effect = .install n rx sc an key) ∨ (∃ b key, j.effect = .load b key)
      → t.evt.pend.getLsbD 204 = true)
    ∧ (j.effect = .fuse → t.evt.pend.getLsbD 205 = true)
    ∧ (∀ b, j.effect = .blob b → Store.get none t.mram.blobs b.num = some b ∧ t.ports = s.ports
      ∧ ∀ n, n ≠ b.num → Store.get none t.mram.blobs n = Store.get none s.mram.blobs n)
    ∧ (∀ n sc an key, j.effect = .install n false sc an key →
      Store.get none (t.port n).txSa an = some { key := key.take 32, salt := key.drop 32, pn := 1 }
      ∧ (t.port n).rxSa = (s.port n).rxSa ∧ t.mram.blobs = s.mram.blobs ∧ ∀ m, m ≠ n → t.port m = s.port m)
    ∧ (∀ n sc an key, j.effect = .install n true sc an key →
      Store.get none (t.port n).rxSa (4 * sc + an) = some { key := key.take 32, salt := key.drop 32, pn := 1 }
      ∧ (t.port n).txSa = (s.port n).txSa ∧ t.mram.blobs = s.mram.blobs ∧ ∀ m, m ≠ n → t.port m = s.port m)
    ∧ (∀ b key, j.effect = .load b key →
      (b.purpose = 2 → t.keys.sealKey = some key ∧ t.mram.dev.sealBlob = some b ∧ t.keys.hostKey = s.keys.hostKey)
      ∧ (b.purpose ≠ 2 → t.keys.hostKey = some key ∧ t.keys.sealKey = s.keys.sealKey))
    ∧ (∀ h, j.effect = .arm h → t.mram.dev.armed = some h ∧ t.mram.dev.owner = s.mram.dev.owner)

/-! ## Clocks and calendar -/

/-- Clock monitors, the switch of a loop's reference to HFIO, power modes, and the frequency measurement.
The model's choices it rests on: log entries 21 and 24. -/
def Obligations.ClockCommands : Prop :=
  ∀ (s : State) (p : Path), Calm s →
    let clk := fun (i : Instr) (k : Clk) => Gives i s fun t =>
      t.clk = k ∧ t.start = s.start ∧ t.cal = s.cal ∧ t.tide = s.tide ∧ t.ntime = s.ntime ∧ t.fio = s.fio ∧ t.flash = s.flash
    let k := s.clk
    (∀ c : MonClock, k.armed = true →
      let hit : BitVec 3 := match c with
        | .xtal1 => 7
        | .pllSys => 1
        | .pllSol => 2
        | .pllNet => 4
      Gives (.clkMonTrip c) s fun t =>
        t.clk.opened = k.opened ||| hit ∧ t.clk.lock = k.lock &&& ~~~ hit ∧ t.clk.trips = satInc k.trips
        ∧ t.clk.trip = putBit k.trip (tripBit c) true ∧ t.clk.us = k.us ∧ t.evt.pend.getLsbD 9 = true)
    ∧ (k.opened ≠ 0 → k.qual.getLsbD 0 = true → clk .loopReferenceSwitch
      { k with onHfio := k.onHfio ||| k.opened, relocking := k.relocking ||| k.opened, lock := k.lock ||| k.opened, opened := 0 })
    ∧ (∀ c i, loopBit c = some i → k.relocking.getLsbD i = true → Gives (.clkLoopFail c) s (Restarted .hostWarm s))
    ∧ (k.qual.getLsbD 2 = true → clk .hfioTrim { k with trimmed := true })
    ∧ (s.start.stage = 1 → clk (.sleep p 0xD7E5) { k with mode := .sleep })
    ∧ (s.start.stage = 1 → s.moor.record = none → s.fio.applied = 0 →
      clk (.deep p 0xD7E5) { k with mode := .deep, qual := putBit k.qual 0 false, armed := false })
    ∧ (s.start.stage ≠ 1 → clk (.sleep p 0xD7E5) k ∧ clk (.deep p 0xD7E5) k)
    ∧ (∀ w : WakeSource, k.mode ≠ .run →
      (k.wakeEn.getLsbD (wakeNumber w - 1) = true → clk (.wake w)
        { k with mode := .run, wakeCause := BitVec.ofNat 3 (wakeNumber w)
                 armed := k.armed || decide (k.mode = .deep && k.lock ≠ 0) })
      ∧ (k.wakeEn.getLsbD (wakeNumber w - 1) = false → clk (.wake w) k))
    ∧ (∀ e : BitVec 12, clk (.clkRunEnWrite p e) { k with runEn := e ||| blocksInUse s })
    ∧ (k.fmBusy = false → gateLength k ≠ 0 → clk (.fmeasStart p) { k with fmBusy := true, fmCount := 0 })
    ∧ (k.fmBusy = true →
      (∀ n : Nat, clk (.fmeasDone n) { k with fmBusy := false, fmDone := true, fmCount := BitVec.ofNat 32 (min n 0xFFFFFFFF)
                                              fmOvf := k.fmOvf || decide (0xFFFFFFFF < n) })
      ∧ clk .fmeasErr { k with fmBusy := false, fmErr := true })

/-- The calendar: its second, alarms, settings and shifts, and the flag that says it stopped.
The model's choices it rests on: log entries 13 and 20. -/
def Obligations.CalendarCommands : Prop :=
  ∀ (s : State) (p : Path),
    let c := s.cal
    let n : Int := (c.trimmed 1).1
    let second : Int := (c.trimmed (c.cyclesTo (32768 - c.now.sub))).1
    (Gives .calendarSecond s fun t =>
      t.cal.now = (c.now.moved second).1 ∧ t.cal.acc = (c.trimmed (c.cyclesTo (32768 - c.now.sub))).2
      ∧ t.clk = s.clk ∧ t.start = s.start ∧ t.cal.trim = c.trim
      ∧ t.cal.bkpSecs = (if c.onVbat then satInc c.bkpSecs else c.bkpSecs)
      ∧ t.cal.osf = (c.osf || (c.now.moved second).2))
    ∧ (Gives .xtal2Stop s fun t => t.cal = { c with osf := true, cause := putBit c.cause 1 true }
      ∧ t.clk = { s.clk with qual := putBit s.clk.qual 3 false } ∧ t.start = s.start)
    ∧ (Gives .backupBrownout s fun t => t.cal = { c with osf := true, cause := putBit c.cause 2 true } ∧ t.clk = s.clk)
    ∧ (Gives .backupPowerOnReset s fun t => t.cal = {} ∧ t.clk = s.clk ∧ t.start = s.start)
    ∧ (∀ b : Bool, Gives (.vbatSwitch b) s fun t =>
      t.cal = { c with onVbat := b, bkpSwitch := if b && !c.onVbat then satInc c.bkpSwitch else c.bkpSwitch })
    ∧ (∀ b : Bool, Gives (.vbatCheck b) s fun t => t.cal = { c with vbatLow := b })
    ∧ (∀ b : Bool, Calm s → alarmMatches c b = true → (alarmMet c b).contains c.now.secs = false →
      Gives (.calAlarm b) s fun t => t.cal.alm = putBit c.alm (if b then 1 else 0) true ∧ t.cal.now = c.now
        ∧ t.evt.pend.getLsbD (if b then 17 else 16) = true)
    ∧ (Calm s →
      let sets := fun (i : Instr) (x : CalTime) => Gives i s fun t =>
        t.cal.now = x ∧ t.cal.acc = 0 ∧ t.cal.osf = false ∧ t.cal.cause = 0 ∧ t.cal.trim = c.trim
        ∧ t.evt.pend.getLsbD 19 = true ∧ t.stg = s.stg ∧ t.start = s.start
      let rejects := fun (i : Instr) => Gives i s fun t => t.cal = { c with cmdRej := true } ∧ t.start = s.start
      ((stagedTime s.stg).valid = true → sets (.calSet p 0xCA1D) (stagedTime s.stg))
      ∧ ((stagedTime s.stg).valid = false → rejects (.calSet p 0xCA1D))
      ∧ (c.shift.toInt.natAbs ≤ 32768 → Gives (.shift p 0xCA1D) s fun t =>
        t.cal.now = (c.now.moved (n + c.shift.toInt)).1 ∧ t.cal.trim = c.trim ∧ t.evt.pend.getLsbD 19 = true
        ∧ t.cal.osf = (c.osf || (c.now.moved (n + c.shift.toInt)).2))
      ∧ (32768 < c.shift.toInt.natAbs → rejects (.shift p 0xCA1D))
      ∧ (∀ x, ptpCalendar s = some x → sets (.ptpSet p 0xCA1D) x
        ∧ (s.start.adopted = true → c.osf = true → ∀ r, s.man.bind (·.clock) = some r → r.auto = true →
          sets .automaticSetting x))
      ∧ (ptpCalendar s = none → rejects (.ptpSet p 0xCA1D))
      ∧ ∀ key : BitVec 16, key ≠ 0xCA1D → rejects (.calSet p key) ∧ rejects (.shift p key) ∧ rejects (.ptpSet p key))

/-! ## Closed-loop engine -/

/-- A loop group's sample: every loop of the group takes the result of its law, a loop in manual follows its manual output,
and the loops of other groups stand as they were.
The model's choices it rests on: log entries 30 and 78. -/
def Obligations.LoopGroupSample : Prop :=
  ∀ (s u : State) (m : BitVec 8) (k : TideMark), Calm s → s.isStandby = false → (s.loopTable.map (·.num)).Nodup →
    fireMark m.toNat 3 (clearSent s) = some (k, u) → Gives (.loopGroupSample m) s fun t =>
      (∀ c ∈ s.loopTable, c.group = k.param →
        let law := loopLaw u c (captureMeasures u k.param) u.loop.volt
        let x := t.loopSt c.num
        x.started = true ∧ x.pv = law.pv ∧ x.spw = law.spw ∧ x.e = law.e ∧ x.u = law.u ∧ x.d = law.d ∧ x.kk = law.kk
        ∧ x.last = s.tide.cycle.setWidth 32
        ∧ ((s.loopSt c.num).started = true → (s.loopSt c.num).manual = true → testOn s c.num = none →
          x.u = clampI (s.loopSt c.num).man (s.loopSt c.num).lo (s.loopSt c.num).hi))
      ∧ (∀ n, (∀ c ∈ s.loopTable, c.num = n → c.group ≠ k.param) → t.loopSt n = s.loopSt n)
      ∧ Store.get 0 t.tide.fired m.toNat = Store.get 0 s.tide.fired m.toNat + 1
      ∧ t.tide.cycle = s.tide.cycle ∧ t.start = s.start ∧ t.flash = s.flash

/-- The end of an on-time, tests and captures. -/
def Obligations.LoopTestsAndCaptures : Prop :=
  ∀ (s : State) (p : Path), Calm s →
    let n := (s.path p).loop.toNat
    let e := s.loop
    let set := stagedTest e
    let loops := fun (i : Instr) (x : LoopEng) => Gives i s fun t =>
      t.loop = x ∧ t.start = s.start ∧ t.tide = s.tide ∧ t.mtr = s.mtr
    (∀ (q : BitVec 9) (c : LoopCfg), loopCfg s q.toNat = some c → Gives (.loopPulseEnd q) s fun t =>
      t.loopSt q.toNat = (if (s.loopSt q.toNat).onUs < c.cycleTime * 1000 then { s.loopSt q.toNat with drive := false }
        else s.loopSt q.toNat)
      ∧ (∀ r, r ≠ q.toNat → t.loopSt r = s.loopSt r) ∧ t.start = s.start ∧ t.tide = s.tide)
    ∧ ((loopCfg s n).isSome = true → s.isStandby = false → e.tstPending = none →
      (testValid set = true → e.tests.length < 4 →
        loops (.testStart p 0x7E57) { e with tstReason := 0, tstPending := some (.start (BitVec.ofNat 9 n) set) })
      ∧ (testValid set = true → 4 ≤ e.tests.length → loops (.testStart p 0x7E57) { e with tstReason := 5 })
      ∧ (testValid set = false → loops (.testStart p 0x7E57) { e with tstReason := 2 })
      ∧ ((testOn s n).isSome = true →
        loops (.testStop p 0x7E57) { e with tstReason := 0, tstPending := some (.stop (BitVec.ofNat 9 n)) })
      ∧ (testOn s n = none → loops (.testStop p 0x7E57) { e with tstReason := 6 }))
    ∧ (loopCfg s n = none → loops (.testStart p 0x7E57) { e with tstReason := 1 }
      ∧ loops (.testStop p 0x7E57) { e with tstReason := 1 })
    ∧ (let c := (s.path p).cap.toNat
      let k := Store.get {} e.caps c
      (Gives (.captureArm p 0xCA9E) s fun t =>
        Store.get {} t.loop.caps c = { k with recs := [], wrap := false, state := .armed }
        ∧ (∀ r, r ≠ c → Store.get {} t.loop.caps r = Store.get {} e.caps r) ∧ t.loop.loops = e.loops)
      ∧ (Gives (.captureStop p 0xCA9E) s fun t =>
        Store.get {} t.loop.caps c = { k with state := if k.state = .idle then .idle else .stopped }
        ∧ (∀ r, r ≠ c → Store.get {} t.loop.caps r = Store.get {} e.caps r) ∧ t.loop.loops = e.loops)
      ∧ (Gives (.loopCapTagRead p) s fun t => t.loop = e ∧ t.path p = { s.path p with
        out := [match k.recs[(s.path p).capIdx.toNat % 16384]? with
          | some r => (r.time.cycle.setWidth 16 : BitVec 16) ++ r.time.angle
          | none => 0]
        capIdx := if (s.path p).capIdx.getLsbD 31 then
            0x80000000 ||| BitVec.ofNat 32 (((s.path p).capIdx.toNat % 16384 + 1) % 16384)
          else (s.path p).capIdx }))

/-! ## Field inputs and outputs -/

/-- Updates of the I/O dies, filtered inputs, readback and thermal faults: what each sets, which outputs go off, and the
common fault.
The model's choices it rests on: log entries 18 and 70. -/
def Obligations.FieldChannels : Prop :=
  ∀ s : State, Calm s →
    (Gives .ioDieUpdate s fun t =>
      (∀ n, n < 32 → t.fio.cmd.getLsbD n = wantOut (moorCycles s) n
        ∧ t.fio.await.getLsbD n = (s.fio.await.getLsbD n && t.fio.cmd.getLsbD n)
        ∧ (s.fio.kept = false → t.fio.applied.getLsbD n = dieApplies t n (t.fio.cmd.getLsbD n)))
      ∧ t.fio.fault = (s.fio.fault || faultConditions t) ∧ t.fio.thermal = s.fio.thermal ∧ t.fio.wdog = s.fio.wdog
      ∧ t.start = s.start ∧ t.loop = s.loop ∧ t.mtr = s.mtr)
    ∧ (∀ (n : BitVec 5) (v : Bool), (channelOf s n.toNat).mode ≠ .unused → s.fio.filtered.getLsbD n.toNat ≠ v →
      Gives (.inputFilterChange n v) s fun t =>
        t.fio.filtered = putBit s.fio.filtered n.toNat v ∧ t.fio.applied = s.fio.applied
        ∧ Store.get 0 t.fio.edges n.toNat = Store.get 0 s.fio.edges n.toNat + (if v then 1 else 0)
        ∧ (Store.get [] t.fio.hist n.toNat).head? = some (s.clk.hfNs, v) ∧ t.fio.fault = s.fio.fault
        ∧ t.start = s.start ∧ t.loop = s.loop ∧ t.mtr = s.mtr)
    ∧ (∀ n : BitVec 5, isOutput s n.toNat = true →
      (releasedOut s n.toNat = false → s.fio.filtered.getLsbD n.toNat ≠ s.fio.cmd.getLsbD n.toNat →
        Gives (.readbackMismatch n) s fun t =>
          t.fio.mismatch = putBit s.fio.mismatch n.toNat true ∧ t.fio.fault = true ∧ t.fio.applied = s.fio.applied
          ∧ (s.fio.fault = false → t.evt.pend.getLsbD 32 = true) ∧ t.start = s.start)
      ∧ (Gives (.thermalShutdown n) s fun t =>
        t.fio.thermal = putBit s.fio.thermal n.toNat true ∧ t.fio.fault = true
        ∧ (s.fio.kept = false → t.fio.applied.getLsbD n.toNat = false) ∧ (s.fio.fault = false → t.evt.pend.getLsbD 32 = true) ∧ t.start = s.start)
      ∧ (Gives (.thermalRestart n) s fun t =>
        t.fio.thermal.getLsbD n.toNat = false ∧ t.fio.fault = s.fio.fault ∧ t.start = s.start)
      ∧ (∀ b : Bool, s.isStandby = true → b ≠ wantOut s n.toNat → Gives (.outputStageTest n b) s fun t =>
        t.pair.outFail = true ∧ t.evt.pend.getLsbD 198 = true ∧ t.fio = s.fio ∧ t.start = s.start))

/-- The die watchdog, the group timer and the field supply of a group: the die acts on its own, whether or not the logic
die runs.
The model's choices it rests on: log entry 17. -/
def Obligations.FieldGroups : Prop :=
  ∀ (s : State) (g : BitVec 2),
    let off := fun (t : State) => ∀ n, n < 32 → n / 8 = g.toNat → t.fio.applied.getLsbD n = false
    (s.fio.loaded = true → s.fio.wdog.getLsbD g.toNat = false → Gives (.ioWatchdogTrip g) s fun t =>
      t.fio.wdog = putBit s.fio.wdog g.toNat true ∧ t.fio.fault = true ∧ t.start = s.start
      ∧ ∀ n, n < 32 → n / 8 = g.toNat → t.fio.wdogOut.getLsbD n = watchdogOn s n
        ∧ (s.fio.kept = false → t.fio.applied.getLsbD n = true → watchdogOn s n = true))
    ∧ (Gives (.groupTimerExpiry g) s fun t =>
      t.fio.expired = putBit s.fio.expired g.toNat true ∧ off t ∧ (groupUsed s g.toNat = true → t.fio.fault = true)
      ∧ t.start = s.start)
    ∧ (Gives (.vfldFault g) s fun t =>
      t.fio.supply = putBit s.fio.supply g.toNat true ∧ off t ∧ (groupUsed s g.toNat = true → t.fio.fault = true)
      ∧ t.start = s.start)
    ∧ (s.fio.supply.getLsbD g.toNat = true → Gives (.vfldReturn g) s fun t =>
      t.fio.supply = putBit s.fio.supply g.toNat false ∧ t.fio.fault = s.fio.fault ∧ t.start = s.start
      ∧ ∀ n, n < 32 → n / 8 = g.toNat → (channelOf s n).mode ≠ .input → s.fio.kept = false →
        t.fio.applied.getLsbD n = false)

/-! ## Metering -/

/-- Pulses reach a meter channel: the change is forwarded, or merged inside the 200 µs after the latest forwarding; its edge
is qualified once it has been stable, and a counted pulse adds its weight to the total and to the tariff's accumulator.
The model's choices it rests on: log entry 5. -/
def Obligations.MeterPulses : Prop :=
  ∀ s : State, Calm s → s.start.adopted = true → ((definedMeters s).map (·.chan)).Nodup → ∀ c ∈ definedMeters s,
    let m := s.meter c.chan
    let others := fun (t : State) => (∀ n, (∀ d ∈ definedMeters s, d.input = c.input → d.chan ≠ n) → t.meter n = s.meter n)
      ∧ t.start = s.start ∧ t.loop = s.loop
    (∀ ch : BitVec 5, c.input = ch.toNat →
      let raw := s.fio.raw.getLsbD ch.toNat
      let ended := if m.merging = true ∧ merges s.clk.us m = false then
          (if raw = m.fwd then { m with merging := false }
          else { m with merging := false, fwd := raw, fwdAt := Store.get 0 s.fio.rawAt c.input, fwdTime := m.fwdTime.map (· + 200) })
        else m
      (Gives (.pulseInputChange ch (!raw)) s fun t => t.fio.raw = putBit s.fio.raw ch.toNat (!raw) ∧ others t
        ∧ Store.get 0 t.fio.rawAt c.input = s.clk.us
        ∧ t.meter c.chan = (if merges s.clk.us ended = true then { ended with merging := true, merged := satInc m.merged }
          else { ended with fwd := !raw, fwdAt := s.clk.us, fwdTime := some s.clk.us }))
      ∧ (Gives (.pulseInputChange ch raw) s fun t => t.fio = s.fio ∧ others t ∧ t.meter c.chan = m)
      ∧ (Gives (.pulseMergeEnd ch) s fun t => t.fio = s.fio ∧ others t ∧ t.meter c.chan = ended))
    ∧ (∀ ch : BitVec 4, c.chan = ch.toNat → m.begun = false →
      let due := (Store.get 0 s.fio.rawAt c.input).toNat + max (stableTime c true) (stableTime c false)
      Gives (.meterCountBegin ch) s fun t => t.fio = s.fio ∧ t.start = s.start
        ∧ (due ≤ s.clk.us.toNat →
          t.meter c.chan = { m with begun := true, known := true, qs := s.fio.raw.getLsbD c.input })
        ∧ (s.clk.us.toNat < due → t.meter c.chan = m))
    ∧ (∀ ch : BitVec 4, c.chan = ch.toNat → s.clk.us.toNat - m.fwdAt.toNat < stableTime c m.fwd →
      Gives (.meterEdgeQualified ch) s fun t => t.meter c.chan = m ∧ t.fio = s.fio ∧ t.start = s.start)
    ∧ (∀ ch : BitVec 4, c.chan = ch.toNat → m.begun = true → m.fwd ≠ m.qs →
      stableTime c m.fwd ≤ s.clk.us.toNat - m.fwdAt.toNat →
      (m.fwd = c.onToOff → Gives (.meterEdgeQualified ch) s fun t =>
        t.meter c.chan = { m with qs := m.fwd } ∧ t.fio = s.fio ∧ t.start = s.start)
      ∧ (m.fwd ≠ c.onToOff → Gives (.meterEdgeQualified ch) s fun t =>
        let x := (t.meter c.chan).vals
        let w := BitVec.ofNat 64 c.weight
        let k := meterTariff s c (secondAt s m.fwdAt.toNat)
        x.total = m.vals.total + w ∧ (t.meter c.chan).pulses = m.pulses + 1 ∧ (t.meter c.chan).qs = m.fwd
        ∧ (t.meter c.chan).tp = some m.fwdAt ∧ x.cmds = m.vals.cmds
        ∧ x.acc0 = (if k = 0 then m.vals.acc0 + w else m.vals.acc0)
        ∧ x.acc1 = (if k = 1 then m.vals.acc1 + w else m.vals.acc1)
        ∧ x.acc2 = (if k = 2 then m.vals.acc2 + w else m.vals.acc2)
        ∧ x.acc3 = (if 3 ≤ k then m.vals.acc3 + w else m.vals.acc3)
        ∧ (c.weight < 2 ^ 64 → m.vals.total.toNat + c.weight < 2 ^ 64 → x.wTotal = m.vals.wTotal)
        ∧ (c.weight < 2 ^ 64 → 2 ^ 64 ≤ m.vals.total.toNat + c.weight → x.wTotal = m.vals.wTotal + 1
          ∧ t.evt.pend.getLsbD 33 = true)
        ∧ t.fio = s.fio ∧ t.start = s.start))

/-- The rate's decay, the tariff check, the host's clear and preset, and a save that completes. -/
def Obligations.MeterCommands : Prop :=
  ∀ (s : State) (p : Path), Calm s →
    let n := (s.path p).mtr.toNat
    let v := (s.meter n).vals
    let others := fun (t : State) => (∀ m, m ≠ n → t.meter m = s.meter m) ∧ t.mtr.done = true ∧ t.evt.pend.getLsbD 36 = true
      ∧ t.mram.saves = s.mram.saves ∧ t.start = s.start ∧ t.fio = s.fio
    (Gives (.meterClear p 0x3E7A) s fun t => others t
      ∧ (t.meter n).vals = { cmds := v.cmds + 1, since := v.since } ∧ (t.meter n).rate = 0 ∧ (t.meter n).tp = none
      ∧ (t.meter n).pulses = (s.meter n).pulses ∧ (t.meter n).qs = (s.meter n).qs)
    ∧ (∀ k : BitVec 3, k.toNat ≤ 4 → Gives (.meterPreset p 0x3E7A k) s fun t => others t
      ∧ (t.meter n).vals = { setTarget v k.toNat s.mtr.preset with cmds := v.cmds + 1 }
      ∧ (t.meter n).rate = (s.meter n).rate ∧ (t.meter n).pulses = (s.meter n).pulses)
    ∧ (((definedMeters s).map (·.chan)).Nodup → Gives .meterRateUpdate s fun t =>
      ∀ c ∈ definedMeters s,
        let m := s.meter c.chan
        let x := t.meter c.chan
        x.vals = m.vals ∧ (m.tp = none ∨ m.interval = 0 → x.rate = m.rate)
        ∧ ∀ tp, m.tp = some tp → m.interval ≠ 0 →
          let e := s.clk.us.toNat - tp.toNat
          (65535000000 < e → x.rate = 0 ∧ x.interval = 0)
          ∧ (e ≤ 65535000000 → m.interval < e → x.rate = BitVec.ofNat 64 (c.weight * 360000000000000 / e))
          ∧ (e ≤ 65535000000 → e ≤ m.interval → x.rate = m.rate))
    ∧ (∀ (m : BitVec 8) (k : TideMark) (u : State), ((definedMeters s).map (·.chan)).Nodup →
      fireMark m.toNat 7 (clearSent s) = some (k, u) → Gives (.meterTariffCheck m) s fun t =>
        t.start = s.start ∧ t.mram.saves = s.mram.saves
        ∧ ∀ c ∈ definedMeters s,
          (t.meter c.chan).tariff = some (meterTariff u c u.cal.now.secs) ∧ (t.meter c.chan).vals = (s.meter c.chan).vals)
    ∧ (∀ x l k, s.mtr.saving = x :: l → s.keys.sealKey = some k → Gives .meterSaveDone s fun t =>
      let q := (newestSave s).elim 1 (fun e => e.1 + 1)
      t.mtr.saving.map (·.b) = l.map (·.b) ∧ t.mtr.savedOnce = true ∧ t.mtr.saveSeq = BitVec.ofNat 32 q ∧ t.mtr.saveB = BitVec.ofNat 64 x.b
      ∧ Store.get [] t.mram.saves (q % 16) = saveBody s x q ++ saveSeal k (saveBody s x q)
      ∧ (∀ j, j ≠ q % 16 → Store.get [] t.mram.saves j = Store.get [] s.mram.saves j)
      ∧ (∀ j, (t.meter j).vals.total = (s.meter j).vals.total) ∧ t.start = s.start ∧ t.fio = s.fio)

/-! ## Ports and network time -/

/-- Links, launches, received frames and transmit associations of a port: what each changes on its port, and the other
ports stand as they were.
The model's choices it rests on: log entries 11, 31, 42, 43, 79 and 80. -/
def Obligations.PortCommands : Prop :=
  ∀ (s : State) (p : BitVec 3), Calm s →
    let n := p.toNat
    let x := s.port n
    let c := portCfg s n
    let gives := fun (i : Instr) (P : State → Port → Prop) => Gives i s fun t =>
      P t (t.port n) ∧ (∀ m, m ≠ n → t.port m = s.port m) ∧ t.ntime = s.ntime ∧ t.start = s.start
        ∧ t.scan.data = s.scan.data
    (c.enabled = true →
      (n < 4 → ∀ m full o, (linkOf n c (.codeword m full) o).isSome = decide (m = 1000 ∧ full = true))
      ∧ (4 ≤ n → ∀ o, linkOf n c .t1l o = some (if c.ampl = 3 then (if o then 1 else 2) else BitVec.ofNat 2 c.ampl))
      ∧ (∀ g o a, linkOf n c g o = some a → gives (.linkChange p g o) fun t y =>
        y = { x with up := true, ampl := a, changed := x.changed || !x.up }
        ∧ (x.up = false → t.evt.pend.getLsbD 64 = true))
      ∧ (∀ g o, linkOf n c g o = none → gives (.linkChange p g o) fun t y =>
        y = { x with up := false, ampl := 0, changed := x.changed || x.up, q2 := [], q3 := []
                     linkdown := satNat 16 (x.linkdown.toNat + x.q2.length + x.q3.length) }
        ∧ (x.up = true → t.evt.pend.getLsbD 64 = true)))
    ∧ (∀ (f : QFrame) (r : List QFrame), c.enabled = true → x.busyTill ≤ s.clk.hfNs → launchStopped s = false →
      x.q0 = f :: r → headDue s f = true →
      let late := f.launch.any fun t => decide (stampNanos t + x.lateLimit.toNat * 1000 < nowNanos s)
      let goes := fun (b : Bytes) (y : Port) => y.q0 = r ∧ y.q1 = x.q1 ∧ y.q2 = x.q2 ∧ y.q3 = x.q3 ∧ y.tx = x.tx + 1 ∧ y.sent = b
        ∧ y.busyTill = s.clk.hfNs + frameNanos n b.length
        ∧ (f.ident = none → y.tsq = x.tsq)
        ∧ ∀ i, f.ident = some i → x.tsq.length < 16 → y.tsq = x.tsq ++ [(i, stampMoved s.ntime.now (x.cfg.txLat : Nat))]
      (f.suppressed = true ∨ s.isStandby = true → gives (.frameLaunch p) fun _ y => y = { x with q0 := r })
      ∧ (f.suppressed = false → s.isStandby = false →
        (late = true → gives (.frameLaunch p) fun t y =>
          y = { x with q0 := r, late := satInc x.late } ∧ t.evt.pend.getLsbD 68 = true)
        ∧ (late = false → x.up = false → gives (.frameLaunch p) fun _ y =>
          y = { x with q0 := r, linkdown := satInc x.linkdown })
        ∧ (late = false → x.up = true → protects c f.bytes = false → gives (.frameLaunch p) fun _ y => goes f.bytes y)
        ∧ (late = false → x.up = true → protects c f.bytes = true →
          ∀ a, Store.get none x.txSa x.txAn.toNat = some a → (c.xpn = true ∨ a.pn.toNat < 0xFFFFFFFF) →
            gives (.frameLaunch p) fun t y =>
              goes (protectFrame a c x.txAn.toNat f.bytes) y
              ∧ Store.get none y.txSa x.txAn.toNat = some { a with pn := a.pn + 1 }
              ∧ (c.xpn = false → a.pn.toNat + 1 = 0xC0000000 → t.evt.pend.getLsbD 66 = true))))
    ∧ (∀ f : QFrame, s.clk.hfNs < x.busyTill → x.q0.head? = some f → gives (.frameLaunch p) fun _ y => y = x)
    ∧ (c.enabled = true → ∀ f : Bytes,
      let sized := decide (60 ≤ f.length ∧ f.length ≤ 1556) && addressed c f
      let stamp := stampMoved s.ntime.now (-(c.rxLat : Int))
      let passed := fun (b : Bytes) (z y : Port) => y =
        if isPtp b = true then { z with ptpIn := x.ptpIn ++ [(b, if ptpEvent b then some stamp else none)] }
        else if c.mgmt = true then z else { z with filter := satInc x.filter }
      (gives (.frameReceived p f false) fun _ y => y = { x with fcs := satInc x.fcs })
      ∧ (sized = false → gives (.frameReceived p f true) fun _ y => y = { x with filter := satInc x.filter })
      ∧ (sized = true → protects c f = false → stationType s f = false → gives (.frameReceived p f true) fun _ y =>
        passed f { x with rx := x.rx + 1 } y)
      ∧ (sized = true → protects c f = false → stationType s f = true → Gives (.frameReceived p f true) s fun t =>
        (t.port n).rx = x.rx + 1 ∧ t.stn = (stationFrameIn n f s).stn)
      ∧ (sized = true → protects c f = true →
        (openFrame s n c f = .inr true → gives (.frameReceived p f true) fun t y =>
          y = { x with rx := x.rx + 1, icv := satInc x.icv } ∧ t.evt.pend.getLsbD 65 = true)
        ∧ (openFrame s n c f = .inr false → gives (.frameReceived p f true) fun t y =>
          y = { x with rx := x.rx + 1, other := satInc x.other } ∧ t.evt.pend.getLsbD 65 = true)
        ∧ ∀ j k b a, openFrame s n c f = .inl (j, k, b) → stationType s b = false → Store.get none x.rxSa j = some a →
          gives (.frameReceived p f true) fun _ y =>
            passed b { x with rx := x.rx + 1, rxSa := Store.set none x.rxSa j (some { a with pn := k }) } y))
    ∧ (∀ (path : Path) (an : BitVec 2) (key : BitVec 16), (s.path path).net = p →
      (∀ a, key = 0x5A17 → s.isStandby = false → Store.get none x.txSa an.toNat = some a →
        gives (.txanChange path key an) fun _ y => y.txAn = an ∧ Store.get none y.txSa an.toNat = some { a with pn := 1 }
          ∧ y.rej = x.rej ∧ ∀ m, m ≠ an.toNat → Store.get none y.txSa m = Store.get none x.txSa m)
      ∧ ((key ≠ 0x5A17 ∨ s.isStandby = true ∨ Store.get none x.txSa an.toNat = none) →
        gives (.txanChange path key an) fun _ y => y = { x with rej := true }))

/-- The host's increment and step of NTIME, and what PTP decides: applied where their conditions hold, else rejected with
NTIME as it was.
The model's choices it rests on: log entries 13, 42, 44 and 81. -/
def Obligations.NetworkTimeCommands : Prop :=
  ∀ s : State, Calm s →
    let z := s.ntime
    let gives := fun (i : Instr) (P : State → Ntime → Prop) => Gives i s fun t =>
      P t t.ntime ∧ t.start = s.start ∧ t.scan.data = s.scan.data
    (∀ (path : Path) (f : Word),
      (hostTime s = true → incrOk z.incrInt f = true → gives (.ntimeIncrFracWrite path f) fun _ y =>
        y = { z with incrFrac := f, incr := BitVec.ofNat 40 (z.incrInt.toNat * 2 ^ 32 + f.toNat) })
      ∧ (hostTime s = false ∨ incrOk z.incrInt f = false → gives (.ntimeIncrFracWrite path f) fun _ y =>
        y = { z with hostRej := true }))
    ∧ (∀ path : Path,
      let m : Int := z.stepSec.toNat * 10 ^ 9 + z.stepNs.toNat
      let v : Int := nowNanos (elapse 1 s) + (if z.stepNeg then -m else m)
      (hostTime s = false → gives (.ntimeStep path 0x7143) fun _ y => y = { z with hostRej := true })
      ∧ (hostTime s = true → z.started = true → z.stepNs.toNat ≤ 999999999 →
        (0 ≤ v → v < (2 ^ 48 * 10 ^ 9 : Nat) → gives (.ntimeStep path 0x7143) fun t y =>
          (stampNanos y.now : Int) = v ∧ y.set = true ∧ y.steps = z.steps + 1 ∧ y.incr = z.incr ∧ t.evt.pend.getLsbD 69 = true)
        ∧ (v < 0 ∨ (2 ^ 48 * 10 ^ 9 : Nat) ≤ v → gives (.ntimeStep path 0x7143) fun _ y =>
          y.now = (elapse 1 s).ntime.now ∧ y.stepRej = true ∧ y.steps = z.steps))
      ∧ (hostTime s = true → z.started = false ∨ 999999999 < z.stepNs.toNat → gives (.ntimeStep path 0x7143) fun _ y =>
        y = { z with stepRej := true }))
    ∧ (∀ (p : BitVec 3) (b : Bytes) (a : PtpAction) (w : Option Stamp), (portCfg s p.toNat).enabled = true →
      (portCfg s p.toNat).ptp = true →
      ((s.port p.toNat).ptpIn.find? (·.1 == b) = some (b, w)
        ∨ (s.port p.toNat).ptpIn.find? (·.1 == b) = none ∧ plainTakes s p.toNat b = true ∧ isPtp b = true
          ∧ w = if ptpEvent b then some (stampMoved z.now (-((portCfg s p.toNat).rxLat : Int))) else none) →
      let taken := fun (t : State) => (t.port p.toNat).tsq = []
        ∧ (t.port p.toNat).rxStamp = if w.isSome then w else (s.port p.toNat).rxStamp
      (s.isStandby = true ∨ ptpServed s b = false → gives (.ptpMessage p b a) fun t y => y = z ∧ taken t)
      ∧ (s.isStandby = false → ptpServed s b = true → gives (.ptpMessage p b a) fun t y => taken t ∧ y.servo = a.servo
        ∧ y.offset = BitVec.ofInt 32 (max (-2147483648) (min 2147483647 a.offset))
        ∧ (z.servo ≠ a.servo → t.evt.pend.getLsbD 70 = true)
        ∧ (a.incr = none → y.incr = z.incr)
        ∧ (∀ i f, a.incr = some (i, f) → incrOk i f = true → y.incr = BitVec.ofNat 40 (i.toNat * 2 ^ 32 + f.toNat))
        ∧ (a.step = none → y.now = z.now ∧ y.frac = z.frac ∧ y.steps = z.steps)
        ∧ (∀ i m, a.reply = some (i, m) → a.step = none → ptpMay s p.toNat m = true → (s.port p.toNat).up = true → (s.port p.toNat).q2.length < 32 →
          (t.port p.toNat).q2 = (s.port p.toNat).q2 ++ [{ bytes := m, ident := some i }])))
    ∧ (∀ p, (List.range 8).find? (fun p => (portCfg s p).enabled && (portCfg s p).ptp) = some p →
      gives .announceReceiptTimeout fun t y =>
        y = { z with gmUtc := none, servo := if z.servo = 2 then 3 else if z.servo = 1 then 0 else z.servo }
        ∧ (z.servo = 2 ∨ z.servo = 1 → t.evt.pend.getLsbD 70 = true))

/-! ## Station engine -/

/-- Launches, replies, polls and rejoins of the stations.
The model's choices it rests on: log entries 31, 42 and 85. -/
def Obligations.StationExchange : Prop :=
  ∀ s : State, Calm s →
    let gives := fun (i : Instr) (n : Nat) (P : State → Stn → Prop) => Gives i s fun t =>
      P t (t.station n) ∧ (∀ m, m ≠ n → t.station m = s.station m) ∧ t.start = s.start
    (∀ (mark : BitVec 8) (k : TideMark) (u : State), fireMark mark.toNat 4 (clearSent s) = some (k, u) →
      (s.start.stage.toNat < 2 → Gives (.ferryFrameLaunch mark) s fun t => t.stn = s.stn ∧ t.ports = s.ports
        ∧ t.tide.lastFired = u.tide.lastFired)
      ∧ (2 ≤ s.start.stage.toNat → ((groupStations s k.param).map (·.num)).Nodup →
        Gives (.ferryFrameLaunch mark) s fun t =>
          (∀ c ∈ groupStations s k.param,
            let x := t.station c.num
            x.seq = nextSeq (s.station c.num).seq ∧ x.epoch = s.mram.dev.epoch ∧ x.launch = some (markTime u k)
            ∧ x.gotA = false ∧ x.gotB = false ∧ x.wentA = false ∧ x.wentB = false ∧ x.phase = (s.station c.num).phase)
          ∧ (∀ n, (∀ c ∈ groupStations s k.param, c.num ≠ n) → t.station n = s.station n)
          ∧ (∀ p n, (t.port p).queue (n + 1) = (s.port p).queue (n + 1)) ∧ t.start = s.start
          ∧ t.scan.data = s.scan.data)
      ∧ (∀ c, 2 ≤ s.start.stage.toNat → groupStations s k.param = [c] → c.dual = false →
        let pl := stationPlace s c.num
        let drop := decide ((s.station c.num).phase ≠ .exchanging)
        let words := if drop then [] else outputImage s c
        let off := s.stationTable.groups.getD k.param 0
        let apply := if off = 0 then none else launchTime u mark.toNat k off
        let head := stationHead 1 c.num (nextSeq (s.station c.num).seq) s.mram.dev.epoch u.tide.cycle.toNat k.angle
          (boolNat s.forcing + 2 * boolNat drop + 8 * boolNat apply.isSome + 4 * boolNat false) 0 apply words.length
        let at0 := (launchTime u mark.toNat k 0).getD u.ntime.now
        (s.port pl.portA).q0.length < 256 → Gives (.ferryFrameLaunch mark) s fun t =>
          (t.port pl.portA).q0 = (s.port pl.portA).q0 ++
            [{ bytes := stationFrame s c pl.portA false head words, launch := some (stampLater at0 pl.offA), fromMark := true
               station := some (c.num, false) }]))
    ∧ (∀ (port : BitVec 3) (f : Bytes), toStations s port.toNat f = false →
      (Gives (.ferryReply port f) s fun t => t.stn = s.stn ∧ t.scan = s.scan)
      ∧ Gives (.pollReply port f) s fun t => t.stn = s.stn ∧ t.scan = s.scan)
    ∧ (∀ (port : BitVec 3) (f : Bytes), toStations s port.toNat f = true → s.isStandby = false →
      let r := splitFrame f
      let n := fld r.head 2 2
      let x := s.station n
      (stationCfg s n = none → Gives (.ferryReply port f) s fun t => t.stn = { s.stn with rxBad := s.stn.rxBad + 1 }
        ∧ t.scan.data = s.scan.data ∧ t.start = s.start)
      ∧ (∀ c b, stationCfg s n = some c → c.num = n → replyPath s c port.toNat r.src = some b → fld r.head 4 4 = x.seq.toNat →
        fld r.head 8 8 = x.epoch.toNat →
        let words := fun (idx : List Nat) => (bytesToWords r.data).take idx.length
        (c.cfgC = true → x.launch.isSome = true → replyFormed r 2 0 (inputWords c).length = true →
          (x.gotA = false → x.gotB = false → gives (.ferryReply port f) n fun t y =>
            y.rx = x.rx + 1 ∧ y.last = s.tide.cycle.setWidth 32 ∧ y.stale = 0 ∧ y.fresh = true ∧ y.gotA = !b ∧ y.gotB = b
            ∧ y.failsafe = (fld r.head 30 1 == 1) ∧ y.seq = x.seq ∧ y.misses = x.misses
            ∧ t.scan.data = scatter s.scan.data (inputWords c) (words (inputWords c)))
          ∧ (x.gotA = true ∨ x.gotB = true → gives (.ferryReply port f) n fun t y =>
            y = { x with gotA := x.gotA || !b, gotB := x.gotB || b } ∧ t.scan.data = s.scan.data))
        ∧ ∀ q, c.cfgC = false → x.poll = some q → s.clk.hfNs ≤ q.till → replyFormed r 4 q.mod (moduleWords c q.mod).length = true →
          gives (.pollReply port f) n fun t y =>
            y.rx = x.rx + 1 ∧ y.last = s.tide.cycle.setWidth 32 ∧ y.stale = 0 ∧ y.fresh = true ∧ y.poll = none
            ∧ y.timedOut = false ∧ y.failsafe = (fld r.head 30 1 == 1)
            ∧ t.scan.data = scatter s.scan.data (moduleWords c q.mod) (words (moduleWords c q.mod))))
    ∧ (∀ (n : BitVec 11) (c : StationCfg) (q : Poll), stationCfg s n.toNat = some c → (s.station n.toNat).poll = some q →
      gives (.pollTimeout n) n.toNat fun t y =>
        y = (if q.till ≤ s.clk.hfNs then
          { s.station n.toNat with poll := none, timedOut := true, nextB := c.dual && !q.pathB } else s.station n.toNat)
        ∧ t.scan.data = s.scan.data)
    ∧ (∀ (path : Path) (c : StationCfg),
      let n := (s.path path).stn.toNat
      stationCfg s n = some c → c.cfgC = true → (s.station n).phase = .dropped → s.isStandby = false →
        gives (.rejoin path 0x4E57) n fun t y => y = { s.station n with permitted := true } ∧ t.scan.data = s.scan.data)

/-! ## The redundant pair -/

/-- Leases, fencing, and the ways in which a standby becomes active.
The model's choices it rests on: log entries 5, 16, 45, 61, 71 and 75. -/
def Obligations.LeasesFencingAndTakeover : Prop :=
  ∀ s : State, Calm s →
    let p := s.pair
    let q := nextSeq p.rxSeq
    let dark := fun (t : State) => ∀ n, n < 32 → t.fio.applied.getLsbD n = false
    let sole := fun (sw : Bool) (t : State) => t.pair.role = .activeAlone ∧ t.mram.dev.epoch = s.mram.dev.epoch + 1
      ∧ t.mram.dev.takeovers = satInc s.mram.dev.takeovers ∧ t.pins.fenceIn = false ∧ t.evt.pend.getLsbD 192 = true
      ∧ t.start = s.start ∧ (p.busy = false → t.pair.fenceOut = true
        ∧ t.mram.dev.switches = if sw then satInc s.mram.dev.switches else s.mram.dev.switches)
    (activePair s = true → p.linkUp = true → p.handed = false → p.fenced = false → p.peerOkOut = true →
      (∀ a, p.ta = some a → s.clk.hfNs ≤ a + 1200000) → Gives .leaseSend s fun t =>
      t.pair.leaseSeq = p.leaseSeq + 1 ∧ t.pair.peerOkOut = true ∧ t.pair.leases = p.leases ++ [(p.leaseSeq + 1, s.clk.hfNs)]
      ∧ .lease (p.leaseSeq + 1) s.mram.dev.epoch s.ntime.now p.t4 ∈ t.pair.sent
      ∧ t.pair.role = p.role ∧ t.pair.ta = p.ta ∧ t.start = s.start ∧ t.fio = s.fio)
    ∧ ((p.peerOkOut = false ∨ ∃ a, p.ta = some a ∧ a + 1200000 < s.clk.hfNs) → Gives .leaseSend s fun t =>
      t.pair.leaseSeq = p.leaseSeq ∧ t.pair.leases = p.leases ∧ t.pair.role = p.role ∧ t.start = s.start ∧ t.fio = s.fio)
    ∧ (∀ (l : Word) (e : DWord) (t1 t4 : Stamp), p.linkUp = true → s.isStandby = true → Gives (.lease q l e t1 t4) s fun t =>
      t.mram.dev.epoch = e ∧ t.pair.rxSeq = q ∧ t.pair.peerActive = true ∧ t.pair.leaseAt = some t.clk.hfNs
      ∧ (p.role ≠ .waiting → t.pair.role = p.role) ∧ (p.role = .waiting → t.pair.role = (match joinAs (learnPartner s) with
        | .lockstep => .resync
        | .staging => .staging
        | .apart => .notReady))
      ∧ (∀ x, p.exch = some x →
        t.pair.ntoff = BitVec.ofInt 32 (max (-2147483648) (min 2147483647 (leaseOffset x t4))))
      ∧ (∃ t2 t3, .leaseAck l t2 t3 ∈ t.pair.sent ∧ t.pair.exch = some (t1, t2, t3) ∧ t2 = t.ntime.now) ∧ t.start = s.start)
    ∧ (∀ (l l' : Word) (a : Nat) (t2 t3 : Stamp), p.linkUp = true → activePair s = true → p.fenced = false →
      p.leases.find? (·.1 == l) = some (l', a) → Gives (.leaseAck q l t2 t3) s fun t =>
        t.pair.ta = some a ∧ t.pair.t4 = s.ntime.now ∧ t.pair.rxSeq = q
        ∧ t.pair.fenceOut = (!p.handed && decide (s.clk.hfNs < a + 2800000))
        ∧ t.pair.leases = p.leases.filter (fun x => decide (a < x.2)) ∧ (p.ta.isSome = true → t.pair.role = p.role)
        ∧ t.start = s.start ∧ t.fio = s.fio)
    ∧ (∀ a, activePair s = true → p.ta = some a →
      (Gives .fenceOutDrop s fun t => t.start = s.start ∧ t.fio = s.fio ∧ t.pair = { p with
        fenceOut := p.fenceOut && decide (s.clk.hfNs < a + 2800000), sent := t.pair.sent, held := t.pair.held, txSeq := t.pair.txSeq })
      ∧ (s.clk.hfNs < a + 4200000 → Gives .selfFence s fun t =>
        t.pair = { p with sent := t.pair.sent, held := t.pair.held, txSeq := t.pair.txSeq } ∧ t.start = s.start ∧ t.fio = s.fio)
      ∧ (p.fenced = false → s.fio.kept = false → a + 4200000 ≤ s.clk.hfNs → Gives .selfFence s fun t =>
        t.pair = { p with fenced := true, fenceOut := false, sent := t.pair.sent, held := t.pair.held, txSeq := t.pair.txSeq } ∧ dark t
        ∧ t.evt.pend.getLsbD 193 = true ∧ t.start = s.start))
    ∧ (Gives .fenceInHigh s fun t => t.pins = { s.pins with fenceIn := true } ∧ dark t ∧ t.start = s.start
      ∧ t.pair.role = p.role ∧ (activePair s = true → t.pair.fenced = true))
    ∧ (p.fenced = true → Gives .fenceRestart s (Restarted .hostWarm s))
    ∧ (∀ a, s.isStandby = true → p.leaseAt = some a → s.clk.hfNs < a + 3000000 → Gives .pairTakeover s fun t =>
      t.pair = { p with sent := t.pair.sent, held := t.pair.held, txSeq := t.pair.txSeq } ∧ t.start = s.start ∧ t.fio = s.fio)
    ∧ (∀ a, s.isStandby = true → p.leaseAt = some a → a + 3000000 ≤ s.clk.hfNs → p.expired = false →
      (mayTakeOver s = true → Gives .pairTakeover s (sole false))
      ∧ (mayTakeOver s = false → Gives .pairTakeover s fun t =>
        t.pair = { p with peerLost := true, expired := true, sent := t.pair.sent, held := t.pair.held, txSeq := t.pair.txSeq } ∧ t.evt.pend.getLsbD 199 = true
        ∧ t.start = s.start ∧ t.fio = s.fio ∧ t.mram.dev.epoch = s.mram.dev.epoch))
    ∧ (∀ x : TideTime, p.linkUp = true → (p.role = .lockstep ∨ p.role = .staging) → Gives (.switchMsg q x) s fun t =>
      sole true t ∧ t.evt.pend.getLsbD 200 = true)
    ∧ (p.linkUp = true → s.isStandby = true → mayTakeOver s = true → Gives (.take q) s (sole false))

/-- What a unit does with each message of its partner that comes in sequence, and with the link's own events.
The model's choices it rests on: log entries 45, 46, 47, 48, 58, 60, 74, 76, 77, 82 and 84. -/
def Obligations.LinkMessages : Prop :=
  ∀ s : State, Calm s →
    let p := s.pair
    let q := nextSeq p.rxSeq
    let keeps := fun (t : State) => t.start = s.start ∧ t.mtr = s.mtr ∧ t.keys = s.keys ∧ t.ports = s.ports
    (p.linkUp = true →
      (∀ (m : ImageMsg) (c : TaskCfg), (p.role = .lockstep ∨ p.role = .staging) → p.tideTaken = true →
        taskCfg s m.task.toNat = some c →
        (imageReady s m = true → Gives (.image q m) s fun t => t.pair.images = [] ∧ t.pair.rxSeq = q
          ∧ ∃ r, (t.task m.task.toNat).run = some r ∧ r.scan = m.scan ∧ r.start = m.start ∧ r.seen = m.commitSeen
            ∧ r.now = m.timerNow ∧ r.lds = m.lds)
        ∧ (∀ r, (s.task m.task.toNat).run = some r → m.scan = r.scan + 1 → m.outcomes = [] → m.task.toNat ≠ s.stateTask →
          (m.decisions = [] → Gives (.image q m) s fun t =>
            t.pair.images = [m] ∧ t.pair.role = p.role ∧ (t.task m.task.toNat).run = some r ∧ keeps t)
          ∧ (m.decisions = [(m.task, true)] → r.spec = true → r.held = none → Gives (.image q m) s fun t =>
            t.pair.images = [m] ∧ t.pair.role = p.role ∧ keeps t
            ∧ (t.task m.task.toNat).confirms = satInc (s.task m.task.toNat).confirms
            ∧ ∃ r', (t.task m.task.toNat).run = some r' ∧ r'.spec = false ∧ r'.scan = r.scan ∧ r'.pc = r.pc
              ∧ r'.stack = r.stack)))
      ∧ (∀ (m : SampleMsg) (k : TideMark), s.isStandby = true → s.mark? m.mark.toNat = some k →
        (s.loopTable.map (·.num)).Nodup → Gives (.sample q m) s fun t =>
          (∀ c ∈ s.loopTable, c.group = k.param → (t.loopSt c.num).started = true
            ∧ (t.loopSt c.num).last = m.time.cycle.setWidth 32)
          ∧ (∀ n, (∀ c ∈ s.loopTable, c.num = n → c.group ≠ k.param) → t.loopSt n = s.loopSt n) ∧ keeps t)
      ∧ (∀ x : Tracker,
        (s.isStandby = true → s.tide.mode = .follow → s.tide.steer = none → validCycle s.tideSetup x = true →
          let e := wrapAngle s.tide.angle
          Gives (.tideMessage q x) s fun t =>
            (e.natAbs ≤ 16 → t.tide.steer = none ∧ t.tide.rate = x.freq * 1000)
            ∧ (16 < e.natAbs → t.tide.steer = some (decide (0 < e)) ∧ t.tide.rate = slewRate (decide (0 < e)) (x.freq * 1000))
            ∧ t.tide.meas = x.freq * 1000 ∧ t.tide.cycle = s.tide.cycle ∧ t.tide.angle = s.tide.angle ∧ keeps t)
        ∧ (s.isStandby = false → Gives (.tideMessage q x) s fun t =>
          t.tide = { s.tide with peerTracker := some x } ∧ keeps t))
      ∧ (∀ l : List (BitVec 8 × Nat), s.isStandby = true → Gives (.events q l) s fun t =>
        (∀ e ∈ l, t.evt.pend.getLsbD e.1.toNat = true) ∧ t.pair.rxSeq = q ∧ t.scan.data = s.scan.data ∧ keeps t)
      ∧ (∀ m : SolverMsg, s.isStandby = true → s.sol.commitLater = none → Gives (.solver q m) s fun t =>
        t.scan.data = s.scan.data ∧ keeps t
        ∧ (s.sol.peerPhase = s.sol.phase → (∀ e ∈ m.tiles, e.2 ≤ Store.get 0 t.sol.reported e.1.toNat)
          ∧ ∀ e ∈ m.spans, e.2 ≤ Store.get 0 t.sol.reported e.1.toNat)
        ∧ (s.sol.phase < s.sol.peerPhase → t.sol.reported = s.sol.reported
          ∧ (∀ e ∈ m.tiles, e.2 ≤ Store.get 0 t.sol.reportedNext e.1.toNat)
          ∧ ∀ e ∈ m.spans, e.2 ≤ Store.get 0 t.sol.reportedNext e.1.toNat))
      ∧ (∀ m : DigestMsg, comparing s = true →
        (p.own.find? (sameDigest m) = none → Gives (.digest q m) s fun t =>
          t.pair = { p with rxSeq := q, peer := p.peer ++ [m], sent := t.pair.sent, held := t.pair.held, txSeq := t.pair.txSeq } ∧ keeps t)
        ∧ (∀ a, p.own.find? (sameDigest m) = some a →
          (a.digest = m.digest → Gives (.digest q m) s fun t => t.pair.compared = p.compared + 1
            ∧ t.pair.mismatch = p.mismatch ∧ t.pair.role = p.role ∧ keeps t)
          ∧ (a.digest ≠ m.digest → Gives (.digest q m) s fun t => t.pair.compared = p.compared + 1
            ∧ t.pair.mismatch = satInc p.mismatch ∧ t.evt.pend.getLsbD 196 = true ∧ t.pair.own = [] ∧ t.pair.peer = []
            ∧ (p.role = .activeLockstep → t.pair.role = .activeAlone)
            ∧ (p.role = .lockstep → (t.pair.role = .notReady ∨ t.pair.role = .heldOut) ∧ t.evt.pend.getLsbD 195 = true)
            ∧ keeps t)))
      ∧ (∀ m : HealthMsg, Gives (.health q m) s fun t => t.place.peer = m ∧ t.pair.peerFail = (m.selfTest &&& 0xF != 0)
        ∧ t.pair.role = p.role ∧ keeps t
        ∧ (epochDue s = false → t.place = { s.place with peer := m, peerSeen := true })
        ∧ (epochDue s = true → s.man.isSome = true → t.place.taken = true
          ∧ t.place.cur = s.place.cur))
      ∧ (∀ (g n : Word) (b : Bytes), s.isStandby = true → p.role ≠ .heldOut → p.apart = false → Gives (.resync q g n b) s fun t =>
        (g, n, b) ∈ t.pair.received ∧ (p.role = .notReady → t.pair.role = .resync)
        ∧ t.start = s.start ∧ t.keys = s.keys ∧ t.ports = s.ports
        ∧ (g ≠ 5 ∨ n ≠ 0 → t.mtr = s.mtr ∧ t.loop = s.loop ∧ t.stn = s.stn ∧ t.sol = s.sol)
        ∧ (g = 1 → p.role = .resync → (∀ i, i < 1024 →
            Store.get 0 t.scan.data (n.toNat * 1024 + i) = (bytesToWords (slice b 0 4096)).getD i 0)
          ∧ ∀ i, i < n.toNat * 1024 ∨ n.toNat * 1024 + 1024 ≤ i → Store.get 0 t.scan.data i = Store.get 0 s.scan.data i)
        ∧ (g ≠ 1 → t.scan.data = s.scan.data)
        ∧ (g = 5 → n = 0 → p.role = .resync → t.pair.rounds = satInc p.rounds ∧ t.pair.joinNext = true)))
    ∧ (p.linkUp = true → Gives .crossingLinkDown s fun t => t.pair.linkUp = false ∧ t.pair.laneUp = 0
      ∧ t.evt.pend.getLsbD 197 = true ∧ (p.role = .lockstep → t.pair.role = .notReady)
      ∧ (p.role = .activeLockstep ∨ p.role = .activeStaging → t.pair.role = .activeAlone)
      ∧ (p.role ≠ .lockstep → p.role ≠ .activeLockstep → p.role ≠ .activeStaging → t.pair.role = p.role) ∧ keeps t)
    ∧ (p.linkUp = false → Gives .crossingLinkUp s fun t => t.pair.linkUp = true ∧ t.pair.laneUp ≠ 0 ∧ t.pair.rxSeq = 0
      ∧ t.pair.ta = none ∧ t.pair.leases = [] ∧ t.pair.role = p.role ∧ t.evt.pend.getLsbD 197 = true ∧ keeps t)
    ∧ (p.linkUp = true → p.laneUp ≠ 3 → Gives .crossingLinkUp s fun t =>
      t.pair = { p with laneUp := 3, sent := t.pair.sent, held := t.pair.held, txSeq := t.pair.txSeq } ∧ t.evt.pend.getLsbD 197 = true ∧ keeps t)
    ∧ (∀ lane : Bool, p.laneBad.getLsbD (if lane then 1 else 0) = true → Gives (.laneRecover lane) s fun t =>
      t.pair = { p with laneBad := putBit p.laneBad (if lane then 1 else 0) false, sent := t.pair.sent, held := t.pair.held, txSeq := t.pair.txSeq }
      ∧ t.evt.pend.getLsbD 197 = true ∧ keeps t)
    ∧ (∀ lane : Bool,
      let n := ((if lane then p.bad1 else p.bad0).filter fun t => decide (s.clk.hfNs < t + 10 ^ 9)).length + 1
      Gives (.badCrcCopy lane) s fun t =>
        t.pair.crc0 = (if lane then p.crc0 else satInc p.crc0) ∧ t.pair.crc1 = (if lane then satInc p.crc1 else p.crc1)
        ∧ (16 < n → t.pair.laneBad.getLsbD (if lane then 1 else 0) = true) ∧ (n ≤ 16 → t.pair.laneBad = p.laneBad)
        ∧ t.pair.role = p.role ∧ keeps t)
    ∧ (p.role = .waiting → s.pins.peerOkIn = false → p.linkUp = false → Gives .peerOkInLow s fun t =>
      t.pair.role = .activeAlone ∧ t.pins.fenceIn = false ∧ keeps t)
    ∧ (∀ v : Bool, Gives (.peerOkInChange v) s fun t => t.pins = { s.pins with peerOkIn := v } ∧ t.pair.role = p.role ∧ keeps t)
    ∧ (Gives .peerOkTimeout s fun t =>
      t.pair = { p with peerOkOut := false, sent := t.pair.sent, held := t.pair.held, txSeq := t.pair.txSeq } ∧ t.fio = s.fio ∧ keeps t)

/-- Planned switch-overs, resynchronisation, health frames, self-tests, and the health map's marks.
The model's choices it rests on: log entries 13, 24, 73 and 74. -/
def Obligations.PairCommandsAndTests : Prop :=
  ∀ (s : State) (path : Path), Calm s →
    let p := s.pair
    let pairs := fun (i : Instr) (y : Pair) => Gives i s fun t =>
      t.pair = { y with sent := t.pair.sent, held := t.pair.held, txSeq := t.pair.txSeq } ∧ t.start = s.start ∧ t.fio = s.fio ∧ t.place = s.place
    let bad := fun (i : Instr) (n : BitVec 6) (P : State → Prop) => Gives i s fun t => P t
      ∧ t.place = { s.place with tileFault := (if s.place.tileFault.getLsbD n.toNat then s.place.tileFault
          else putBit s.place.tileFault n.toNat true) }
      ∧ t.place.tileFault.getLsbD n.toNat = true ∧ t.start = s.start ∧ t.fio = s.fio
      ∧ (s.place.tileFault.getLsbD n.toNat = false → t.evt.pend.getLsbD 150 = true
        ∧ t.mram.dev.faultTiles = putBit s.mram.dev.faultTiles n.toNat true)
    (s.inPair = true →
      (p.busy = true → pairs (.pairCtrlSwitch path 0xF3C8) { p with reason := 4 }
        ∧ pairs (.pairCtrlResync path 0xF3C8) { p with reason := 4 })
      ∧ (p.busy = false →
        (activePair s = false → pairs (.pairCtrlSwitch path 0xF3C8) { p with reason := 1 })
        ∧ (activePair s = true → standbyReady s = false → pairs (.pairCtrlSwitch path 0xF3C8) { p with reason := 2 })
        ∧ (standbyReady s = true → pairs (.pairCtrlSwitch path 0xF3C8) { p with reason := 0, busy := true, done := false })
        ∧ (p.role = .heldOut →
          pairs (.pairCtrlResync path 0xF3C8) { p with reason := 0, done := true, role := .resync, rounds := 0 })
        ∧ (p.role ≠ .heldOut → pairs (.pairCtrlResync path 0xF3C8) { p with reason := 3 })))
    ∧ (∀ c, s.man.bind (·.pair) = some c → c.healthFrames = true → Gives .healthFrame s fun t =>
      t.pair.role = p.role ∧ t.start = s.start ∧ ∀ n, n < 8 →
        let head := c.healthDst ++ (portCfg s n).addr ++ beBytes 2 (if c.healthEtype = 0 then 0x88B6 else c.healthEtype)
        let body := healthPayload s (pairStatusReg s) (pairHealthReg s) (pairDigestReg s)
        (c.healthPorts / 2 ^ n % 2 = 0 → t.port n = s.port n)
        ∧ (c.healthPorts / 2 ^ n % 2 = 1 → (s.port n).up = true → (s.port n).q3.length < 32 →
          t.port n = { s.port n with q3 := (s.port n).q3 ++ [{ bytes := head ++ body }] }))
    ∧ (∀ n : BitVec 6,
      let due := if s.place.cur.spareTiles.contains n.toNat then p.bistNext else n.toNat + 1
      (bistTakes s n.toNat = true → pairs (.tileBist n true) { p with lastTile := n, bistNext := due })
      ∧ (bistTakes s n.toNat = false → pairs (.tileBist n true) p ∧ pairs (.tileBist n false) p)
      ∧ (bistTakes s n.toNat = true → bad (.tileBist n false) n fun t => t.pair.lastTile = n ∧ t.pair.tileFail = true ∧ t.evt.pend.getLsbD 198 = true)
      ∧ bad (.eccScrubError (.tile n) false) n (fun t => t.pair.uncorr = true)
      ∧ bad (.uncorrectableError n) n (fun t => t.pair.role = p.role))
    ∧ (∀ n : BitVec 3, pairs (.corePairBist n true) p ∧ (spareIdle s n.toNat = false → pairs (.corePairBist n false) p)
      ∧ (n.toNat < 5 → spareIdle s n.toNat = true → Gives (.corePairBist n false) s fun t =>
      t.pair = { p with coreFail := true, sent := t.pair.sent, held := t.pair.held, txSeq := t.pair.txSeq } ∧ t.evt.pend.getLsbD 198 = true
      ∧ t.place.coreFault.getLsbD n.toNat = true ∧ t.place.tileFault = s.place.tileFault ∧ t.start = s.start))
    ∧ (∀ e : EccPlace, pairs (.eccScrubError e true) { p with eccCorr := satInc p.eccCorr })
    ∧ Gives (.eccScrubError .other false) s (Restarted .hostWarm s)
    ∧ (Gives (.clearFault path 0x9E1D) s fun t => t.mram.dev.clearFault = true ∧ t.place = s.place ∧ t.start = s.start)
    ∧ (∀ n : BitVec 6, 8 ≤ Store.get 0 s.place.slowRun n.toNat → s.place.tileSlow.getLsbD n.toNat = false →
      Gives (.unitSlow n) s fun t => t.place = { s.place with tileSlow := putBit s.place.tileSlow n.toNat true }
        ∧ t.evt.pend.getLsbD 149 = true ∧ t.start = s.start ∧ t.sol = s.sol)

/-! ## The optimisation period and the solver array -/

/-- The period's marks, the delivery pass, the fix instant, checkpoints, and the host's frame and read of a vector.
The model's choices it rests on: log entries 33, 51 and 73. -/
def Obligations.PeriodMarksAndFix : Prop :=
  ∀ s : State, Calm s →
    let x := s.sol
    let fired := fun (i : BitVec 8 → Instr) (action : Nat) (P : BitVec 8 → TideMark → State → State → Prop) =>
      ∀ (m : BitVec 8) (k : TideMark) (u : State), fireMark m.toNat action (clearSent s) = some (k, u) →
        Gives (i m) s fun t => P m k u t ∧ t.tide.fired = u.tide.fired ∧ t.tide.cycle = s.tide.cycle
    (fired .optimisationPeriodBoundary 1 fun _ _ _ t =>
      t.sol.opened = true ∧ t.sol.waiting = x.waiting ∧ t.sol.handed = (x.handed || x.liveFixed) ∧ t.place.next = none
      ∧ t.place.cur = s.place.next.getD s.place.cur ∧ (s.place.next.isSome = true → t.evt.pend.getLsbD 148 = true)
      ∧ t.start = s.start)
    ∧ (fired .runAheadStart 5 fun _ _ _ t => t.start = s.start
      ∧ (x.fixing = true → t.sol.aheadLater = true ∧ t.sol.waiting = x.waiting)
      ∧ (x.fixing = false → t.sol.waiting = [] ∧ t.sol.rounds = [] ∧ ∀ n ∈ problemNums s, ∀ c d,
        problemDef s n = some (c, d) → c.runAhead = false → (t.prob n).work = .idle ∧ (t.prob n).ranAhead = false))
    ∧ (∀ rates : List (Option Nat), fired (fun m => .solverDeadline m rates) 6 fun _ k u t =>
      t.sol.marks = x.marks + 1 ∧ t.sol.mark = some (markTime u k, u.clk.us) ∧ t.sol.fixing = true ∧ t.sol.delivered = false
      ∧ t.sol.opened = false
      ∧ t.start.deadlines = (if 2 ≤ s.start.stage.toNat then s.start.deadlines + 1 else s.start.deadlines)
      ∧ t.start.stage = (if s.start.stage = 2 ∧ problemNums s = [] then 3 else s.start.stage)
      ∧ (s.inPair = true → s.pair.linkUp = true → ∃ h, .health h ∈ t.pair.sent ∧ h.e0Tiles = s.place.e0Tiles))
    ∧ (x.fixing = true → x.delivered = false → (∀ n ∈ problemNums s, (s.prob n).running = false) →
      Gives .deliveryPass s fun t => t.sol.delivered = true ∧ t.sol.fixing = true ∧ t.start = s.start
        ∧ ∀ n ∈ problemNums s, (problemDef s n).isSome = true → (t.prob n).pend.isSome = true
          ∧ (x.started = false → (t.prob n).pend.map (fun r => (r.1.code, r.2)) = some (10, false))
          ∧ (t.prob n).acc = (s.prob n).acc)
    ∧ (x.fixing = true → x.delivered = true → x.aheadLater = false → x.commitLater = none →
      Gives .resultsFixed s fun t => t.sol.fixes = x.marks ∧ t.sol.fixing = false ∧ t.sol.delivered = false
        ∧ t.sol.started = false ∧ t.evt.pend.getLsbD 134 = true
        ∧ (∀ n ∈ problemNums s, (t.prob n).pend = none
          ∧ ∀ r b, (s.prob n).pend = some (r, b) → (t.prob n).acc = r ∧ (b = true → (t.prob n).live = (s.prob n).acc.set))
        ∧ t.start.stage = (if s.start.stage = 2 ∧ t.sol.notGood = 0 ∧ problemNums s ≠ [] then 3 else s.start.stage))
    ∧ (∀ d, x.draft = some d → Gives .checkpointDone s fun t =>
      t.sol.draft = none ∧ t.evt.pend.getLsbD 137 = true ∧ t.start = s.start ∧ match newestCheckpoint s.mram with
        | none => t.mram.ck0 = some { d with seq := 1 } ∧ t.mram.ck1 = s.mram.ck1
        | some (k, true) => t.mram.ck0 = some { d with seq := k.seq + 1 } ∧ t.mram.ck1 = s.mram.ck1
        | some (k, false) => t.mram.ck1 = some { d with seq := k.seq + 1 } ∧ t.mram.ck0 = s.mram.ck0)
    ∧ (∀ p : Path,
      let b := Store.getMany 0 x.hdBuf 0 (8 + 8 * min (fld (Store.getMany 0 x.hdBuf 4 2) 0 2) 4096)
      let r := deltaReason s b 32776 true
      (x.hdBusy = true → Gives (.submit p) s fun t => t.sol = x ∧ t.start = s.start)
      ∧ (x.hdBusy = false → r = 0 → Gives (.submit p) s fun t =>
        t.sol = { x with hdBusy := true, hdDone := false, hdReason := 0, host := some (frameOf b), hostSent := false } ∧ t.start = s.start)
      ∧ (x.hdBusy = false → r ≠ 0 → Gives (.submit p) s fun t => t.sol.hdReason = BitVec.ofNat 8 r ∧ t.sol.hdBusy = false
        ∧ t.sol.host = x.host ∧ t.sol.rejAll = x.rejAll + 1 ∧ t.evt.pend.getLsbD 128 = true ∧ t.start = s.start)
      ∧ Gives (.solVdataRead p) s fun t => t.sol = x ∧ (t.path p).out = [solVdata s (s.path p)]
        ∧ (t.path p).solV = (if (s.path p).solV.getLsbD 27 then ((s.path p).solV &&& 0xFFFC0000)
            ||| BitVec.ofNat 32 (((s.path p).solV.toNat % 2 ^ 18 + 1) % 2 ^ 18) else (s.path p).solV))

/-- One iteration, one factor step and one outer iteration: what each makes of its problem, and the other problems' live
sets and counts stand as they were.
The model's choices it rests on: log entries 35 and 84. -/
def Obligations.SolverWork : Prop :=
  ∀ s : State, Calm s → s.sol.commitLater = none →
    (∀ (n : BitVec 11) (c : ProblemCfg) (t : Template), problemDef s n.toNat = some (c, t) →
      let u := unitOf s n.toNat
      let v := beginRound u (closeRound u (clearSent s))
      let p := v.prob n.toNat
      let others := fun (w : State) => w.start = s.start ∧ w.scan.data = s.scan.data ∧ ∀ m, m ≠ n.toNat →
        (w.prob m).live = (s.prob m).live ∧ (w.prob m).it = (s.prob m).it ∧ (w.prob m).acc = (s.prob m).acc
      turnOf v u = some n.toNat → paced v u = true →
        (∀ f, p.factor = some f → stepDue p = false → canIterate p = true → Gives (.iteration n) s fun w => others w
          ∧ (w.prob n.toNat).it = p.it + 1 ∧ (w.prob n.toNat).acc = p.acc ∧ (w.prob n.toNat).steps = p.steps
          ∧ (w.prob n.toNat).data = p.data
          ∧ (p.build = none → (w.prob n.toNat).live = (iterateSet t c p.data p.qeff f p.live).1))
        ∧ ∀ b, p.build = some b → stepDue p = true → Gives (.factorStep n) s fun w => others w
          ∧ (w.prob n.toNat).steps = p.steps + 1 ∧ (w.prob n.toNat).it = p.it ∧ (w.prob n.toNat).acc = p.acc
          ∧ (w.prob n.toNat).data = p.data
          ∧ (let b' := (factorStepOf t c p.data { b with f := { b.f with rangeSat := false } }).1
            b.inPlace = false → b'.inPlace = false → p.stopping = false → p.stopAt = none →
              (w.prob n.toNat).build = some { b' with f := { b'.f with rangeSat := b.f.rangeSat || b'.f.rangeSat } }
              ∧ (w.prob n.toNat).factor = p.factor ∧ (w.prob n.toNat).live = p.live))
    ∧ (∀ o, s.sol.outer = some o → s.sol.started = true → s.sol.fixing = false →
      let run := (coupledNums s).filter fun n => (s.prob n).running
      let gs := s.coupling.cons.map fun c => (wr c.fmtG (couplingSum s c)).1
      let all := s.coupling.cons.zip (gs.zip s.sol.prices)
      let done := all.all (fun (c, g, p) => constraintOk c g p) && run.all fun n => (s.prob n).shareConv
      (∀ n ∈ run, (s.prob n).share = true) →
        ((done = true ∨ o = s.coupling.outerLimit ∨ run = []) → Gives .outerIterationEnd s fun t =>
          t.sol.outer = none ∧ t.sol.recovered = true ∧ t.sol.outerNow.1 = o ∧ t.sol.outerNow.2.2 = done
          ∧ (∀ n ∈ coupledNums s, (t.prob n).running = false) ∧ t.sol.prices = s.sol.prices ∧ t.start = s.start
          ∧ (done = false → o = s.coupling.outerLimit → t.evt.pend.getLsbD 136 = true))
        ∧ (done = false → o ≠ s.coupling.outerLimit → run ≠ [] → Gives .outerIterationEnd s fun t =>
          t.sol.outer = some (o + 1) ∧ t.sol.prices = (all.map fun (c, g, p) => nextPrice c g p)
          ∧ (∀ n ∈ run, (problemDef s n).isSome = true →
            (t.prob n).share = false ∧ (t.prob n).running = true ∧ (t.prob n).live = (s.prob n).live)
          ∧ t.start = s.start))

/-! ## Scans and forces -/

/-- Scans start, are resolved, commit and mismatch, and retained copies begin and end.
The model's choices it rests on: log entries 28, 32, 76 and 77. -/
def Obligations.ScansStartAndEnd : Prop :=
  ∀ s : State, Calm s →
    let begun := fun (n : Nat) (time : TideTime) (t : State) => ∃ r, (t.task n).run = some r ∧ r.start = time
      ∧ r.scan = (s.task n).scans + 1 ∧ r.seen = s.scan.seq ∧ r.entries = [] ∧ r.units = 0 ∧ r.done = false
    (∀ (m : BitVec 8) (k : TideMark) (u : State) (c : TaskCfg), fireMark m.toNat 2 (clearSent s) = some (k, u) →
      s.isStandby = false → tasksRun s = true → taskCfg s k.param = some c → c.num = k.param →
        ((s.task c.num).run = none → Gives (.scanTaskStart m) s fun t => begun c.num (markTime u k) t
          ∧ t.start = s.start ∧ t.scan.seq = s.scan.seq)
        ∧ (∀ r, (s.task c.num).run = some r → Gives (.scanTaskStart m) s fun t =>
          (t.task c.num).overruns = satInc (s.task c.num).overruns ∧ t.evt.pend.getLsbD 161 = true ∧ t.start = s.start
          ∧ t.scan.seq = s.scan.seq))
    ∧ (∀ (n : BitVec 5) (c : TaskCfg), taskCfg s n.toNat = some c → c.num = n.toNat →
      (c.trigger = 2 → (s.task n.toNat).trig = true → (s.task n.toNat).run = none → s.isStandby = false → tasksRun s = true →
        intervalOver s c = true → Gives (.eventTaskDispatch n) s fun t => begun n.toNat s.tideNow t ∧ t.start = s.start
          ∧ (n.toNat ≠ s.stateTask → Settled s → (t.task n.toNat).trig = false ∧ t.scan.data = s.scan.data))
      ∧ (intervalOver s c = false → Gives (.eventTaskDispatch n) s fun t => t.scan = s.scan ∧ t.start = s.start)
      ∧ (∀ r, (s.task n.toNat).run = some r → s.isStandby = false → r.outstanding = [] →
        (r.spec = true → r.held = none → speculationHolds s r = true → Gives (.resolution n) s fun t =>
          (t.task n.toNat).confirms = satInc (s.task n.toNat).confirms ∧ t.scan.data = s.scan.data ∧ t.start = s.start
          ∧ ∃ r', (t.task n.toNat).run = some r' ∧ r'.spec = false ∧ r'.pc = r.pc ∧ r'.stack = r.stack ∧ r'.image = r.image
            ∧ r'.entries = r.entries)
        ∧ (r.spec = true → speculationHolds s r = false → Gives (.resolution n) s fun t =>
          (t.task n.toNat).replays = satInc (s.task n.toNat).replays ∧ t.scan.data = s.scan.data ∧ t.start = s.start
          ∧ t.evt.pend.getLsbD 162 = true ∧ ∃ r', (t.task n.toNat).run = some r' ∧ r'.spec = false ∧ r'.replay = true
            ∧ r'.phase = .replaying ∧ r'.stack = [] ∧ r'.entries = [] ∧ r'.units = 0 ∧ r'.start = r.start ∧ r'.held = none)
        ∧ (r.spec = false → r.phase = .awaiting → Gives (.resolution n) s fun t => t.scan.data = s.scan.data
          ∧ t.start = s.start ∧ ∃ r', (t.task n.toNat).run = some r' ∧ r'.phase = .ready ∧ r'.start = r.start
            ∧ r'.pc = r.pc))
      ∧ (∀ r, (s.task n.toNat).run = some r → r.live = true →
        (r.again = false → Gives (.coreMismatch n) s fun t => t.evt.pend.getLsbD 163 = true ∧ t.start = s.start
          ∧ t.scan.recovered = satInc s.scan.recovered ∧ (t.task n.toNat).mismatch = satInc (s.task n.toNat).mismatch
          ∧ ∃ r', (t.task n.toNat).run = some r' ∧ r'.again = true ∧ r'.phase = .reexecuting ∧ r'.stack = []
            ∧ r'.entries = [] ∧ r'.units = 0 ∧ r'.image = r.image)
        ∧ (r.again = true → Gives (.coreMismatch n) s fun t => t.evt.pend.getLsbD 163 = true ∧ t.start = s.start
          ∧ t.evt.pend.getLsbD 164 = true ∧ t.scan.abandoned = satInc s.scan.abandoned ∧ (t.task n.toNat).run = none
          ∧ t.scan.data = s.scan.data)))
    ∧ (∀ (c : TaskCfg) (e : ErrCause) (l : List ErrCause), taskCfg s 0 = some c → c.num = 0 → s.scan.errq = e :: l →
      (s.task 0).run = none → s.isStandby = false → tasksRun s = true → intervalOver s c = true → Gives .errorTaskDispatch s fun t =>
        begun 0 s.tideNow t ∧ t.scan.errq = l ∧ (∃ r, (t.task 0).run = some r ∧ r.cause = some e
          ∧ r.lds.faultCode = BitVec.ofNat 32 e.code) ∧ t.start = s.start)
    ∧ (∀ (n : BitVec 5) (r : Run), (s.task n.toNat).run = some r → r.committable = true → inTurn s n.toNat r = true → Gives (.scanCommit n) s fun t =>
      (t.task n.toNat).run = none ∧ (t.task n.toNat).scans = (s.task n.toNat).scans + 1 ∧ (t.task n.toNat).committed = true
      ∧ t.scan.seq = s.scan.seq + 1 ∧ (t.task n.toNat).last = r.start.cycle.setWidth 32
      ∧ (∀ k, k < 32 → k ∈ r.events → t.evt.pend.getLsbD (224 + k) = true)
      ∧ (r.boundary = false → t.start = s.start
        ∧ (s.start.adopted = true → s.man.bind (·.field) = none →
          t.scan.data = (r.entries.foldl (landingReal n.toNat) (clearSent s)).scan.data))
      ∧ (r.boundary = true → t.scan.boundaryDone = true
        ∧ t.start.stage = (if s.start.stage = 1 ∧ s.start.step = 8 then 2 else s.start.stage)
        ∧ (s.start.stage = 1 → s.start.step = 8 → t.evt.pend.getLsbD 0 = true ∧ t.moor.running = false)))
    ∧ (s.start.adopted = true → Gives .retainCopy s fun t =>
      t.mram.retDraft = some (retainedNow s) ∧ t.mram.retNew = s.mram.retNew ∧ t.start = s.start
      ∧ t.mram.ret0 = (if s.mram.retNew then none else s.mram.ret0)
      ∧ t.mram.ret1 = (if s.mram.retNew then s.mram.ret1 else none))
    ∧ (∀ r, s.mram.retDraft = some r → Gives .retainedCopySealed s fun t =>
      t.mram.retDraft = none ∧ t.mram.retNew = !s.mram.retNew ∧ t.start = s.start
      ∧ t.mram.ret0 = (if s.mram.retNew then some { r with optime := s.jrn.optime } else s.mram.ret0)
      ∧ t.mram.ret1 = (if s.mram.retNew then s.mram.ret1 else some { r with optime := s.jrn.optime }))

/-- A force command is accepted as a pending change or turned away with its reason; selecting a slot and reading the longest
execution time; and a keyed command with a wrong key does nothing.
The model's choices it rests on: log entries 19 and 55. -/
def Obligations.ForcesAndKeys : Prop :=
  ∀ (s : State) (p : Path),
    (Calm s →
      let x := s.scan
      let n := x.frcSel.toNat
      let verdict := fun (i : Instr) (reason : Byte) (c : ForceChange) => Gives i s fun t =>
        t.scan.frcReason = reason ∧ t.scan.frcPending = (if reason = 0 then [c] else x.frcPending)
        ∧ t.scan.frcBusy = (decide (reason = 0) || x.frcBusy) ∧ t.scan.forces = x.forces ∧ t.scan.data = x.data
        ∧ t.start = s.start ∧ t.mram.saves = s.mram.saves
      verdict (.forceSet p 0x6F0D) (forceSetReason s p n) (.set x.frcSel x.frcIndex x.frcLo x.frcHi)
      ∧ verdict (.forceClear p 0x6F0D) (forceClearReason s p (some n)) (.clear x.frcSel)
      ∧ verdict (.forceClearAll p 0x6F0D) (forceClearReason s p none) .clearAll
      ∧ (∀ k : BitVec 8, Gives (.scanFrcSelWrite p k) s fun t => t.scan.frcSel = k ∧ t.scan.forces = x.forces
        ∧ t.scan.data = x.data ∧ t.start = s.start ∧ (t.scan.frcIndex, t.scan.frcLo, t.scan.frcHi)
          = (Store.get none x.forces k.toNat).getD (0, 0, 0))
      ∧ (Gives (.scanTExecmaxRead p) s fun t =>
        (t.path p).out = [(s.task (s.path p).scan.toNat).execMax] ∧ (t.task (s.path p).scan.toNat).execMax = 0
        ∧ (∀ m, m ≠ (s.path p).scan.toNat → (t.task m).execMax = (s.task m).execMax) ∧ t.scan.data = x.data
        ∧ t.start = s.start))
    ∧ (∀ k : BitVec 16,
      (k ≠ 0x6F0D → exec (.forceSet p k) s = .next s ∧ exec (.forceClear p k) s = .next s
        ∧ exec (.forceClearAll p k) s = .next s)
      ∧ (k ≠ 0xF3C8 → exec (.pairCtrlSwitch p k) s = .next s ∧ exec (.pairCtrlResync p k) s = .next s)
      ∧ (k ≠ 0x9E1D → exec (.clearFault p k) s = .next s) ∧ (k ≠ 0x4E57 → exec (.rejoin p k) s = .next s)
      ∧ (k ≠ 0x7143 → exec (.ntimeStep p k) s = .next s) ∧ (k ≠ 0x7E57 → exec (.testStart p k) s = .next s
        ∧ exec (.testStop p k) s = .next s)
      ∧ (k ≠ 0xCA9E → exec (.captureArm p k) s = .next s ∧ exec (.captureStop p k) s = .next s)
      ∧ (k ≠ 0x3E7A → exec (.meterClear p k) s = .next s ∧ ∀ n, exec (.meterPreset p k n) s = .next s))
end

