-- ==== Sys2Proof/Laws/State.lean ====
section
/-! SUPPORT. What each update of one block leaves of every other field, and what it makes of its own. -/

namespace Sys2Proof.Machine

open Sys2Proof

variable (s : State)

@[simp] theorem State.updPins_pending (f : Pins → Pins) : (s.updPins f).pending = s.pending := rfl
@[simp] theorem State.updPins_pins (f : Pins → Pins) : (s.updPins f).pins = f s.pins := rfl
@[simp] theorem State.updPins_mram (f : Pins → Pins) : (s.updPins f).mram = s.mram := rfl
@[simp] theorem State.updPins_flash (f : Pins → Pins) : (s.updPins f).flash = s.flash := rfl
@[simp] theorem State.updPins_fuses (f : Pins → Pins) : (s.updPins f).fuses = s.fuses := rfl
@[simp] theorem State.updPins_cal (f : Pins → Pins) : (s.updPins f).cal = s.cal := rfl
@[simp] theorem State.updPins_start (f : Pins → Pins) : (s.updPins f).start = s.start := rfl
@[simp] theorem State.updPins_moor (f : Pins → Pins) : (s.updPins f).moor = s.moor := rfl
@[simp] theorem State.updPins_evt (f : Pins → Pins) : (s.updPins f).evt = s.evt := rfl
@[simp] theorem State.updPins_jrn (f : Pins → Pins) : (s.updPins f).jrn = s.jrn := rfl
@[simp] theorem State.updPins_clk (f : Pins → Pins) : (s.updPins f).clk = s.clk := rfl
@[simp] theorem State.updPins_stg (f : Pins → Pins) : (s.updPins f).stg = s.stg := rfl
@[simp] theorem State.updPins_tide (f : Pins → Pins) : (s.updPins f).tide = s.tide := rfl
@[simp] theorem State.updPins_fio (f : Pins → Pins) : (s.updPins f).fio = s.fio := rfl
@[simp] theorem State.updPins_mtr (f : Pins → Pins) : (s.updPins f).mtr = s.mtr := rfl
@[simp] theorem State.updPins_hst (f : Pins → Pins) : (s.updPins f).hst = s.hst := rfl
@[simp] theorem State.updPins_ports (f : Pins → Pins) : (s.updPins f).ports = s.ports := rfl
@[simp] theorem State.updPins_ntime (f : Pins → Pins) : (s.updPins f).ntime = s.ntime := rfl
@[simp] theorem State.updPins_pair (f : Pins → Pins) : (s.updPins f).pair = s.pair := rfl
@[simp] theorem State.updPins_keys (f : Pins → Pins) : (s.updPins f).keys = s.keys := rfl
@[simp] theorem State.updPins_scan (f : Pins → Pins) : (s.updPins f).scan = s.scan := rfl
@[simp] theorem State.updPins_loop (f : Pins → Pins) : (s.updPins f).loop = s.loop := rfl
@[simp] theorem State.updPins_place (f : Pins → Pins) : (s.updPins f).place = s.place := rfl
@[simp] theorem State.updPins_stn (f : Pins → Pins) : (s.updPins f).stn = s.stn := rfl
@[simp] theorem State.updPins_sol (f : Pins → Pins) : (s.updPins f).sol = s.sol := rfl
@[simp] theorem State.updPins_draws (f : Pins → Pins) : (s.updPins f).draws = s.draws := rfl
@[simp] theorem State.updPins_man (f : Pins → Pins) : (s.updPins f).man = s.man := rfl
@[simp] theorem State.updMram_pending (f : Mram → Mram) : (s.updMram f).pending = s.pending := rfl
@[simp] theorem State.updMram_pins (f : Mram → Mram) : (s.updMram f).pins = s.pins := rfl
@[simp] theorem State.updMram_mram (f : Mram → Mram) : (s.updMram f).mram = f s.mram := rfl
@[simp] theorem State.updMram_flash (f : Mram → Mram) : (s.updMram f).flash = s.flash := rfl
@[simp] theorem State.updMram_fuses (f : Mram → Mram) : (s.updMram f).fuses = s.fuses := rfl
@[simp] theorem State.updMram_cal (f : Mram → Mram) : (s.updMram f).cal = s.cal := rfl
@[simp] theorem State.updMram_start (f : Mram → Mram) : (s.updMram f).start = s.start := rfl
@[simp] theorem State.updMram_moor (f : Mram → Mram) : (s.updMram f).moor = s.moor := rfl
@[simp] theorem State.updMram_evt (f : Mram → Mram) : (s.updMram f).evt = s.evt := rfl
@[simp] theorem State.updMram_jrn (f : Mram → Mram) : (s.updMram f).jrn = s.jrn := rfl
@[simp] theorem State.updMram_clk (f : Mram → Mram) : (s.updMram f).clk = s.clk := rfl
@[simp] theorem State.updMram_stg (f : Mram → Mram) : (s.updMram f).stg = s.stg := rfl
@[simp] theorem State.updMram_tide (f : Mram → Mram) : (s.updMram f).tide = s.tide := rfl
@[simp] theorem State.updMram_fio (f : Mram → Mram) : (s.updMram f).fio = s.fio := rfl
@[simp] theorem State.updMram_mtr (f : Mram → Mram) : (s.updMram f).mtr = s.mtr := rfl
@[simp] theorem State.updMram_hst (f : Mram → Mram) : (s.updMram f).hst = s.hst := rfl
@[simp] theorem State.updMram_ports (f : Mram → Mram) : (s.updMram f).ports = s.ports := rfl
@[simp] theorem State.updMram_ntime (f : Mram → Mram) : (s.updMram f).ntime = s.ntime := rfl
@[simp] theorem State.updMram_pair (f : Mram → Mram) : (s.updMram f).pair = s.pair := rfl
@[simp] theorem State.updMram_keys (f : Mram → Mram) : (s.updMram f).keys = s.keys := rfl
@[simp] theorem State.updMram_scan (f : Mram → Mram) : (s.updMram f).scan = s.scan := rfl
@[simp] theorem State.updMram_loop (f : Mram → Mram) : (s.updMram f).loop = s.loop := rfl
@[simp] theorem State.updMram_place (f : Mram → Mram) : (s.updMram f).place = s.place := rfl
@[simp] theorem State.updMram_stn (f : Mram → Mram) : (s.updMram f).stn = s.stn := rfl
@[simp] theorem State.updMram_sol (f : Mram → Mram) : (s.updMram f).sol = s.sol := rfl
@[simp] theorem State.updMram_draws (f : Mram → Mram) : (s.updMram f).draws = s.draws := rfl
@[simp] theorem State.updMram_man (f : Mram → Mram) : (s.updMram f).man = s.man := rfl
@[simp] theorem State.updCal_pending (f : Cal → Cal) : (s.updCal f).pending = s.pending := rfl
@[simp] theorem State.updCal_pins (f : Cal → Cal) : (s.updCal f).pins = s.pins := rfl
@[simp] theorem State.updCal_mram (f : Cal → Cal) : (s.updCal f).mram = s.mram := rfl
@[simp] theorem State.updCal_flash (f : Cal → Cal) : (s.updCal f).flash = s.flash := rfl
@[simp] theorem State.updCal_fuses (f : Cal → Cal) : (s.updCal f).fuses = s.fuses := rfl
@[simp] theorem State.updCal_cal (f : Cal → Cal) : (s.updCal f).cal = f s.cal := rfl
@[simp] theorem State.updCal_start (f : Cal → Cal) : (s.updCal f).start = s.start := rfl
@[simp] theorem State.updCal_moor (f : Cal → Cal) : (s.updCal f).moor = s.moor := rfl
@[simp] theorem State.updCal_evt (f : Cal → Cal) : (s.updCal f).evt = s.evt := rfl
@[simp] theorem State.updCal_jrn (f : Cal → Cal) : (s.updCal f).jrn = s.jrn := rfl
@[simp] theorem State.updCal_clk (f : Cal → Cal) : (s.updCal f).clk = s.clk := rfl
@[simp] theorem State.updCal_stg (f : Cal → Cal) : (s.updCal f).stg = s.stg := rfl
@[simp] theorem State.updCal_tide (f : Cal → Cal) : (s.updCal f).tide = s.tide := rfl
@[simp] theorem State.updCal_fio (f : Cal → Cal) : (s.updCal f).fio = s.fio := rfl
@[simp] theorem State.updCal_mtr (f : Cal → Cal) : (s.updCal f).mtr = s.mtr := rfl
@[simp] theorem State.updCal_hst (f : Cal → Cal) : (s.updCal f).hst = s.hst := rfl
@[simp] theorem State.updCal_ports (f : Cal → Cal) : (s.updCal f).ports = s.ports := rfl
@[simp] theorem State.updCal_ntime (f : Cal → Cal) : (s.updCal f).ntime = s.ntime := rfl
@[simp] theorem State.updCal_pair (f : Cal → Cal) : (s.updCal f).pair = s.pair := rfl
@[simp] theorem State.updCal_keys (f : Cal → Cal) : (s.updCal f).keys = s.keys := rfl
@[simp] theorem State.updCal_scan (f : Cal → Cal) : (s.updCal f).scan = s.scan := rfl
@[simp] theorem State.updCal_loop (f : Cal → Cal) : (s.updCal f).loop = s.loop := rfl
@[simp] theorem State.updCal_place (f : Cal → Cal) : (s.updCal f).place = s.place := rfl
@[simp] theorem State.updCal_stn (f : Cal → Cal) : (s.updCal f).stn = s.stn := rfl
@[simp] theorem State.updCal_sol (f : Cal → Cal) : (s.updCal f).sol = s.sol := rfl
@[simp] theorem State.updCal_draws (f : Cal → Cal) : (s.updCal f).draws = s.draws := rfl
@[simp] theorem State.updCal_man (f : Cal → Cal) : (s.updCal f).man = s.man := rfl
@[simp] theorem State.updStart_pending (f : Start → Start) : (s.updStart f).pending = s.pending := rfl
@[simp] theorem State.updStart_pins (f : Start → Start) : (s.updStart f).pins = s.pins := rfl
@[simp] theorem State.updStart_mram (f : Start → Start) : (s.updStart f).mram = s.mram := rfl
@[simp] theorem State.updStart_flash (f : Start → Start) : (s.updStart f).flash = s.flash := rfl
@[simp] theorem State.updStart_fuses (f : Start → Start) : (s.updStart f).fuses = s.fuses := rfl
@[simp] theorem State.updStart_cal (f : Start → Start) : (s.updStart f).cal = s.cal := rfl
@[simp] theorem State.updStart_start (f : Start → Start) : (s.updStart f).start = f s.start := rfl
@[simp] theorem State.updStart_moor (f : Start → Start) : (s.updStart f).moor = s.moor := rfl
@[simp] theorem State.updStart_evt (f : Start → Start) : (s.updStart f).evt = s.evt := rfl
@[simp] theorem State.updStart_jrn (f : Start → Start) : (s.updStart f).jrn = s.jrn := rfl
@[simp] theorem State.updStart_clk (f : Start → Start) : (s.updStart f).clk = s.clk := rfl
@[simp] theorem State.updStart_stg (f : Start → Start) : (s.updStart f).stg = s.stg := rfl
@[simp] theorem State.updStart_tide (f : Start → Start) : (s.updStart f).tide = s.tide := rfl
@[simp] theorem State.updStart_fio (f : Start → Start) : (s.updStart f).fio = s.fio := rfl
@[simp] theorem State.updStart_mtr (f : Start → Start) : (s.updStart f).mtr = s.mtr := rfl
@[simp] theorem State.updStart_hst (f : Start → Start) : (s.updStart f).hst = s.hst := rfl
@[simp] theorem State.updStart_ports (f : Start → Start) : (s.updStart f).ports = s.ports := rfl
@[simp] theorem State.updStart_ntime (f : Start → Start) : (s.updStart f).ntime = s.ntime := rfl
@[simp] theorem State.updStart_pair (f : Start → Start) : (s.updStart f).pair = s.pair := rfl
@[simp] theorem State.updStart_keys (f : Start → Start) : (s.updStart f).keys = s.keys := rfl
@[simp] theorem State.updStart_scan (f : Start → Start) : (s.updStart f).scan = s.scan := rfl
@[simp] theorem State.updStart_loop (f : Start → Start) : (s.updStart f).loop = s.loop := rfl
@[simp] theorem State.updStart_place (f : Start → Start) : (s.updStart f).place = s.place := rfl
@[simp] theorem State.updStart_stn (f : Start → Start) : (s.updStart f).stn = s.stn := rfl
@[simp] theorem State.updStart_sol (f : Start → Start) : (s.updStart f).sol = s.sol := rfl
@[simp] theorem State.updStart_draws (f : Start → Start) : (s.updStart f).draws = s.draws := rfl
@[simp] theorem State.updStart_man (f : Start → Start) : (s.updStart f).man = s.man := rfl
@[simp] theorem State.updMoor_pending (f : Moor → Moor) : (s.updMoor f).pending = s.pending := rfl
@[simp] theorem State.updMoor_pins (f : Moor → Moor) : (s.updMoor f).pins = s.pins := rfl
@[simp] theorem State.updMoor_mram (f : Moor → Moor) : (s.updMoor f).mram = s.mram := rfl
@[simp] theorem State.updMoor_flash (f : Moor → Moor) : (s.updMoor f).flash = s.flash := rfl
@[simp] theorem State.updMoor_fuses (f : Moor → Moor) : (s.updMoor f).fuses = s.fuses := rfl
@[simp] theorem State.updMoor_cal (f : Moor → Moor) : (s.updMoor f).cal = s.cal := rfl
@[simp] theorem State.updMoor_start (f : Moor → Moor) : (s.updMoor f).start = s.start := rfl
@[simp] theorem State.updMoor_moor (f : Moor → Moor) : (s.updMoor f).moor = f s.moor := rfl
@[simp] theorem State.updMoor_evt (f : Moor → Moor) : (s.updMoor f).evt = s.evt := rfl
@[simp] theorem State.updMoor_jrn (f : Moor → Moor) : (s.updMoor f).jrn = s.jrn := rfl
@[simp] theorem State.updMoor_clk (f : Moor → Moor) : (s.updMoor f).clk = s.clk := rfl
@[simp] theorem State.updMoor_stg (f : Moor → Moor) : (s.updMoor f).stg = s.stg := rfl
@[simp] theorem State.updMoor_tide (f : Moor → Moor) : (s.updMoor f).tide = s.tide := rfl
@[simp] theorem State.updMoor_fio (f : Moor → Moor) : (s.updMoor f).fio = s.fio := rfl
@[simp] theorem State.updMoor_mtr (f : Moor → Moor) : (s.updMoor f).mtr = s.mtr := rfl
@[simp] theorem State.updMoor_hst (f : Moor → Moor) : (s.updMoor f).hst = s.hst := rfl
@[simp] theorem State.updMoor_ports (f : Moor → Moor) : (s.updMoor f).ports = s.ports := rfl
@[simp] theorem State.updMoor_ntime (f : Moor → Moor) : (s.updMoor f).ntime = s.ntime := rfl
@[simp] theorem State.updMoor_pair (f : Moor → Moor) : (s.updMoor f).pair = s.pair := rfl
@[simp] theorem State.updMoor_keys (f : Moor → Moor) : (s.updMoor f).keys = s.keys := rfl
@[simp] theorem State.updMoor_scan (f : Moor → Moor) : (s.updMoor f).scan = s.scan := rfl
@[simp] theorem State.updMoor_loop (f : Moor → Moor) : (s.updMoor f).loop = s.loop := rfl
@[simp] theorem State.updMoor_place (f : Moor → Moor) : (s.updMoor f).place = s.place := rfl
@[simp] theorem State.updMoor_stn (f : Moor → Moor) : (s.updMoor f).stn = s.stn := rfl
@[simp] theorem State.updMoor_sol (f : Moor → Moor) : (s.updMoor f).sol = s.sol := rfl
@[simp] theorem State.updMoor_draws (f : Moor → Moor) : (s.updMoor f).draws = s.draws := rfl
@[simp] theorem State.updMoor_man (f : Moor → Moor) : (s.updMoor f).man = s.man := rfl
@[simp] theorem State.updEvt_pending (f : Evt → Evt) : (s.updEvt f).pending = s.pending := rfl
@[simp] theorem State.updEvt_pins (f : Evt → Evt) : (s.updEvt f).pins = s.pins := rfl
@[simp] theorem State.updEvt_mram (f : Evt → Evt) : (s.updEvt f).mram = s.mram := rfl
@[simp] theorem State.updEvt_flash (f : Evt → Evt) : (s.updEvt f).flash = s.flash := rfl
@[simp] theorem State.updEvt_fuses (f : Evt → Evt) : (s.updEvt f).fuses = s.fuses := rfl
@[simp] theorem State.updEvt_cal (f : Evt → Evt) : (s.updEvt f).cal = s.cal := rfl
@[simp] theorem State.updEvt_start (f : Evt → Evt) : (s.updEvt f).start = s.start := rfl
@[simp] theorem State.updEvt_moor (f : Evt → Evt) : (s.updEvt f).moor = s.moor := rfl
@[simp] theorem State.updEvt_evt (f : Evt → Evt) : (s.updEvt f).evt = f s.evt := rfl
@[simp] theorem State.updEvt_jrn (f : Evt → Evt) : (s.updEvt f).jrn = s.jrn := rfl
@[simp] theorem State.updEvt_clk (f : Evt → Evt) : (s.updEvt f).clk = s.clk := rfl
@[simp] theorem State.updEvt_stg (f : Evt → Evt) : (s.updEvt f).stg = s.stg := rfl
@[simp] theorem State.updEvt_tide (f : Evt → Evt) : (s.updEvt f).tide = s.tide := rfl
@[simp] theorem State.updEvt_fio (f : Evt → Evt) : (s.updEvt f).fio = s.fio := rfl
@[simp] theorem State.updEvt_mtr (f : Evt → Evt) : (s.updEvt f).mtr = s.mtr := rfl
@[simp] theorem State.updEvt_hst (f : Evt → Evt) : (s.updEvt f).hst = s.hst := rfl
@[simp] theorem State.updEvt_ports (f : Evt → Evt) : (s.updEvt f).ports = s.ports := rfl
@[simp] theorem State.updEvt_ntime (f : Evt → Evt) : (s.updEvt f).ntime = s.ntime := rfl
@[simp] theorem State.updEvt_pair (f : Evt → Evt) : (s.updEvt f).pair = s.pair := rfl
@[simp] theorem State.updEvt_keys (f : Evt → Evt) : (s.updEvt f).keys = s.keys := rfl
@[simp] theorem State.updEvt_scan (f : Evt → Evt) : (s.updEvt f).scan = s.scan := rfl
@[simp] theorem State.updEvt_loop (f : Evt → Evt) : (s.updEvt f).loop = s.loop := rfl
@[simp] theorem State.updEvt_place (f : Evt → Evt) : (s.updEvt f).place = s.place := rfl
@[simp] theorem State.updEvt_stn (f : Evt → Evt) : (s.updEvt f).stn = s.stn := rfl
@[simp] theorem State.updEvt_sol (f : Evt → Evt) : (s.updEvt f).sol = s.sol := rfl
@[simp] theorem State.updEvt_draws (f : Evt → Evt) : (s.updEvt f).draws = s.draws := rfl
@[simp] theorem State.updEvt_man (f : Evt → Evt) : (s.updEvt f).man = s.man := rfl
@[simp] theorem State.updJrn_pending (f : Jrn → Jrn) : (s.updJrn f).pending = s.pending := rfl
@[simp] theorem State.updJrn_pins (f : Jrn → Jrn) : (s.updJrn f).pins = s.pins := rfl
@[simp] theorem State.updJrn_mram (f : Jrn → Jrn) : (s.updJrn f).mram = s.mram := rfl
@[simp] theorem State.updJrn_flash (f : Jrn → Jrn) : (s.updJrn f).flash = s.flash := rfl
@[simp] theorem State.updJrn_fuses (f : Jrn → Jrn) : (s.updJrn f).fuses = s.fuses := rfl
@[simp] theorem State.updJrn_cal (f : Jrn → Jrn) : (s.updJrn f).cal = s.cal := rfl
@[simp] theorem State.updJrn_start (f : Jrn → Jrn) : (s.updJrn f).start = s.start := rfl
@[simp] theorem State.updJrn_moor (f : Jrn → Jrn) : (s.updJrn f).moor = s.moor := rfl
@[simp] theorem State.updJrn_evt (f : Jrn → Jrn) : (s.updJrn f).evt = s.evt := rfl
@[simp] theorem State.updJrn_jrn (f : Jrn → Jrn) : (s.updJrn f).jrn = f s.jrn := rfl
@[simp] theorem State.updJrn_clk (f : Jrn → Jrn) : (s.updJrn f).clk = s.clk := rfl
@[simp] theorem State.updJrn_stg (f : Jrn → Jrn) : (s.updJrn f).stg = s.stg := rfl
@[simp] theorem State.updJrn_tide (f : Jrn → Jrn) : (s.updJrn f).tide = s.tide := rfl
@[simp] theorem State.updJrn_fio (f : Jrn → Jrn) : (s.updJrn f).fio = s.fio := rfl
@[simp] theorem State.updJrn_mtr (f : Jrn → Jrn) : (s.updJrn f).mtr = s.mtr := rfl
@[simp] theorem State.updJrn_hst (f : Jrn → Jrn) : (s.updJrn f).hst = s.hst := rfl
@[simp] theorem State.updJrn_ports (f : Jrn → Jrn) : (s.updJrn f).ports = s.ports := rfl
@[simp] theorem State.updJrn_ntime (f : Jrn → Jrn) : (s.updJrn f).ntime = s.ntime := rfl
@[simp] theorem State.updJrn_pair (f : Jrn → Jrn) : (s.updJrn f).pair = s.pair := rfl
@[simp] theorem State.updJrn_keys (f : Jrn → Jrn) : (s.updJrn f).keys = s.keys := rfl
@[simp] theorem State.updJrn_scan (f : Jrn → Jrn) : (s.updJrn f).scan = s.scan := rfl
@[simp] theorem State.updJrn_loop (f : Jrn → Jrn) : (s.updJrn f).loop = s.loop := rfl
@[simp] theorem State.updJrn_place (f : Jrn → Jrn) : (s.updJrn f).place = s.place := rfl
@[simp] theorem State.updJrn_stn (f : Jrn → Jrn) : (s.updJrn f).stn = s.stn := rfl
@[simp] theorem State.updJrn_sol (f : Jrn → Jrn) : (s.updJrn f).sol = s.sol := rfl
@[simp] theorem State.updJrn_draws (f : Jrn → Jrn) : (s.updJrn f).draws = s.draws := rfl
@[simp] theorem State.updJrn_man (f : Jrn → Jrn) : (s.updJrn f).man = s.man := rfl
@[simp] theorem State.updClk_pending (f : Clk → Clk) : (s.updClk f).pending = s.pending := rfl
@[simp] theorem State.updClk_pins (f : Clk → Clk) : (s.updClk f).pins = s.pins := rfl
@[simp] theorem State.updClk_mram (f : Clk → Clk) : (s.updClk f).mram = s.mram := rfl
@[simp] theorem State.updClk_flash (f : Clk → Clk) : (s.updClk f).flash = s.flash := rfl
@[simp] theorem State.updClk_fuses (f : Clk → Clk) : (s.updClk f).fuses = s.fuses := rfl
@[simp] theorem State.updClk_cal (f : Clk → Clk) : (s.updClk f).cal = s.cal := rfl
@[simp] theorem State.updClk_start (f : Clk → Clk) : (s.updClk f).start = s.start := rfl
@[simp] theorem State.updClk_moor (f : Clk → Clk) : (s.updClk f).moor = s.moor := rfl
@[simp] theorem State.updClk_evt (f : Clk → Clk) : (s.updClk f).evt = s.evt := rfl
@[simp] theorem State.updClk_jrn (f : Clk → Clk) : (s.updClk f).jrn = s.jrn := rfl
@[simp] theorem State.updClk_clk (f : Clk → Clk) : (s.updClk f).clk = f s.clk := rfl
@[simp] theorem State.updClk_stg (f : Clk → Clk) : (s.updClk f).stg = s.stg := rfl
@[simp] theorem State.updClk_tide (f : Clk → Clk) : (s.updClk f).tide = s.tide := rfl
@[simp] theorem State.updClk_fio (f : Clk → Clk) : (s.updClk f).fio = s.fio := rfl
@[simp] theorem State.updClk_mtr (f : Clk → Clk) : (s.updClk f).mtr = s.mtr := rfl
@[simp] theorem State.updClk_hst (f : Clk → Clk) : (s.updClk f).hst = s.hst := rfl
@[simp] theorem State.updClk_ports (f : Clk → Clk) : (s.updClk f).ports = s.ports := rfl
@[simp] theorem State.updClk_ntime (f : Clk → Clk) : (s.updClk f).ntime = s.ntime := rfl
@[simp] theorem State.updClk_pair (f : Clk → Clk) : (s.updClk f).pair = s.pair := rfl
@[simp] theorem State.updClk_keys (f : Clk → Clk) : (s.updClk f).keys = s.keys := rfl
@[simp] theorem State.updClk_scan (f : Clk → Clk) : (s.updClk f).scan = s.scan := rfl
@[simp] theorem State.updClk_loop (f : Clk → Clk) : (s.updClk f).loop = s.loop := rfl
@[simp] theorem State.updClk_place (f : Clk → Clk) : (s.updClk f).place = s.place := rfl
@[simp] theorem State.updClk_stn (f : Clk → Clk) : (s.updClk f).stn = s.stn := rfl
@[simp] theorem State.updClk_sol (f : Clk → Clk) : (s.updClk f).sol = s.sol := rfl
@[simp] theorem State.updClk_draws (f : Clk → Clk) : (s.updClk f).draws = s.draws := rfl
@[simp] theorem State.updClk_man (f : Clk → Clk) : (s.updClk f).man = s.man := rfl
@[simp] theorem State.updStg_pending (f : CalStg → CalStg) : (s.updStg f).pending = s.pending := rfl
@[simp] theorem State.updStg_pins (f : CalStg → CalStg) : (s.updStg f).pins = s.pins := rfl
@[simp] theorem State.updStg_mram (f : CalStg → CalStg) : (s.updStg f).mram = s.mram := rfl
@[simp] theorem State.updStg_flash (f : CalStg → CalStg) : (s.updStg f).flash = s.flash := rfl
@[simp] theorem State.updStg_fuses (f : CalStg → CalStg) : (s.updStg f).fuses = s.fuses := rfl
@[simp] theorem State.updStg_cal (f : CalStg → CalStg) : (s.updStg f).cal = s.cal := rfl
@[simp] theorem State.updStg_start (f : CalStg → CalStg) : (s.updStg f).start = s.start := rfl
@[simp] theorem State.updStg_moor (f : CalStg → CalStg) : (s.updStg f).moor = s.moor := rfl
@[simp] theorem State.updStg_evt (f : CalStg → CalStg) : (s.updStg f).evt = s.evt := rfl
@[simp] theorem State.updStg_jrn (f : CalStg → CalStg) : (s.updStg f).jrn = s.jrn := rfl
@[simp] theorem State.updStg_clk (f : CalStg → CalStg) : (s.updStg f).clk = s.clk := rfl
@[simp] theorem State.updStg_stg (f : CalStg → CalStg) : (s.updStg f).stg = f s.stg := rfl
@[simp] theorem State.updStg_tide (f : CalStg → CalStg) : (s.updStg f).tide = s.tide := rfl
@[simp] theorem State.updStg_fio (f : CalStg → CalStg) : (s.updStg f).fio = s.fio := rfl
@[simp] theorem State.updStg_mtr (f : CalStg → CalStg) : (s.updStg f).mtr = s.mtr := rfl
@[simp] theorem State.updStg_hst (f : CalStg → CalStg) : (s.updStg f).hst = s.hst := rfl
@[simp] theorem State.updStg_ports (f : CalStg → CalStg) : (s.updStg f).ports = s.ports := rfl
@[simp] theorem State.updStg_ntime (f : CalStg → CalStg) : (s.updStg f).ntime = s.ntime := rfl
@[simp] theorem State.updStg_pair (f : CalStg → CalStg) : (s.updStg f).pair = s.pair := rfl
@[simp] theorem State.updStg_keys (f : CalStg → CalStg) : (s.updStg f).keys = s.keys := rfl
@[simp] theorem State.updStg_scan (f : CalStg → CalStg) : (s.updStg f).scan = s.scan := rfl
@[simp] theorem State.updStg_loop (f : CalStg → CalStg) : (s.updStg f).loop = s.loop := rfl
@[simp] theorem State.updStg_place (f : CalStg → CalStg) : (s.updStg f).place = s.place := rfl
@[simp] theorem State.updStg_stn (f : CalStg → CalStg) : (s.updStg f).stn = s.stn := rfl
@[simp] theorem State.updStg_sol (f : CalStg → CalStg) : (s.updStg f).sol = s.sol := rfl
@[simp] theorem State.updStg_draws (f : CalStg → CalStg) : (s.updStg f).draws = s.draws := rfl
@[simp] theorem State.updStg_man (f : CalStg → CalStg) : (s.updStg f).man = s.man := rfl
@[simp] theorem State.updTide_pending (f : Tide → Tide) : (s.updTide f).pending = s.pending := rfl
@[simp] theorem State.updTide_pins (f : Tide → Tide) : (s.updTide f).pins = s.pins := rfl
@[simp] theorem State.updTide_mram (f : Tide → Tide) : (s.updTide f).mram = s.mram := rfl
@[simp] theorem State.updTide_flash (f : Tide → Tide) : (s.updTide f).flash = s.flash := rfl
@[simp] theorem State.updTide_fuses (f : Tide → Tide) : (s.updTide f).fuses = s.fuses := rfl
@[simp] theorem State.updTide_cal (f : Tide → Tide) : (s.updTide f).cal = s.cal := rfl
@[simp] theorem State.updTide_start (f : Tide → Tide) : (s.updTide f).start = s.start := rfl
@[simp] theorem State.updTide_moor (f : Tide → Tide) : (s.updTide f).moor = s.moor := rfl
@[simp] theorem State.updTide_evt (f : Tide → Tide) : (s.updTide f).evt = s.evt := rfl
@[simp] theorem State.updTide_jrn (f : Tide → Tide) : (s.updTide f).jrn = s.jrn := rfl
@[simp] theorem State.updTide_clk (f : Tide → Tide) : (s.updTide f).clk = s.clk := rfl
@[simp] theorem State.updTide_stg (f : Tide → Tide) : (s.updTide f).stg = s.stg := rfl
@[simp] theorem State.updTide_tide (f : Tide → Tide) : (s.updTide f).tide = f s.tide := rfl
@[simp] theorem State.updTide_fio (f : Tide → Tide) : (s.updTide f).fio = s.fio := rfl
@[simp] theorem State.updTide_mtr (f : Tide → Tide) : (s.updTide f).mtr = s.mtr := rfl
@[simp] theorem State.updTide_hst (f : Tide → Tide) : (s.updTide f).hst = s.hst := rfl
@[simp] theorem State.updTide_ports (f : Tide → Tide) : (s.updTide f).ports = s.ports := rfl
@[simp] theorem State.updTide_ntime (f : Tide → Tide) : (s.updTide f).ntime = s.ntime := rfl
@[simp] theorem State.updTide_pair (f : Tide → Tide) : (s.updTide f).pair = s.pair := rfl
@[simp] theorem State.updTide_keys (f : Tide → Tide) : (s.updTide f).keys = s.keys := rfl
@[simp] theorem State.updTide_scan (f : Tide → Tide) : (s.updTide f).scan = s.scan := rfl
@[simp] theorem State.updTide_loop (f : Tide → Tide) : (s.updTide f).loop = s.loop := rfl
@[simp] theorem State.updTide_place (f : Tide → Tide) : (s.updTide f).place = s.place := rfl
@[simp] theorem State.updTide_stn (f : Tide → Tide) : (s.updTide f).stn = s.stn := rfl
@[simp] theorem State.updTide_sol (f : Tide → Tide) : (s.updTide f).sol = s.sol := rfl
@[simp] theorem State.updTide_draws (f : Tide → Tide) : (s.updTide f).draws = s.draws := rfl
@[simp] theorem State.updTide_man (f : Tide → Tide) : (s.updTide f).man = s.man := rfl
@[simp] theorem State.updFio_pending (f : Fio → Fio) : (s.updFio f).pending = s.pending := rfl
@[simp] theorem State.updFio_pins (f : Fio → Fio) : (s.updFio f).pins = s.pins := rfl
@[simp] theorem State.updFio_mram (f : Fio → Fio) : (s.updFio f).mram = s.mram := rfl
@[simp] theorem State.updFio_flash (f : Fio → Fio) : (s.updFio f).flash = s.flash := rfl
@[simp] theorem State.updFio_fuses (f : Fio → Fio) : (s.updFio f).fuses = s.fuses := rfl
@[simp] theorem State.updFio_cal (f : Fio → Fio) : (s.updFio f).cal = s.cal := rfl
@[simp] theorem State.updFio_start (f : Fio → Fio) : (s.updFio f).start = s.start := rfl
@[simp] theorem State.updFio_moor (f : Fio → Fio) : (s.updFio f).moor = s.moor := rfl
@[simp] theorem State.updFio_evt (f : Fio → Fio) : (s.updFio f).evt = s.evt := rfl
@[simp] theorem State.updFio_jrn (f : Fio → Fio) : (s.updFio f).jrn = s.jrn := rfl
@[simp] theorem State.updFio_clk (f : Fio → Fio) : (s.updFio f).clk = s.clk := rfl
@[simp] theorem State.updFio_stg (f : Fio → Fio) : (s.updFio f).stg = s.stg := rfl
@[simp] theorem State.updFio_tide (f : Fio → Fio) : (s.updFio f).tide = s.tide := rfl
@[simp] theorem State.updFio_fio (f : Fio → Fio) : (s.updFio f).fio = f s.fio := rfl
@[simp] theorem State.updFio_mtr (f : Fio → Fio) : (s.updFio f).mtr = s.mtr := rfl
@[simp] theorem State.updFio_hst (f : Fio → Fio) : (s.updFio f).hst = s.hst := rfl
@[simp] theorem State.updFio_ports (f : Fio → Fio) : (s.updFio f).ports = s.ports := rfl
@[simp] theorem State.updFio_ntime (f : Fio → Fio) : (s.updFio f).ntime = s.ntime := rfl
@[simp] theorem State.updFio_pair (f : Fio → Fio) : (s.updFio f).pair = s.pair := rfl
@[simp] theorem State.updFio_keys (f : Fio → Fio) : (s.updFio f).keys = s.keys := rfl
@[simp] theorem State.updFio_scan (f : Fio → Fio) : (s.updFio f).scan = s.scan := rfl
@[simp] theorem State.updFio_loop (f : Fio → Fio) : (s.updFio f).loop = s.loop := rfl
@[simp] theorem State.updFio_place (f : Fio → Fio) : (s.updFio f).place = s.place := rfl
@[simp] theorem State.updFio_stn (f : Fio → Fio) : (s.updFio f).stn = s.stn := rfl
@[simp] theorem State.updFio_sol (f : Fio → Fio) : (s.updFio f).sol = s.sol := rfl
@[simp] theorem State.updFio_draws (f : Fio → Fio) : (s.updFio f).draws = s.draws := rfl
@[simp] theorem State.updFio_man (f : Fio → Fio) : (s.updFio f).man = s.man := rfl
@[simp] theorem State.updMtr_pending (f : Mtr → Mtr) : (s.updMtr f).pending = s.pending := rfl
@[simp] theorem State.updMtr_pins (f : Mtr → Mtr) : (s.updMtr f).pins = s.pins := rfl
@[simp] theorem State.updMtr_mram (f : Mtr → Mtr) : (s.updMtr f).mram = s.mram := rfl
@[simp] theorem State.updMtr_flash (f : Mtr → Mtr) : (s.updMtr f).flash = s.flash := rfl
@[simp] theorem State.updMtr_fuses (f : Mtr → Mtr) : (s.updMtr f).fuses = s.fuses := rfl
@[simp] theorem State.updMtr_cal (f : Mtr → Mtr) : (s.updMtr f).cal = s.cal := rfl
@[simp] theorem State.updMtr_start (f : Mtr → Mtr) : (s.updMtr f).start = s.start := rfl
@[simp] theorem State.updMtr_moor (f : Mtr → Mtr) : (s.updMtr f).moor = s.moor := rfl
@[simp] theorem State.updMtr_evt (f : Mtr → Mtr) : (s.updMtr f).evt = s.evt := rfl
@[simp] theorem State.updMtr_jrn (f : Mtr → Mtr) : (s.updMtr f).jrn = s.jrn := rfl
@[simp] theorem State.updMtr_clk (f : Mtr → Mtr) : (s.updMtr f).clk = s.clk := rfl
@[simp] theorem State.updMtr_stg (f : Mtr → Mtr) : (s.updMtr f).stg = s.stg := rfl
@[simp] theorem State.updMtr_tide (f : Mtr → Mtr) : (s.updMtr f).tide = s.tide := rfl
@[simp] theorem State.updMtr_fio (f : Mtr → Mtr) : (s.updMtr f).fio = s.fio := rfl
@[simp] theorem State.updMtr_mtr (f : Mtr → Mtr) : (s.updMtr f).mtr = f s.mtr := rfl
@[simp] theorem State.updMtr_hst (f : Mtr → Mtr) : (s.updMtr f).hst = s.hst := rfl
@[simp] theorem State.updMtr_ports (f : Mtr → Mtr) : (s.updMtr f).ports = s.ports := rfl
@[simp] theorem State.updMtr_ntime (f : Mtr → Mtr) : (s.updMtr f).ntime = s.ntime := rfl
@[simp] theorem State.updMtr_pair (f : Mtr → Mtr) : (s.updMtr f).pair = s.pair := rfl
@[simp] theorem State.updMtr_keys (f : Mtr → Mtr) : (s.updMtr f).keys = s.keys := rfl
@[simp] theorem State.updMtr_scan (f : Mtr → Mtr) : (s.updMtr f).scan = s.scan := rfl
@[simp] theorem State.updMtr_loop (f : Mtr → Mtr) : (s.updMtr f).loop = s.loop := rfl
@[simp] theorem State.updMtr_place (f : Mtr → Mtr) : (s.updMtr f).place = s.place := rfl
@[simp] theorem State.updMtr_stn (f : Mtr → Mtr) : (s.updMtr f).stn = s.stn := rfl
@[simp] theorem State.updMtr_sol (f : Mtr → Mtr) : (s.updMtr f).sol = s.sol := rfl
@[simp] theorem State.updMtr_draws (f : Mtr → Mtr) : (s.updMtr f).draws = s.draws := rfl
@[simp] theorem State.updMtr_man (f : Mtr → Mtr) : (s.updMtr f).man = s.man := rfl
@[simp] theorem State.updHst_pending (f : Hst → Hst) : (s.updHst f).pending = s.pending := rfl
@[simp] theorem State.updHst_pins (f : Hst → Hst) : (s.updHst f).pins = s.pins := rfl
@[simp] theorem State.updHst_mram (f : Hst → Hst) : (s.updHst f).mram = s.mram := rfl
@[simp] theorem State.updHst_flash (f : Hst → Hst) : (s.updHst f).flash = s.flash := rfl
@[simp] theorem State.updHst_fuses (f : Hst → Hst) : (s.updHst f).fuses = s.fuses := rfl
@[simp] theorem State.updHst_cal (f : Hst → Hst) : (s.updHst f).cal = s.cal := rfl
@[simp] theorem State.updHst_start (f : Hst → Hst) : (s.updHst f).start = s.start := rfl
@[simp] theorem State.updHst_moor (f : Hst → Hst) : (s.updHst f).moor = s.moor := rfl
@[simp] theorem State.updHst_evt (f : Hst → Hst) : (s.updHst f).evt = s.evt := rfl
@[simp] theorem State.updHst_jrn (f : Hst → Hst) : (s.updHst f).jrn = s.jrn := rfl
@[simp] theorem State.updHst_clk (f : Hst → Hst) : (s.updHst f).clk = s.clk := rfl
@[simp] theorem State.updHst_stg (f : Hst → Hst) : (s.updHst f).stg = s.stg := rfl
@[simp] theorem State.updHst_tide (f : Hst → Hst) : (s.updHst f).tide = s.tide := rfl
@[simp] theorem State.updHst_fio (f : Hst → Hst) : (s.updHst f).fio = s.fio := rfl
@[simp] theorem State.updHst_mtr (f : Hst → Hst) : (s.updHst f).mtr = s.mtr := rfl
@[simp] theorem State.updHst_hst (f : Hst → Hst) : (s.updHst f).hst = f s.hst := rfl
@[simp] theorem State.updHst_ports (f : Hst → Hst) : (s.updHst f).ports = s.ports := rfl
@[simp] theorem State.updHst_ntime (f : Hst → Hst) : (s.updHst f).ntime = s.ntime := rfl
@[simp] theorem State.updHst_pair (f : Hst → Hst) : (s.updHst f).pair = s.pair := rfl
@[simp] theorem State.updHst_keys (f : Hst → Hst) : (s.updHst f).keys = s.keys := rfl
@[simp] theorem State.updHst_scan (f : Hst → Hst) : (s.updHst f).scan = s.scan := rfl
@[simp] theorem State.updHst_loop (f : Hst → Hst) : (s.updHst f).loop = s.loop := rfl
@[simp] theorem State.updHst_place (f : Hst → Hst) : (s.updHst f).place = s.place := rfl
@[simp] theorem State.updHst_stn (f : Hst → Hst) : (s.updHst f).stn = s.stn := rfl
@[simp] theorem State.updHst_sol (f : Hst → Hst) : (s.updHst f).sol = s.sol := rfl
@[simp] theorem State.updHst_draws (f : Hst → Hst) : (s.updHst f).draws = s.draws := rfl
@[simp] theorem State.updHst_man (f : Hst → Hst) : (s.updHst f).man = s.man := rfl
@[simp] theorem State.updNtime_pending (f : Ntime → Ntime) : (s.updNtime f).pending = s.pending := rfl
@[simp] theorem State.updNtime_pins (f : Ntime → Ntime) : (s.updNtime f).pins = s.pins := rfl
@[simp] theorem State.updNtime_mram (f : Ntime → Ntime) : (s.updNtime f).mram = s.mram := rfl
@[simp] theorem State.updNtime_flash (f : Ntime → Ntime) : (s.updNtime f).flash = s.flash := rfl
@[simp] theorem State.updNtime_fuses (f : Ntime → Ntime) : (s.updNtime f).fuses = s.fuses := rfl
@[simp] theorem State.updNtime_cal (f : Ntime → Ntime) : (s.updNtime f).cal = s.cal := rfl
@[simp] theorem State.updNtime_start (f : Ntime → Ntime) : (s.updNtime f).start = s.start := rfl
@[simp] theorem State.updNtime_moor (f : Ntime → Ntime) : (s.updNtime f).moor = s.moor := rfl
@[simp] theorem State.updNtime_evt (f : Ntime → Ntime) : (s.updNtime f).evt = s.evt := rfl
@[simp] theorem State.updNtime_jrn (f : Ntime → Ntime) : (s.updNtime f).jrn = s.jrn := rfl
@[simp] theorem State.updNtime_clk (f : Ntime → Ntime) : (s.updNtime f).clk = s.clk := rfl
@[simp] theorem State.updNtime_stg (f : Ntime → Ntime) : (s.updNtime f).stg = s.stg := rfl
@[simp] theorem State.updNtime_tide (f : Ntime → Ntime) : (s.updNtime f).tide = s.tide := rfl
@[simp] theorem State.updNtime_fio (f : Ntime → Ntime) : (s.updNtime f).fio = s.fio := rfl
@[simp] theorem State.updNtime_mtr (f : Ntime → Ntime) : (s.updNtime f).mtr = s.mtr := rfl
@[simp] theorem State.updNtime_hst (f : Ntime → Ntime) : (s.updNtime f).hst = s.hst := rfl
@[simp] theorem State.updNtime_ports (f : Ntime → Ntime) : (s.updNtime f).ports = s.ports := rfl
@[simp] theorem State.updNtime_ntime (f : Ntime → Ntime) : (s.updNtime f).ntime = f s.ntime := rfl
@[simp] theorem State.updNtime_pair (f : Ntime → Ntime) : (s.updNtime f).pair = s.pair := rfl
@[simp] theorem State.updNtime_keys (f : Ntime → Ntime) : (s.updNtime f).keys = s.keys := rfl
@[simp] theorem State.updNtime_scan (f : Ntime → Ntime) : (s.updNtime f).scan = s.scan := rfl
@[simp] theorem State.updNtime_loop (f : Ntime → Ntime) : (s.updNtime f).loop = s.loop := rfl
@[simp] theorem State.updNtime_place (f : Ntime → Ntime) : (s.updNtime f).place = s.place := rfl
@[simp] theorem State.updNtime_stn (f : Ntime → Ntime) : (s.updNtime f).stn = s.stn := rfl
@[simp] theorem State.updNtime_sol (f : Ntime → Ntime) : (s.updNtime f).sol = s.sol := rfl
@[simp] theorem State.updNtime_draws (f : Ntime → Ntime) : (s.updNtime f).draws = s.draws := rfl
@[simp] theorem State.updNtime_man (f : Ntime → Ntime) : (s.updNtime f).man = s.man := rfl
@[simp] theorem State.updPair_pending (f : Pair → Pair) : (s.updPair f).pending = s.pending := rfl
@[simp] theorem State.updPair_pins (f : Pair → Pair) : (s.updPair f).pins = s.pins := rfl
@[simp] theorem State.updPair_mram (f : Pair → Pair) : (s.updPair f).mram = s.mram := rfl
@[simp] theorem State.updPair_flash (f : Pair → Pair) : (s.updPair f).flash = s.flash := rfl
@[simp] theorem State.updPair_fuses (f : Pair → Pair) : (s.updPair f).fuses = s.fuses := rfl
@[simp] theorem State.updPair_cal (f : Pair → Pair) : (s.updPair f).cal = s.cal := rfl
@[simp] theorem State.updPair_start (f : Pair → Pair) : (s.updPair f).start = s.start := rfl
@[simp] theorem State.updPair_moor (f : Pair → Pair) : (s.updPair f).moor = s.moor := rfl
@[simp] theorem State.updPair_evt (f : Pair → Pair) : (s.updPair f).evt = s.evt := rfl
@[simp] theorem State.updPair_jrn (f : Pair → Pair) : (s.updPair f).jrn = s.jrn := rfl
@[simp] theorem State.updPair_clk (f : Pair → Pair) : (s.updPair f).clk = s.clk := rfl
@[simp] theorem State.updPair_stg (f : Pair → Pair) : (s.updPair f).stg = s.stg := rfl
@[simp] theorem State.updPair_tide (f : Pair → Pair) : (s.updPair f).tide = s.tide := rfl
@[simp] theorem State.updPair_fio (f : Pair → Pair) : (s.updPair f).fio = s.fio := rfl
@[simp] theorem State.updPair_mtr (f : Pair → Pair) : (s.updPair f).mtr = s.mtr := rfl
@[simp] theorem State.updPair_hst (f : Pair → Pair) : (s.updPair f).hst = s.hst := rfl
@[simp] theorem State.updPair_ports (f : Pair → Pair) : (s.updPair f).ports = s.ports := rfl
@[simp] theorem State.updPair_ntime (f : Pair → Pair) : (s.updPair f).ntime = s.ntime := rfl
@[simp] theorem State.updPair_pair (f : Pair → Pair) : (s.updPair f).pair = f s.pair := rfl
@[simp] theorem State.updPair_keys (f : Pair → Pair) : (s.updPair f).keys = s.keys := rfl
@[simp] theorem State.updPair_scan (f : Pair → Pair) : (s.updPair f).scan = s.scan := rfl
@[simp] theorem State.updPair_loop (f : Pair → Pair) : (s.updPair f).loop = s.loop := rfl
@[simp] theorem State.updPair_place (f : Pair → Pair) : (s.updPair f).place = s.place := rfl
@[simp] theorem State.updPair_stn (f : Pair → Pair) : (s.updPair f).stn = s.stn := rfl
@[simp] theorem State.updPair_sol (f : Pair → Pair) : (s.updPair f).sol = s.sol := rfl
@[simp] theorem State.updPair_draws (f : Pair → Pair) : (s.updPair f).draws = s.draws := rfl
@[simp] theorem State.updPair_man (f : Pair → Pair) : (s.updPair f).man = s.man := rfl
@[simp] theorem State.updLoop_pending (f : LoopEng → LoopEng) : (s.updLoop f).pending = s.pending := rfl
@[simp] theorem State.updLoop_pins (f : LoopEng → LoopEng) : (s.updLoop f).pins = s.pins := rfl
@[simp] theorem State.updLoop_mram (f : LoopEng → LoopEng) : (s.updLoop f).mram = s.mram := rfl
@[simp] theorem State.updLoop_flash (f : LoopEng → LoopEng) : (s.updLoop f).flash = s.flash := rfl
@[simp] theorem State.updLoop_fuses (f : LoopEng → LoopEng) : (s.updLoop f).fuses = s.fuses := rfl
@[simp] theorem State.updLoop_cal (f : LoopEng → LoopEng) : (s.updLoop f).cal = s.cal := rfl
@[simp] theorem State.updLoop_start (f : LoopEng → LoopEng) : (s.updLoop f).start = s.start := rfl
@[simp] theorem State.updLoop_moor (f : LoopEng → LoopEng) : (s.updLoop f).moor = s.moor := rfl
@[simp] theorem State.updLoop_evt (f : LoopEng → LoopEng) : (s.updLoop f).evt = s.evt := rfl
@[simp] theorem State.updLoop_jrn (f : LoopEng → LoopEng) : (s.updLoop f).jrn = s.jrn := rfl
@[simp] theorem State.updLoop_clk (f : LoopEng → LoopEng) : (s.updLoop f).clk = s.clk := rfl
@[simp] theorem State.updLoop_stg (f : LoopEng → LoopEng) : (s.updLoop f).stg = s.stg := rfl
@[simp] theorem State.updLoop_tide (f : LoopEng → LoopEng) : (s.updLoop f).tide = s.tide := rfl
@[simp] theorem State.updLoop_fio (f : LoopEng → LoopEng) : (s.updLoop f).fio = s.fio := rfl
@[simp] theorem State.updLoop_mtr (f : LoopEng → LoopEng) : (s.updLoop f).mtr = s.mtr := rfl
@[simp] theorem State.updLoop_hst (f : LoopEng → LoopEng) : (s.updLoop f).hst = s.hst := rfl
@[simp] theorem State.updLoop_ports (f : LoopEng → LoopEng) : (s.updLoop f).ports = s.ports := rfl
@[simp] theorem State.updLoop_ntime (f : LoopEng → LoopEng) : (s.updLoop f).ntime = s.ntime := rfl
@[simp] theorem State.updLoop_pair (f : LoopEng → LoopEng) : (s.updLoop f).pair = s.pair := rfl
@[simp] theorem State.updLoop_keys (f : LoopEng → LoopEng) : (s.updLoop f).keys = s.keys := rfl
@[simp] theorem State.updLoop_scan (f : LoopEng → LoopEng) : (s.updLoop f).scan = s.scan := rfl
@[simp] theorem State.updLoop_loop (f : LoopEng → LoopEng) : (s.updLoop f).loop = f s.loop := rfl
@[simp] theorem State.updLoop_place (f : LoopEng → LoopEng) : (s.updLoop f).place = s.place := rfl
@[simp] theorem State.updLoop_stn (f : LoopEng → LoopEng) : (s.updLoop f).stn = s.stn := rfl
@[simp] theorem State.updLoop_sol (f : LoopEng → LoopEng) : (s.updLoop f).sol = s.sol := rfl
@[simp] theorem State.updLoop_draws (f : LoopEng → LoopEng) : (s.updLoop f).draws = s.draws := rfl
@[simp] theorem State.updLoop_man (f : LoopEng → LoopEng) : (s.updLoop f).man = s.man := rfl
@[simp] theorem State.updPlace_pending (f : Place → Place) : (s.updPlace f).pending = s.pending := rfl
@[simp] theorem State.updPlace_pins (f : Place → Place) : (s.updPlace f).pins = s.pins := rfl
@[simp] theorem State.updPlace_mram (f : Place → Place) : (s.updPlace f).mram = s.mram := rfl
@[simp] theorem State.updPlace_flash (f : Place → Place) : (s.updPlace f).flash = s.flash := rfl
@[simp] theorem State.updPlace_fuses (f : Place → Place) : (s.updPlace f).fuses = s.fuses := rfl
@[simp] theorem State.updPlace_cal (f : Place → Place) : (s.updPlace f).cal = s.cal := rfl
@[simp] theorem State.updPlace_start (f : Place → Place) : (s.updPlace f).start = s.start := rfl
@[simp] theorem State.updPlace_moor (f : Place → Place) : (s.updPlace f).moor = s.moor := rfl
@[simp] theorem State.updPlace_evt (f : Place → Place) : (s.updPlace f).evt = s.evt := rfl
@[simp] theorem State.updPlace_jrn (f : Place → Place) : (s.updPlace f).jrn = s.jrn := rfl
@[simp] theorem State.updPlace_clk (f : Place → Place) : (s.updPlace f).clk = s.clk := rfl
@[simp] theorem State.updPlace_stg (f : Place → Place) : (s.updPlace f).stg = s.stg := rfl
@[simp] theorem State.updPlace_tide (f : Place → Place) : (s.updPlace f).tide = s.tide := rfl
@[simp] theorem State.updPlace_fio (f : Place → Place) : (s.updPlace f).fio = s.fio := rfl
@[simp] theorem State.updPlace_mtr (f : Place → Place) : (s.updPlace f).mtr = s.mtr := rfl
@[simp] theorem State.updPlace_hst (f : Place → Place) : (s.updPlace f).hst = s.hst := rfl
@[simp] theorem State.updPlace_ports (f : Place → Place) : (s.updPlace f).ports = s.ports := rfl
@[simp] theorem State.updPlace_ntime (f : Place → Place) : (s.updPlace f).ntime = s.ntime := rfl
@[simp] theorem State.updPlace_pair (f : Place → Place) : (s.updPlace f).pair = s.pair := rfl
@[simp] theorem State.updPlace_keys (f : Place → Place) : (s.updPlace f).keys = s.keys := rfl
@[simp] theorem State.updPlace_scan (f : Place → Place) : (s.updPlace f).scan = s.scan := rfl
@[simp] theorem State.updPlace_loop (f : Place → Place) : (s.updPlace f).loop = s.loop := rfl
@[simp] theorem State.updPlace_place (f : Place → Place) : (s.updPlace f).place = f s.place := rfl
@[simp] theorem State.updPlace_stn (f : Place → Place) : (s.updPlace f).stn = s.stn := rfl
@[simp] theorem State.updPlace_sol (f : Place → Place) : (s.updPlace f).sol = s.sol := rfl
@[simp] theorem State.updPlace_draws (f : Place → Place) : (s.updPlace f).draws = s.draws := rfl
@[simp] theorem State.updPlace_man (f : Place → Place) : (s.updPlace f).man = s.man := rfl
@[simp] theorem State.updSol_pending (f : Sol → Sol) : (s.updSol f).pending = s.pending := rfl
@[simp] theorem State.updSol_pins (f : Sol → Sol) : (s.updSol f).pins = s.pins := rfl
@[simp] theorem State.updSol_mram (f : Sol → Sol) : (s.updSol f).mram = s.mram := rfl
@[simp] theorem State.updSol_flash (f : Sol → Sol) : (s.updSol f).flash = s.flash := rfl
@[simp] theorem State.updSol_fuses (f : Sol → Sol) : (s.updSol f).fuses = s.fuses := rfl
@[simp] theorem State.updSol_cal (f : Sol → Sol) : (s.updSol f).cal = s.cal := rfl
@[simp] theorem State.updSol_start (f : Sol → Sol) : (s.updSol f).start = s.start := rfl
@[simp] theorem State.updSol_moor (f : Sol → Sol) : (s.updSol f).moor = s.moor := rfl
@[simp] theorem State.updSol_evt (f : Sol → Sol) : (s.updSol f).evt = s.evt := rfl
@[simp] theorem State.updSol_jrn (f : Sol → Sol) : (s.updSol f).jrn = s.jrn := rfl
@[simp] theorem State.updSol_clk (f : Sol → Sol) : (s.updSol f).clk = s.clk := rfl
@[simp] theorem State.updSol_stg (f : Sol → Sol) : (s.updSol f).stg = s.stg := rfl
@[simp] theorem State.updSol_tide (f : Sol → Sol) : (s.updSol f).tide = s.tide := rfl
@[simp] theorem State.updSol_fio (f : Sol → Sol) : (s.updSol f).fio = s.fio := rfl
@[simp] theorem State.updSol_mtr (f : Sol → Sol) : (s.updSol f).mtr = s.mtr := rfl
@[simp] theorem State.updSol_hst (f : Sol → Sol) : (s.updSol f).hst = s.hst := rfl
@[simp] theorem State.updSol_ports (f : Sol → Sol) : (s.updSol f).ports = s.ports := rfl
@[simp] theorem State.updSol_ntime (f : Sol → Sol) : (s.updSol f).ntime = s.ntime := rfl
@[simp] theorem State.updSol_pair (f : Sol → Sol) : (s.updSol f).pair = s.pair := rfl
@[simp] theorem State.updSol_keys (f : Sol → Sol) : (s.updSol f).keys = s.keys := rfl
@[simp] theorem State.updSol_scan (f : Sol → Sol) : (s.updSol f).scan = s.scan := rfl
@[simp] theorem State.updSol_loop (f : Sol → Sol) : (s.updSol f).loop = s.loop := rfl
@[simp] theorem State.updSol_place (f : Sol → Sol) : (s.updSol f).place = s.place := rfl
@[simp] theorem State.updSol_stn (f : Sol → Sol) : (s.updSol f).stn = s.stn := rfl
@[simp] theorem State.updSol_sol (f : Sol → Sol) : (s.updSol f).sol = f s.sol := rfl
@[simp] theorem State.updSol_draws (f : Sol → Sol) : (s.updSol f).draws = s.draws := rfl
@[simp] theorem State.updSol_man (f : Sol → Sol) : (s.updSol f).man = s.man := rfl
@[simp] theorem State.updStn_pending (f : StnEng → StnEng) : (s.updStn f).pending = s.pending := rfl
@[simp] theorem State.updStn_pins (f : StnEng → StnEng) : (s.updStn f).pins = s.pins := rfl
@[simp] theorem State.updStn_mram (f : StnEng → StnEng) : (s.updStn f).mram = s.mram := rfl
@[simp] theorem State.updStn_flash (f : StnEng → StnEng) : (s.updStn f).flash = s.flash := rfl
@[simp] theorem State.updStn_fuses (f : StnEng → StnEng) : (s.updStn f).fuses = s.fuses := rfl
@[simp] theorem State.updStn_cal (f : StnEng → StnEng) : (s.updStn f).cal = s.cal := rfl
@[simp] theorem State.updStn_start (f : StnEng → StnEng) : (s.updStn f).start = s.start := rfl
@[simp] theorem State.updStn_moor (f : StnEng → StnEng) : (s.updStn f).moor = s.moor := rfl
@[simp] theorem State.updStn_evt (f : StnEng → StnEng) : (s.updStn f).evt = s.evt := rfl
@[simp] theorem State.updStn_jrn (f : StnEng → StnEng) : (s.updStn f).jrn = s.jrn := rfl
@[simp] theorem State.updStn_clk (f : StnEng → StnEng) : (s.updStn f).clk = s.clk := rfl
@[simp] theorem State.updStn_stg (f : StnEng → StnEng) : (s.updStn f).stg = s.stg := rfl
@[simp] theorem State.updStn_tide (f : StnEng → StnEng) : (s.updStn f).tide = s.tide := rfl
@[simp] theorem State.updStn_fio (f : StnEng → StnEng) : (s.updStn f).fio = s.fio := rfl
@[simp] theorem State.updStn_mtr (f : StnEng → StnEng) : (s.updStn f).mtr = s.mtr := rfl
@[simp] theorem State.updStn_hst (f : StnEng → StnEng) : (s.updStn f).hst = s.hst := rfl
@[simp] theorem State.updStn_ports (f : StnEng → StnEng) : (s.updStn f).ports = s.ports := rfl
@[simp] theorem State.updStn_ntime (f : StnEng → StnEng) : (s.updStn f).ntime = s.ntime := rfl
@[simp] theorem State.updStn_pair (f : StnEng → StnEng) : (s.updStn f).pair = s.pair := rfl
@[simp] theorem State.updStn_keys (f : StnEng → StnEng) : (s.updStn f).keys = s.keys := rfl
@[simp] theorem State.updStn_scan (f : StnEng → StnEng) : (s.updStn f).scan = s.scan := rfl
@[simp] theorem State.updStn_loop (f : StnEng → StnEng) : (s.updStn f).loop = s.loop := rfl
@[simp] theorem State.updStn_place (f : StnEng → StnEng) : (s.updStn f).place = s.place := rfl
@[simp] theorem State.updStn_stn (f : StnEng → StnEng) : (s.updStn f).stn = f s.stn := rfl
@[simp] theorem State.updStn_sol (f : StnEng → StnEng) : (s.updStn f).sol = s.sol := rfl
@[simp] theorem State.updStn_draws (f : StnEng → StnEng) : (s.updStn f).draws = s.draws := rfl
@[simp] theorem State.updStn_man (f : StnEng → StnEng) : (s.updStn f).man = s.man := rfl
@[simp] theorem State.updKeys_pending (f : Keys → Keys) : (s.updKeys f).pending = s.pending := rfl
@[simp] theorem State.updKeys_pins (f : Keys → Keys) : (s.updKeys f).pins = s.pins := rfl
@[simp] theorem State.updKeys_mram (f : Keys → Keys) : (s.updKeys f).mram = s.mram := rfl
@[simp] theorem State.updKeys_flash (f : Keys → Keys) : (s.updKeys f).flash = s.flash := rfl
@[simp] theorem State.updKeys_fuses (f : Keys → Keys) : (s.updKeys f).fuses = s.fuses := rfl
@[simp] theorem State.updKeys_cal (f : Keys → Keys) : (s.updKeys f).cal = s.cal := rfl
@[simp] theorem State.updKeys_start (f : Keys → Keys) : (s.updKeys f).start = s.start := rfl
@[simp] theorem State.updKeys_moor (f : Keys → Keys) : (s.updKeys f).moor = s.moor := rfl
@[simp] theorem State.updKeys_evt (f : Keys → Keys) : (s.updKeys f).evt = s.evt := rfl
@[simp] theorem State.updKeys_jrn (f : Keys → Keys) : (s.updKeys f).jrn = s.jrn := rfl
@[simp] theorem State.updKeys_clk (f : Keys → Keys) : (s.updKeys f).clk = s.clk := rfl
@[simp] theorem State.updKeys_stg (f : Keys → Keys) : (s.updKeys f).stg = s.stg := rfl
@[simp] theorem State.updKeys_tide (f : Keys → Keys) : (s.updKeys f).tide = s.tide := rfl
@[simp] theorem State.updKeys_fio (f : Keys → Keys) : (s.updKeys f).fio = s.fio := rfl
@[simp] theorem State.updKeys_mtr (f : Keys → Keys) : (s.updKeys f).mtr = s.mtr := rfl
@[simp] theorem State.updKeys_hst (f : Keys → Keys) : (s.updKeys f).hst = s.hst := rfl
@[simp] theorem State.updKeys_ports (f : Keys → Keys) : (s.updKeys f).ports = s.ports := rfl
@[simp] theorem State.updKeys_ntime (f : Keys → Keys) : (s.updKeys f).ntime = s.ntime := rfl
@[simp] theorem State.updKeys_pair (f : Keys → Keys) : (s.updKeys f).pair = s.pair := rfl
@[simp] theorem State.updKeys_keys (f : Keys → Keys) : (s.updKeys f).keys = f s.keys := rfl
@[simp] theorem State.updKeys_scan (f : Keys → Keys) : (s.updKeys f).scan = s.scan := rfl
@[simp] theorem State.updKeys_loop (f : Keys → Keys) : (s.updKeys f).loop = s.loop := rfl
@[simp] theorem State.updKeys_place (f : Keys → Keys) : (s.updKeys f).place = s.place := rfl
@[simp] theorem State.updKeys_stn (f : Keys → Keys) : (s.updKeys f).stn = s.stn := rfl
@[simp] theorem State.updKeys_sol (f : Keys → Keys) : (s.updKeys f).sol = s.sol := rfl
@[simp] theorem State.updKeys_draws (f : Keys → Keys) : (s.updKeys f).draws = s.draws := rfl
@[simp] theorem State.updKeys_man (f : Keys → Keys) : (s.updKeys f).man = s.man := rfl
@[simp] theorem State.updScan_pending (f : Scan → Scan) : (s.updScan f).pending = s.pending := rfl
@[simp] theorem State.updScan_pins (f : Scan → Scan) : (s.updScan f).pins = s.pins := rfl
@[simp] theorem State.updScan_mram (f : Scan → Scan) : (s.updScan f).mram = s.mram := rfl
@[simp] theorem State.updScan_flash (f : Scan → Scan) : (s.updScan f).flash = s.flash := rfl
@[simp] theorem State.updScan_fuses (f : Scan → Scan) : (s.updScan f).fuses = s.fuses := rfl
@[simp] theorem State.updScan_cal (f : Scan → Scan) : (s.updScan f).cal = s.cal := rfl
@[simp] theorem State.updScan_start (f : Scan → Scan) : (s.updScan f).start = s.start := rfl
@[simp] theorem State.updScan_moor (f : Scan → Scan) : (s.updScan f).moor = s.moor := rfl
@[simp] theorem State.updScan_evt (f : Scan → Scan) : (s.updScan f).evt = s.evt := rfl
@[simp] theorem State.updScan_jrn (f : Scan → Scan) : (s.updScan f).jrn = s.jrn := rfl
@[simp] theorem State.updScan_clk (f : Scan → Scan) : (s.updScan f).clk = s.clk := rfl
@[simp] theorem State.updScan_stg (f : Scan → Scan) : (s.updScan f).stg = s.stg := rfl
@[simp] theorem State.updScan_tide (f : Scan → Scan) : (s.updScan f).tide = s.tide := rfl
@[simp] theorem State.updScan_fio (f : Scan → Scan) : (s.updScan f).fio = s.fio := rfl
@[simp] theorem State.updScan_mtr (f : Scan → Scan) : (s.updScan f).mtr = s.mtr := rfl
@[simp] theorem State.updScan_hst (f : Scan → Scan) : (s.updScan f).hst = s.hst := rfl
@[simp] theorem State.updScan_ports (f : Scan → Scan) : (s.updScan f).ports = s.ports := rfl
@[simp] theorem State.updScan_ntime (f : Scan → Scan) : (s.updScan f).ntime = s.ntime := rfl
@[simp] theorem State.updScan_pair (f : Scan → Scan) : (s.updScan f).pair = s.pair := rfl
@[simp] theorem State.updScan_keys (f : Scan → Scan) : (s.updScan f).keys = s.keys := rfl
@[simp] theorem State.updScan_scan (f : Scan → Scan) : (s.updScan f).scan = f s.scan := rfl
@[simp] theorem State.updScan_loop (f : Scan → Scan) : (s.updScan f).loop = s.loop := rfl
@[simp] theorem State.updScan_place (f : Scan → Scan) : (s.updScan f).place = s.place := rfl
@[simp] theorem State.updScan_stn (f : Scan → Scan) : (s.updScan f).stn = s.stn := rfl
@[simp] theorem State.updScan_sol (f : Scan → Scan) : (s.updScan f).sol = s.sol := rfl
@[simp] theorem State.updScan_draws (f : Scan → Scan) : (s.updScan f).draws = s.draws := rfl
@[simp] theorem State.updScan_man (f : Scan → Scan) : (s.updScan f).man = s.man := rfl
@[simp] theorem State.updDev_pending (f : DevRec → DevRec) : (s.updDev f).pending = s.pending := rfl
@[simp] theorem State.updDev_pins (f : DevRec → DevRec) : (s.updDev f).pins = s.pins := rfl
@[simp] theorem State.updDev_flash (f : DevRec → DevRec) : (s.updDev f).flash = s.flash := rfl
@[simp] theorem State.updDev_fuses (f : DevRec → DevRec) : (s.updDev f).fuses = s.fuses := rfl
@[simp] theorem State.updDev_cal (f : DevRec → DevRec) : (s.updDev f).cal = s.cal := rfl
@[simp] theorem State.updDev_start (f : DevRec → DevRec) : (s.updDev f).start = s.start := rfl
@[simp] theorem State.updDev_moor (f : DevRec → DevRec) : (s.updDev f).moor = s.moor := rfl
@[simp] theorem State.updDev_evt (f : DevRec → DevRec) : (s.updDev f).evt = s.evt := rfl
@[simp] theorem State.updDev_jrn (f : DevRec → DevRec) : (s.updDev f).jrn = s.jrn := rfl
@[simp] theorem State.updDev_clk (f : DevRec → DevRec) : (s.updDev f).clk = s.clk := rfl
@[simp] theorem State.updDev_stg (f : DevRec → DevRec) : (s.updDev f).stg = s.stg := rfl
@[simp] theorem State.updDev_tide (f : DevRec → DevRec) : (s.updDev f).tide = s.tide := rfl
@[simp] theorem State.updDev_fio (f : DevRec → DevRec) : (s.updDev f).fio = s.fio := rfl
@[simp] theorem State.updDev_mtr (f : DevRec → DevRec) : (s.updDev f).mtr = s.mtr := rfl
@[simp] theorem State.updDev_hst (f : DevRec → DevRec) : (s.updDev f).hst = s.hst := rfl
@[simp] theorem State.updDev_ports (f : DevRec → DevRec) : (s.updDev f).ports = s.ports := rfl
@[simp] theorem State.updDev_ntime (f : DevRec → DevRec) : (s.updDev f).ntime = s.ntime := rfl
@[simp] theorem State.updDev_pair (f : DevRec → DevRec) : (s.updDev f).pair = s.pair := rfl
@[simp] theorem State.updDev_keys (f : DevRec → DevRec) : (s.updDev f).keys = s.keys := rfl
@[simp] theorem State.updDev_scan (f : DevRec → DevRec) : (s.updDev f).scan = s.scan := rfl
@[simp] theorem State.updDev_loop (f : DevRec → DevRec) : (s.updDev f).loop = s.loop := rfl
@[simp] theorem State.updDev_place (f : DevRec → DevRec) : (s.updDev f).place = s.place := rfl
@[simp] theorem State.updDev_stn (f : DevRec → DevRec) : (s.updDev f).stn = s.stn := rfl
@[simp] theorem State.updDev_sol (f : DevRec → DevRec) : (s.updDev f).sol = s.sol := rfl
@[simp] theorem State.updDev_draws (f : DevRec → DevRec) : (s.updDev f).draws = s.draws := rfl
@[simp] theorem State.updDev_man (f : DevRec → DevRec) : (s.updDev f).man = s.man := rfl
@[simp] theorem State.updDev_mram (f : DevRec → DevRec) : (s.updDev f).mram = { s.mram with dev := f s.mram.dev } := rfl
@[simp] theorem State.updTask_pending (n : Nat) (f : Task → Task) : (s.updTask n f).pending = s.pending := rfl
@[simp] theorem State.updTask_pins (n : Nat) (f : Task → Task) : (s.updTask n f).pins = s.pins := rfl
@[simp] theorem State.updTask_mram (n : Nat) (f : Task → Task) : (s.updTask n f).mram = s.mram := rfl
@[simp] theorem State.updTask_flash (n : Nat) (f : Task → Task) : (s.updTask n f).flash = s.flash := rfl
@[simp] theorem State.updTask_fuses (n : Nat) (f : Task → Task) : (s.updTask n f).fuses = s.fuses := rfl
@[simp] theorem State.updTask_cal (n : Nat) (f : Task → Task) : (s.updTask n f).cal = s.cal := rfl
@[simp] theorem State.updTask_start (n : Nat) (f : Task → Task) : (s.updTask n f).start = s.start := rfl
@[simp] theorem State.updTask_moor (n : Nat) (f : Task → Task) : (s.updTask n f).moor = s.moor := rfl
@[simp] theorem State.updTask_evt (n : Nat) (f : Task → Task) : (s.updTask n f).evt = s.evt := rfl
@[simp] theorem State.updTask_jrn (n : Nat) (f : Task → Task) : (s.updTask n f).jrn = s.jrn := rfl
@[simp] theorem State.updTask_clk (n : Nat) (f : Task → Task) : (s.updTask n f).clk = s.clk := rfl
@[simp] theorem State.updTask_stg (n : Nat) (f : Task → Task) : (s.updTask n f).stg = s.stg := rfl
@[simp] theorem State.updTask_tide (n : Nat) (f : Task → Task) : (s.updTask n f).tide = s.tide := rfl
@[simp] theorem State.updTask_fio (n : Nat) (f : Task → Task) : (s.updTask n f).fio = s.fio := rfl
@[simp] theorem State.updTask_mtr (n : Nat) (f : Task → Task) : (s.updTask n f).mtr = s.mtr := rfl
@[simp] theorem State.updTask_hst (n : Nat) (f : Task → Task) : (s.updTask n f).hst = s.hst := rfl
@[simp] theorem State.updTask_ports (n : Nat) (f : Task → Task) : (s.updTask n f).ports = s.ports := rfl
@[simp] theorem State.updTask_ntime (n : Nat) (f : Task → Task) : (s.updTask n f).ntime = s.ntime := rfl
@[simp] theorem State.updTask_pair (n : Nat) (f : Task → Task) : (s.updTask n f).pair = s.pair := rfl
@[simp] theorem State.updTask_keys (n : Nat) (f : Task → Task) : (s.updTask n f).keys = s.keys := rfl
@[simp] theorem State.updTask_loop (n : Nat) (f : Task → Task) : (s.updTask n f).loop = s.loop := rfl
@[simp] theorem State.updTask_place (n : Nat) (f : Task → Task) : (s.updTask n f).place = s.place := rfl
@[simp] theorem State.updTask_stn (n : Nat) (f : Task → Task) : (s.updTask n f).stn = s.stn := rfl
@[simp] theorem State.updTask_sol (n : Nat) (f : Task → Task) : (s.updTask n f).sol = s.sol := rfl
@[simp] theorem State.updTask_draws (n : Nat) (f : Task → Task) : (s.updTask n f).draws = s.draws := rfl
@[simp] theorem State.updTask_man (n : Nat) (f : Task → Task) : (s.updTask n f).man = s.man := rfl
@[simp] theorem State.updRun_pending (n : Nat) (f : Run → Run) : (s.updRun n f).pending = s.pending := rfl
@[simp] theorem State.updRun_pins (n : Nat) (f : Run → Run) : (s.updRun n f).pins = s.pins := rfl
@[simp] theorem State.updRun_mram (n : Nat) (f : Run → Run) : (s.updRun n f).mram = s.mram := rfl
@[simp] theorem State.updRun_flash (n : Nat) (f : Run → Run) : (s.updRun n f).flash = s.flash := rfl
@[simp] theorem State.updRun_fuses (n : Nat) (f : Run → Run) : (s.updRun n f).fuses = s.fuses := rfl
@[simp] theorem State.updRun_cal (n : Nat) (f : Run → Run) : (s.updRun n f).cal = s.cal := rfl
@[simp] theorem State.updRun_start (n : Nat) (f : Run → Run) : (s.updRun n f).start = s.start := rfl
@[simp] theorem State.updRun_moor (n : Nat) (f : Run → Run) : (s.updRun n f).moor = s.moor := rfl
@[simp] theorem State.updRun_evt (n : Nat) (f : Run → Run) : (s.updRun n f).evt = s.evt := rfl
@[simp] theorem State.updRun_jrn (n : Nat) (f : Run → Run) : (s.updRun n f).jrn = s.jrn := rfl
@[simp] theorem State.updRun_clk (n : Nat) (f : Run → Run) : (s.updRun n f).clk = s.clk := rfl
@[simp] theorem State.updRun_stg (n : Nat) (f : Run → Run) : (s.updRun n f).stg = s.stg := rfl
@[simp] theorem State.updRun_tide (n : Nat) (f : Run → Run) : (s.updRun n f).tide = s.tide := rfl
@[simp] theorem State.updRun_fio (n : Nat) (f : Run → Run) : (s.updRun n f).fio = s.fio := rfl
@[simp] theorem State.updRun_mtr (n : Nat) (f : Run → Run) : (s.updRun n f).mtr = s.mtr := rfl
@[simp] theorem State.updRun_hst (n : Nat) (f : Run → Run) : (s.updRun n f).hst = s.hst := rfl
@[simp] theorem State.updRun_ports (n : Nat) (f : Run → Run) : (s.updRun n f).ports = s.ports := rfl
@[simp] theorem State.updRun_ntime (n : Nat) (f : Run → Run) : (s.updRun n f).ntime = s.ntime := rfl
@[simp] theorem State.updRun_pair (n : Nat) (f : Run → Run) : (s.updRun n f).pair = s.pair := rfl
@[simp] theorem State.updRun_keys (n : Nat) (f : Run → Run) : (s.updRun n f).keys = s.keys := rfl
@[simp] theorem State.updRun_loop (n : Nat) (f : Run → Run) : (s.updRun n f).loop = s.loop := rfl
@[simp] theorem State.updRun_place (n : Nat) (f : Run → Run) : (s.updRun n f).place = s.place := rfl
@[simp] theorem State.updRun_stn (n : Nat) (f : Run → Run) : (s.updRun n f).stn = s.stn := rfl
@[simp] theorem State.updRun_sol (n : Nat) (f : Run → Run) : (s.updRun n f).sol = s.sol := rfl
@[simp] theorem State.updRun_draws (n : Nat) (f : Run → Run) : (s.updRun n f).draws = s.draws := rfl
@[simp] theorem State.updRun_man (n : Nat) (f : Run → Run) : (s.updRun n f).man = s.man := rfl
@[simp] theorem State.updProb_pending (n : Nat) (f : Problem → Problem) : (s.updProb n f).pending = s.pending := rfl
@[simp] theorem State.updProb_pins (n : Nat) (f : Problem → Problem) : (s.updProb n f).pins = s.pins := rfl
@[simp] theorem State.updProb_mram (n : Nat) (f : Problem → Problem) : (s.updProb n f).mram = s.mram := rfl
@[simp] theorem State.updProb_flash (n : Nat) (f : Problem → Problem) : (s.updProb n f).flash = s.flash := rfl
@[simp] theorem State.updProb_fuses (n : Nat) (f : Problem → Problem) : (s.updProb n f).fuses = s.fuses := rfl
@[simp] theorem State.updProb_cal (n : Nat) (f : Problem → Problem) : (s.updProb n f).cal = s.cal := rfl
@[simp] theorem State.updProb_start (n : Nat) (f : Problem → Problem) : (s.updProb n f).start = s.start := rfl
@[simp] theorem State.updProb_moor (n : Nat) (f : Problem → Problem) : (s.updProb n f).moor = s.moor := rfl
@[simp] theorem State.updProb_evt (n : Nat) (f : Problem → Problem) : (s.updProb n f).evt = s.evt := rfl
@[simp] theorem State.updProb_jrn (n : Nat) (f : Problem → Problem) : (s.updProb n f).jrn = s.jrn := rfl
@[simp] theorem State.updProb_clk (n : Nat) (f : Problem → Problem) : (s.updProb n f).clk = s.clk := rfl
@[simp] theorem State.updProb_stg (n : Nat) (f : Problem → Problem) : (s.updProb n f).stg = s.stg := rfl
@[simp] theorem State.updProb_tide (n : Nat) (f : Problem → Problem) : (s.updProb n f).tide = s.tide := rfl
@[simp] theorem State.updProb_fio (n : Nat) (f : Problem → Problem) : (s.updProb n f).fio = s.fio := rfl
@[simp] theorem State.updProb_mtr (n : Nat) (f : Problem → Problem) : (s.updProb n f).mtr = s.mtr := rfl
@[simp] theorem State.updProb_hst (n : Nat) (f : Problem → Problem) : (s.updProb n f).hst = s.hst := rfl
@[simp] theorem State.updProb_ports (n : Nat) (f : Problem → Problem) : (s.updProb n f).ports = s.ports := rfl
@[simp] theorem State.updProb_ntime (n : Nat) (f : Problem → Problem) : (s.updProb n f).ntime = s.ntime := rfl
@[simp] theorem State.updProb_pair (n : Nat) (f : Problem → Problem) : (s.updProb n f).pair = s.pair := rfl
@[simp] theorem State.updProb_keys (n : Nat) (f : Problem → Problem) : (s.updProb n f).keys = s.keys := rfl
@[simp] theorem State.updProb_scan (n : Nat) (f : Problem → Problem) : (s.updProb n f).scan = s.scan := rfl
@[simp] theorem State.updProb_loop (n : Nat) (f : Problem → Problem) : (s.updProb n f).loop = s.loop := rfl
@[simp] theorem State.updProb_place (n : Nat) (f : Problem → Problem) : (s.updProb n f).place = s.place := rfl
@[simp] theorem State.updProb_stn (n : Nat) (f : Problem → Problem) : (s.updProb n f).stn = s.stn := rfl
@[simp] theorem State.updProb_draws (n : Nat) (f : Problem → Problem) : (s.updProb n f).draws = s.draws := rfl
@[simp] theorem State.updProb_man (n : Nat) (f : Problem → Problem) : (s.updProb n f).man = s.man := rfl
@[simp] theorem State.updPort_pending (n : Nat) (f : Port → Port) : (s.updPort n f).pending = s.pending := rfl
@[simp] theorem State.updPort_pins (n : Nat) (f : Port → Port) : (s.updPort n f).pins = s.pins := rfl
@[simp] theorem State.updPort_mram (n : Nat) (f : Port → Port) : (s.updPort n f).mram = s.mram := rfl
@[simp] theorem State.updPort_flash (n : Nat) (f : Port → Port) : (s.updPort n f).flash = s.flash := rfl
@[simp] theorem State.updPort_fuses (n : Nat) (f : Port → Port) : (s.updPort n f).fuses = s.fuses := rfl
@[simp] theorem State.updPort_cal (n : Nat) (f : Port → Port) : (s.updPort n f).cal = s.cal := rfl
@[simp] theorem State.updPort_start (n : Nat) (f : Port → Port) : (s.updPort n f).start = s.start := rfl
@[simp] theorem State.updPort_moor (n : Nat) (f : Port → Port) : (s.updPort n f).moor = s.moor := rfl
@[simp] theorem State.updPort_evt (n : Nat) (f : Port → Port) : (s.updPort n f).evt = s.evt := rfl
@[simp] theorem State.updPort_jrn (n : Nat) (f : Port → Port) : (s.updPort n f).jrn = s.jrn := rfl
@[simp] theorem State.updPort_clk (n : Nat) (f : Port → Port) : (s.updPort n f).clk = s.clk := rfl
@[simp] theorem State.updPort_stg (n : Nat) (f : Port → Port) : (s.updPort n f).stg = s.stg := rfl
@[simp] theorem State.updPort_tide (n : Nat) (f : Port → Port) : (s.updPort n f).tide = s.tide := rfl
@[simp] theorem State.updPort_fio (n : Nat) (f : Port → Port) : (s.updPort n f).fio = s.fio := rfl
@[simp] theorem State.updPort_mtr (n : Nat) (f : Port → Port) : (s.updPort n f).mtr = s.mtr := rfl
@[simp] theorem State.updPort_hst (n : Nat) (f : Port → Port) : (s.updPort n f).hst = s.hst := rfl
@[simp] theorem State.updPort_ntime (n : Nat) (f : Port → Port) : (s.updPort n f).ntime = s.ntime := rfl
@[simp] theorem State.updPort_pair (n : Nat) (f : Port → Port) : (s.updPort n f).pair = s.pair := rfl
@[simp] theorem State.updPort_keys (n : Nat) (f : Port → Port) : (s.updPort n f).keys = s.keys := rfl
@[simp] theorem State.updPort_scan (n : Nat) (f : Port → Port) : (s.updPort n f).scan = s.scan := rfl
@[simp] theorem State.updPort_loop (n : Nat) (f : Port → Port) : (s.updPort n f).loop = s.loop := rfl
@[simp] theorem State.updPort_place (n : Nat) (f : Port → Port) : (s.updPort n f).place = s.place := rfl
@[simp] theorem State.updPort_stn (n : Nat) (f : Port → Port) : (s.updPort n f).stn = s.stn := rfl
@[simp] theorem State.updPort_sol (n : Nat) (f : Port → Port) : (s.updPort n f).sol = s.sol := rfl
@[simp] theorem State.updPort_draws (n : Nat) (f : Port → Port) : (s.updPort n f).draws = s.draws := rfl
@[simp] theorem State.updPort_man (n : Nat) (f : Port → Port) : (s.updPort n f).man = s.man := rfl
@[simp] theorem State.updPath_pending (p : Path) (f : PathSt → PathSt) : (s.updPath p f).pending = s.pending := by cases p <;> rfl
@[simp] theorem State.updPath_pins (p : Path) (f : PathSt → PathSt) : (s.updPath p f).pins = s.pins := by cases p <;> rfl
@[simp] theorem State.updPath_mram (p : Path) (f : PathSt → PathSt) : (s.updPath p f).mram = s.mram := by cases p <;> rfl
@[simp] theorem State.updPath_flash (p : Path) (f : PathSt → PathSt) : (s.updPath p f).flash = s.flash := by cases p <;> rfl
@[simp] theorem State.updPath_fuses (p : Path) (f : PathSt → PathSt) : (s.updPath p f).fuses = s.fuses := by cases p <;> rfl
@[simp] theorem State.updPath_cal (p : Path) (f : PathSt → PathSt) : (s.updPath p f).cal = s.cal := by cases p <;> rfl
@[simp] theorem State.updPath_start (p : Path) (f : PathSt → PathSt) : (s.updPath p f).start = s.start := by cases p <;> rfl
@[simp] theorem State.updPath_moor (p : Path) (f : PathSt → PathSt) : (s.updPath p f).moor = s.moor := by cases p <;> rfl
@[simp] theorem State.updPath_evt (p : Path) (f : PathSt → PathSt) : (s.updPath p f).evt = s.evt := by cases p <;> rfl
@[simp] theorem State.updPath_jrn (p : Path) (f : PathSt → PathSt) : (s.updPath p f).jrn = s.jrn := by cases p <;> rfl
@[simp] theorem State.updPath_clk (p : Path) (f : PathSt → PathSt) : (s.updPath p f).clk = s.clk := by cases p <;> rfl
@[simp] theorem State.updPath_stg (p : Path) (f : PathSt → PathSt) : (s.updPath p f).stg = s.stg := by cases p <;> rfl
@[simp] theorem State.updPath_tide (p : Path) (f : PathSt → PathSt) : (s.updPath p f).tide = s.tide := by cases p <;> rfl
@[simp] theorem State.updPath_fio (p : Path) (f : PathSt → PathSt) : (s.updPath p f).fio = s.fio := by cases p <;> rfl
@[simp] theorem State.updPath_mtr (p : Path) (f : PathSt → PathSt) : (s.updPath p f).mtr = s.mtr := by cases p <;> rfl
@[simp] theorem State.updPath_ports (p : Path) (f : PathSt → PathSt) : (s.updPath p f).ports = s.ports := by cases p <;> rfl
@[simp] theorem State.updPath_ntime (p : Path) (f : PathSt → PathSt) : (s.updPath p f).ntime = s.ntime := by cases p <;> rfl
@[simp] theorem State.updPath_pair (p : Path) (f : PathSt → PathSt) : (s.updPath p f).pair = s.pair := by cases p <;> rfl
@[simp] theorem State.updPath_keys (p : Path) (f : PathSt → PathSt) : (s.updPath p f).keys = s.keys := by cases p <;> rfl
@[simp] theorem State.updPath_scan (p : Path) (f : PathSt → PathSt) : (s.updPath p f).scan = s.scan := by cases p <;> rfl
@[simp] theorem State.updPath_loop (p : Path) (f : PathSt → PathSt) : (s.updPath p f).loop = s.loop := by cases p <;> rfl
@[simp] theorem State.updPath_place (p : Path) (f : PathSt → PathSt) : (s.updPath p f).place = s.place := by cases p <;> rfl
@[simp] theorem State.updPath_stn (p : Path) (f : PathSt → PathSt) : (s.updPath p f).stn = s.stn := by cases p <;> rfl
@[simp] theorem State.updPath_sol (p : Path) (f : PathSt → PathSt) : (s.updPath p f).sol = s.sol := by cases p <;> rfl
@[simp] theorem State.updPath_draws (p : Path) (f : PathSt → PathSt) : (s.updPath p f).draws = s.draws := by cases p <;> rfl
@[simp] theorem State.updPath_man (p : Path) (f : PathSt → PathSt) : (s.updPath p f).man = s.man := by cases p <;> rfl

end Sys2Proof.Machine
end

