-- ==== Sys2Proof/Laws/Fixed.lean ====
section
/-! SUPPORT. What all but a few operations leave as it is: the waiting commands, the configuration flash and the fuses. One
lemma for each operation. -/

namespace Sys2Proof.Machine

open Sys2Proof

/-- What all but a few operations leave: the waiting commands, the configuration flash and the fuses. -/
def State.fixed (s : State) : List Instr × Store Byte × Nat := (s.pending, s.flash, s.fuses)

theorem foldl_fixed {α : Type} (f : State → α → State) (h : ∀ s a, (f s a).fixed = s.fixed) (l : List α) (s : State) :
    (l.foldl f s).fixed = s.fixed := by
  induction l generalizing s with
  | nil => rfl
  | cons a l ih => simp [ih, h]

@[simp] theorem ite_fixed (c : Prop) [Decidable c] (a b : State) :
    (if c then a else b).fixed = if c then a.fixed else b.fixed := by split <;> rfl

@[simp] theorem State.updPins_fixed (s : State) (f : Pins → Pins) : (s.updPins f).fixed = s.fixed := rfl
@[simp] theorem State.updMram_fixed (s : State) (f : Mram → Mram) : (s.updMram f).fixed = s.fixed := rfl
@[simp] theorem State.updCal_fixed (s : State) (f : Cal → Cal) : (s.updCal f).fixed = s.fixed := rfl
@[simp] theorem State.updStart_fixed (s : State) (f : Start → Start) : (s.updStart f).fixed = s.fixed := rfl
@[simp] theorem State.updMoor_fixed (s : State) (f : Moor → Moor) : (s.updMoor f).fixed = s.fixed := rfl
@[simp] theorem State.updEvt_fixed (s : State) (f : Evt → Evt) : (s.updEvt f).fixed = s.fixed := rfl
@[simp] theorem State.updJrn_fixed (s : State) (f : Jrn → Jrn) : (s.updJrn f).fixed = s.fixed := rfl
@[simp] theorem State.updClk_fixed (s : State) (f : Clk → Clk) : (s.updClk f).fixed = s.fixed := rfl
@[simp] theorem State.updStg_fixed (s : State) (f : CalStg → CalStg) : (s.updStg f).fixed = s.fixed := rfl
@[simp] theorem State.updTide_fixed (s : State) (f : Tide → Tide) : (s.updTide f).fixed = s.fixed := rfl
@[simp] theorem State.updFio_fixed (s : State) (f : Fio → Fio) : (s.updFio f).fixed = s.fixed := rfl
@[simp] theorem State.updMtr_fixed (s : State) (f : Mtr → Mtr) : (s.updMtr f).fixed = s.fixed := rfl
@[simp] theorem State.updHst_fixed (s : State) (f : Hst → Hst) : (s.updHst f).fixed = s.fixed := rfl
@[simp] theorem State.updNtime_fixed (s : State) (f : Ntime → Ntime) : (s.updNtime f).fixed = s.fixed := rfl
@[simp] theorem State.updPair_fixed (s : State) (f : Pair → Pair) : (s.updPair f).fixed = s.fixed := rfl
@[simp] theorem State.updLoop_fixed (s : State) (f : LoopEng → LoopEng) : (s.updLoop f).fixed = s.fixed := rfl
@[simp] theorem State.updPlace_fixed (s : State) (f : Place → Place) : (s.updPlace f).fixed = s.fixed := rfl
@[simp] theorem State.updSol_fixed (s : State) (f : Sol → Sol) : (s.updSol f).fixed = s.fixed := rfl
@[simp] theorem State.updStn_fixed (s : State) (f : StnEng → StnEng) : (s.updStn f).fixed = s.fixed := rfl
@[simp] theorem State.updKeys_fixed (s : State) (f : Keys → Keys) : (s.updKeys f).fixed = s.fixed := rfl
@[simp] theorem State.updScan_fixed (s : State) (f : Scan → Scan) : (s.updScan f).fixed = s.fixed := rfl
@[simp] theorem State.updDev_fixed (s : State) (f : DevRec → DevRec) : (s.updDev f).fixed = s.fixed := rfl
@[simp] theorem State.updTask_fixed (s : State) (n : Nat) (f : Task → Task) : (s.updTask n f).fixed = s.fixed := rfl
@[simp] theorem State.updRun_fixed (s : State) (n : Nat) (f : Run → Run) : (s.updRun n f).fixed = s.fixed := rfl
@[simp] theorem State.updProb_fixed (s : State) (n : Nat) (f : Problem → Problem) : (s.updProb n f).fixed = s.fixed
    := rfl
@[simp] theorem State.updPort_fixed (s : State) (n : Nat) (f : Port → Port) : (s.updPort n f).fixed = s.fixed := rfl
@[simp] theorem State.updPath_fixed (s : State) (p : Path) (f : PathSt → PathSt) : (s.updPath p f).fixed = s.fixed :=
    by cases p <;> rfl

theorem State.updCapture_fixed (s : State) (n : Nat) (f : Capture → Capture) : (s.updCapture n f).fixed = s.fixed :=
    rfl

theorem State.updLoopSt_fixed (s : State) (n : Nat) (f : LoopSt → LoopSt) : (s.updLoopSt n f).fixed = s.fixed := rfl

theorem State.updMeter_fixed (s : State) (n : Nat) (f : Meter → Meter) : (s.updMeter n f).fixed = s.fixed := rfl

theorem State.updRounds_fixed (s : State) (n : Nat) (f : Rounds → Rounds) : (s.updRounds n f).fixed = s.fixed := rfl

theorem State.updStation_fixed (s : State) (n : Nat) (f : Stn → Stn) : (s.updStation n f).fixed = s.fixed := rfl

theorem State.withFetchWord_fixed (s : State) (a1 : Nat) (a2 : Nat) : (State.withFetchWord s a1 a2).fixed = s.fixed
    := by
  unfold State.withFetchWord
  rfl

theorem abandonScan_fixed (a0 : Nat) (s : State) : (abandonScan a0 s).fixed = s.fixed := by
  unfold abandonScan
  simp [foldl_fixed]

theorem raise_fixed (a0 : Nat) (s : State) (a2 : optParam Nat 0) : (raise a0 s a2).fixed = s.fixed := by
  unfold raise
  simp [foldl_fixed]

theorem queueCause_fixed (a0 : ErrCause) (s : State) : (queueCause a0 s).fixed = s.fixed := by
  unfold queueCause
  simp [raise_fixed, foldl_fixed]

theorem abandonMismatch_fixed (a0 : Nat) (s : State) : (abandonMismatch a0 s).fixed = s.fixed := by
  unfold abandonMismatch
  simp [abandonScan_fixed, queueCause_fixed, raise_fixed, foldl_fixed]

theorem abandonSave_fixed (s : State) : (abandonSave s).fixed = s.fixed := by
  unfold abandonSave
  generalize List.replicate 1120 (0 : Byte) = z
  split
  · rfl
  · simp only [raise_fixed, State.updMtr_fixed, State.updMram_fixed]

theorem abandonScans_fixed (s : State) : (abandonScans s).fixed = s.fixed := by
  unfold abandonScans
  simp [foldl_fixed]

theorem acceptMooring_fixed (a0 : Mooring) (a1 : Bool) (a2 : BitVec 2) (s : State) : (acceptMooring a0 a1 a2 s).fixed
    = s.fixed := by
  unfold acceptMooring
  simp [foldl_fixed]

theorem flashEnds_fixed (a0 : Byte) (s : State) : (flashEnds a0 s).fixed = s.fixed := by
  unfold flashEnds
  simp [raise_fixed, foldl_fixed]

theorem refuseManifest_fixed (a0 : Nat) (a1 : Nat) (s : State) : (refuseManifest a0 a1 s).fixed = s.fixed := by
  unfold refuseManifest
  simp [raise_fixed, foldl_fixed]

theorem showVerify_fixed (a0 : Nat) (a1 : Bool) (a2 : Option (Bool × Bool)) (a3 : Bool) (s : State) : (showVerify a0
    a1 a2 a3 s).fixed = s.fixed := by
  unfold showVerify
  (repeat' split) <;>
    first
    | with_reducible rfl
    | (simp [foldl_fixed]; done)
    | (simp_all [foldl_fixed]; done)

theorem drawFree_fixed (s : State) : (drawFree s).2.fixed = s.fixed := rfl

theorem programmed_fixed (o n : Bytes) (s : State) : (programmed o n s).2.fixed = s.fixed := by
  induction o generalizing n s with
  | nil => rfl
  | cons a o ih =>
    cases n with
    | nil => rfl
    | cons b n =>
      simp only [programmed]
      split <;> exact ih _ _

theorem drawBytes_fixed (n : Nat) (s : State) : (drawBytes n s).2.fixed = s.fixed := rfl

theorem writeWords_fixed (a0 : Nat) (a1 : List Word) (s : State) : (writeWords a0 a1 s).fixed = s.fixed := by
  unfold writeWords
  simp [foldl_fixed]

theorem writeInput_fixed (a0 : Ty) (a1 : Nat) (a2 : DWord) (s : State) : (writeInput a0 a1 a2 s).fixed = s.fixed := by
  unfold writeInput
  simp [writeWords_fixed, foldl_fixed]

theorem noteInput_fixed (a0 : Ty) (a1 : Nat) (a2 : DWord) (s : State) : (noteInput a0 a1 a2 s).fixed = s.fixed := by
  unfold noteInput
  simp [writeInput_fixed, foldl_fixed]

theorem reportField_fixed (s : State) : (reportField s).fixed = s.fixed := by
  unfold reportField
  split
  · rfl
  · rename_i f _
    extract_lets s1
    have h : s1.fixed = s.fixed := by
      refine foldl_fixed _ (fun s a => ?_) _ _
      obtain ⟨c, n⟩ := a
      simp only []
      split <;> simp [noteInput_fixed]
    clear_value s1
    split <;> simp [noteInput_fixed, h]

theorem applyOutputs_fixed (s : State) : (applyOutputs s).fixed = s.fixed := by
  unfold applyOutputs
  simp [reportField_fixed, foldl_fixed]

theorem filterChange_fixed (a0 : Nat) (a1 : Bool) (s : State) : (filterChange a0 a1 s).fixed = s.fixed := by
  unfold filterChange
  try simp only []
  (repeat' split) <;>
    first
    | with_reducible rfl
    | (simp [writeInput_fixed, reportField_fixed, foldl_fixed]; done)
    | (simp_all [writeInput_fixed, reportField_fixed, foldl_fixed]; done)

theorem bindInputs_fixed (s : State) : (bindInputs s).fixed = s.fixed := by
  unfold bindInputs
  refine (foldl_fixed _ (fun s a => ?_) _ _).trans ?_ <;> (try simp only []) <;> (repeat' split) <;>
    first
    | with_reducible rfl
    | (simp [reportField_fixed, filterChange_fixed, noteInput_fixed, foldl_fixed]; done)
    | (simp_all [reportField_fixed, filterChange_fixed, noteInput_fixed, foldl_fixed]; done)

theorem settleAdoption_fixed (s : State) : (settleAdoption s).fixed = s.fixed := by
  unfold settleAdoption
  simp [applyOutputs_fixed, bindInputs_fixed, foldl_fixed]

theorem adoptPlace_fixed (a0 : FullPlace) (s : State) : (adoptPlace a0 s).fixed = s.fixed := by
  unfold adoptPlace
  (repeat' split) <;>
    first
    | with_reducible rfl
    | (simp [foldl_fixed]; done)
    | (simp_all [foldl_fixed]; done)

theorem adoptKeys_fixed (a0 : Verified) (s : State) : (adoptKeys a0 s).fixed = s.fixed := by
  unfold adoptKeys
  (repeat' split) <;>
    first
    | with_reducible rfl
    | (simp [raise_fixed, foldl_fixed]; done)
    | (simp_all [raise_fixed, foldl_fixed]; done)

theorem adoptData_fixed (a0 : Manifest) (a1 : Bool) (s : State) : (adoptData a0 a1 s).fixed = s.fixed := by
  unfold adoptData
  simp [foldl_fixed]

theorem rawMeters_fixed (s : State) : (rawMeters s).fixed = s.fixed := by
  unfold rawMeters
  refine (foldl_fixed _ (fun s a => ?_) _ _).trans ?_ <;> (try simp only []) <;> (repeat' split) <;>
    first
    | with_reducible rfl
    | (simp [State.updMeter_fixed, foldl_fixed]; done)
    | (simp_all [State.updMeter_fixed, foldl_fixed]; done)

theorem restoreMeters_fixed (s : State) : (restoreMeters s).fixed = s.fixed := by
  unfold restoreMeters
  (repeat' split) <;>
    first
    | with_reducible rfl
    | (simp [foldl_fixed]; done)
    | (simp_all [foldl_fixed]; done)

theorem adoptLoops_fixed (a0 : Manifest) (s : State) : (adoptLoops a0 s).fixed = s.fixed := by
  unfold adoptLoops
  simp [foldl_fixed]

theorem closePort_fixed (a0 : Nat) (s : State) : (closePort a0 s).fixed = s.fixed := by
  unfold closePort
  simp [raise_fixed, foldl_fixed]

theorem adoptPorts_fixed (m : Manifest) (s : State) : (adoptPorts m s).fixed = s.fixed := by
  unfold adoptPorts
  refine foldl_fixed _ (fun s p => ?_) _ _
  simp only []
  split <;> simp only [closePort_fixed, State.updPort_fixed]

theorem sendLink_fixed (a0 : LinkMsg) (s : State) : (sendLink a0 s).fixed = s.fixed := by
  unfold sendLink
  simp [foldl_fixed]

theorem sendSolver_fixed (a0 : SolverMsg) (s : State) : (sendSolver a0 s).fixed = s.fixed := by
  unfold sendSolver
  simp [sendLink_fixed, foldl_fixed]

theorem stopProblem_fixed (a0 : Nat) (a1 : Stop) (s : State) : (stopProblem a0 a1 s).fixed = s.fixed := by
  unfold stopProblem
  simp [sendSolver_fixed, foldl_fixed]

theorem rescaleLive_fixed (a0 : Nat) (a1 : Template) (s : State) : (rescaleLive a0 a1 s).fixed = s.fixed := by
  unfold rescaleLive
  simp [foldl_fixed]

theorem finishBuild_fixed (a0 : Nat) (a1 : ProblemCfg) (a2 : Template) (a3 : Bool) (s : State) : (finishBuild a0 a1
    a2 a3 s).fixed = s.fixed := by
  unfold finishBuild
  try simp only []
  (repeat' split) <;>
    first
    | with_reducible rfl
    | (simp [raise_fixed, stopProblem_fixed, rescaleLive_fixed, foldl_fixed]; done)
    | (simp_all [raise_fixed, stopProblem_fixed, rescaleLive_fixed, foldl_fixed]; done)

theorem adoptProblem_fixed (a0 : Option Checkpoint) (s : State) (a2 : ProblemCfg) (a3 : Template) : (adoptProblem a0
    s a2 a3).fixed = s.fixed := by
  unfold adoptProblem
  simp [raise_fixed, finishBuild_fixed, foldl_fixed]

theorem adoptSolver_fixed (a0 : Manifest) (a1 : Option Checkpoint) (s : State) : (adoptSolver a0 a1 s).fixed =
    s.fixed := by
  unfold adoptSolver
  refine (foldl_fixed _ (fun s a => ?_) _ _).trans ?_ <;> (try simp only []) <;> (repeat' split) <;>
    first
    | with_reducible rfl
    | (simp [adoptProblem_fixed, foldl_fixed]; done)
    | (simp_all [adoptProblem_fixed, foldl_fixed]; done)

theorem startAcquisition_fixed (s : State) : (startAcquisition s).fixed = s.fixed := by
  unfold startAcquisition
  simp [foldl_fixed]

theorem adopt_fixed (v : Verified) (s : State) : (adopt v s).fixed = s.fixed := by
  unfold adopt
  extract_lets d cold same keep ck s1 s2 s3 s4 s5 s6 s7 s8 s9 s10 s11 s12
  have h : s10.fixed = s.fixed := by
    simp only [s10, s9, s8, s7, s6, s5, s4, s3, s2, s1, adoptPorts_fixed, adoptLoops_fixed, rawMeters_fixed,
        restoreMeters_fixed,
      State.updEvt_fixed, State.updStart_fixed, State.updDev_fixed, adoptData_fixed, adoptKeys_fixed,
          adoptPlace_fixed]
    rfl
  have h' : s11.fixed = s10.fixed := by
    simp only [s11]
    (repeat' split) <;> first | with_reducible rfl | simp only [State.updCal_fixed]
  simp only [startAcquisition_fixed, raise_fixed, s12, adoptSolver_fixed, h', h]

theorem acceptReply_fixed (a0 : StationCfg) (a1 : Bool) (a2 : Bool) (a3 : List Nat) (a4 : List Word) (s : State) :
    (acceptReply a0 a1 a2 a3 a4 s).fixed = s.fixed := by
  unfold acceptReply
  simp [raise_fixed, State.updStation_fixed, foldl_fixed]

theorem convertLaunches_fixed (a0 : Nat) (s : State) : (convertLaunches a0 s).fixed = s.fixed := by
  unfold convertLaunches
  (repeat' split) <;>
    first
    | with_reducible rfl
    | (simp [foldl_fixed]; done)
    | (simp_all [foldl_fixed]; done)

theorem refreshPeriod_fixed (s : State) : (refreshPeriod s).fixed = s.fixed := by
  unfold refreshPeriod
  simp [foldl_fixed]

theorem stampCycle_fixed (s : State) : (stampCycle s).fixed = s.fixed := by
  unfold stampCycle
  try simp only []
  (repeat' split) <;>
    first
    | with_reducible rfl
    | (simp [convertLaunches_fixed, refreshPeriod_fixed, foldl_fixed]; done)
    | (simp_all [convertLaunches_fixed, refreshPeriod_fixed, foldl_fixed]; done)

theorem beginTide_fixed (a0 : TideMode) (a1 : Nat) (s : State) : (beginTide a0 a1 s).fixed = s.fixed := by
  unfold beginTide
  simp [stampCycle_fixed, foldl_fixed]

theorem learnPartner_fixed (s : State) : (learnPartner s).fixed = s.fixed := by
  unfold learnPartner
  rfl

theorem fenceTest_fixed (a0 : Bool) (s : State) : (fenceTest a0 s).fixed = s.fixed := by
  unfold fenceTest
  simp [foldl_fixed]

theorem joinStandby_fixed (s : State) : (joinStandby s).fixed = s.fixed := by
  unfold joinStandby
  simp [learnPartner_fixed, applyOutputs_fixed, fenceTest_fixed, foldl_fixed]

theorem takeActive_fixed (s : State) : (takeActive s).fixed = s.fixed := by
  unfold takeActive
  simp [applyOutputs_fixed, foldl_fixed]

theorem decideRole_fixed (s : State) : (decideRole s).fixed = s.fixed := by
  unfold decideRole
  simp [joinStandby_fixed, applyOutputs_fixed, takeActive_fixed, foldl_fixed]

theorem enterTasks_fixed (s : State) : (enterTasks s).fixed = s.fixed := by
  unfold enterTasks
  simp [decideRole_fixed, foldl_fixed]

theorem tideBegun_fixed (s : State) : (tideBegun s).fixed = s.fixed := by
  unfold tideBegun
  simp [enterTasks_fixed, foldl_fixed]

theorem acquisitionTimeout_fixed (s : State) : (acquisitionTimeout s).fixed = s.fixed := by
  unfold acquisitionTimeout
  simp [beginTide_fixed, tideBegun_fixed, raise_fixed, foldl_fixed]

theorem forwardEvents_fixed (s : State) : (forwardEvents s).fixed = s.fixed := by
  unfold forwardEvents
  simp [sendLink_fixed, foldl_fixed]

theorem addRec_fixed (a0 : NewRec) (s : State) : (addRec a0 s).fixed = s.fixed := by
  unfold addRec
  simp [foldl_fixed]

theorem triggerTask_fixed (a0 : Nat) (s : State) : (triggerTask a0 s).fixed = s.fixed := by
  unfold triggerTask
  simp [foldl_fixed]

theorem performRaise_fixed (s : State) (a1 : Nat × Nat) : (performRaise s a1).fixed = s.fixed := by
  unfold performRaise
  try simp only []
  (repeat' split) <;>
    first
    | with_reducible rfl
    | (simp [addRec_fixed, triggerTask_fixed, foldl_fixed]; done)
    | (simp_all [addRec_fixed, triggerTask_fixed, foldl_fixed]; done)

theorem performPeer_fixed (s : State) (a1 : Nat × Nat) : (performPeer s a1).fixed = s.fixed := by
  unfold performPeer
  simp [addRec_fixed, foldl_fixed]

theorem dropRecs_fixed (a0 : Nat) (s : State) : (dropRecs a0 s).fixed = s.fixed := by
  unfold dropRecs
  simp [foldl_fixed]

theorem createRec_fixed (s : State) (r : NewRec) : (createRec s r).1.fixed = s.fixed := by
  unfold createRec
  split
  · rfl
  · simp only []
    split <;> rfl

theorem createAll_fixed (l : List NewRec) (s : State) : (createAll l s).1.fixed = s.fixed := by
  induction l generalizing s with
  | nil => rfl
  | cons r l ih => exact (ih _).trans (createRec_fixed s r)

theorem startFlush_fixed (s : State) : (startFlush s).fixed = s.fixed := by
  unfold startFlush
  simp [foldl_fixed]

theorem settleEvents_fixed (s : State) : (settleEvents s).fixed = s.fixed := by
  unfold settleEvents
  split
  · rfl
  · extract_lets own peer s1 s2 s3 recs s4 before
    have h1 : s1.fixed = s.fixed := rfl
    have h2 : s2.fixed = s1.fixed := foldl_fixed _ performRaise_fixed _ _
    have h3 : s3.fixed = s2.fixed := foldl_fixed _ performPeer_fixed _ _
    have h4 : s4.fixed = s3.fixed := rfl
    have h : s4.fixed = s.fixed := by rw [h4, h3, h2, h1]
    clear_value s4 recs before
    split
    rename_i s5 d h5
    have h6 : s5.fixed = s.fixed := by
      have := createAll_fixed recs s4
      rw [h5] at this
      exact this.trans h
    simp only [apply_ite State.fixed, startFlush_fixed, performRaise_fixed, ite_self, h6]

theorem forceRec_fixed (a0 : Nat) (a1 : Nat) (a2 : BitVec 20) (a3 : Word) (s : State) : (forceRec a0 a1 a2 a3
    s).fixed = s.fixed := by
  unfold forceRec
  simp [raise_fixed, addRec_fixed, foldl_fixed]

theorem releaseForce_fixed (a0 : Nat) (s : State) : (releaseForce a0 s).fixed = s.fixed := by
  unfold releaseForce
  (repeat' split) <;>
    first
    | with_reducible rfl
    | (simp [forceRec_fixed, foldl_fixed]; done)
    | (simp_all [forceRec_fixed, foldl_fixed]; done)

theorem applyForce_fixed (c : ForceChange) (s : State) : (applyForce c s).fixed = s.fixed := by
  unfold applyForce
  split
  · exact releaseForce_fixed _ _
  · exact foldl_fixed _ (fun s a => releaseForce_fixed _ _) _ _
  · extract_lets n s1 s2 s3
    have h1 : s1.fixed = s.fixed := by
      simp only [s1]
      (repeat' split) <;> simp [releaseForce_fixed]
    have h3 : s3.fixed = s2.fixed := by
      simp only [s3]
      (repeat' split) <;> simp [writeWords_fixed]
    rw [forceRec_fixed, h3, ← h1]
    rfl

theorem applyTest_fixed (a0 : TestChange) (s : State) : (applyTest a0 s).fixed = s.fixed := by
  unfold applyTest
  (repeat' split) <;>
    first
    | with_reducible rfl
    | (simp [raise_fixed, foldl_fixed]; done)
    | (simp_all [raise_fixed, foldl_fixed]; done)

theorem stateImage_fixed (a0 : ImageMsg) (s : State) : (stateImage a0 s).fixed = s.fixed := by
  unfold stateImage
  simp [applyForce_fixed, applyTest_fixed, foldl_fixed]

theorem tellDecision_fixed (a0 : Nat) (a1 : Run) (a2 : Bool) (s : State) : (tellDecision a0 a1 a2 s).fixed = s.fixed
    := by
  unfold tellDecision
  simp [sendLink_fixed, foldl_fixed]

theorem countPairScan_fixed (a0 : Nat) (a1 : Run) (s : State) : (countPairScan a0 a1 s).fixed = s.fixed := by
  unfold countPairScan
  simp [foldl_fixed]

theorem countEnded_fixed (a0 : Nat) (s : State) : (countEnded a0 s).fixed = s.fixed := by
  unfold countEnded
  (repeat' split) <;>
    first
    | with_reducible rfl
    | (simp [countPairScan_fixed, foldl_fixed]; done)
    | (simp_all [countPairScan_fixed, foldl_fixed]; done)

theorem realFault_fixed (a0 : ErrCause) (s : State) : (realFault a0 s).fixed = s.fixed := by
  unfold realFault
  simp [abandonScan_fixed, countEnded_fixed, addRec_fixed, raise_fixed, queueCause_fixed, foldl_fixed]

theorem confirmScan_fixed (a0 : Nat) (a1 : Run) (s : State) : (confirmScan a0 a1 s).fixed = s.fixed := by
  unfold confirmScan
  (repeat' split) <;>
    first
    | with_reducible rfl
    | (simp [tellDecision_fixed, realFault_fixed, foldl_fixed]; done)
    | (simp_all [tellDecision_fixed, realFault_fixed, foldl_fixed]; done)

theorem replayScan_fixed (a0 : Nat) (a1 : TaskCfg) (a2 : Run) (s : State) : (replayScan a0 a1 a2 s).fixed = s.fixed
    := by
  unfold replayScan
  simp [raise_fixed, tellDecision_fixed, foldl_fixed]

theorem putRun_fixed (a0 : Nat) (a1 : Run) (s : State) : (putRun a0 a1 s).fixed = s.fixed := by
  unfold putRun
  simp [foldl_fixed]

theorem resolveScan_fixed (a0 : Nat) (a1 : Option Bool) (s : State) : (resolveScan a0 a1 s).fixed = s.fixed := by
  unfold resolveScan
  (repeat' split) <;>
    first
    | with_reducible rfl
    | (simp [confirmScan_fixed, replayScan_fixed, putRun_fixed, foldl_fixed]; done)
    | (simp_all [confirmScan_fixed, replayScan_fixed, putRun_fixed, foldl_fixed]; done)

theorem applyTold_fixed (a0 : Nat) (a1 : Word) (s : State) : (applyTold a0 a1 s).fixed = s.fixed := by
  unfold applyTold
  (repeat' split) <;>
    first
    | with_reducible rfl
    | (simp [resolveScan_fixed, foldl_fixed]; done)
    | (simp_all [resolveScan_fixed, foldl_fixed]; done)

theorem startImage_fixed (c : TaskCfg) (m : ImageMsg) (s : State) : (startImage c m s).fixed = s.fixed := by
  unfold startImage
  extract_lets state s1 boundary s2 cause s3 s4
  have h : s4.fixed = s.fixed := by
    simp only [s4, s3, s2, s1, apply_ite State.fixed, State.updScan_fixed, State.updTask_fixed, stateImage_fixed,
        ite_self]
  clear_value s4
  exact (applyTold_fixed _ _ _).trans
    ((putRun_fixed _ _ _).trans ((State.updScan_fixed _ _).trans ((State.updTask_fixed _ _ _).trans h)))

theorem tryImage_fixed (s : State) (a1 : ImageMsg) : (tryImage s a1).fixed = s.fixed := by
  unfold tryImage
  (repeat' split) <;>
    first
    | with_reducible rfl
    | (simp [startImage_fixed, foldl_fixed]; done)
    | (simp_all [startImage_fixed, foldl_fixed]; done)

theorem tryImages_fixed (s : State) : (tryImages s).fixed = s.fixed := by
  unfold tryImages
  simp [tryImage_fixed, foldl_fixed]

theorem settle_fixed (s : State) : (settle s).fixed = s.fixed := by
  unfold settle
  simp [forwardEvents_fixed, settleEvents_fixed, tryImages_fixed, foldl_fixed]

theorem clearSent_fixed (s : State) : (clearSent s).fixed = s.fixed := by
  unfold clearSent
  simp [foldl_fixed]

theorem putMove_fixed (a0 : Nat) (a1 : Nat) (a2 : Int) (s : State) : (putMove a0 a1 a2 s).fixed = s.fixed := by
  unfold putMove
  simp [foldl_fixed]

theorem adjustTerms_fixed (d : Bool) (e : Int) (l : List CTerm) (s0 s : State) : (adjustTerms d e l s0 s).fixed =
    s.fixed := by
  unfold adjustTerms
  refine foldl_fixed _ (fun s a => ?_) _ _
  simp only [putMove_fixed]

theorem adoptTide_fixed (a0 : TideTime) (s : State) : (adoptTide a0 s).fixed = s.fixed := by
  unfold adoptTide
  simp [beginTide_fixed, foldl_fixed]

theorem advanceTest_fixed (a0 : Nat) (s : State) : (advanceTest a0 s).fixed = s.fixed := by
  unfold advanceTest
  (repeat' split) <;>
    first
    | with_reducible rfl
    | (simp [raise_fixed, foldl_fixed]; done)
    | (simp_all [raise_fixed, foldl_fixed]; done)

theorem enqueue_fixed (a0 : Nat) (a1 : Nat) (a2 : QFrame) (s : State) : (enqueue a0 a1 a2 s).fixed = s.fixed := by
  unfold enqueue
  simp [foldl_fixed]

theorem pollStation_fixed (k : TideTime) (c : StationCfg) (b : Store Nat) (s : State) (r : Store Nat × State)
    (h : pollStation k c b s = some r) : r.2.fixed = s.fixed := by
  unfold pollStation at h
  simp only [Option.ite_none_left_eq_some, Option.some.injEq] at h
  obtain ⟨_, rfl⟩ := h
  simp only [State.updStation_fixed, enqueue_fixed]

theorem pollFrom_fixed (k : TideTime) (l : List StationCfg) (f b : Nat) (c : Store Nat) (s : State) :
    (pollFrom k l f b c s).fixed = s.fixed := by
  induction f generalizing b c s with
  | zero => simp [pollFrom]
  | succ f ih =>
    cases b with
    | zero => simp [pollFrom]
    | succ b =>
      unfold pollFrom
      split
      · rfl
      · extract_lets wrap next
        have h : ∀ s, (next s).fixed = s.fixed := fun _ => rfl
        clear_value next
        split
        · rw [ih, h]
        · split
          · rename_i heq
            rw [ih, h, pollStation_fixed _ _ _ _ _ heq]
          · rfl

theorem pollRound_fixed (a0 : TideTime) (s : State) : (pollRound a0 s).fixed = s.fixed := by
  unfold pollRound
  simp [pollFrom_fixed, foldl_fixed]

theorem statusStation_fixed (s : State) (a1 : StationCfg) : (statusStation s a1).fixed = s.fixed := by
  unfold statusStation
  (repeat' split) <;>
    first
    | with_reducible rfl
    | (simp [State.updStation_fixed, writeInput_fixed, foldl_fixed]; done)
    | (simp_all [State.updStation_fixed, writeInput_fixed, foldl_fixed]; done)

theorem stationRound_fixed (a0 : TideTime) (s : State) : (stationRound a0 s).fixed = s.fixed := by
  unfold stationRound
  simp [pollRound_fixed, statusStation_fixed, foldl_fixed]

theorem standbyRound_fixed (a0 : TideTime) (a1 : Bool) (s : State) : (standbyRound a0 a1 s).fixed = s.fixed := by
  unfold standbyRound
  (repeat' split) <;>
    first
    | with_reducible rfl
    | (simp [stationRound_fixed, foldl_fixed]; done)
    | (simp_all [stationRound_fixed, foldl_fixed]; done)

theorem forwardOutcome_fixed (a0 : StationOutcome) (s : State) : (forwardOutcome a0 s).fixed = s.fixed := by
  unfold forwardOutcome
  simp [foldl_fixed]

theorem losePath_fixed (a0 : StationCfg) (a1 : Bool) (s : State) : (losePath a0 a1 s).fixed = s.fixed := by
  unfold losePath
  simp [raise_fixed, State.updStation_fixed, foldl_fixed]

theorem rejoinStation_fixed (a0 : StationCfg) (s : State) : (rejoinStation a0 s).fixed = s.fixed := by
  unfold rejoinStation
  simp [raise_fixed, State.updStation_fixed, foldl_fixed]

theorem missStation_fixed (a0 : StationCfg) (s : State) : (missStation a0 s).fixed = s.fixed := by
  unfold missStation
  simp [State.updStation_fixed, raise_fixed, foldl_fixed]

theorem stationSettled_fixed (a0 : Nat) (a1 : List Nat) (s : State) : (stationSettled a0 a1 s).fixed = s.fixed := by
  unfold stationSettled
  refine (foldl_fixed _ (fun s a => ?_) _ _).trans ?_ <;> (try simp only []) <;> (repeat' split) <;>
    first
    | with_reducible rfl
    | (simp [resolveScan_fixed, foldl_fixed]; done)
    | (simp_all [resolveScan_fixed, foldl_fixed]; done)

theorem dropStation_fixed (a0 : StationCfg) (s : State) : (dropStation a0 s).fixed = s.fixed := by
  unfold dropStation
  simp [State.updStation_fixed, queueCause_fixed, raise_fixed, foldl_fixed]

theorem deadlineStation_fixed (s : State) (a1 : StationCfg) : (deadlineStation s a1).fixed = s.fixed := by
  unfold deadlineStation
  simp [State.updStation_fixed, forwardOutcome_fixed, losePath_fixed, rejoinStation_fixed, missStation_fixed,
      stationSettled_fixed, dropStation_fixed, foldl_fixed]

theorem replyDeadlines_fixed (a0 : TideTime) (s : State) : (replyDeadlines a0 s).fixed = s.fixed := by
  unfold replyDeadlines
  simp [deadlineStation_fixed, foldl_fixed]

theorem afterFreezes_fixed (a0 : TideTime) (s : State) : (afterFreezes a0 s).fixed = s.fixed := by
  unfold afterFreezes
  simp [standbyRound_fixed, stationRound_fixed, replyDeadlines_fixed, foldl_fixed]

theorem withProblem_fixed (n : Nat) (s : State) (f : ProblemCfg → Template → State → State)
    (h : ∀ c t s, (f c t s).fixed = s.fixed) : (withProblem n s f).fixed = s.fixed := by
  unfold withProblem
  (repeat' split) <;> first | with_reducible rfl | simp [h]

theorem predictState_fixed (s : State) (n : Nat) : (predictState s n).fixed = s.fixed := by
  refine withProblem_fixed _ _ _ fun c t s => ?_
  simp only []
  split <;> rfl

theorem applyFrame_fixed (s : State) (a1 : FrameSrc × Bytes) : (applyFrame s a1).fixed = s.fixed := by
  unfold applyFrame
  (repeat' split) <;>
    first
    | with_reducible rfl
    | (simp [raise_fixed, foldl_fixed]; done)
    | (simp_all [raise_fixed, foldl_fixed]; done)

theorem noteChange_fixed (o s : State) (n : Nat) : (noteChange o s n).fixed = s.fixed := by
  unfold noteChange
  simp only []
  split <;> rfl

theorem applyWaiting_fixed (l : List (FrameSrc × Bytes)) (s : State) : (applyWaiting l s).fixed = s.fixed := by
  unfold applyWaiting
  exact (foldl_fixed _ (noteChange_fixed _) _ _).trans (foldl_fixed _ applyFrame_fixed _ _)

theorem takePrediction_fixed (s : State) (n : Nat) : (takePrediction s n).fixed = s.fixed := by
  refine withProblem_fixed _ _ _ fun c t s => ?_
  simp only []
  split <;> rfl

theorem stopAtMark_fixed (a0 : Nat) (a1 : ProblemCfg) (a2 : Template) (s : State) : (stopAtMark a0 a1 a2 s).fixed =
    s.fixed := by
  unfold stopAtMark
  try simp only []
  (repeat' split) <;>
    first
    | with_reducible rfl
    | (simp [stopProblem_fixed, finishBuild_fixed, raise_fixed, foldl_fixed]; done)
    | (simp_all [stopProblem_fixed, finishBuild_fixed, raise_fixed, foldl_fixed]; done)

theorem unitEnd_fixed (a0 : Nat) (a1 : ProblemCfg) (a2 : Template) (s : State) : (unitEnd a0 a1 a2 s).fixed = s.fixed
    := by
  unfold unitEnd
  try simp only []
  (repeat' split) <;>
    first
    | with_reducible rfl
    | (simp [stopAtMark_fixed, foldl_fixed]; done)
    | (simp_all [stopAtMark_fixed, foldl_fixed]; done)

theorem stopAtStart_fixed (s : State) (a1 : Nat) : (stopAtStart s a1).fixed = s.fixed := by
  unfold stopAtStart
  simp [withProblem_fixed, unitEnd_fixed, foldl_fixed]

theorem startWork_fixed (a0 : Nat) (a1 : Work) (a2 : List (Int × Int)) (a3 : ProblemCfg) (a4 : Template) (s : State)
    : (startWork a0 a1 a2 a3 a4 s).fixed = s.fixed := by
  unfold startWork
  simp [rescaleLive_fixed, foldl_fixed]

theorem startAhead_fixed (s : State) (a1 : Nat) : (startAhead s a1).fixed = s.fixed := by
  unfold startAhead
  simp [withProblem_fixed, startWork_fixed, foldl_fixed]

theorem resetRounds_fixed (s : State) : (resetRounds s).fixed = s.fixed := by
  unfold resetRounds
  simp [foldl_fixed]

theorem runAheadWork_fixed (s : State) : (runAheadWork s).fixed = s.fixed := by
  unfold runAheadWork
  simp only [foldl_fixed _ stopAtStart_fixed, foldl_fixed _ startAhead_fixed, resetRounds_fixed,
    foldl_fixed _ takePrediction_fixed, applyWaiting_fixed, State.updSol_fixed, foldl_fixed _ predictState_fixed]

theorem raiseAll_fixed (a0 : Nat) (a1 : List Nat) (s : State) : (raiseAll a0 a1 s).fixed = s.fixed := by
  unfold raiseAll
  simp [raise_fixed, foldl_fixed]

theorem computePlacement_fixed (s : State) : (computePlacement s).fixed = s.fixed := by
  unfold computePlacement
  (repeat' split) <;>
    first
    | with_reducible rfl
    | (simp [raiseAll_fixed, raise_fixed, foldl_fixed]; done)
    | (simp_all [raiseAll_fixed, raise_fixed, foldl_fixed]; done)

theorem aheadActions_fixed (s : State) : (aheadActions s).fixed = s.fixed := by
  unfold aheadActions
  simp [runAheadWork_fixed, computePlacement_fixed, foldl_fixed]

theorem stopRest_fixed (a0 : Work) (s : State) : (stopRest a0 s).fixed = s.fixed := by
  unfold stopRest
  simp [withProblem_fixed, stopAtMark_fixed, foldl_fixed]

theorem aheadOver_fixed (a0 : Run) (s : State) : (aheadOver a0 s).fixed = s.fixed := by
  unfold aheadOver
  simp [stopRest_fixed, foldl_fixed]

theorem anchor_fixed (a0 : Nat) (s : State) : (anchor a0 s).fixed = s.fixed := by
  unfold anchor
  simp [raise_fixed, addRec_fixed, foldl_fixed]

theorem setServo_fixed (a0 : Nat) (a1 : BitVec 2) (s : State) : (setServo a0 a1 s).fixed = s.fixed := by
  unfold setServo
  simp [raise_fixed, foldl_fixed]

theorem announceTimeout_fixed (s : State) : (announceTimeout s).fixed = s.fixed := by
  unfold announceTimeout
  (repeat' split) <;>
    first
    | with_reducible rfl
    | (simp [setServo_fixed, foldl_fixed]; done)
    | (simp_all [setServo_fixed, foldl_fixed]; done)

theorem applyDecision_fixed (a0 : Word) (s : State) (a2 : BitVec 5 × Bool) : (applyDecision a0 s a2).fixed = s.fixed
    := by
  unfold applyDecision
  simp [resolveScan_fixed, foldl_fixed]

theorem applyOutcome_fixed (s : State) (o : StationOutcome) : (applyOutcome s o).fixed = s.fixed := by
  unfold applyOutcome
  simp only [Option.elim]
  split <;> (try split) <;>
    simp [stationSettled_fixed, acceptReply_fixed, missStation_fixed, losePath_fixed, dropStation_fixed,
      rejoinStation_fixed, State.updStation_fixed]

theorem beginSave_fixed (a0 : Nat) (s : State) : (beginSave a0 s).fixed = s.fixed := by
  unfold beginSave
  (repeat' split) <;>
    first
    | with_reducible rfl
    | (simp [foldl_fixed]; done)
    | (simp_all [foldl_fixed]; done)

theorem enterSecond_fixed (s : State) : (enterSecond s).fixed = s.fixed := by
  unfold enterSecond
  try simp only []
  (repeat' split) <;>
    first
    | with_reducible rfl
    | (simp [beginSave_fixed, foldl_fixed]; done)
    | (simp_all [beginSave_fixed, foldl_fixed]; done)

theorem putCalendar_fixed (a0 : CalTime) (s : State) : (putCalendar a0 s).fixed = s.fixed := by
  unfold putCalendar
  simp [enterSecond_fixed, foldl_fixed]

theorem applySet_fixed (c : CalTime) (n : Nat) (s : State) : (applySet c n s).fixed = s.fixed :=
  (raise_fixed _ _ _).trans ((anchor_fixed _ _).trans ((State.updCal_fixed _ _).trans (putCalendar_fixed _ _)))

theorem elapse_fixed (a0 : Nat) (s : State) : (elapse a0 s).fixed = s.fixed := by
  unfold elapse
  simp [foldl_fixed]

theorem reach_fixed (a0 : BitVec 16) (s : State) : (reach a0 s).fixed = s.fixed := by
  unfold reach
  simp [elapse_fixed, foldl_fixed]

theorem atMark_fixed (m a : Nat) (s : State) (f : TideMark → State → State) (h : ∀ k s, (f k s).fixed = s.fixed) :
    (atMark m a s f).fixed = s.fixed := by
  unfold atMark fireMark
  simp only []
  split
  · rename_i k s' heq
    (repeat' split at heq) <;> cases heq
    rw [h]
    simp [reach_fixed]
  · rfl

theorem authFails_fixed (s : State) : (authFails s).fixed = s.fixed := by
  unfold authFails
  simp [raise_fixed, foldl_fixed]

theorem keepUtcOffset_fixed (s : State) : (keepUtcOffset s).fixed = s.fixed := by
  unfold keepUtcOffset
  (repeat' split) <;>
    first
    | with_reducible rfl
    | (simp [foldl_fixed]; done)
    | (simp_all [foldl_fixed]; done)

theorem rejectCal_fixed (s : State) : (rejectCal s).fixed = s.fixed := by
  unfold rejectCal
  simp [foldl_fixed]

theorem calendarPtpSet_fixed (s : State) : (calendarPtpSet s).fixed = s.fixed := by
  unfold calendarPtpSet
  (repeat' split) <;>
    first
    | with_reducible rfl
    | (simp [applySet_fixed, keepUtcOffset_fixed, rejectCal_fixed, foldl_fixed]; done)
    | (simp_all [applySet_fixed, keepUtcOffset_fixed, rejectCal_fixed, foldl_fixed]; done)

theorem automaticSet_fixed (s : State) : (automaticSet s).fixed = s.fixed := by
  unfold automaticSet
  (repeat' split) <;>
    first
    | with_reducible rfl
    | (simp [calendarPtpSet_fixed, keepUtcOffset_fixed, applySet_fixed, foldl_fixed]; done)
    | (simp_all [calendarPtpSet_fixed, keepUtcOffset_fixed, applySet_fixed, foldl_fixed]; done)

theorem badCopy_fixed (a0 : Bool) (s : State) : (badCopy a0 s).fixed = s.fixed := by
  unfold badCopy
  simp [raise_fixed, foldl_fixed]

theorem beginCheckpoint_fixed (s : State) : (beginCheckpoint s).fixed = s.fixed := by
  unfold beginCheckpoint
  simp [foldl_fixed]

theorem countPulse_fixed (a0 : MeterCfg) (a1 : Nat) (s : State) : (countPulse a0 a1 s).fixed = s.fixed := by
  unfold countPulse
  simp [State.updMeter_fixed, raise_fixed, foldl_fixed]

theorem qualifyEdge_fixed (m : Nat) (s : State) : (qualifyEdge m s).fixed = s.fixed := by
  unfold qualifyEdge
  split
  · rfl
  · simp only []
    (repeat' split) <;> simp [countPulse_fixed, State.updMeter_fixed]

theorem beginCount_fixed (a0 : Nat) (s : State) : (beginCount a0 s).fixed = s.fixed := by
  unfold beginCount
  (repeat' split) <;>
    first
    | with_reducible rfl
    | (simp [qualifyEdge_fixed, State.updMeter_fixed, raise_fixed, addRec_fixed, foldl_fixed]; done)
    | (simp_all [qualifyEdge_fixed, State.updMeter_fixed, raise_fixed, addRec_fixed, foldl_fixed]; done)

theorem updPorts_fixed (f : Port → Port) (s : State) : (updPorts f s).fixed = s.fixed := rfl

theorem haltSolver_fixed (s : State) : (haltSolver s).fixed = s.fixed := by
  unfold haltSolver
  simp [foldl_fixed]

theorem freeChoice_fixed (n : Nat) (s : State) : (freeChoice n s).2.fixed = s.fixed := rfl

theorem tearCheckpoint_fixed (s : State) : (tearCheckpoint s).fixed = s.fixed := by
  unfold tearCheckpoint
  (repeat' split) <;>
    first
    | with_reducible rfl
    | (simp [foldl_fixed]; done)
    | (simp_all [foldl_fixed]; done)

theorem beginRetained_fixed (s : State) : (beginRetained s).fixed = s.fixed := by
  unfold beginRetained
  simp [foldl_fixed]

theorem beginResync_fixed (s : State) : (beginResync s).fixed = s.fixed := by
  unfold beginResync
  simp [foldl_fixed]

theorem startNeed_fixed (a0 : Nat) (a1 : ProblemCfg) (a2 : Template) (s : State) : (startNeed a0 a1 a2 s).fixed =
    s.fixed := by
  unfold startNeed
  simp [foldl_fixed]

theorem beginRound_fixed (u : Nat) (s : State) : (beginRound u s).fixed = s.fixed := by
  unfold beginRound
  split
  · rfl
  · extract_lets ns s1 s2
    have h1 : s1.fixed = s.fixed := by
      refine foldl_fixed _ (fun s a => ?_) _ _
      split
      · exact withProblem_fixed _ _ _ fun c t s => startNeed_fixed _ _ _ _
      · rfl
    have h2 : s2.fixed = s1.fixed := by
      simp only [s2]
      (repeat' split) <;> rfl
    rw [State.updRounds_fixed, h2, h1]

theorem releaseTests_fixed (s : State) : (releaseTests s).fixed = s.fixed := by
  unfold releaseTests
  (repeat' split) <;>
    first
    | with_reducible rfl
    | (simp [applyTest_fixed, foldl_fixed]; done)
    | (simp_all [applyTest_fixed, foldl_fixed]; done)

theorem releasePending_fixed (s : State) : (releasePending s).fixed = s.fixed := by
  unfold releasePending
  simp [releaseTests_fixed, applyForce_fixed, foldl_fixed]

theorem freezeScan_fixed (c : TaskCfg) (t : TideTime) (e : Option ErrCause) (b : Bool) (o w : List Nat)
    (a : Option (BitVec 48)) (s : State) : (freezeScan c t e b o w a s).fixed = s.fixed := by
  unfold freezeScan
  simp only [putRun_fixed, State.updScan_fixed, State.updTask_fixed]

theorem forwardImage_fixed (n : Nat) (l : List ForceChange) (k : List TestChange) (s : State) :
    (forwardImage n l k s).fixed = s.fixed := by
  unfold forwardImage
  split
  · rfl
  · split
    · extract_lets m s1 s2
      have h : s2.fixed = s.fixed := by
        simp only [s2, s1, apply_ite State.fixed, State.updSol_fixed, State.updTask_fixed, ite_self]
      simp only [sendLink_fixed, State.updStn_fixed, h]
    · rfl

theorem switchEdge_fixed (s : State) : (switchEdge s).fixed = s.fixed := by
  unfold switchEdge
  simp [sendLink_fixed, updPorts_fixed, raise_fixed, foldl_fixed]

theorem beginScan_fixed (a0 : TaskCfg) (a1 : TideTime) (a2 : Option ErrCause) (s : State) : (beginScan a0 a1 a2
    s).fixed = s.fixed := by
  unfold beginScan
  simp [releasePending_fixed, applyOutputs_fixed, freezeScan_fixed, forwardImage_fixed, switchEdge_fixed, foldl_fixed]

theorem bootPointer_fixed (a0 : Option Nat) (s : State) : (bootPointer a0 s).fixed = s.fixed := by
  unfold bootPointer
  (repeat' split) <;>
    first
    | with_reducible rfl
    | (simp [raise_fixed, foldl_fixed]; done)
    | (simp_all [raise_fixed, foldl_fixed]; done)

theorem nextPhase_fixed (s : State) : (nextPhase s).fixed = s.fixed := by
  unfold nextPhase
  simp [foldl_fixed]

theorem startSolve_fixed (s : State) (a1 : Nat) : (startSolve s a1).fixed = s.fixed := by
  unfold startSolve
  simp [withProblem_fixed, rescaleLive_fixed, startWork_fixed, stopProblem_fixed, foldl_fixed]

theorem boundaryWork_fixed (b : Bool) (l : List (FrameSrc × Bytes)) (s : State) : (boundaryWork b l s).fixed =
    s.fixed := by
  unfold boundaryWork
  extract_lets go s1 s2
  have h : s2.fixed = s.fixed := by
    simp only [s2, s1, applyWaiting_fixed, nextPhase_fixed, apply_ite State.fixed, stopRest_fixed, ite_self]
  clear_value s2
  split
  · refine (State.updSol_fixed _ _).trans ?_
    exact (foldl_fixed _ stopAtStart_fixed _ _).trans
      ((foldl_fixed _ startSolve_fixed _ _).trans ((resetRounds_fixed _).trans h))
  · exact h

theorem calendarSet_fixed (s : State) : (calendarSet s).fixed = s.fixed := by
  unfold calendarSet
  simp [applySet_fixed, rejectCal_fixed, foldl_fixed]

theorem setOsf_fixed (a0 : Nat) (s : State) : (setOsf a0 s).fixed = s.fixed := by
  unfold setOsf
  simp [raise_fixed, foldl_fixed]

theorem calendarCycles_fixed (a0 : Nat) (a1 : Int) (s : State) : (calendarCycles a0 a1 s).fixed = s.fixed := by
  unfold calendarCycles
  simp [putCalendar_fixed, setOsf_fixed, foldl_fixed]

theorem calendarShift_fixed (s : State) : (calendarShift s).fixed = s.fixed := by
  unfold calendarShift
  simp [raise_fixed, anchor_fixed, calendarCycles_fixed, rejectCal_fixed, foldl_fixed]

theorem calControl_fixed (a0 : Word) (s : State) : (calControl a0 s).fixed = s.fixed := by
  unfold calControl
  (repeat' split) <;>
    first
    | with_reducible rfl
    | (simp [calendarSet_fixed, calendarShift_fixed, calendarPtpSet_fixed, rejectCal_fixed, foldl_fixed]; done)
    | (simp_all [calendarSet_fixed, calendarShift_fixed, calendarPtpSet_fixed, rejectCal_fixed, foldl_fixed]; done)

theorem calWrite_fixed (a0 : Nat) (a1 : Word) (s : State) : (calWrite a0 a1 s).fixed = s.fixed := by
  unfold calWrite
  simp [foldl_fixed]

theorem wakeUp_fixed (a0 : WakeSource) (s : State) : (wakeUp a0 s).fixed = s.fixed := by
  unfold wakeUp
  simp [foldl_fixed]

theorem calendarAlarm_fixed (a0 : Bool) (s : State) : (calendarAlarm a0 s).fixed = s.fixed := by
  unfold calendarAlarm
  simp [wakeUp_fixed, raise_fixed, foldl_fixed]

theorem calendarSecond_fixed (s : State) : (calendarSecond s).fixed = s.fixed := by
  unfold calendarSecond
  simp [calendarCycles_fixed, foldl_fixed]

theorem capTagStep_fixed (a0 : Path) (s : State) : (capTagStep a0 s).fixed = s.fixed := by
  unfold capTagStep
  simp [foldl_fixed]

theorem captureArm_fixed (a0 : Nat) (s : State) : (captureArm a0 s).fixed = s.fixed := by
  unfold captureArm
  simp [State.updCapture_fixed, foldl_fixed]

theorem captureSample_fixed (l : LoopLaw) (a i : Int) (b : Bool) (t : TideTime) (s : State) :
    (captureSample l a i b t s).fixed = s.fixed := by
  unfold captureSample
  refine foldl_fixed _ (fun s ch => ?_) _ _
  simp only [apply_ite State.fixed, raise_fixed, State.updLoop_fixed, ite_self]

theorem captureStop_fixed (a0 : Nat) (s : State) : (captureStop a0 s).fixed = s.fixed := by
  unfold captureStop
  simp [State.updCapture_fixed, foldl_fixed]

theorem sendMgmt_fixed (a0 : Nat) (a1 : Bytes) (s : State) : (sendMgmt a0 a1 s).fixed = s.fixed := by
  unfold sendMgmt
  simp [drawBytes_fixed, enqueue_fixed, foldl_fixed]

theorem challenge_fixed (a0 : Nat) (a1 : Bytes) (s : State) : (challenge a0 a1 s).fixed = s.fixed := by
  unfold challenge
  rfl

theorem startRho_fixed (a0 : Nat) (a1 : Template) (a2 : Int) (s : State) : (startRho a0 a1 a2 s).fixed = s.fixed := by
  unfold startRho
  simp [foldl_fixed]

theorem checkLive_fixed (n : Nat) (c : ProblemCfg) (t : Template) (b : IterSet) (s : State) :
    (checkLive n c t b s).fixed = s.fixed := by
  unfold checkLive
  extract_lets p rho r inf s1 coupled last s2
  have h : s2.fixed = s.fixed := by
    simp only [s2, apply_ite State.fixed, State.updProb_fixed, s1, ite_self]
  clear_value s2
  (repeat' split) <;> simp only [stopProblem_fixed, startRho_fixed, h]

theorem writeMeterVar_fixed (a0 : Ty) (a1 : Option Nat) (a2 : DWord) (s : State) : (writeMeterVar a0 a1 a2 s).fixed =
    s.fixed := by
  unfold writeMeterVar
  (repeat' split) <;>
    first
    | with_reducible rfl
    | (simp [writeInput_fixed, foldl_fixed]; done)
    | (simp_all [writeInput_fixed, foldl_fixed]; done)

theorem checkMeter_fixed (s : State) (a1 : MeterCfg) : (checkMeter s a1).fixed = s.fixed := by
  unfold checkMeter
  try simp only []
  (repeat' split) <;>
    first
    | with_reducible rfl
    | (simp [writeMeterVar_fixed, State.updMeter_fixed, raise_fixed, foldl_fixed]; done)
    | (simp_all [writeMeterVar_fixed, State.updMeter_fixed, raise_fixed, foldl_fixed]; done)

theorem checkpointDone_fixed (s : State) : (checkpointDone s).fixed = s.fixed := by
  unfold checkpointDone
  (repeat' split) <;>
    first
    | with_reducible rfl
    | (simp [raise_fixed, foldl_fixed]; done)
    | (simp_all [raise_fixed, foldl_fixed]; done)

theorem clearFaultCommand_fixed (s : State) : (clearFaultCommand s).fixed = s.fixed := by
  unfold clearFaultCommand
  simp [foldl_fixed]

theorem meterCommand_fixed (m c : Nat) (o : DWord) (f : Meter → Meter) (s : State) : (meterCommand m c o f s).fixed =
    s.fixed := by
  unfold meterCommand
  simp only [raise_fixed, State.updMtr_fixed, State.updMeter_fixed, addRec_fixed]

theorem clearMeter_fixed (a0 : Nat) (s : State) : (clearMeter a0 s).fixed = s.fixed := by
  unfold clearMeter
  simp [meterCommand_fixed, foldl_fixed]

theorem clkWrite_fixed (a0 : Nat) (a1 : Word) (s : State) : (clkWrite a0 a1 s).fixed = s.fixed := by
  unfold clkWrite
  simp [foldl_fixed]

theorem countHello_fixed (s : State) : (countHello s).fixed = s.fixed := by
  unfold countHello
  simp [foldl_fixed]

theorem refuseMgmt_fixed (a0 : Nat) (a1 : Word) (a2 : Byte) (s : State) : (refuseMgmt a0 a1 a2 s).fixed = s.fixed :=
    by
  unfold refuseMgmt
  simp [sendMgmt_fixed, foldl_fixed]

theorem endSession_fixed (s : State) : (endSession s).fixed = s.fixed := by
  unfold endSession
  simp [raise_fixed, foldl_fixed]

theorem helloFrame_fixed (a0 : Nat) (a1 : Bytes) (s : State) : (helloFrame a0 a1 s).fixed = s.fixed := by
  unfold helloFrame
  try simp only []
  (repeat' split) <;>
    first
    | with_reducible rfl
    | (simp [countHello_fixed, refuseMgmt_fixed, challenge_fixed, endSession_fixed, foldl_fixed]; done)
    | (simp_all [countHello_fixed, refuseMgmt_fixed, challenge_fixed, endSession_fixed, foldl_fixed]; done)

theorem mgmtRequest_fixed (k : Byte) (g : MgmtHead) (p : Bytes) (f : Session → State → State)
    (h : ∀ x s, (f x s).fixed = s.fixed) (s : State) : (mgmtRequest k g p f s).fixed = s.fixed := by
  unfold mgmtRequest
  (repeat' split) <;> first | with_reducible rfl | simp [authFails_fixed, h]

theorem replyMgmt_fixed (a0 : Nat) (a1 : Session) (a2 : Byte) (a3 : Word) (a4 : Byte) (a5 : Bytes) (s : State) :
    (replyMgmt a0 a1 a2 a3 a4 a5 s).fixed = s.fixed := by
  unfold replyMgmt
  simp [sendMgmt_fixed, foldl_fixed]

theorem closeFrame_fixed (g : MgmtHead) (s : State) : (closeFrame g s).fixed = s.fixed :=
  mgmtRequest_fixed _ _ _ _ (fun _ _ => by simp only [endSession_fixed, replyMgmt_fixed]) _

theorem closeRound_fixed (u : Nat) (s : State) : (closeRound u s).fixed = s.fixed := by
  unfold closeRound
  simp only []
  (repeat' split) <;> first | with_reducible rfl | simp [sendSolver_fixed, State.updRounds_fixed]

theorem writeCommitted_fixed (a0 : Ty) (a1 : Nat) (a2 : DWord) (s : State) : (writeCommitted a0 a1 a2 s).fixed =
    s.fixed := by
  unfold writeCommitted
  simp [writeWords_fixed, foldl_fixed]

theorem paramRaw_fixed (t : Ty) (v : DWord) (s : State) : (paramRaw t v s).2.fixed = s.fixed := by
  unfold paramRaw
  split
  · simp only []
    split <;> rfl
  · rfl

theorem writeParam_fixed (n c : Nat) (t : Ty) (v : DWord) (s : State) : (writeParam n c t v s).1.fixed = s.fixed := by
  unfold writeParam
  exact (State.updLoopSt_fixed _ _ _).trans (paramRaw_fixed t v s)

theorem countClamp_fixed (a0 : Nat) (s : State) : (countClamp a0 s).fixed = s.fixed := by
  unfold countClamp
  simp [foldl_fixed]

theorem landingReal_fixed (a0 : Nat) (s : State) (a2 : Landing) : (landingReal a0 s a2).fixed = s.fixed := by
  unfold landingReal
  try simp only []
  (repeat' split) <;>
    first
    | with_reducible rfl
    | (simp [writeCommitted_fixed, writeParam_fixed, countClamp_fixed, addRec_fixed, foldl_fixed]; done)
    | (simp_all [writeCommitted_fixed, writeParam_fixed, countClamp_fixed, addRec_fixed, foldl_fixed]; done)

theorem commitLanding_fixed (a0 : Nat) (a1 : Run) (s : State) : (commitLanding a0 a1 s).fixed = s.fixed := by
  unfold commitLanding
  simp [landingReal_fixed, raise_fixed, foldl_fixed]

theorem leaveLockstep_fixed (s : State) : (leaveLockstep s).fixed = s.fixed := by
  unfold leaveLockstep
  simp [raise_fixed, foldl_fixed]

theorem digestMismatch_fixed (s : State) : (digestMismatch s).fixed = s.fixed := by
  unfold digestMismatch
  simp [raise_fixed, leaveLockstep_fixed, beginResync_fixed, foldl_fixed]

theorem compareDigest_fixed (a0 : DigestMsg) (a1 : DigestMsg) (s : State) : (compareDigest a0 a1 s).fixed = s.fixed
    := by
  unfold compareDigest
  simp [digestMismatch_fixed, foldl_fixed]

theorem compareRates_fixed (a0 : List (Option Nat)) (s : State) : (compareRates a0 s).fixed = s.fixed := by
  unfold compareRates
  simp [foldl_fixed]

theorem sealRetained_fixed (a0 : Retained) (s : State) : (sealRetained a0 s).fixed = s.fixed := by
  unfold sealRetained
  simp [foldl_fixed]

theorem endRetained_fixed (s : State) : (endRetained s).fixed = s.fixed := by
  unfold endRetained
  (repeat' split) <;>
    first
    | with_reducible rfl
    | (simp [sealRetained_fixed, foldl_fixed]; done)
    | (simp_all [sealRetained_fixed, foldl_fixed]; done)

theorem writeRec_fixed (s : State) (r : JRec) : (writeRec s r).1.fixed = s.fixed := by
  unfold writeRec
  simp only []
  (repeat' split) <;> first | with_reducible rfl | simp [dropRecs_fixed]

theorem writeAll_fixed (l : List JRec) (s : State) : (writeAll l s).1.fixed = s.fixed := by
  induction l generalizing s with
  | nil => rfl
  | cons r l ih => exact (ih _).trans (writeRec_fixed s r)

theorem flushJournal_fixed (s : State) : (flushJournal s).fixed = s.fixed := by
  unfold flushJournal
  simp [writeAll_fixed, dropRecs_fixed, foldl_fixed]

theorem completeFlush_fixed (a0 : Nat) (s : State) : (completeFlush a0 s).fixed = s.fixed := by
  unfold completeFlush
  simp [endRetained_fixed, flushJournal_fixed, foldl_fixed]

theorem coreFaulty_fixed (a0 : Nat) (s : State) : (coreFaulty a0 s).fixed = s.fixed := by
  unfold coreFaulty
  simp [raise_fixed, foldl_fixed]

theorem coreMismatched_fixed (a0 : Nat) (s : State) : (coreMismatched a0 s).fixed = s.fixed := by
  unfold coreMismatched
  simp [coreFaulty_fixed, foldl_fixed]

theorem reexecuteScan_fixed (a0 : Nat) (a1 : TaskCfg) (a2 : Run) (s : State) : (reexecuteScan a0 a1 a2 s).fixed =
    s.fixed := by
  unfold reexecuteScan
  simp [putRun_fixed, foldl_fixed]

theorem coreMismatch_fixed (a0 : Nat) (s : State) : (coreMismatch a0 s).fixed = s.fixed := by
  unfold coreMismatch
  (repeat' split) <;>
    first
    | with_reducible rfl
    | (simp [coreMismatched_fixed, countPairScan_fixed, raise_fixed, abandonMismatch_fixed, reexecuteScan_fixed,
        foldl_fixed]; done)
    | (simp_all [coreMismatched_fixed, countPairScan_fixed, raise_fixed, abandonMismatch_fixed, reexecuteScan_fixed,
        foldl_fixed]; done)

theorem corePairTest_fixed (a0 : Nat) (a1 : Bool) (s : State) : (corePairTest a0 a1 s).fixed = s.fixed := by
  unfold corePairTest
  simp [raise_fixed, coreFaulty_fixed, foldl_fixed]

theorem countRestart_fixed (a0 : Cause) (s : State) : (countRestart a0 s).fixed = s.fixed := by
  unfold countRestart
  (repeat' split) <;>
    first
    | with_reducible rfl
    | (simp [foldl_fixed]; done)
    | (simp_all [foldl_fixed]; done)

theorem measureCycle_fixed (a0 : Tracker) (s : State) : (measureCycle a0 s).fixed = s.fixed := by
  unfold measureCycle
  simp [raise_fixed, foldl_fixed]

theorem lockTide_fixed (a0 : Bool) (s : State) : (lockTide a0 s).fixed = s.fixed := by
  unfold lockTide
  simp [raise_fixed, foldl_fixed]

theorem enterSlew_fixed (a0 : Int) (s : State) : (enterSlew a0 s).fixed = s.fixed := by
  unfold enterSlew
  simp [raise_fixed, foldl_fixed]

theorem relock_fixed (a0 : Int) (a1 : Bool) (s : State) : (relock a0 a1 s).fixed = s.fixed := by
  unfold relock
  simp [lockTide_fixed, enterSlew_fixed, foldl_fixed]

theorem validBoundary_fixed (a0 : Bool) (a1 : Tracker) (s : State) : (validBoundary a0 a1 s).fixed = s.fixed := by
  unfold validBoundary
  try simp only []
  (repeat' split) <;>
    first
    | with_reducible rfl
    | (simp [relock_fixed, lockTide_fixed, foldl_fixed]; done)
    | (simp_all [relock_fixed, lockTide_fixed, foldl_fixed]; done)

theorem invalidBoundary_fixed (s : State) : (invalidBoundary s).fixed = s.fixed := by
  unfold invalidBoundary
  try simp only []
  (repeat' split) <;>
    first
    | with_reducible rfl
    | (simp [foldl_fixed]; done)
    | (simp_all [foldl_fixed]; done)

theorem cycleBoundary_fixed (a0 : Tracker) (s : State) : (cycleBoundary a0 s).fixed = s.fixed := by
  unfold cycleBoundary
  try simp only []
  (repeat' split) <;>
    first
    | with_reducible rfl
    | (simp [measureCycle_fixed, elapse_fixed, validBoundary_fixed, invalidBoundary_fixed, stampCycle_fixed,
        foldl_fixed]; done)
    | (simp_all [measureCycle_fixed, elapse_fixed, validBoundary_fixed, invalidBoundary_fixed, stampCycle_fixed,
        foldl_fixed]; done)

theorem sysWrite_fixed (a0 : Nat) (a1 : Word) (s : State) : (sysWrite a0 a1 s).fixed = s.fixed := by
  unfold sysWrite
  simp [foldl_fixed]

theorem startConv_fixed (a0 : BitVec 16) (s : State) : (startConv a0 s).fixed = s.fixed := by
  unfold startConv
  simp [foldl_fixed]

theorem tideWrite_fixed (a0 : Path) (a1 : Nat) (a2 : Word) (s : State) : (tideWrite a0 a1 a2 s).fixed = s.fixed := by
  unfold tideWrite
  simp [startConv_fixed, foldl_fixed]

theorem evtWrite_fixed (a0 : Path) (a1 : Nat) (a2 : Word) (s : State) : (evtWrite a0 a1 a2 s).fixed = s.fixed := by
  unfold evtWrite
  simp [foldl_fixed]

theorem jrnWrite_fixed (a0 : Path) (a1 : Nat) (a2 : Word) (s : State) : (jrnWrite a0 a1 a2 s).fixed = s.fixed := by
  unfold jrnWrite
  simp [foldl_fixed]

theorem keyWrite_fixed (a0 : Path) (a1 : Nat) (a2 : Word) (s : State) : (keyWrite a0 a1 a2 s).fixed = s.fixed := by
  unfold keyWrite
  simp [foldl_fixed]

theorem netWrite_fixed (a0 : Path) (a1 : Nat) (a2 : Word) (s : State) : (netWrite a0 a1 a2 s).fixed = s.fixed := by
  unfold netWrite
  simp [foldl_fixed]

theorem putIncr_fixed (a0 : Byte) (a1 : Word) (s : State) : (putIncr a0 a1 s).fixed = s.fixed := by
  unfold putIncr
  simp [foldl_fixed]

theorem rejectHostTime_fixed (s : State) : (rejectHostTime s).fixed = s.fixed := by
  unfold rejectHostTime
  simp [foldl_fixed]

theorem hostIncr_fixed (a0 : Word) (s : State) : (hostIncr a0 s).fixed = s.fixed := by
  unfold hostIncr
  simp [putIncr_fixed, rejectHostTime_fixed, foldl_fixed]

theorem ntimeWrite_fixed (a0 : Nat) (a1 : Word) (s : State) : (ntimeWrite a0 a1 s).fixed = s.fixed := by
  unfold ntimeWrite
  simp [hostIncr_fixed, rejectHostTime_fixed, foldl_fixed]

theorem stnWrite_fixed (a0 : Path) (a1 : Nat) (a2 : Word) (s : State) : (stnWrite a0 a1 a2 s).fixed = s.fixed := by
  unfold stnWrite
  simp [foldl_fixed]

theorem pairWrite_fixed (a0 : Nat) (a1 : Word) (s : State) : (pairWrite a0 a1 s).fixed = s.fixed := by
  unfold pairWrite
  simp [foldl_fixed]

theorem fioWrite_fixed (a0 : Path) (a1 : Nat) (a2 : Word) (s : State) : (fioWrite a0 a1 a2 s).fixed = s.fixed := by
  unfold fioWrite
  simp [reportField_fixed, foldl_fixed]

theorem mtrWrite_fixed (a0 : Path) (a1 : Nat) (a2 : Word) (s : State) : (mtrWrite a0 a1 a2 s).fixed = s.fixed := by
  unfold mtrWrite
  simp [foldl_fixed]

theorem selectForce_fixed (a0 : BitVec 8) (s : State) : (selectForce a0 s).fixed = s.fixed := by
  unfold selectForce
  simp [applyForce_fixed, foldl_fixed]

theorem scanWrite_fixed (a0 : Path) (a1 : Nat) (a2 : Word) (s : State) : (scanWrite a0 a1 a2 s).fixed = s.fixed := by
  unfold scanWrite
  simp [selectForce_fixed, foldl_fixed]

theorem writeCapCfg_fixed (a0 : Nat) (a1 : Word) (s : State) : (writeCapCfg a0 a1 s).fixed = s.fixed := by
  unfold writeCapCfg
  simp [State.updCapture_fixed, foldl_fixed]

theorem loopWrite_fixed (a0 : Path) (a1 : Nat) (a2 : Word) (s : State) : (loopWrite a0 a1 a2 s).fixed = s.fixed := by
  unfold loopWrite
  simp [writeCapCfg_fixed, foldl_fixed]

theorem rejectDelta_fixed (a0 : Nat) (a1 : Nat) (s : State) : (rejectDelta a0 a1 s).fixed = s.fixed := by
  unfold rejectDelta
  simp [raise_fixed, foldl_fixed]

theorem submitHost_fixed (s : State) : (submitHost s).fixed = s.fixed := by
  unfold submitHost
  simp [rejectDelta_fixed, foldl_fixed]

theorem solWrite_fixed (a0 : Path) (a1 : Nat) (a2 : Word) (s : State) : (solWrite a0 a1 a2 s).fixed = s.fixed := by
  unfold solWrite
  (repeat' split) <;>
    first
    | with_reducible rfl
    | (simp [submitHost_fixed, foldl_fixed]; done)
    | (simp_all [submitHost_fixed, foldl_fixed]; done)

theorem placeWrite_fixed (a0 : Path) (a1 : Nat) (a2 : Word) (s : State) : (placeWrite a0 a1 a2 s).fixed = s.fixed :=
    by
  unfold placeWrite
  (repeat' split) <;>
    first
    | with_reducible rfl
    | (simp [clearFaultCommand_fixed, foldl_fixed]; done)
    | (simp_all [clearFaultCommand_fixed, foldl_fixed]; done)

theorem dataWrite_fixed (a0 : Path) (a1 : Word) (a2 : Word) (s : State) : (dataWrite a0 a1 a2 s).fixed = s.fixed := by
  unfold dataWrite
  simp [sysWrite_fixed, clkWrite_fixed, calWrite_fixed, tideWrite_fixed, evtWrite_fixed, jrnWrite_fixed,
      keyWrite_fixed, netWrite_fixed, ntimeWrite_fixed, stnWrite_fixed, pairWrite_fixed, fioWrite_fixed,
      mtrWrite_fixed, scanWrite_fixed, loopWrite_fixed, solWrite_fixed, placeWrite_fixed, foldl_fixed]

theorem markReached_fixed (a0 : Work) (s : State) : (markReached a0 s).fixed = s.fixed := by
  unfold markReached
  simp [withProblem_fixed, stopAtMark_fixed, foldl_fixed]

theorem deadlineReached_fixed (a0 : TideTime) (s : State) : (deadlineReached a0 s).fixed = s.fixed := by
  unfold deadlineReached
  try simp only []
  (repeat' split) <;>
    first
    | with_reducible rfl
    | (simp [markReached_fixed, withProblem_fixed, stopAtMark_fixed, foldl_fixed]; done)
    | (simp_all [markReached_fixed, withProblem_fixed, stopAtMark_fixed, foldl_fixed]; done)

theorem decayRate_fixed (s : State) (a1 : MeterCfg) : (decayRate s a1).fixed = s.fixed := by
  unfold decayRate
  simp [State.updMeter_fixed, foldl_fixed]

theorem deliverOne_fixed (s : State) (n : Nat) : (deliverOne s n).fixed = s.fixed :=
  withProblem_fixed _ _ _ fun _ _ _ => rfl

theorem projectLive_fixed (s : State) (n : Nat) : (projectLive s n).fixed = s.fixed :=
  withProblem_fixed _ _ _ fun _ _ _ => rfl

theorem recoverOne_fixed (s : State) (a1 : CConstraint × Nat) : (recoverOne s a1).fixed = s.fixed := by
  unfold recoverOne
  simp [adjustTerms_fixed, raise_fixed, foldl_fixed]

theorem recoverAll_fixed (s : State) : (recoverAll s).fixed = s.fixed := by
  unfold recoverAll
  simp [recoverOne_fixed, foldl_fixed]

theorem deliveryPass_fixed (s : State) : (deliveryPass s).fixed = s.fixed := by
  unfold deliveryPass
  try simp only []
  (repeat' split) <;>
    first
    | with_reducible rfl
    | (simp [stopRest_fixed, projectLive_fixed, recoverAll_fixed, raise_fixed, deliverOne_fixed, foldl_fixed]; done)
    | (simp_all [stopRest_fixed, projectLive_fixed, recoverAll_fixed, raise_fixed, deliverOne_fixed, foldl_fixed];
        done)

theorem setFault_fixed (s : State) : (setFault s).fixed = s.fixed := by
  unfold setFault
  simp [raise_fixed, foldl_fixed]

theorem dieWatchdog_fixed (a0 : Nat) (s : State) : (dieWatchdog a0 s).fixed = s.fixed := by
  unfold dieWatchdog
  simp [applyOutputs_fixed, setFault_fixed, foldl_fixed]

theorem peerPasses_fixed (s : State) : (peerPasses s).fixed = s.fixed := by
  unfold peerPasses
  simp [foldl_fixed]

theorem ownDigest_fixed (a0 : DigestMsg) (s : State) : (ownDigest a0 s).fixed = s.fixed := by
  unfold ownDigest
  try simp only []
  (repeat' split) <;>
    first
    | with_reducible rfl
    | (simp [sendLink_fixed, compareDigest_fixed, foldl_fixed]; done)
    | (simp_all [sendLink_fixed, compareDigest_fixed, foldl_fixed]; done)

theorem peerDigest_fixed (a0 : DigestMsg) (s : State) : (peerDigest a0 s).fixed = s.fixed := by
  unfold peerDigest
  (repeat' split) <;>
    first
    | with_reducible rfl
    | (simp [ownDigest_fixed, compareDigest_fixed, foldl_fixed]; done)
    | (simp_all [ownDigest_fixed, compareDigest_fixed, foldl_fixed]; done)

theorem digestIn_fixed (a0 : DigestMsg) (s : State) : (digestIn a0 s).fixed = s.fixed := by
  unfold digestIn
  simp [peerPasses_fixed, peerDigest_fixed, foldl_fixed]

theorem dispatchError_fixed (s : State) : (dispatchError s).fixed = s.fixed := by
  unfold dispatchError
  (repeat' split) <;>
    first
    | with_reducible rfl
    | (simp [beginScan_fixed, foldl_fixed]; done)
    | (simp_all [beginScan_fixed, foldl_fixed]; done)

theorem dispatchEvent_fixed (a0 : Nat) (s : State) : (dispatchEvent a0 s).fixed = s.fixed := by
  unfold dispatchEvent
  (repeat' split) <;>
    first
    | with_reducible rfl
    | (simp [beginScan_fixed, foldl_fixed]; done)
    | (simp_all [beginScan_fixed, foldl_fixed]; done)

theorem dropHead_fixed (a0 : Nat) (a1 : Nat) (s : State) : (dropHead a0 a1 s).fixed = s.fixed := by
  unfold dropHead
  simp [foldl_fixed]

theorem dropStale_fixed (s : State) : (dropStale s).fixed = s.fixed := by
  unfold dropStale
  simp [foldl_fixed]

theorem eccCorrected_fixed (s : State) : (eccCorrected s).fixed = s.fixed := by
  unfold eccCorrected
  simp [foldl_fixed]

theorem stopFaulty_fixed (a0 : Nat) (s : State) : (stopFaulty a0 s).fixed = s.fixed := by
  unfold stopFaulty
  simp [stopProblem_fixed, foldl_fixed]

theorem tileFaulty_fixed (a0 : Nat) (s : State) : (tileFaulty a0 s).fixed = s.fixed := by
  unfold tileFaulty
  simp [raise_fixed, stopFaulty_fixed, foldl_fixed]

theorem eccInTile_fixed (a0 : Nat) (s : State) : (eccInTile a0 s).fixed = s.fixed := by
  unfold eccInTile
  try simp only []
  (repeat' split) <;>
    first
    | with_reducible rfl
    | (simp [tileFaulty_fixed, foldl_fixed]; done)
    | (simp_all [tileFaulty_fixed, foldl_fixed]; done)

theorem endAhead_fixed (s : State) : (endAhead s).fixed = s.fixed := by
  unfold endAhead
  simp [markReached_fixed, foldl_fixed]

theorem endExtract_fixed (s : State) : (endExtract s).fixed = s.fixed := by
  unfold endExtract
  simp [raise_fixed, foldl_fixed]

theorem writeTaken_fixed (s : State) : (writeTaken s).fixed = s.fixed := by
  unfold writeTaken
  simp [writeAll_fixed, raise_fixed, foldl_fixed]

theorem endFlush_fixed (s : State) : (endFlush s).fixed = s.fixed := by
  unfold endFlush
  (repeat' split) <;>
    first
    | with_reducible rfl
    | (simp [writeTaken_fixed, startFlush_fixed, foldl_fixed]; done)
    | (simp_all [writeTaken_fixed, startFlush_fixed, foldl_fixed]; done)

theorem endKept_fixed (s : State) : (endKept s).fixed = s.fixed := by
  unfold endKept
  simp [foldl_fixed]

theorem endMeasure_fixed (a0 : Nat) (s : State) : (endMeasure a0 s).fixed = s.fixed := by
  unfold endMeasure
  simp [foldl_fixed]

theorem endRebuild_fixed (s : State) : (endRebuild s).fixed = s.fixed := by
  unfold endRebuild
  simp [raise_fixed, startFlush_fixed, foldl_fixed]

theorem endSave_fixed (s : State) : (endSave s).fixed = s.fixed := by
  unfold endSave
  (repeat' split) <;>
    first
    | with_reducible rfl
    | (simp [State.updMeter_fixed, foldl_fixed]; done)
    | (simp_all [State.updMeter_fixed, foldl_fixed]; done)

theorem endTurn_fixed (a0 : Nat) (s : State) : (endTurn a0 s).fixed = s.fixed := by
  unfold endTurn
  simp [closeRound_fixed, State.updRounds_fixed, foldl_fixed]

theorem restamp_fixed (s : State) : (restamp s).fixed = s.fixed := by
  unfold restamp
  simp [refreshPeriod_fixed, foldl_fixed]

theorem enterCoast_fixed (s : State) : (enterCoast s).fixed = s.fixed := by
  unfold enterCoast
  simp [raise_fixed, restamp_fixed, foldl_fixed]

theorem enterDeep_fixed (s : State) : (enterDeep s).fixed = s.fixed := by
  unfold enterDeep
  simp [foldl_fixed]

theorem startMooring_fixed (s : State) : (startMooring s).fixed = s.fixed := by
  unfold startMooring
  simp [foldl_fixed]

theorem setStage_fixed (a0 : BitVec 2) (s : State) : (setStage a0 s).fixed = s.fixed := by
  unfold setStage
  simp [raise_fixed, foldl_fixed]

theorem enterMooring_fixed (s : State) : (enterMooring s).fixed = s.fixed := by
  unfold enterMooring
  simp [startMooring_fixed, setStage_fixed, applyOutputs_fixed, foldl_fixed]

theorem handLoops_fixed (s : State) : (handLoops s).fixed = s.fixed := by
  unfold handLoops
  simp [State.updLoopSt_fixed, foldl_fixed]

theorem enterScan_fixed (s : State) : (enterScan s).fixed = s.fixed := by
  unfold enterScan
  simp [handLoops_fixed, setStage_fixed, foldl_fixed]

theorem enterSleep_fixed (s : State) : (enterSleep s).fixed = s.fixed := by
  unfold enterSleep
  simp [foldl_fixed]

theorem evalInterlock_fixed (s : State) (a1 : Interlock × Nat) : (evalInterlock s a1).fixed = s.fixed := by
  unfold evalInterlock
  simp [raise_fixed, foldl_fixed]

theorem evalInterlocks_fixed (s : State) : (evalInterlocks s).fixed = s.fixed := by
  unfold evalInterlocks
  simp [applyOutputs_fixed, evalInterlock_fixed, foldl_fixed]

theorem noteMoorSig_fixed (a0 : Option (Bool × Bool)) (s : State) : (noteMoorSig a0 s).fixed = s.fixed := by
  unfold noteMoorSig
  (repeat' split) <;>
    first
    | with_reducible rfl
    | (simp [foldl_fixed]; done)
    | (simp_all [foldl_fixed]; done)

theorem takeCache_fixed (s : State) : (takeCache s).fixed = s.fixed := by
  unfold takeCache
  (repeat' split) <;>
    first
    | with_reducible rfl
    | (simp [noteMoorSig_fixed, acceptMooring_fixed, foldl_fixed]; done)
    | (simp_all [noteMoorSig_fixed, acceptMooring_fixed, foldl_fixed]; done)

theorem takeFlashRecord_fixed (a0 : Mooring) (a1 : Bool) (s : State) : (takeFlashRecord a0 a1 s).fixed = s.fixed := by
  unfold takeFlashRecord
  simp [acceptMooring_fixed, foldl_fixed]

theorem selectMooring_fixed (a0 : Option Nat) (s : State) : (selectMooring a0 s).fixed = s.fixed := by
  unfold selectMooring
  (repeat' split) <;>
    first
    | with_reducible rfl
    | (simp [takeCache_fixed, noteMoorSig_fixed, takeFlashRecord_fixed, raise_fixed, foldl_fixed]; done)
    | (simp_all [takeCache_fixed, noteMoorSig_fixed, takeFlashRecord_fixed, raise_fixed, foldl_fixed]; done)

theorem evaluateMooring_fixed (a0 : Option Nat) (s : State) : (evaluateMooring a0 s).fixed = s.fixed := by
  unfold evaluateMooring
  simp [enterMooring_fixed, selectMooring_fixed, bootPointer_fixed, foldl_fixed]

theorem eventsIn_fixed (a0 : List (BitVec 8 × Nat)) (s : State) : (eventsIn a0 s).fixed = s.fixed := by
  unfold eventsIn
  simp [foldl_fixed]

theorem powerUp_fixed (s : State) : (powerUp s).fixed = s.fixed := by
  unfold powerUp
  simp [foldl_fixed]

theorem startRecords_fixed (s : State) : (startRecords s).fixed = s.fixed := by
  unfold startRecords
  simp [foldl_fixed]

theorem journalIncomplete_fixed (s : State) : (journalIncomplete s).fixed = s.fixed := by
  unfold journalIncomplete
  simp [addRec_fixed, dropRecs_fixed, raise_fixed, foldl_fixed]

theorem limitRestarts_fixed (s : State) : (limitRestarts s).fixed = s.fixed := by
  unfold limitRestarts
  simp [raise_fixed, foldl_fixed]

theorem startInstant_fixed (a0 : Cause) (s : State) : (startInstant a0 s).fixed = s.fixed := by
  unfold startInstant
  simp [settleEvents_fixed, anchor_fixed, startRecords_fixed, raise_fixed, journalIncomplete_fixed, applyForce_fixed,
      limitRestarts_fixed, countRestart_fixed, foldl_fixed]

theorem takeFirst_fixed (s : State) : (takeFirst s).fixed = s.fixed := by
  unfold takeFirst
  simp [sendLink_fixed, foldl_fixed]

theorem resetRelease_fixed (s : State) : (resetRelease s).fixed = s.fixed := by
  unfold resetRelease
  try simp only []
  (repeat' split) <;>
    first
    | with_reducible rfl
    | (simp [startInstant_fixed, foldl_fixed]; done)
    | (simp_all [startInstant_fixed, foldl_fixed]; done)

theorem flushComplete_fixed (a0 : Nat) (s : State) : (flushComplete a0 s).fixed = s.fixed := by
  unfold flushComplete
  try simp only []
  (repeat' split) <;>
    first
    | with_reducible rfl
    | (simp [completeFlush_fixed, applyOutputs_fixed, endKept_fixed, foldl_fixed]; done)
    | (simp_all [completeFlush_fixed, applyOutputs_fixed, endKept_fixed, foldl_fixed]; done)

theorem hfioQualified_fixed (s : State) : (hfioQualified s).fixed = s.fixed := by
  unfold hfioQualified
  simp [foldl_fixed]

theorem loadSafe_fixed (s : State) : (loadSafe s).fixed = s.fixed := by
  unfold loadSafe
  simp [applyOutputs_fixed, endKept_fixed, foldl_fixed]

theorem loadHostChannel_fixed (s : State) : (loadHostChannel s).fixed = s.fixed := by
  unfold loadHostChannel
  (repeat' split) <;>
    first
    | with_reducible rfl
    | (simp [foldl_fixed]; done)
    | (simp_all [foldl_fixed]; done)

theorem mooringStage_fixed (a0 : Option Nat) (s : State) : (mooringStage a0 s).fixed = s.fixed := by
  unfold mooringStage
  simp [loadHostChannel_fixed, evaluateMooring_fixed, foldl_fixed]

theorem moorSample_fixed (a0 : Nat) (s : State) : (moorSample a0 s).fixed = s.fixed := by
  unfold moorSample
  (repeat' split) <;>
    first
    | with_reducible rfl
    | (simp [applyOutputs_fixed, foldl_fixed]; done)
    | (simp_all [applyOutputs_fixed, foldl_fixed]; done)

theorem moorPulseEnd_fixed (a0 : Nat) (s : State) : (moorPulseEnd a0 s).fixed = s.fixed := by
  unfold moorPulseEnd
  (repeat' split) <;>
    first
    | with_reducible rfl
    | (simp [moorSample_fixed, applyOutputs_fixed, foldl_fixed]; done)
    | (simp_all [moorSample_fixed, applyOutputs_fixed, foldl_fixed]; done)

theorem judgeXtal2_fixed (a0 : Bool) (s : State) : (judgeXtal2 a0 s).fixed = s.fixed := by
  unfold judgeXtal2
  simp [raise_fixed, setOsf_fixed, foldl_fixed]

theorem startNtime_fixed (s : State) : (startNtime s).fixed = s.fixed := by
  unfold startNtime
  simp [foldl_fixed]

theorem xtalQualified_fixed (a0 : Bool) (s : State) : (xtalQualified a0 s).fixed = s.fixed := by
  unfold xtalQualified
  simp [judgeXtal2_fixed, startNtime_fixed, foldl_fixed]

theorem xtalRetry_fixed (a0 : Bool) (s : State) : (xtalRetry a0 s).fixed = s.fixed := by
  unfold xtalRetry
  simp [judgeXtal2_fixed, foldl_fixed]

theorem firmwareVerify_fixed (a0 : Option Nat) (s : State) : (firmwareVerify a0 s).fixed = s.fixed := by
  unfold firmwareVerify
  try simp only []
  (repeat' split) <;>
    first
    | with_reducible rfl
    | (simp [refuseManifest_fixed, raise_fixed, foldl_fixed]; done)
    | (simp_all [refuseManifest_fixed, raise_fixed, foldl_fixed]; done)

theorem manifestVerify_fixed (a0 : Option Nat) (s : State) : (manifestVerify a0 s).fixed = s.fixed := by
  unfold manifestVerify
  (repeat' split) <;>
    first
    | with_reducible rfl
    | (simp [refuseManifest_fixed, showVerify_fixed, adopt_fixed, foldl_fixed]; done)
    | (simp_all [refuseManifest_fixed, showVerify_fixed, adopt_fixed, foldl_fixed]; done)

theorem holdRises_fixed (s : State) : (holdRises s).fixed = s.fixed := by
  unfold holdRises
  try simp only []
  (repeat' split) <;>
    first
    | with_reducible rfl
    | (simp [enterTasks_fixed, foldl_fixed]; done)
    | (simp_all [enterTasks_fixed, foldl_fixed]; done)

theorem tideLock_fixed (s : State) : (tideLock s).fixed = s.fixed := by
  unfold tideLock
  simp [tideBegun_fixed, raise_fixed, beginTide_fixed, foldl_fixed]

theorem jrnStep_fixed (a0 : Path) (s : State) : (jrnStep a0 s).fixed = s.fixed := by
  unfold jrnStep
  simp [foldl_fixed]

theorem readEffect_fixed (a0 : Path) (a1 : Word) (s : State) : (readEffect a0 a1 s).fixed = s.fixed := by
  unfold readEffect
  simp [jrnStep_fixed, capTagStep_fixed, foldl_fixed]

theorem readRegs_fixed (p : Path) (n : Nat) (a : Word) (s : State) : (readRegs p n a s).2.fixed = s.fixed := by
  induction n generalizing a s with
  | zero => rfl
  | succ n ih => exact (ih _ _).trans (readEffect_fixed _ _ _)

theorem readRegister_fixed (p : Path) (a : Word) (s : State) : (readRegister p a s).fixed = s.fixed :=
  (State.updPath_fixed _ _ _).trans (readEffect_fixed _ _ _)

theorem snapLapse_fixed (a0 : Path) (a1 : SnapKind) (s : State) : (snapLapse a0 a1 s).fixed = s.fixed := by
  unfold snapLapse
  simp [foldl_fixed]

theorem finishConv_fixed (s : State) : (finishConv s).fixed = s.fixed := by
  unfold finishConv
  (repeat' split) <;>
    first
    | with_reducible rfl
    | (simp [convertLaunches_fixed, foldl_fixed]; done)
    | (simp_all [convertLaunches_fixed, foldl_fixed]; done)

theorem placementEffect_fixed (s : State) : (placementEffect s).fixed = s.fixed := by
  unfold placementEffect
  (repeat' split) <;>
    first
    | with_reducible rfl
    | (simp [raise_fixed, foldl_fixed]; done)
    | (simp_all [raise_fixed, foldl_fixed]; done)

theorem samePlacement_fixed (s : State) : (samePlacement s).2.fixed = s.fixed := by
  exact drawFree_fixed s

theorem freshCounts_fixed (s : State) : (freshCounts s).fixed = s.fixed := by
  unfold freshCounts
  simp [foldl_fixed]

theorem joinLockstep_fixed (s : State) : (joinLockstep s).fixed = s.fixed := by
  unfold joinLockstep
  split
  · have h := samePlacement_fixed s
    split
    rename_i heq
    rw [heq] at h
    split
    · exact h
    · split <;> first | exact h | (simp only [raise_fixed, State.updPair_fixed, freshCounts_fixed]; exact h)
  · rfl

theorem handOne_fixed (s : State) (a1 : Handover) : (handOne s a1).fixed = s.fixed := by
  unfold handOne
  (repeat' split) <;>
    first
    | with_reducible rfl
    | (simp [State.updLoopSt_fixed, writeInput_fixed, foldl_fixed]; done)
    | (simp_all [State.updLoopSt_fixed, writeInput_fixed, foldl_fixed]; done)

theorem handover_fixed (s : State) : (handover s).fixed = s.fixed := by
  unfold handover
  split
  · extract_lets k s1 s2 s3 s4
    have h1 : s1.fixed = s.fixed := foldl_fixed _ handOne_fixed _ _
    have h2 : s2.fixed = s1.fixed := by
      refine foldl_fixed _ (fun s a => ?_) _ _
      obtain ⟨c, p⟩ := a
      simp only []
      split <;> simp [writeInput_fixed]
    have h3 : s3.fixed = s2.fixed := by
      simp only [s3]
      split <;> simp [writeInput_fixed]
    have h4 : s4.fixed = s3.fixed := by
      refine foldl_fixed _ (fun s a => ?_) _ _
      exact withProblem_fixed _ _ _ fun _ _ _ => rfl
    rw [State.updSol_fixed, h4, h3, h2, h1]
  · rfl

theorem periodBoundary_fixed (s : State) : (periodBoundary s).fixed = s.fixed := by
  unfold periodBoundary
  simp [placementEffect_fixed, joinLockstep_fixed, handover_fixed, endAhead_fixed, foldl_fixed]

theorem overrun_fixed (a0 : Nat) (s : State) : (overrun a0 s).fixed = s.fixed := by
  unfold overrun
  simp [queueCause_fixed, raise_fixed, foldl_fixed]

theorem startTask_fixed (a0 : TideMark) (s : State) : (startTask a0 s).fixed = s.fixed := by
  unfold startTask
  (repeat' split) <;>
    first
    | with_reducible rfl
    | (simp [overrun_fixed, beginScan_fixed, afterFreezes_fixed, foldl_fixed]; done)
    | (simp_all [overrun_fixed, beginScan_fixed, afterFreezes_fixed, foldl_fixed]; done)

theorem noteWinner_fixed (a0 : List LoopLaw) (s : State) (a2 : Nat × List Nat) : (noteWinner a0 s a2).fixed = s.fixed
    := by
  unfold noteWinner
  (repeat' split) <;>
    first
    | with_reducible rfl
    | (simp [raise_fixed, foldl_fixed]; done)
    | (simp_all [raise_fixed, foldl_fixed]; done)

theorem outputStage_fixed (a0 : LoopCfg) (a1 : Int) (a2 : Bool) (s : State) : (outputStage a0 a1 a2 s).fixed =
    s.fixed := by
  unfold outputStage
  (repeat' split) <;>
    first
    | with_reducible rfl
    | (simp [State.updLoopSt_fixed, writeCommitted_fixed, writeInput_fixed, foldl_fixed]; done)
    | (simp_all [State.updLoopSt_fixed, writeCommitted_fixed, writeInput_fixed, foldl_fixed]; done)

theorem finishLoop_fixed (a0 : TideTime) (a1 : List LoopLaw) (s : State) (a3 : LoopLaw) : (finishLoop a0 a1 s
    a3).fixed = s.fixed := by
  unfold finishLoop
  simp [raise_fixed, State.updLoopSt_fixed, outputStage_fixed, captureSample_fixed, advanceTest_fixed, foldl_fixed]

theorem sampleGroup_fixed (a0 : Nat) (a1 : TideTime) (a2 : List SampleMeas) (a3 : Int) (s : State) : (sampleGroup a0
    a1 a2 a3 s).fixed = s.fixed := by
  unfold sampleGroup
  simp [noteWinner_fixed, finishLoop_fixed, foldl_fixed]

theorem loopSample_fixed (a0 : TideMark) (a1 : Nat) (s : State) : (loopSample a0 a1 s).fixed = s.fixed := by
  unfold loopSample
  simp [sendLink_fixed, sampleGroup_fixed, foldl_fixed]

theorem pulseEnd_fixed (a0 : Nat) (s : State) : (pulseEnd a0 s).fixed = s.fixed := by
  unfold pulseEnd
  (repeat' split) <;>
    first
    | with_reducible rfl
    | (simp [State.updLoopSt_fixed, foldl_fixed]; done)
    | (simp_all [State.updLoopSt_fixed, foldl_fixed]; done)

theorem launchStation_fixed (m : Nat) (k : TideMark) (s : State) (c : StationCfg) : (launchStation m k s c).fixed =
    s.fixed := by
  unfold launchStation
  extract_lets x pl drop words off base apply seq epoch flags put s1 s2
  have h : ∀ b p o s, (put b p o s).fixed = s.fixed := fun b p o s => by simp only [put, enqueue_fixed]
  have h2 : s2.fixed = s.fixed := by simp only [s2, h, s1, State.updStation_fixed]
  split <;> simp only [h, h2]

theorem launchGroup_fixed (a0 : Nat) (a1 : TideMark) (s : State) : (launchGroup a0 a1 s).fixed = s.fixed := by
  unfold launchGroup
  simp [launchStation_fixed, foldl_fixed]

theorem runAheadStart_fixed (s : State) : (runAheadStart s).fixed = s.fixed := by
  unfold runAheadStart
  simp [aheadActions_fixed, foldl_fixed]

theorem stageAtDeadline_fixed (s : State) : (stageAtDeadline s).fixed = s.fixed := by
  unfold stageAtDeadline
  simp [setStage_fixed, foldl_fixed]

theorem solverDeadline_fixed (a0 : TideMark) (a1 : List (Option Nat)) (s : State) : (solverDeadline a0 a1 s).fixed =
    s.fixed := by
  unfold solverDeadline
  simp [deadlineReached_fixed, stageAtDeadline_fixed, compareRates_fixed, sendLink_fixed, foldl_fixed]

theorem unitSlow_fixed (a0 : Nat) (s : State) : (unitSlow a0 s).fixed = s.fixed := by
  unfold unitSlow
  simp [raise_fixed, foldl_fixed]

theorem resumeBoundary_fixed (s : State) : (resumeBoundary s).fixed = s.fixed := by
  unfold resumeBoundary
  (repeat' split) <;>
    first
    | with_reducible rfl
    | (simp [boundaryWork_fixed, foldl_fixed]; done)
    | (simp_all [boundaryWork_fixed, foldl_fixed]; done)

theorem iterationWork_fixed (a0 : Nat) (a1 : ProblemCfg) (a2 : Template) (a3 : Factor) (s : State) : (iterationWork
    a0 a1 a2 a3 s).fixed = s.fixed := by
  unfold iterationWork
  try simp only []
  (repeat' split) <;>
    first
    | with_reducible rfl
    | (simp [rescaleLive_fixed, finishBuild_fixed, checkLive_fixed, endTurn_fixed, unitEnd_fixed, foldl_fixed]; done)
    | (simp_all [rescaleLive_fixed, finishBuild_fixed, checkLive_fixed, endTurn_fixed, unitEnd_fixed, foldl_fixed];
        done)

theorem keepBack_fixed (a0 : Nat) (s : State) : (keepBack a0 s).fixed = s.fixed := by
  unfold keepBack
  simp [foldl_fixed]

theorem iterationDone_fixed (a0 : Nat) (s : State) : (iterationDone a0 s).fixed = s.fixed := by
  unfold iterationDone
  grind [withProblem_fixed, beginRound_fixed, closeRound_fixed, rescaleLive_fixed, iterationWork_fixed,
      keepBack_fixed]

theorem factorWork_fixed (a0 : Nat) (a1 : ProblemCfg) (a2 : Template) (a3 : Build) (s : State) : (factorWork a0 a1 a2
    a3 s).fixed = s.fixed := by
  unfold factorWork
  simp [raise_fixed, finishBuild_fixed, unitEnd_fixed, endTurn_fixed, foldl_fixed]

theorem factorStepDone_fixed (a0 : Nat) (s : State) : (factorStepDone a0 s).fixed = s.fixed := by
  unfold factorStepDone
  grind [withProblem_fixed, beginRound_fixed, closeRound_fixed, factorWork_fixed, keepBack_fixed]

theorem exitOuter_fixed (a0 : Nat) (a1 : Bool) (a2 : Bool) (s : State) : (exitOuter a0 a1 a2 s).fixed = s.fixed := by
  unfold exitOuter
  simp [raise_fixed, stopProblem_fixed, projectLive_fixed, recoverAll_fixed, foldl_fixed]

theorem nextOuter_fixed (o : Nat) (l : List (Int × Int)) (s : State) : (nextOuter o l s).fixed = s.fixed := by
  unfold nextOuter
  refine (foldl_fixed _ (fun s n => ?_) _ _).trans (State.updSol_fixed _ _)
  exact withProblem_fixed _ _ _ fun _ _ _ => State.updProb_fixed _ _ _

theorem outerEnd_fixed (s : State) : (outerEnd s).fixed = s.fixed := by
  unfold outerEnd
  (repeat' split) <;>
    first
    | with_reducible rfl
    | (simp [exitOuter_fixed, nextOuter_fixed, foldl_fixed]; done)
    | (simp_all [exitOuter_fixed, nextOuter_fixed, foldl_fixed]; done)

theorem fixOne_fixed (s : State) (a1 : Nat) : (fixOne s a1).fixed = s.fixed := by
  unfold fixOne
  simp [foldl_fixed]

theorem stageAtFix_fixed (a0 : Bool) (s : State) : (stageAtFix a0 s).fixed = s.fixed := by
  unfold stageAtFix
  simp [setStage_fixed, raise_fixed, foldl_fixed]

theorem fixResults_fixed (s : State) : (fixResults s).fixed = s.fixed := by
  unfold fixResults
  simp [fixOne_fixed, raise_fixed, nextPhase_fixed, ownDigest_fixed, beginCheckpoint_fixed, stageAtFix_fixed,
      foldl_fixed]

theorem lateFix_fixed (s : State) : (lateFix s).fixed = s.fixed := by
  unfold lateFix
  (repeat' split) <;>
    first
    | with_reducible rfl
    | (simp [leaveLockstep_fixed, foldl_fixed]; done)
    | (simp_all [leaveLockstep_fixed, foldl_fixed]; done)

theorem resultsFixed_fixed (s : State) : (resultsFixed s).fixed = s.fixed := by
  unfold resultsFixed
  simp [fixResults_fixed, lateFix_fixed, aheadActions_fixed, endAhead_fixed, resumeBoundary_fixed, foldl_fixed]

theorem readSolVdata_fixed (a0 : Path) (s : State) : (readSolVdata a0 s).fixed = s.fixed := by
  unfold readSolVdata
  simp [foldl_fixed]

theorem releaseDeltas_fixed (a0 : Nat) (a1 : Run) (s : State) : (releaseDeltas a0 a1 s).fixed = s.fixed := by
  unfold releaseDeltas
  simp [rejectDelta_fixed, foldl_fixed]

theorem solverCommit_fixed (a0 : Nat) (a1 : Run) (s : State) : (solverCommit a0 a1 s).fixed = s.fixed := by
  unfold solverCommit
  simp [releaseDeltas_fixed, resumeBoundary_fixed, foldl_fixed]

theorem partnerAsks_fixed (s : State) : (partnerAsks s).fixed = s.fixed := by
  unfold partnerAsks
  simp [samePlacement_fixed, drawFree_fixed, beginResync_fixed, foldl_fixed]

theorem sendOpenPage_fixed (r p : Nat) (s : State) : (sendOpenPage r p s).fixed = s.fixed :=
  (sendLink_fixed _ _).trans rfl

theorem sendOpenPages_fixed (a0 : Nat) (a1 : List Nat) (s : State) : (sendOpenPages a0 a1 s).fixed = s.fixed := by
  unfold sendOpenPages
  simp [sendOpenPage_fixed, foldl_fixed]

theorem openPages_fixed (k : Nat) (s : State) : (openPages k s).2.fixed = s.fixed := by
  unfold openPages
  simp only []
  split <;> rfl

theorem sendPages_fixed (a0 : Nat) (a1 : List Word) (a2 : List Nat) (s : State) : (sendPages a0 a1 a2 s).fixed =
    s.fixed := by
  unfold sendPages
  simp [sendLink_fixed, foldl_fixed]

theorem resyncRound_fixed (b : Bool) (s : State) : (resyncRound b s).fixed = s.fixed := by
  unfold resyncRound
  extract_lets d r l1 l2
  have h3 := openPages_fixed 3 s
  split
  rename_i s3 e3
  rw [e3] at h3
  have h4 := openPages_fixed 4 s3
  split
  rename_i s4 e4
  rw [e4] at h4
  simp only []
  split <;> simp only [sendOpenPages_fixed, sendPages_fixed, State.updPair_fixed] <;> exact h4.trans h3

theorem resyncSend_fixed (a0 : Bool) (s : State) : (resyncSend a0 s).fixed = s.fixed := by
  unfold resyncSend
  simp [partnerAsks_fixed, sendOpenPages_fixed, resyncRound_fixed, foldl_fixed]

theorem scanCommit_fixed (a0 : Nat) (s : State) : (scanCommit a0 s).fixed = s.fixed := by
  unfold scanCommit
  (repeat' split) <;>
    first
    | with_reducible rfl
    | (simp [countPairScan_fixed, commitLanding_fixed, ownDigest_fixed, aheadOver_fixed, solverCommit_fixed,
        enterScan_fixed, resyncSend_fixed, applyOutputs_fixed, foldl_fixed]; done)
    | (simp_all [countPairScan_fixed, commitLanding_fixed, ownDigest_fixed, aheadOver_fixed, solverCommit_fixed,
        enterScan_fixed, resyncSend_fixed, applyOutputs_fixed, foldl_fixed]; done)

theorem forceCommand_fixed (a0 : Byte) (a1 : ForceChange) (s : State) : (forceCommand a0 a1 s).fixed = s.fixed := by
  unfold forceCommand
  simp [foldl_fixed]

theorem forceSet_fixed (a0 : Path) (s : State) : (forceSet a0 s).fixed = s.fixed := by
  unfold forceSet
  simp [forceCommand_fixed, foldl_fixed]

theorem forceClear_fixed (a0 : Path) (s : State) : (forceClear a0 s).fixed = s.fixed := by
  unfold forceClear
  simp [forceCommand_fixed, foldl_fixed]

theorem forceClearAll_fixed (a0 : Path) (s : State) : (forceClearAll a0 s).fixed = s.fixed := by
  unfold forceClearAll
  simp [forceCommand_fixed, foldl_fixed]

theorem readExecMax_fixed (a0 : Path) (s : State) : (readExecMax a0 s).fixed = s.fixed := by
  unfold readExecMax
  simp [foldl_fixed]

theorem ticFault_fixed (a0 : Nat) (a1 : Nat) (a2 : Run) (s : State) : (ticFault a0 a1 a2 s).fixed = s.fixed := by
  unfold ticFault
  simp [realFault_fixed, foldl_fixed]

theorem testReason_fixed (a0 : Byte) (s : State) : (testReason a0 s).fixed = s.fixed := by
  unfold testReason
  simp [foldl_fixed]

theorem testStart_fixed (a0 : Nat) (s : State) : (testStart a0 s).fixed = s.fixed := by
  unfold testStart
  simp [testReason_fixed, foldl_fixed]

theorem testStop_fixed (a0 : Nat) (s : State) : (testStop a0 s).fixed = s.fixed := by
  unfold testStop
  simp [testReason_fixed, foldl_fixed]

theorem rejectStation_fixed (s : State) : (rejectStation s).fixed = s.fixed := by
  unfold rejectStation
  simp [foldl_fixed]

theorem ferryReply_fixed (a0 : Nat) (a1 : Bytes) (s : State) : (ferryReply a0 a1 s).fixed = s.fixed := by
  unfold ferryReply
  try simp only []
  (repeat' split) <;>
    first
    | with_reducible rfl
    | (simp [rejectStation_fixed, State.updStation_fixed, acceptReply_fixed, stationSettled_fixed,
        forwardOutcome_fixed, foldl_fixed]; done)
    | (simp_all [rejectStation_fixed, State.updStation_fixed, acceptReply_fixed, stationSettled_fixed,
        forwardOutcome_fixed, foldl_fixed]; done)

theorem pollReply_fixed (a0 : Nat) (a1 : Bytes) (s : State) : (pollReply a0 a1 s).fixed = s.fixed := by
  unfold pollReply
  try simp only []
  (repeat' split) <;>
    first
    | with_reducible rfl
    | (simp [ferryReply_fixed, rejectStation_fixed, acceptReply_fixed, State.updStation_fixed, forwardOutcome_fixed,
        foldl_fixed]; done)
    | (simp_all [ferryReply_fixed, rejectStation_fixed, acceptReply_fixed, State.updStation_fixed,
        forwardOutcome_fixed, foldl_fixed]; done)

theorem pollTimeout_fixed (a0 : Nat) (s : State) : (pollTimeout a0 s).fixed = s.fixed := by
  unfold pollTimeout
  (repeat' split) <;>
    first
    | with_reducible rfl
    | (simp [ferryReply_fixed, State.updStation_fixed, foldl_fixed]; done)
    | (simp_all [ferryReply_fixed, State.updStation_fixed, foldl_fixed]; done)

theorem rejoinCommand_fixed (a0 : Nat) (s : State) : (rejoinCommand a0 s).fixed = s.fixed := by
  unfold rejoinCommand
  (repeat' split) <;>
    first
    | with_reducible rfl
    | (simp [forwardOutcome_fixed, State.updStation_fixed, foldl_fixed]; done)
    | (simp_all [forwardOutcome_fixed, State.updStation_fixed, foldl_fixed]; done)

theorem stationFrameIn_fixed (a0 : Nat) (a1 : Bytes) (s : State) : (stationFrameIn a0 a1 s).fixed = s.fixed := by
  unfold stationFrameIn
  (repeat' split) <;>
    first
    | with_reducible rfl
    | (simp [ferryReply_fixed, pollReply_fixed, rejectStation_fixed, foldl_fixed]; done)
    | (simp_all [ferryReply_fixed, pollReply_fixed, rejectStation_fixed, foldl_fixed]; done)

theorem handPtp_fixed (a0 : Nat) (a1 : Bytes) (s : State) : (handPtp a0 a1 s).fixed = s.fixed := by
  unfold handPtp
  simp [foldl_fixed]

theorem passFrame_fixed (a0 : Nat) (a1 : Bytes) (s : State) : (passFrame a0 a1 s).fixed = s.fixed := by
  unfold passFrame
  simp [stationFrameIn_fixed, handPtp_fixed, foldl_fixed]

theorem frameReceived_fixed (a0 : Nat) (a1 : Bytes) (a2 : Bool) (s : State) : (frameReceived a0 a1 a2 s).fixed =
    s.fixed := by
  unfold frameReceived
  try simp only []
  (repeat' split) <;>
    first
    | with_reducible rfl
    | (simp [passFrame_fixed, raise_fixed, foldl_fixed]; done)
    | (simp_all [passFrame_fixed, raise_fixed, foldl_fixed]; done)

theorem takePtp_fixed (a0 : Nat) (a1 : Bytes) (a2 : Option Stamp) (s : State) : (takePtp a0 a1 a2 s).fixed = s.fixed
    := by
  unfold takePtp
  simp [foldl_fixed]

theorem refreshUtc_fixed (s : State) : (refreshUtc s).fixed = s.fixed := by
  unfold refreshUtc
  (repeat' split) <;>
    first
    | with_reducible rfl
    | (simp [foldl_fixed]; done)
    | (simp_all [foldl_fixed]; done)

theorem shiftMarks_fixed (a0 : Int) (s : State) : (shiftMarks a0 s).fixed = s.fixed := by
  unfold shiftMarks
  rfl

theorem stepNtime_fixed (a0 : Bool) (a1 : BitVec 48) (a2 : BitVec 30) (s : State) : (stepNtime a0 a1 a2 s).fixed =
    s.fixed := by
  unfold stepNtime
  simp [elapse_fixed, shiftMarks_fixed, raise_fixed, foldl_fixed]

theorem ptpSubmit_fixed (a0 : Nat) (a1 : BitVec 16) (a2 : Bytes) (s : State) : (ptpSubmit a0 a1 a2 s).fixed = s.fixed
    := by
  unfold ptpSubmit
  (repeat' split) <;>
    first
    | with_reducible rfl
    | (simp [enqueue_fixed, foldl_fixed]; done)
    | (simp_all [enqueue_fixed, foldl_fixed]; done)

theorem ptpAct_fixed (a0 : Nat) (a1 : PtpAction) (s : State) : (ptpAct a0 a1 s).fixed = s.fixed := by
  unfold ptpAct
  (repeat' split) <;>
    first
    | with_reducible rfl
    | (simp [refreshUtc_fixed, keepUtcOffset_fixed, putIncr_fixed, stepNtime_fixed, ptpSubmit_fixed, setServo_fixed,
        foldl_fixed]; done)
    | (simp_all [refreshUtc_fixed, keepUtcOffset_fixed, putIncr_fixed, stepNtime_fixed, ptpSubmit_fixed,
        setServo_fixed, foldl_fixed]; done)

theorem ptpMessage_fixed (a0 : Nat) (a1 : Bytes) (a2 : PtpAction) (s : State) : (ptpMessage a0 a1 a2 s).fixed =
    s.fixed := by
  unfold ptpMessage
  try simp only []
  (repeat' split) <;>
    first
    | with_reducible rfl
    | (simp [handPtp_fixed, takePtp_fixed, ptpAct_fixed, foldl_fixed]; done)
    | (simp_all [handPtp_fixed, takePtp_fixed, ptpAct_fixed, foldl_fixed]; done)

theorem linkChange_fixed (a0 : Nat) (a1 : LinkSignal) (a2 : Bool) (s : State) : (linkChange a0 a1 a2 s).fixed = s.fixed := by
  unfold linkChange
  simp [raise_fixed, foldl_fixed]

theorem noteCarried_fixed (a0 : QFrame) (s : State) : (noteCarried a0 s).fixed = s.fixed := by
  unfold noteCarried
  (repeat' split) <;>
    first
    | with_reducible rfl
    | (simp [State.updStation_fixed, foldl_fixed]; done)
    | (simp_all [State.updStation_fixed, foldl_fixed]; done)

theorem putStamp_fixed (a0 : Nat) (a1 : BitVec 16) (s : State) : (putStamp a0 a1 s).fixed = s.fixed := by
  unfold putStamp
  simp [raise_fixed, foldl_fixed]

theorem sendFrame_fixed (a0 : Nat) (a1 : QFrame) (s : State) : (sendFrame a0 a1 s).fixed = s.fixed := by
  unfold sendFrame
  try simp only []
  (repeat' split) <;>
    first
    | with_reducible rfl
    | (simp [noteCarried_fixed, putStamp_fixed, raise_fixed, foldl_fixed]; done)
    | (simp_all [noteCarried_fixed, putStamp_fixed, raise_fixed, foldl_fixed]; done)

theorem launchTimed_fixed (a0 : Nat) (a1 : Nat) (a2 : QFrame) (s : State) : (launchTimed a0 a1 a2 s).fixed = s.fixed
    := by
  unfold launchTimed
  simp [dropHead_fixed, raise_fixed, sendFrame_fixed, foldl_fixed]

theorem frameLaunch_fixed (a0 : Nat) (s : State) : (frameLaunch a0 s).fixed = s.fixed := by
  unfold frameLaunch
  try simp only []
  (repeat' split) <;>
    first
    | with_reducible rfl
    | (simp [launchTimed_fixed, sendFrame_fixed, dropHead_fixed, foldl_fixed]; done)
    | (simp_all [launchTimed_fixed, sendFrame_fixed, dropHead_fixed, foldl_fixed]; done)

theorem selectAn_fixed (a0 : Nat) (a1 : Bool) (a2 : BitVec 2) (s : State) : (selectAn a0 a1 a2 s).fixed = s.fixed :=
    by
  unfold selectAn
  (repeat' split) <;>
    first
    | with_reducible rfl
    | (simp [foldl_fixed]; done)
    | (simp_all [foldl_fixed]; done)

theorem hostStep_fixed (s : State) : (hostStep s).fixed = s.fixed := by
  unfold hostStep
  simp [stepNtime_fixed, rejectHostTime_fixed, foldl_fixed]

theorem leaseSend_fixed (s : State) : (leaseSend s).fixed = s.fixed := by
  unfold leaseSend
  simp [sendLink_fixed, foldl_fixed]

theorem receive_fixed (q : Word) (f : State → State) (h : ∀ s, (f s).fixed = s.fixed) (s : State) :
    (receive q f s).fixed = s.fixed := by
  unfold receive
  simp only []
  (repeat' split) <;> first | with_reducible rfl | simp [h, leaveLockstep_fixed]

theorem followTime_fixed (a0 : Int) (s : State) : (followTime a0 s).fixed = s.fixed := by
  unfold followTime
  simp [stepNtime_fixed, freeChoice_fixed, putIncr_fixed, foldl_fixed]

theorem leaseFollow_fixed (a0 : Stamp) (s : State) : (leaseFollow a0 s).fixed = s.fixed := by
  unfold leaseFollow
  (repeat' split) <;>
    first
    | with_reducible rfl
    | (simp [followTime_fixed, foldl_fixed]; done)
    | (simp_all [followTime_fixed, foldl_fixed]; done)

theorem leaseIn_fixed (a0 : Word) (a1 : DWord) (a2 a3 : Stamp) (s : State) : (leaseIn a0 a1 a2 a3 s).fixed = s.fixed
    := by
  unfold leaseIn
  extract_lets s1 s2
  have h2 : s2.fixed = s.fixed := by
    simp only [s2, apply_ite State.fixed, joinStandby_fixed, ite_self, s1, State.updPair_fixed]
  clear_value s2
  split
  · refine (sendLink_fixed _ _).trans ((State.updPair_fixed _ _).trans ((freeChoice_fixed 10001 _).trans ?_))
    exact (leaseFollow_fixed _ _).trans ((State.updDev_fixed _ _).trans h2)
  · exact h2

theorem partnerJoins_fixed (s : State) : (partnerJoins s).fixed = s.fixed := by
  unfold partnerJoins
  try simp only []
  (repeat' split) <;>
    first
    | with_reducible rfl
    | (simp [learnPartner_fixed, beginResync_fixed, fenceTest_fixed, foldl_fixed]; done)
    | (simp_all [learnPartner_fixed, beginResync_fixed, fenceTest_fixed, foldl_fixed]; done)

theorem leaseAckIn_fixed (a0 : Word) (s : State) : (leaseAckIn a0 s).fixed = s.fixed := by
  unfold leaseAckIn
  (repeat' split) <;>
    first
    | with_reducible rfl
    | (simp [partnerJoins_fixed, foldl_fixed]; done)
    | (simp_all [partnerJoins_fixed, foldl_fixed]; done)

theorem fenceOutDrop_fixed (s : State) : (fenceOutDrop s).fixed = s.fixed := by
  unfold fenceOutDrop
  simp [foldl_fixed]

theorem selfFence_fixed (s : State) : (selfFence s).fixed = s.fixed := by
  unfold selfFence
  simp [applyOutputs_fixed, raise_fixed, foldl_fixed]

theorem selfFenceByTime_fixed (s : State) : (selfFenceByTime s).fixed = s.fixed := by
  unfold selfFenceByTime
  simp [selfFence_fixed, foldl_fixed]

theorem fenceInHigh_fixed (s : State) : (fenceInHigh s).fixed = s.fixed := by
  unfold fenceInHigh
  simp [applyOutputs_fixed, endKept_fixed, selfFence_fixed, foldl_fixed]

theorem liftSuppression_fixed (s : State) : (liftSuppression s).fixed = s.fixed := by
  unfold liftSuppression
  rfl

theorem roundMissed_fixed (s : State) : (roundMissed s).fixed = s.fixed := by
  unfold roundMissed
  (repeat' split) <;>
    first
    | with_reducible rfl
    | (simp [stationRound_fixed, foldl_fixed]; done)
    | (simp_all [stationRound_fixed, foldl_fixed]; done)

theorem startMissed_fixed (s : State) (a1 : TaskCfg) : (startMissed s a1).fixed = s.fixed := by
  unfold startMissed
  (repeat' split) <;>
    first
    | with_reducible rfl
    | (simp [overrun_fixed, beginScan_fixed, foldl_fixed]; done)
    | (simp_all [overrun_fixed, beginScan_fixed, foldl_fixed]; done)

theorem takeover_fixed (s : State) : (takeover s).fixed = s.fixed := by
  unfold takeover
  simp [applyOutputs_fixed, raise_fixed, liftSuppression_fixed, State.updStation_fixed, markReached_fixed,
      roundMissed_fixed, startMissed_fixed, foldl_fixed]

theorem leaseExpired_fixed (s : State) : (leaseExpired s).fixed = s.fixed := by
  unfold leaseExpired
  simp [takeover_fixed, raise_fixed, foldl_fixed]

theorem imageNews_fixed (a0 : ImageMsg) (s : State) : (imageNews a0 s).fixed = s.fixed := by
  unfold imageNews
  simp [applyOutcome_fixed, applyDecision_fixed, standbyRound_fixed, foldl_fixed]

theorem noteBoundary_fixed (a0 : ImageMsg) (s : State) : (noteBoundary a0 s).fixed = s.fixed := by
  unfold noteBoundary
  simp [foldl_fixed]

theorem imageCame_fixed (a0 : ImageMsg) (s : State) : (imageCame a0 s).fixed = s.fixed := by
  unfold imageCame
  simp [foldl_fixed]

theorem imageIn_fixed (a0 : ImageMsg) (s : State) : (imageIn a0 s).fixed = s.fixed := by
  unfold imageIn
  simp [imageNews_fixed, noteBoundary_fixed, imageCame_fixed, adoptTide_fixed, leaveLockstep_fixed, foldl_fixed]

theorem sampleIn_fixed (a0 : SampleMsg) (s : State) : (sampleIn a0 s).fixed = s.fixed := by
  unfold sampleIn
  (repeat' split) <;>
    first
    | with_reducible rfl
    | (simp [applyOutputs_fixed, sampleGroup_fixed, foldl_fixed]; done)
    | (simp_all [applyOutputs_fixed, sampleGroup_fixed, foldl_fixed]; done)

theorem steerTide_fixed (a0 : Tracker) (s : State) : (steerTide a0 s).fixed = s.fixed := by
  unfold steerTide
  simp [foldl_fixed]

theorem tideIn_fixed (a0 : Tracker) (s : State) : (tideIn a0 s).fixed = s.fixed := by
  unfold tideIn
  simp [steerTide_fixed, foldl_fixed]

theorem goBack_fixed (a0 : Nat) (a1 : Nat × Nat) (s : State) : (goBack a0 a1 s).fixed = s.fixed := by
  unfold goBack
  (repeat' split) <;>
    first
    | with_reducible rfl
    | (simp [foldl_fixed]; done)
    | (simp_all [foldl_fixed]; done)

theorem stopReported_fixed (s : State) (a1 : BitVec 11 × Nat × Nat) : (stopReported s a1).fixed = s.fixed := by
  unfold stopReported
  simp [withProblem_fixed, goBack_fixed, unitEnd_fixed, foldl_fixed]

theorem solverIn_fixed (a0 : SolverMsg) (s : State) : (solverIn a0 s).fixed = s.fixed := by
  unfold solverIn
  simp [resumeBoundary_fixed, stopReported_fixed, foldl_fixed]

theorem joinPlacement_fixed (a0 : Manifest) (a1 : Word) (a2 : BitVec 64) (a3 : BitVec 5) (s : State) : (joinPlacement
    a0 a1 a2 a3 s).fixed = s.fixed := by
  unfold joinPlacement
  (repeat' split) <;>
    first
    | with_reducible rfl
    | (simp [foldl_fixed]; done)
    | (simp_all [foldl_fixed]; done)

theorem takeEpoch_fixed (a0 : HealthMsg) (s : State) : (takeEpoch a0 s).fixed = s.fixed := by
  unfold takeEpoch
  try simp only []
  (repeat' split) <;>
    first
    | with_reducible rfl
    | (simp [freeChoice_fixed, drawFree_fixed, joinPlacement_fixed, foldl_fixed]; done)
    | (simp_all [freeChoice_fixed, drawFree_fixed, joinPlacement_fixed, foldl_fixed]; done)

theorem healthIn_fixed (a0 : HealthMsg) (s : State) : (healthIn a0 s).fixed = s.fixed := by
  unfold healthIn
  simp [takeEpoch_fixed, foldl_fixed]

theorem takeCounters_fixed (s : State) : (takeCounters s).fixed = s.fixed := by
  unfold takeCounters
  extract_lets v s1 s2 s3 s4 s5
  have h1 : s1.fixed = s.fixed := foldl_fixed _ (fun _ _ => State.updLoopSt_fixed _ _ _) _ _
  have h2 : s2.fixed = s1.fixed := foldl_fixed _ (fun _ _ => State.updStation_fixed _ _ _) _ _
  have h3 : s3.fixed = s2.fixed := foldl_fixed _ (fun _ _ => State.updTask_fixed _ _ _) _ _
  have h4 : s4.fixed = s3.fixed := foldl_fixed _ (fun _ _ => State.updMeter_fixed _ _ _) _ _
  rw [State.updScan_fixed, State.updLoop_fixed, h4, h3, h2, h1]

theorem takeSolver_fixed (s : State) : (takeSolver s).fixed = s.fixed := by
  unfold takeSolver
  simp [foldl_fixed]

theorem takeRegions_fixed (s : State) : (takeRegions s).fixed = s.fixed := by
  unfold takeRegions
  (repeat' split) <;>
    first
    | with_reducible rfl
    | (simp [dropStale_fixed, takeCounters_fixed, takeSolver_fixed, foldl_fixed]; done)
    | (simp_all [dropStale_fixed, takeCounters_fixed, takeSolver_fixed, foldl_fixed]; done)

theorem resyncIn_fixed (a0 : Word) (a1 : Word) (a2 : Bytes) (s : State) : (resyncIn a0 a1 a2 s).fixed = s.fixed := by
  unfold resyncIn
  simp [takeRegions_fixed, foldl_fixed]

theorem switchIn_fixed (s : State) : (switchIn s).fixed = s.fixed := by
  unfold switchIn
  simp [raise_fixed, takeover_fixed, foldl_fixed]

theorem takeIn_fixed (s : State) : (takeIn s).fixed = s.fixed := by
  unfold takeIn
  simp [takeover_fixed, foldl_fixed]

theorem linkDown_fixed (s : State) : (linkDown s).fixed = s.fixed := by
  unfold linkDown
  simp [leaveLockstep_fixed, raise_fixed, foldl_fixed]

theorem laneRecover_fixed (a0 : Bool) (s : State) : (laneRecover a0 s).fixed = s.fixed := by
  unfold laneRecover
  simp [raise_fixed, foldl_fixed]

theorem peerLow_fixed (s : State) : (peerLow s).fixed = s.fixed := by
  unfold peerLow
  simp [takeActive_fixed, foldl_fixed]

theorem pairReason_fixed (a0 : Byte) (s : State) : (pairReason a0 s).fixed = s.fixed := by
  unfold pairReason
  simp [foldl_fixed]

theorem switchCommand_fixed (s : State) : (switchCommand s).fixed = s.fixed := by
  unfold switchCommand
  simp [pairReason_fixed, foldl_fixed]

theorem resyncCommand_fixed (s : State) : (resyncCommand s).fixed = s.fixed := by
  unfold resyncCommand
  simp [pairReason_fixed, foldl_fixed]

theorem healthFrame_fixed (s : State) : (healthFrame s).fixed = s.fixed := by
  unfold healthFrame
  (repeat' split) <;>
    first
    | with_reducible rfl
    | (simp [enqueue_fixed, foldl_fixed]; done)
    | (simp_all [enqueue_fixed, foldl_fixed]; done)

theorem tileTest_fixed (a0 : Nat) (a1 : Bool) (s : State) : (tileTest a0 a1 s).fixed = s.fixed := by
  unfold tileTest
  simp [raise_fixed, tileFaulty_fixed, foldl_fixed]

theorem stageTest_fixed (a0 : Nat) (a1 : Bool) (s : State) : (stageTest a0 a1 s).fixed = s.fixed := by
  unfold stageTest
  simp [raise_fixed, foldl_fixed]

theorem ioUpdate_fixed (s : State) : (ioUpdate s).fixed = s.fixed := by
  unfold ioUpdate
  simp [applyOutputs_fixed, reportField_fixed, setFault_fixed, foldl_fixed]

theorem moorCycles_fixed (s : State) : (moorCycles s).fixed = s.fixed := by
  unfold moorCycles
  split
  · refine foldl_fixed _ (fun s a => ?_) _ _
    obtain ⟨k, i⟩ := a
    exact State.updMoor_fixed _ _
  · rfl

theorem mergeEnd_fixed (a0 : Nat) (s : State) : (mergeEnd a0 s).fixed = s.fixed := by
  unfold mergeEnd
  refine (foldl_fixed _ (fun s a => ?_) _ _).trans ?_ <;> (try simp only []) <;> (repeat' split) <;>
    first
    | with_reducible rfl
    | (simp [State.updMeter_fixed, foldl_fixed]; done)
    | (simp_all [State.updMeter_fixed, foldl_fixed]; done)

theorem pulseChange_fixed (a0 : Nat) (a1 : Bool) (s : State) : (pulseChange a0 a1 s).fixed = s.fixed := by
  unfold pulseChange
  refine (foldl_fixed _ (fun s a => ?_) _ _).trans ?_ <;> (try simp only []) <;> (repeat' split) <;>
    first
    | with_reducible rfl
    | (simp [State.updMeter_fixed, foldl_fixed]; done)
    | (simp_all [State.updMeter_fixed, foldl_fixed]; done)

theorem presetMeter_fixed (a0 : Nat) (a1 : Nat) (s : State) : (presetMeter a0 a1 s).fixed = s.fixed := by
  unfold presetMeter
  simp [meterCommand_fixed, foldl_fixed]

theorem readbackDiffers_fixed (a0 : Nat) (s : State) : (readbackDiffers a0 s).fixed = s.fixed := by
  unfold readbackDiffers
  simp [reportField_fixed, setFault_fixed, foldl_fixed]

theorem thermalTrip_fixed (a0 : Nat) (s : State) : (thermalTrip a0 s).fixed = s.fixed := by
  unfold thermalTrip
  simp [applyOutputs_fixed, setFault_fixed, foldl_fixed]

theorem thermalCooled_fixed (a0 : Nat) (s : State) : (thermalCooled a0 s).fixed = s.fixed := by
  unfold thermalCooled
  simp [applyOutputs_fixed, foldl_fixed]

theorem groupExpired_fixed (a0 : Nat) (s : State) : (groupExpired a0 s).fixed = s.fixed := by
  unfold groupExpired
  simp [applyOutputs_fixed, setFault_fixed, foldl_fixed]

theorem supplyLost_fixed (a0 : Nat) (s : State) : (supplyLost a0 s).fixed = s.fixed := by
  unfold supplyLost
  simp [applyOutputs_fixed, setFault_fixed, foldl_fixed]

theorem supplyBack_fixed (a0 : Nat) (s : State) : (supplyBack a0 s).fixed = s.fixed := by
  unfold supplyBack
  simp [applyOutputs_fixed, foldl_fixed]

theorem hostFlush_fixed (s : State) : (hostFlush s).fixed = s.fixed := by
  unfold hostFlush
  simp [startFlush_fixed, foldl_fixed]

theorem startExtract_fixed (s : State) : (startExtract s).fixed = s.fixed := by
  unfold startExtract
  (repeat' split) <;>
    first
    | with_reducible rfl
    | (simp [foldl_fixed]; done)
    | (simp_all [foldl_fixed]; done)

theorem servePeerOk_fixed (s : State) : (servePeerOk s).fixed = s.fixed := by
  unfold servePeerOk
  simp [foldl_fixed]

theorem keyCommand_fixed (f : State → KeyAnswer) (s : State) : (keyCommand f s).fixed = s.fixed := by
  unfold keyCommand
  (repeat' split) <;> rfl

theorem keyEvents_fixed (a0 : KeyEffect) (s : State) : (keyEvents a0 s).fixed = s.fixed := by
  unfold keyEvents
  (repeat' split) <;>
    first
    | with_reducible rfl
    | (simp [raise_fixed, foldl_fixed]; done)
    | (simp_all [raise_fixed, foldl_fixed]; done)

theorem monitorTrip_fixed (a0 : MonClock) (s : State) : (monitorTrip a0 s).fixed = s.fixed := by
  unfold monitorTrip
  simp [raise_fixed, foldl_fixed]

theorem switchReference_fixed (s : State) : (switchReference s).fixed = s.fixed := by
  unfold switchReference
  simp [foldl_fixed]

theorem startMeasure_fixed (s : State) : (startMeasure s).fixed = s.fixed := by
  unfold startMeasure
  simp [foldl_fixed]

theorem failMeasure_fixed (s : State) : (failMeasure s).fixed = s.fixed := by
  unfold failMeasure
  simp [foldl_fixed]

theorem spiTransaction_fixed (f : State → State) (h : ∀ s, (f s).fixed = s.fixed) (s : State) :
    (spiTransaction f s).fixed = s.fixed := by
  unfold spiTransaction
  simp only []
  split <;> simp only [h, wakeUp_fixed]

theorem portStatus_fixed (a0 : Nat) (s : State) : (portStatus a0 s).fixed = s.fixed := by
  unfold portStatus
  simp [foldl_fixed]

theorem spiRead_fixed (a : Word) (n : Nat) (s : State) : (spiRead a n s).fixed = s.fixed := by
  unfold spiRead
  split
  · exact readRegs_fixed _ _ _ _
  · simp [portStatus_fixed]

theorem spiReadTimeout_fixed (a0 : Word) (s : State) : (spiReadTimeout a0 s).fixed = s.fixed := by
  unfold spiReadTimeout
  simp [portStatus_fixed, foldl_fixed]

theorem flashCommand_fixed (a0 : FlashOp) (a1 : Nat) (a2 : Byte) (s : State) : (flashCommand a0 a1 a2 s).fixed =
    s.fixed := by
  unfold flashCommand
  simp [foldl_fixed]

theorem flashReadCommand_fixed (s : State) : (flashReadCommand s).fixed = s.fixed := by
  unfold flashReadCommand
  simp [flashCommand_fixed, foldl_fixed]

theorem flashProgramCommand_fixed (s : State) : (flashProgramCommand s).fixed = s.fixed := by
  unfold flashProgramCommand
  simp [flashCommand_fixed, foldl_fixed]

theorem flashEraseCommand_fixed (s : State) : (flashEraseCommand s).fixed = s.fixed := by
  unfold flashEraseCommand
  simp [flashCommand_fixed, foldl_fixed]

theorem modeControl_fixed (a0 : Nat) (s : State) : (modeControl a0 s).fixed = s.fixed := by
  unfold modeControl
  (repeat' split) <;>
    first
    | with_reducible rfl
    | (simp [enterSleep_fixed, enterDeep_fixed, foldl_fixed]; done)
    | (simp_all [enterSleep_fixed, enterDeep_fixed, foldl_fixed]; done)

theorem spiStatus_fixed (s : State) : (spiStatus s).fixed = s.fixed := by
  unfold spiStatus
  simp [foldl_fixed]

theorem openSession_fixed (a0 : Bytes) (a1 : Setup) (s : State) : (openSession a0 a1 s).fixed = s.fixed := by
  unfold openSession
  simp [raise_fixed, foldl_fixed]

theorem proveFrame_fixed (a0 : Nat) (a1 : Word) (a2 : Bytes) (s : State) : (proveFrame a0 a1 a2 s).fixed = s.fixed :=
    by
  unfold proveFrame
  (repeat' split) <;>
    first
    | with_reducible rfl
    | (simp [sendMgmt_fixed, openSession_fixed, refuseMgmt_fixed, authFails_fixed, foldl_fixed]; done)
    | (simp_all [sendMgmt_fixed, openSession_fixed, refuseMgmt_fixed, authFails_fixed, foldl_fixed]; done)

theorem mgmtRead_fixed (g : MgmtHead) (a : Word) (n : BitVec 16) (s : State) : (mgmtRead g a n s).fixed = s.fixed :=
    by
  unfold mgmtRead
  refine mgmtRequest_fixed _ _ _ _ (fun x s => ?_) _
  simp only []
  split
  · rw [replyMgmt_fixed]
    exact readRegs_fixed _ _ _ _
  · rw [replyMgmt_fixed]

theorem linkUp_fixed (s : State) : (linkUp s).fixed = s.fixed := by
  unfold linkUp
  simp [raise_fixed, freeChoice_fixed, foldl_fixed]

theorem peerOkChange_fixed (a0 : Bool) (s : State) : (peerOkChange a0 s).fixed = s.fixed := by
  unfold peerOkChange
  simp [applyOutputs_fixed, foldl_fixed]

theorem holdFalls_fixed (s : State) : (holdFalls s).fixed = s.fixed := by
  unfold holdFalls
  simp [foldl_fixed]

theorem spiIgnored_fixed (a0 : Byte) (s : State) : (spiIgnored a0 s).fixed = s.fixed := by
  unfold spiIgnored
  simp [portStatus_fixed, foldl_fixed]

theorem outputsOff_fixed (s : State) : (outputsOff s).fixed = s.fixed := by
  unfold outputsOff
  simp [foldl_fixed]
end Sys2Proof.Machine
end

