-- ==== Sys2Proof/Laws/Store.lean ====
section
/-! SUPPORT. Laws of the tables and byte memories: a read after a write, and the canonical form that every write
keeps. -/

namespace Sys2Proof.Machine

variable {α : Type}

/-- Every key of a table lies above `lo`, in rising order. -/
theorem Store.rising_some_iff (lo : Nat) (m : Store α) :
    Store.rising (some lo) m = true ↔ Store.rising none m = true ∧ ∀ e ∈ m, lo < e.1 := by
  induction m generalizing lo with
  | nil => simp [Store.rising]
  | cons e r ih =>
    obtain ⟨k, v⟩ := e
    simp only [Store.rising, Bool.and_eq_true, decide_eq_true_eq, List.mem_cons, forall_eq_or_imp]
    constructor
    · rintro ⟨h, hr⟩
      exact ⟨hr, h, fun e he => Nat.lt_trans h (((ih k).1 hr).2 e he)⟩
    · rintro ⟨hr, h, -⟩
      exact ⟨h, hr⟩

theorem Store.rising_cons (k : Nat) (v : α) (r : Store α) :
    Store.rising none ((k, v) :: r) = true ↔ Store.rising none r = true ∧ ∀ e ∈ r, k < e.1 := by
  simpa [Store.rising] using Store.rising_some_iff k r

theorem Store.mem_insert (m : Store α) (a : Nat) (v : α) (e : Nat × α) (h : e ∈ Store.insert m a v) :
    e = (a, v) ∨ e ∈ m := by
  induction m with
  | nil => simpa [Store.insert] using h
  | cons x r ih =>
    obtain ⟨k, w⟩ := x
    simp only [Store.insert] at h
    split at h
    · simpa using h
    · split at h
      · rcases List.mem_cons.1 h with h | h
        · exact .inl h
        · exact .inr (List.mem_cons_of_mem _ h)
      · rcases List.mem_cons.1 h with h | h
        · exact .inr (by simp [h])
        · exact (ih h).imp id (List.mem_cons_of_mem _)

theorem Store.rising_insert (m : Store α) (a : Nat) (v : α) (h : Store.rising none m = true) :
    Store.rising none (Store.insert m a v) = true := by
  induction m with
  | nil => rfl
  | cons x r ih =>
    obtain ⟨k, w⟩ := x
    have hc := (Store.rising_cons k w r).1 h
    simp only [Store.insert]
    split
    · rename_i hlt
      refine (Store.rising_cons _ _ _).2 ⟨h, fun e he => ?_⟩
      rcases List.mem_cons.1 he with he | he
      · simpa [he] using hlt
      · exact Nat.lt_trans hlt (hc.2 e he)
    · split
      · rename_i heq
        exact (Store.rising_cons _ _ _).2 ⟨hc.1, by rw [heq]; exact hc.2⟩
      · rename_i hge hne
        refine (Store.rising_cons _ _ _).2 ⟨ih hc.1, fun e he => ?_⟩
        rcases Store.mem_insert r a v e he with he | he
        · subst he; show k < a; omega
        · exact hc.2 e he

theorem Store.mem_erase (m : Store α) (a : Nat) (e : Nat × α) (h : e ∈ Store.erase m a) : e ∈ m := by
  induction m with
  | nil => exact h
  | cons x r ih =>
    obtain ⟨k, w⟩ := x
    simp only [Store.erase] at h
    split at h
    · exact List.mem_cons_of_mem _ (ih h)
    · rcases List.mem_cons.1 h with h | h
      · simp [h]
      · exact List.mem_cons_of_mem _ (ih h)

theorem Store.rising_erase (m : Store α) (a : Nat) (h : Store.rising none m = true) :
    Store.rising none (Store.erase m a) = true := by
  induction m with
  | nil => rfl
  | cons x r ih =>
    obtain ⟨k, w⟩ := x
    have hc := (Store.rising_cons k w r).1 h
    simp only [Store.erase]
    split
    · exact ih hc.1
    · exact (Store.rising_cons _ _ _).2 ⟨ih hc.1, fun e he => hc.2 e (Store.mem_erase r a e he)⟩

/-- A write keeps the canonical form. -/
theorem Memory.wf_set [DecidableEq α] (d : α) (m : Store α) (a : Nat) (v : α) (h : Memory.wf d m = true) :
    Memory.wf d (Store.set d m a v) = true := by
  simp only [Memory.wf, Bool.and_eq_true, List.all_eq_true, decide_eq_true_eq] at h ⊢
  unfold Store.set
  split
  · exact ⟨Store.rising_erase m a h.1, fun e he => h.2 e (Store.mem_erase m a e he)⟩
  · rename_i hv
    refine ⟨Store.rising_insert m a v h.1, fun e he => ?_⟩
    rcases Store.mem_insert m a v e he with he | he
    · simpa [he] using hv
    · exact h.2 e he

/-- Writing consecutive entries keeps the canonical form. -/
theorem Memory.wf_setMany [DecidableEq α] (d : α) (m : Store α) (a : Nat) (l : List α) (h : Memory.wf d m = true) :
    Memory.wf d (Store.setMany d m a l) = true := by
  induction l generalizing m a with
  | nil => exact h
  | cons v r ih => exact ih _ _ (Memory.wf_set d m a v h)

theorem Store.rising_filter (m : Store α) (p : Nat × α → Bool) (h : Store.rising none m = true) :
    Store.rising none (m.filter p) = true := by
  induction m with
  | nil => rfl
  | cons x r ih =>
    obtain ⟨k, w⟩ := x
    have hc := (Store.rising_cons k w r).1 h
    rw [List.filter_cons]
    split
    · exact (Store.rising_cons _ _ _).2 ⟨ih hc.1, fun e he => hc.2 e (List.mem_filter.1 he).1⟩
    · exact ih hc.1

/-- Dropping entries keeps the canonical form. -/
theorem Memory.wf_filter [DecidableEq α] (d : α) (m : Store α) (p : Nat × α → Bool) (h : Memory.wf d m = true) :
    Memory.wf d (m.filter p) = true := by
  simp only [Memory.wf, Bool.and_eq_true, List.all_eq_true, decide_eq_true_eq] at h ⊢
  exact ⟨Store.rising_filter m p h.1, fun e he => h.2 e (List.mem_filter.1 he).1⟩

@[simp] theorem Memory.wf_nil [DecidableEq α] (d : α) : Memory.wf d ([] : Store α) = true := rfl

theorem Store.get_of_forall_lt (d : α) (m : Store α) (a : Nat) (h : ∀ e ∈ m, a < e.1) : Store.get d m a = d := by
  induction m with
  | nil => rfl
  | cons x r ih =>
    obtain ⟨k, w⟩ := x
    have hk : a < k := h (k, w) (by simp)
    simp only [Store.get]
    rw [if_neg (by omega)]
    exact ih fun e he => h e (List.mem_cons_of_mem _ he)

theorem Store.get_insert (d : α) (m : Store α) (a b : Nat) (v : α) :
    Store.get d (Store.insert m a v) b = if a = b then v else Store.get d m b := by
  induction m with
  | nil => simp [Store.insert, Store.get]
  | cons x r ih =>
    obtain ⟨k, w⟩ := x
    simp only [Store.insert]
    split
    · simp only [Store.get]
    · split
      · rename_i h
        simp only [Store.get, h]
        split <;> simp_all
      · rename_i h h'
        simp only [Store.get, ih]
        split
        · split
          · omega
          · rfl
        · rfl

theorem Store.get_erase (d : α) (m : Store α) (a b : Nat) :
    Store.get d (Store.erase m a) b = if a = b then d else Store.get d m b := by
  induction m with
  | nil => simp [Store.erase, Store.get]
  | cons x r ih =>
    obtain ⟨k, w⟩ := x
    simp only [Store.erase]
    split
    · rename_i h
      rw [ih]
      simp only [Store.get]
      split
      · rfl
      · rw [if_neg (by omega)]
    · rename_i h
      simp only [Store.get, ih]
      split
      · rw [if_neg (by omega)]
      · rfl

/-- A read after a write. -/
theorem Store.get_set [DecidableEq α] (d : α) (m : Store α) (a b : Nat) (v : α) :
    Store.get d (Store.set d m a v) b = if a = b then v else Store.get d m b := by
  unfold Store.set
  split
  · rename_i h
    rw [Store.get_erase, h]
  · exact Store.get_insert d m a b v

@[simp] theorem Store.get_set_same [DecidableEq α] (d : α) (m : Store α) (a : Nat) (v : α) :
    Store.get d (Store.set d m a v) a = v := by simp [Store.get_set]

theorem Store.get_set_other [DecidableEq α] (d : α) (m : Store α) (a b : Nat) (v : α) (h : a ≠ b) :
    Store.get d (Store.set d m a v) b = Store.get d m b := by simp [Store.get_set, h]

@[simp] theorem Store.get_upd_same [DecidableEq α] (d : α) (m : Store α) (a : Nat) (f : α → α) :
    Store.get d (Store.upd d m a f) a = f (Store.get d m a) := by simp [Store.upd]

theorem Store.get_upd_other [DecidableEq α] (d : α) (m : Store α) (a b : Nat) (f : α → α) (h : a ≠ b) :
    Store.get d (Store.upd d m a f) b = Store.get d m b := by simp [Store.upd, Store.get_set, h]

/-- A read outside the entries written. -/
theorem Store.get_setMany_outside [DecidableEq α] (d : α) (m : Store α) (a b : Nat) (l : List α)
    (h : b < a ∨ a + l.length ≤ b) : Store.get d (Store.setMany d m a l) b = Store.get d m b := by
  induction l generalizing m a with
  | nil => rfl
  | cons v r ih =>
    simp only [List.length_cons] at h
    simp only [Store.setMany]
    rw [ih _ _ (by omega), Store.get_set_other _ _ _ _ _ (by omega)]

/-- A read inside the entries written. -/
theorem Store.get_setMany_inside [DecidableEq α] (d : α) (m : Store α) (a i : Nat) (l : List α) (h : i < l.length) :
    Store.get d (Store.setMany d m a l) (a + i) = l[i] := by
  induction l generalizing m a i with
  | nil => simp at h
  | cons v r ih =>
    simp only [Store.setMany]
    cases i with
    | zero => rw [Store.get_setMany_outside _ _ _ _ _ (by omega)]; simp
    | succ j =>
      have : a + (j + 1) = a + 1 + j := by omega
      rw [this, ih _ _ _ (by simpa using h)]
      simp

/-- An operation on the configuration flash keeps its canonical form. -/
theorem flashWrite_wf (a : Nat) (b : Bytes) (s : State) (h : Memory.wf 0xFF s.flash = true) :
    Memory.wf 0xFF (flashWrite a b s).flash = true := Memory.wf_setMany _ _ _ _ h

theorem flashErase_wf (a n : Nat) (s : State) (h : Memory.wf 0xFF s.flash = true) :
    Memory.wf 0xFF (flashErase a n s).flash = true := Memory.wf_filter _ _ _ h

/-- What an erase leaves: the range reads 0xFF, and every other byte as before. -/
theorem flashErase_get (a n b : Nat) (s : State) :
    Store.get 0xFF (flashErase a n s).flash b = if a ≤ b ∧ b < a + n then 0xFF else Store.get 0xFF s.flash b := by
  unfold flashErase
  simp only
  generalize s.flash = m
  induction m with
  | nil => simp [Store.get]
  | cons x r ih =>
    obtain ⟨k, w⟩ := x
    rw [List.filter_cons]
    by_cases hk : k < a ∨ a + n ≤ k
    · simp only [hk, decide_true, if_true, Store.get]
      split
      · rename_i h; rw [if_neg (by omega)]
      · exact ih
    · simp only [hk, decide_false, Store.get]
      rw [if_neg (by simp), ih]
      by_cases hb : a ≤ b ∧ b < a + n
      · simp [hb]
      · rw [if_neg hb, if_neg hb, if_neg (by omega)]

end Sys2Proof.Machine
end

