-- ==== Sys2Proof/Laws/Grows.lean ====
section
/-! SUPPORT. What the operations that change flash or fuses keep: the waiting commands, the flash's canonical form, and a
fuse count that only rises, to 64 at most. -/

namespace Sys2Proof.Machine

open Sys2Proof

/-- What every operation keeps. -/
structure Grows (s t : State) : Prop where
  pending : t.pending = s.pending
  fuses : s.fuses ≤ t.fuses
  top : t.fuses ≤ max s.fuses 64
  flash : Memory.wf 0xFF s.flash = true → Memory.wf 0xFF t.flash = true

theorem Grows.refl (s : State) : Grows s s := ⟨rfl, Nat.le_refl _, Nat.le_max_left _ _, id⟩

theorem Grows.trans {s t u : State} (h : Grows s t) (g : Grows t u) : Grows s u :=
  ⟨g.pending.trans h.pending, Nat.le_trans h.fuses g.fuses,
    Nat.le_trans g.top (Nat.max_le.2 ⟨h.top, Nat.le_max_right _ _⟩), fun x => g.flash (h.flash x)⟩

theorem Grows.of_fixed {s t : State} (h : t.fixed = s.fixed) : Grows s t := by
  simp only [State.fixed, Prod.mk.injEq] at h
  exact ⟨h.1, Nat.le_of_eq h.2.2.symm, h.2.2 ▸ Nat.le_max_left _ _, fun x => h.2.1 ▸ x⟩

/-- Grow, then leave as it is. -/
theorem Grows.then_fixed {s t u : State} (h : Grows s t) (g : u.fixed = t.fixed) : Grows s u := h.trans (.of_fixed g)

/-- Leave as it is, then grow. -/
theorem Grows.after_fixed {s t u : State} (g : t.fixed = s.fixed) (h : Grows t u) : Grows s u := (Grows.of_fixed g).trans h

theorem flashWrite_grows (a : Nat) (b : Bytes) (s : State) : Grows s (flashWrite a b s) :=
  ⟨rfl, Nat.le_refl _, Nat.le_max_left _ _, Memory.wf_setMany _ _ _ _⟩

theorem flashErase_grows (a n : Nat) (s : State) : Grows s (flashErase a n s) :=
  ⟨rfl, Nat.le_refl _, Nat.le_max_left _ _, Memory.wf_filter _ _ _⟩

theorem keyEffect_grows (e : KeyEffect) (s : State) : Grows s (keyEffect e s) := by
  cases e with
  | fuse => exact ⟨rfl, Nat.le_max_left _ _, by simp only [keyEffect]; omega, id⟩
  | load b k =>
    unfold keyEffect
    simp only []
    split <;> exact .of_fixed rfl
  | install p rx sc an k => exact .of_fixed rfl
  | none => exact .refl _
  | blob b => exact .of_fixed rfl
  | arm h => exact .of_fixed rfl

theorem keyDone_grows (s : State) : Grows s (keyDone s) := by
  unfold keyDone
  split
  · exact .refl _
  · exact (keyEffect_grows _ _).then_fixed ((State.updKeys_fixed _ _).trans (keyEvents_fixed _ _))

theorem tearFlash_grows (s : State) : Grows s (tearFlash s) := by
  unfold tearFlash
  split
  · exact ⟨rfl, Nat.le_refl _, Nat.le_max_left _ _, Memory.wf_setMany _ _ _ _⟩
  · exact ⟨rfl, Nat.le_refl _, Nat.le_max_left _ _, Memory.wf_setMany _ _ _ _⟩
  · exact .refl _

theorem tearFuses_grows (s : State) : Grows s (tearFuses s) := by
  unfold tearFuses
  split
  · refine ⟨rfl, Nat.le_add_right _ _, ?_, id⟩
    simp only [freeChoice, drawFree]
    have := Nat.mod_lt (Config.free s.draws) (y := min 64 s.keys.fwSv.toNat - s.fuses + 1) (by omega)
    omega
  · exact .refl _

theorem cutOff_grows (s : State) : Grows s (cutOff s) := by
  unfold cutOff
  refine Grows.after_fixed ?_ ((tearFlash_grows _).trans (tearFuses_grows _))
  simp [tearCheckpoint_fixed, abandonSave_fixed]

theorem bare_grows (s : State) : Grows s (bare s) := ⟨rfl, Nat.le_refl _, Nat.le_max_left _ _, id⟩

theorem resetDie_grows (s : State) : Grows s (resetDie s) := (cutOff_grows s).trans (bare_grows _)

theorem startOrHold_grows (s : State) : Grows s (startOrHold s) := by
  unfold startOrHold
  refine Grows.after_fixed (powerUp_fixed s) ((resetDie_grows _).then_fixed ?_)
  simp only []
  split
  · exact startInstant_fixed _ _
  · rfl

theorem vinValid_grows (s : State) : Grows s (vinValid s) := by
  unfold vinValid
  split
  · exact startOrHold_grows s
  · exact startOrHold_grows s
  · split
    · exact .refl _
    · exact startOrHold_grows s
  · exact .of_fixed rfl

theorem resetGiving_grows (s : State) : Grows s (resetGiving s) := by
  unfold resetGiving
  refine Grows.after_fixed (takeFirst_fixed s) ((resetDie_grows _).then_fixed ?_)
  split <;> rfl

theorem resetAssert_grows (s : State) : Grows s (resetAssert s) := by
  unfold resetAssert
  extract_lets s1
  refine Grows.after_fixed (t := s1) rfl ?_
  clear_value s1
  split
  all_goals first
    | exact .refl _
    | exact (resetGiving_grows _).then_fixed (State.updStart_fixed _ _)
    | exact (resetDie_grows _).then_fixed (State.updStart_fixed _ _)

theorem watchdogExpiry_grows (s : State) : Grows s (watchdogExpiry s) :=
  (resetGiving_grows s).then_fixed (startInstant_fixed _ _)

theorem vinBelowReset_grows (s : State) : Grows s (vinBelowReset s) := by
  unfold vinBelowReset
  extract_lets s1
  refine Grows.after_fixed (t := s1) rfl ?_
  clear_value s1
  split <;> first | exact .refl _ | exact resetDie_grows _

theorem beginFlush_grows (s : State) : Grows s (beginFlush s) := by
  unfold beginFlush
  simp only []
  refine Grows.after_fixed (t := abandonScans (updPorts (fun x => { x with q0 := [], q1 := [], q2 := [], q3 := [] }) s))
    rfl ((cutOff_grows _).then_fixed ?_)
  simp [beginRetained_fixed, haltSolver_fixed]

theorem warnedFlush_grows (v : BitVec 16) (h : Bool) (s : State) : Grows s (warnedFlush v h s) := by
  unfold warnedFlush
  extract_lets give s1 n s2 s3 s4
  have h4 : s4.fixed = s.fixed := by
    simp only [s4, s3, s2, s1, raise_fixed, addRec_fixed, State.updDev_fixed, State.updStart_fixed, State.updFio_fixed,
      takeFirst_fixed]
  exact Grows.after_fixed h4 ((beginFlush_grows _).then_fixed (applyOutputs_fixed _))

theorem pfailWarn_grows (v : BitVec 16) (h : Bool) (s : State) : Grows s (pfailWarn v h s) := by
  unfold pfailWarn
  split
  · exact warnedFlush_grows v h s
  · exact .refl _

theorem hostRestart_grows (c : Cause) (s : State) : Grows s (hostRestart c s) := by
  unfold hostRestart
  refine Grows.after_fixed (t := (drawFree (settleEvents (takeFirst s))).2) ?_ ?_
  · exact (drawFree_fixed _).trans ((settleEvents_fixed _).trans (takeFirst_fixed s))
  · exact (beginFlush_grows _).trans ((Grows.of_fixed (completeFlush_fixed _ _)).trans
      ((bare_grows _).then_fixed (startInstant_fixed _ _)))

theorem restartKind_grows (k : Nat) (s : State) : Grows s (restartKind k s) := by
  unfold restartKind
  split <;> first | exact hostRestart_grows _ _ | exact .refl _

theorem loopFails_grows (c : MonClock) (s : State) : Grows s (loopFails c s) := by
  unfold loopFails
  split
  · exact .refl _
  · split
    · exact Grows.after_fixed ((raise_fixed _ _ _).trans (State.updClk_fixed _ _)) (hostRestart_grows _ _)
    · exact .refl _

theorem flashEffect_grows (o : FlashOp) (s : State) : Grows s (flashEffect o s) := by
  cases o with
  | read => exact .of_fixed rfl
  | erase => exact flashErase_grows _ _ _
  | program => exact Grows.after_fixed (programmed_fixed _ _ _) (flashWrite_grows _ _ _)

theorem flashTorn_grows (o : FlashOp) (s : State) : Grows s (flashTorn o s) := by
  cases o with
  | read => exact .refl _
  | erase => exact Grows.after_fixed (drawFree_fixed s) (flashWrite_grows _ _ _)
  | program => exact Grows.after_fixed (drawFree_fixed s) (flashWrite_grows _ _ _)

theorem flashDone_grows (ok : Bool) (s : State) : Grows s (flashDone ok s) := by
  unfold flashDone
  split
  · exact .refl _
  · split
    · exact (flashEffect_grows _ _).then_fixed (flashEnds_fixed _ _)
    · exact (flashTorn_grows _ _).then_fixed (flashEnds_fixed _ _)

theorem writePointer_grows (ok : Bool) (p : Pointer) (s : State) : Grows s (writePointer ok p s) := by
  unfold writePointer
  simp only []
  split
  · exact ((flashErase_grows _ _ _).trans (flashWrite_grows _ _ _)).then_fixed (State.updStart_fixed _ _)
  · exact Grows.after_fixed (drawBytes_fixed 64 s) ((flashErase_grows _ _ _).trans (flashWrite_grows _ _ _))

theorem acceptSlot_grows (f : Option Nat) (ok : Bool) (p : Pointer) (s : State) : Grows s (acceptSlot f ok p s) := by
  unfold acceptSlot
  extract_lets slot seq
  split
  · exact .of_fixed (by simp [flashEnds_fixed, refuseManifest_fixed, showVerify_fixed])
  · rename_i q back s1 _ _ _
    have h : Grows s s1 := Grows.after_fixed (showVerify_fixed _ _ _ _ _) (writePointer_grows _ _ _)
    clear_value s1
    refine h.then_fixed ?_
    split <;> simp [flashEnds_fixed, settleAdoption_fixed, adopt_fixed, refuseManifest_fixed]

theorem acceptOther_grows (f : Option Nat) (ok : Bool) (s : State) : Grows s (acceptOther f ok s) := by
  unfold acceptOther
  split
  · exact .of_fixed rfl
  · split
    · exact .of_fixed rfl
    · split
      · exact .of_fixed rfl
      · split
        · exact Grows.after_fixed (State.updHst_fixed _ _) (acceptSlot_grows _ _ _ _)
        · exact .of_fixed (by simp [flashEnds_fixed, refuseManifest_fixed])

theorem flashControl_grows (b : Nat) (s : State) : Grows s (flashControl b s) := by
  unfold flashControl
  split
  all_goals first
    | exact .of_fixed (flashReadCommand_fixed _)
    | exact .of_fixed (flashProgramCommand_fixed _)
    | exact .of_fixed (flashEraseCommand_fixed _)
    | exact acceptOther_grows _ _ _
    | exact .refl _

/-- The two ways an if gives an answer. -/
theorem ite_cases {α : Type} {c : Prop} [Decidable c] {x y z : α} (h : (if c then x else y) = z) : x = z ∨ y = z := by
  split at h
  · exact .inl h
  · exact .inr h

theorem keyedCommand_grows (p : Path) (a v : Word) (k : Nat) (f : State → State) (h : keyedCommand p a v = some (k, f))
    (s : State) : Grows s (f s) := by
  unfold keyedCommand at h
  rcases ite_cases h with h | h
  · cases h
    exact restartKind_grows _ _
  rcases ite_cases h with h | h
  · cases h
    exact flashControl_grows _ _
  rcases ite_cases h with h | h
  · cases h
    exact .of_fixed (modeControl_fixed _ _)
  rcases ite_cases h with h | h
  · cases h
    split <;> exact .of_fixed (by simp [hostFlush_fixed, startExtract_fixed])
  rcases ite_cases h with h | h
  · cases h
    split <;> exact .of_fixed (by simp [keyCommand_fixed])
  rcases ite_cases h with h | h
  · cases h
    exact .of_fixed (by simp [hostStep_fixed])
  rcases ite_cases h with h | h
  · cases h
    exact .of_fixed (by simp [rejoinCommand_fixed])
  rcases ite_cases h with h | h
  · cases h
    split <;> exact .of_fixed (by simp [switchCommand_fixed, resyncCommand_fixed])
  rcases ite_cases h with h | h
  · cases h
    split <;> exact .of_fixed (by simp [clearMeter_fixed, presetMeter_fixed])
  rcases ite_cases h with h | h
  · cases h
    split <;> exact .of_fixed (by simp [forceSet_fixed, forceClear_fixed, forceClearAll_fixed])
  rcases ite_cases h with h | h
  · cases h
    split <;> exact .of_fixed (by simp [testStart_fixed, testStop_fixed])
  rcases ite_cases h with h | h
  · cases h
    split <;> exact .of_fixed (by simp [captureArm_fixed, captureStop_fixed])
  cases h

theorem plainCommand_fixed (p : Path) (a v : Word) (s t : State) (h : plainCommand p a v s = some t) : t.fixed = s.fixed := by
  unfold plainCommand at h
  simp only [] at h
  repeat' split at h
  all_goals simp only [Option.some.injEq, reduceCtorEq] at h
  all_goals subst h
  all_goals simp [startMeasure_fixed, calControl_fixed, selectAn_fixed]

theorem writeWord_grows (p : Path) (a v : Word) (s : State) : Grows s (writeWord p a v s) := by
  unfold writeWord
  split
  · rename_i h
    exact .of_fixed (plainCommand_fixed _ _ _ _ _ h)
  · split
    · rename_i h
      split
      · exact keyedCommand_grows _ _ _ _ _ h _
      · exact .refl _
    · exact .of_fixed (dataWrite_fixed _ _ _ _)

theorem writeRegs_grows (p : Path) (g : State → Bool) (l : List Word) (a : Word) (s : State) :
    Grows s (writeRegs p g l a s) := by
  induction l generalizing a s with
  | nil => exact .refl _
  | cons v l ih =>
    simp only [writeRegs]
    split
    · exact (writeWord_grows _ _ _ _).trans (ih _ _)
    · exact .refl _

theorem registerWrite_grows (p : Path) (a v : Word) (s : State) : Grows s (registerWrite p a v s) := by
  unfold registerWrite
  (repeat' split) <;> first | exact writeWord_grows _ _ _ _ | exact .refl _ | exact .of_fixed (by simp [portStatus_fixed])

theorem spiWrite_grows (a : Word) (l : List Word) (b : Bool) (s : State) : Grows s (spiWrite a l b s) := by
  unfold spiWrite
  extract_lets s1
  refine Grows.after_fixed (t := s1) rfl ?_
  clear_value s1
  split
  · refine (writeRegs_grows .spi spiServed l a s1).then_fixed ?_
    simp only [ite_fixed, portStatus_fixed, ite_self]
    rfl
  · exact .of_fixed (portStatus_fixed _ _)

theorem spiTransaction_grows (f : State → State) (h : ∀ s, Grows s (f s)) (s : State) : Grows s (spiTransaction f s) := by
  unfold spiTransaction
  extract_lets b s1
  refine Grows.after_fixed (t := s1) (wakeUp_fixed _ _) ?_
  clear_value s1
  split
  · exact h _
  · exact .refl _

theorem mgmtRequest_grows (k : Byte) (g : MgmtHead) (p : Bytes) (f : Session → State → State)
    (h : ∀ x s, Grows s (f x s)) (s : State) : Grows s (mgmtRequest k g p f s) := by
  unfold mgmtRequest
  (repeat' split) <;> first
    | exact .refl _
    | exact .of_fixed (authFails_fixed _)
    | exact Grows.after_fixed (State.updHst_fixed _ _) (h _ _)

theorem mgmtWrite_grows (g : MgmtHead) (a : Word) (n : BitVec 16) (l : List Word) (s : State) :
    Grows s (mgmtWrite g a n l s) := by
  unfold mgmtWrite
  split
  · exact .refl _
  · refine mgmtRequest_grows _ _ _ _ (fun x s => ?_) _
    extract_lets st
    split
    · refine (writeRegs_grows .mgmt (fun s => s.hst.session.isSome) l a s).then_fixed ?_
      simp only [ite_fixed, replyMgmt_fixed, ite_self]
      rfl
    · exact .of_fixed (replyMgmt_fixed _ _ _ _ _ _ _)

theorem clearSent_grows (s : State) : Grows s (clearSent s) := .of_fixed rfl

/-- Every effect run by a command, with its edge. -/
theorem act_grows {s t : State} {f : State → State} (h : act s f = .next t) (g : ∀ s, Grows s (f s)) : Grows s t := by
  cases h
  exact ((clearSent_grows s).trans (g _)).then_fixed (settle_fixed _)

theorem actOn_grows {s t : State} {f : State → State} (h : actOn s f = .next t) (g : ∀ s, Grows s (f s)) : Grows s t := by
  unfold actOn at h
  split at h
  · exact act_grows h g
  · cases h
    exact .refl _

theorem actKey_grows {s t : State} {k w : BitVec 16} {f : State → State} (h : actKey s k w f = .next t)
    (g : ∀ s, Grows s (f s)) : Grows s t := by
  unfold actKey at h
  split at h
  · exact actOn_grows h g
  · cases h
    exact .refl _

end Sys2Proof.Machine
end

