-- ==== Sys2Proof/Laws/Still.lean ====
section
/-! SUPPORT. The blocks that the end of an edge leaves as they are. One lemma for each operation of the end of an edge. -/

namespace Sys2Proof.Machine

open Sys2Proof

/-- The blocks that the end of an edge leaves as they are; of MRAM all but the tally of dropped records, of
the placement all but the scans that each pair has run. -/
structure Still where
  pins : Pins
  flash : Store Byte
  fuses : Nat
  cal : Cal
  start : Start
  moor : Moor
  clk : Clk
  stg : CalStg
  tide : Tide
  fio : Fio
  mtr : Mtr
  hst : Hst
  ports : Store Port
  ntime : Ntime
  keys : Keys
  place : Place
  draws : Nat
  man : Option Manifest
  pending : List Instr
  mram : Mram

/-- Those blocks of a state. -/
def State.still (s : State) : Still :=
  ⟨s.pins, s.flash, s.fuses, s.cal, s.start, s.moor, s.clk, s.stg, s.tide, s.fio, s.mtr, s.hst, s.ports, s.ntime,
      s.keys,
    { s.place with pairScans := [] }, s.draws, s.man, s.pending, { s.mram with dev := { s.mram.dev with drops := 0 }
        }⟩

theorem foldl_still {α : Type} (f : State → α → State) (h : ∀ s a, (f s a).still = s.still) (l : List α) (s : State) :
    (l.foldl f s).still = s.still := by
  induction l generalizing s with
  | nil => rfl
  | cons a l ih => simp [ih, h]

@[simp] theorem ite_still (c : Prop) [Decidable c] (a b : State) :
    (if c then a else b).still = if c then a.still else b.still := by split <;> rfl

@[simp] theorem State.updEvt_still (s : State) (f : Evt → Evt) : (s.updEvt f).still = s.still := rfl
@[simp] theorem State.updJrn_still (s : State) (f : Jrn → Jrn) : (s.updJrn f).still = s.still := rfl
@[simp] theorem State.updPair_still (s : State) (f : Pair → Pair) : (s.updPair f).still = s.still := rfl
@[simp] theorem State.updLoop_still (s : State) (f : LoopEng → LoopEng) : (s.updLoop f).still = s.still := rfl
@[simp] theorem State.updSol_still (s : State) (f : Sol → Sol) : (s.updSol f).still = s.still := rfl
@[simp] theorem State.updStn_still (s : State) (f : StnEng → StnEng) : (s.updStn f).still = s.still := rfl
@[simp] theorem State.updScan_still (s : State) (f : Scan → Scan) : (s.updScan f).still = s.still := rfl
@[simp] theorem State.updTask_still (s : State) (n : Nat) (f : Task → Task) : (s.updTask n f).still = s.still := rfl
@[simp] theorem State.updRun_still (s : State) (n : Nat) (f : Run → Run) : (s.updRun n f).still = s.still := rfl
@[simp] theorem State.updProb_still (s : State) (n : Nat) (f : Problem → Problem) : (s.updProb n f).still = s.still
    := rfl

theorem abandonScan_still (a0 : Nat) (s : State) : (abandonScan a0 s).still = s.still := by
  unfold abandonScan
  simp [foldl_still]

theorem raise_still (a0 : Nat) (s : State) (a2 : optParam Nat 0) : (raise a0 s a2).still = s.still := by
  unfold raise
  simp [foldl_still]

theorem queueCause_still (a0 : ErrCause) (s : State) : (queueCause a0 s).still = s.still := by
  unfold queueCause
  simp [raise_still, foldl_still]

theorem writeWords_still (a0 : Nat) (a1 : List Word) (s : State) : (writeWords a0 a1 s).still = s.still := by
  unfold writeWords
  simp [foldl_still]

theorem sendLink_still (a0 : LinkMsg) (s : State) : (sendLink a0 s).still = s.still := by
  unfold sendLink
  simp [foldl_still]

theorem forwardEvents_still (s : State) : (forwardEvents s).still = s.still := by
  unfold forwardEvents
  simp [sendLink_still, foldl_still]

theorem addRec_still (a0 : NewRec) (s : State) : (addRec a0 s).still = s.still := by
  unfold addRec
  simp [foldl_still]

theorem triggerTask_still (a0 : Nat) (s : State) : (triggerTask a0 s).still = s.still := by
  unfold triggerTask
  simp [foldl_still]

theorem performRaise_still (s : State) (a1 : Nat × Nat) : (performRaise s a1).still = s.still := by
  unfold performRaise
  try simp only []
  (repeat' split) <;>
    first
    | with_reducible rfl
    | (simp [addRec_still, triggerTask_still, foldl_still]; done)
    | (simp_all [addRec_still, triggerTask_still, foldl_still]; done)

theorem performPeer_still (s : State) (a1 : Nat × Nat) : (performPeer s a1).still = s.still := by
  unfold performPeer
  simp [addRec_still, foldl_still]

theorem dropRecs_still (n : Nat) (s : State) : (dropRecs n s).still = s.still := rfl

theorem createRec_still (s : State) (r : NewRec) : (createRec s r).1.still = s.still := by
  unfold createRec
  split
  · rfl
  · simp only []
    split <;> rfl

theorem createAll_still (l : List NewRec) (s : State) : (createAll l s).1.still = s.still := by
  induction l generalizing s with
  | nil => rfl
  | cons r l ih => exact (ih _).trans (createRec_still s r)

theorem startFlush_still (s : State) : (startFlush s).still = s.still := by
  unfold startFlush
  simp [foldl_still]

theorem settleEvents_still (s : State) : (settleEvents s).still = s.still := by
  unfold settleEvents
  split
  · rfl
  · extract_lets own peer s1 s2 s3 recs s4 before
    have h1 : s1.still = s.still := rfl
    have h2 : s2.still = s1.still := foldl_still _ performRaise_still _ _
    have h3 : s3.still = s2.still := foldl_still _ performPeer_still _ _
    have h4 : s4.still = s3.still := rfl
    have h : s4.still = s.still := by rw [h4, h3, h2, h1]
    clear_value s4 recs before
    split
    rename_i s5 d h5
    have h6 : s5.still = s.still := by
      have := createAll_still recs s4
      rw [h5] at this
      exact this.trans h
    simp only [apply_ite State.still, startFlush_still, performRaise_still, ite_self, h6]

theorem forceRec_still (a0 : Nat) (a1 : Nat) (a2 : BitVec 20) (a3 : Word) (s : State) : (forceRec a0 a1 a2 a3
    s).still = s.still := by
  unfold forceRec
  simp [raise_still, addRec_still, foldl_still]

theorem releaseForce_still (a0 : Nat) (s : State) : (releaseForce a0 s).still = s.still := by
  unfold releaseForce
  (repeat' split) <;>
    first
    | with_reducible rfl
    | (simp [forceRec_still, foldl_still]; done)
    | (simp_all [forceRec_still, foldl_still]; done)

theorem applyForce_still (c : ForceChange) (s : State) : (applyForce c s).still = s.still := by
  unfold applyForce
  split
  · exact releaseForce_still _ _
  · exact foldl_still _ (fun s a => releaseForce_still _ _) _ _
  · extract_lets n s1 s2 s3
    have h1 : s1.still = s.still := by
      simp only [s1]
      (repeat' split) <;> simp [releaseForce_still]
    have h3 : s3.still = s2.still := by
      simp only [s3]
      (repeat' split) <;> simp [writeWords_still]
    rw [forceRec_still, h3, ← h1]
    rfl

theorem applyTest_still (a0 : TestChange) (s : State) : (applyTest a0 s).still = s.still := by
  unfold applyTest
  (repeat' split) <;>
    first
    | with_reducible rfl
    | (simp [raise_still, foldl_still]; done)
    | (simp_all [raise_still, foldl_still]; done)

theorem stateImage_still (a0 : ImageMsg) (s : State) : (stateImage a0 s).still = s.still := by
  unfold stateImage
  simp [applyForce_still, applyTest_still, foldl_still]

theorem tellDecision_still (a0 : Nat) (a1 : Run) (a2 : Bool) (s : State) : (tellDecision a0 a1 a2 s).still = s.still
    := by
  unfold tellDecision
  simp [sendLink_still, foldl_still]

theorem countPairScan_still (t : Nat) (r : Run) (s : State) : (countPairScan t r s).still = s.still := rfl

theorem countEnded_still (a0 : Nat) (s : State) : (countEnded a0 s).still = s.still := by
  unfold countEnded
  (repeat' split) <;>
    first
    | with_reducible rfl
    | (simp [countPairScan_still, foldl_still]; done)
    | (simp_all [countPairScan_still, foldl_still]; done)

theorem realFault_still (a0 : ErrCause) (s : State) : (realFault a0 s).still = s.still := by
  unfold realFault
  simp [abandonScan_still, countEnded_still, addRec_still, raise_still, queueCause_still, foldl_still]

theorem confirmScan_still (a0 : Nat) (a1 : Run) (s : State) : (confirmScan a0 a1 s).still = s.still := by
  unfold confirmScan
  (repeat' split) <;>
    first
    | with_reducible rfl
    | (simp [tellDecision_still, realFault_still, foldl_still]; done)
    | (simp_all [tellDecision_still, realFault_still, foldl_still]; done)

theorem replayScan_still (a0 : Nat) (a1 : TaskCfg) (a2 : Run) (s : State) : (replayScan a0 a1 a2 s).still = s.still
    := by
  unfold replayScan
  simp [raise_still, tellDecision_still, foldl_still]

theorem putRun_still (a0 : Nat) (a1 : Run) (s : State) : (putRun a0 a1 s).still = s.still := by
  unfold putRun
  simp [foldl_still]

theorem resolveScan_still (a0 : Nat) (a1 : Option Bool) (s : State) : (resolveScan a0 a1 s).still = s.still := by
  unfold resolveScan
  (repeat' split) <;>
    first
    | with_reducible rfl
    | (simp [confirmScan_still, replayScan_still, putRun_still, foldl_still]; done)
    | (simp_all [confirmScan_still, replayScan_still, putRun_still, foldl_still]; done)

theorem applyTold_still (a0 : Nat) (a1 : Word) (s : State) : (applyTold a0 a1 s).still = s.still := by
  unfold applyTold
  (repeat' split) <;>
    first
    | with_reducible rfl
    | (simp [resolveScan_still, foldl_still]; done)
    | (simp_all [resolveScan_still, foldl_still]; done)

theorem startImage_still (a0 : TaskCfg) (a1 : ImageMsg) (s : State) : (startImage a0 a1 s).still = s.still := by
  unfold startImage
  simp [stateImage_still, applyTold_still, putRun_still, foldl_still]

theorem tryImage_still (s : State) (a1 : ImageMsg) : (tryImage s a1).still = s.still := by
  unfold tryImage
  (repeat' split) <;>
    first
    | with_reducible rfl
    | (simp [startImage_still, foldl_still]; done)
    | (simp_all [startImage_still, foldl_still]; done)

theorem tryImages_still (s : State) : (tryImages s).still = s.still := by
  unfold tryImages
  simp [tryImage_still, foldl_still]

theorem settle_still (s : State) : (settle s).still = s.still := by
  unfold settle
  simp [forwardEvents_still, settleEvents_still, tryImages_still, foldl_still]

@[simp] theorem settle_pins (s : State) : (settle s).pins = s.pins := congrArg Still.pins (settle_still s)
@[simp] theorem settle_flash (s : State) : (settle s).flash = s.flash := congrArg Still.flash (settle_still s)
@[simp] theorem settle_fuses (s : State) : (settle s).fuses = s.fuses := congrArg Still.fuses (settle_still s)
@[simp] theorem settle_cal (s : State) : (settle s).cal = s.cal := congrArg Still.cal (settle_still s)
@[simp] theorem settle_start (s : State) : (settle s).start = s.start := congrArg Still.start (settle_still s)
@[simp] theorem settle_moor (s : State) : (settle s).moor = s.moor := congrArg Still.moor (settle_still s)
@[simp] theorem settle_clk (s : State) : (settle s).clk = s.clk := congrArg Still.clk (settle_still s)
@[simp] theorem settle_stg (s : State) : (settle s).stg = s.stg := congrArg Still.stg (settle_still s)
@[simp] theorem settle_tide (s : State) : (settle s).tide = s.tide := congrArg Still.tide (settle_still s)
@[simp] theorem settle_fio (s : State) : (settle s).fio = s.fio := congrArg Still.fio (settle_still s)
@[simp] theorem settle_mtr (s : State) : (settle s).mtr = s.mtr := congrArg Still.mtr (settle_still s)
@[simp] theorem settle_hst (s : State) : (settle s).hst = s.hst := congrArg Still.hst (settle_still s)
@[simp] theorem settle_ports (s : State) : (settle s).ports = s.ports := congrArg Still.ports (settle_still s)
@[simp] theorem settle_ntime (s : State) : (settle s).ntime = s.ntime := congrArg Still.ntime (settle_still s)
@[simp] theorem settle_keys (s : State) : (settle s).keys = s.keys := congrArg Still.keys (settle_still s)
@[simp] theorem settle_draws (s : State) : (settle s).draws = s.draws := congrArg Still.draws (settle_still s)
@[simp] theorem settle_man (s : State) : (settle s).man = s.man := congrArg Still.man (settle_still s)
@[simp] theorem settle_pending (s : State) : (settle s).pending = s.pending := congrArg Still.pending (settle_still s)

@[simp] theorem settle_place_cur (s : State) : (settle s).place.cur = s.place.cur :=
  congrArg (fun q : Still => q.place.cur) (settle_still s)
@[simp] theorem settle_place_next (s : State) : (settle s).place.next = s.place.next :=
  congrArg (fun q : Still => q.place.next) (settle_still s)
@[simp] theorem settle_place_joined (s : State) : (settle s).place.joined = s.place.joined :=
  congrArg (fun q : Still => q.place.joined) (settle_still s)
@[simp] theorem settle_place_stns (s : State) : (settle s).place.stns = s.place.stns :=
  congrArg (fun q : Still => q.place.stns) (settle_still s)
@[simp] theorem settle_place_loopSlot (s : State) : (settle s).place.loopSlot = s.place.loopSlot :=
  congrArg (fun q : Still => q.place.loopSlot) (settle_still s)
@[simp] theorem settle_place_taskBuf (s : State) : (settle s).place.taskBuf = s.place.taskBuf :=
  congrArg (fun q : Still => q.place.taskBuf) (settle_still s)
@[simp] theorem settle_place_epoch (s : State) : (settle s).place.epoch = s.place.epoch :=
  congrArg (fun q : Still => q.place.epoch) (settle_still s)
@[simp] theorem settle_place_nospare (s : State) : (settle s).place.nospare = s.place.nospare :=
  congrArg (fun q : Still => q.place.nospare) (settle_still s)
@[simp] theorem settle_place_overload (s : State) : (settle s).place.overload = s.place.overload :=
  congrArg (fun q : Still => q.place.overload) (settle_still s)
@[simp] theorem settle_place_last (s : State) : (settle s).place.last = s.place.last :=
  congrArg (fun q : Still => q.place.last) (settle_still s)
@[simp] theorem settle_place_foot (s : State) : (settle s).place.foot = s.place.foot :=
  congrArg (fun q : Still => q.place.foot) (settle_still s)
@[simp] theorem settle_place_tileFault (s : State) : (settle s).place.tileFault = s.place.tileFault :=
  congrArg (fun q : Still => q.place.tileFault) (settle_still s)
@[simp] theorem settle_place_tileSlow (s : State) : (settle s).place.tileSlow = s.place.tileSlow :=
  congrArg (fun q : Still => q.place.tileSlow) (settle_still s)
@[simp] theorem settle_place_coreFault (s : State) : (settle s).place.coreFault = s.place.coreFault :=
  congrArg (fun q : Still => q.place.coreFault) (settle_still s)
@[simp] theorem settle_place_e0Tiles (s : State) : (settle s).place.e0Tiles = s.place.e0Tiles :=
  congrArg (fun q : Still => q.place.e0Tiles) (settle_still s)
@[simp] theorem settle_place_e0Cores (s : State) : (settle s).place.e0Cores = s.place.e0Cores :=
  congrArg (fun q : Still => q.place.e0Cores) (settle_still s)
@[simp] theorem settle_place_peer (s : State) : (settle s).place.peer = s.place.peer :=
  congrArg (fun q : Still => q.place.peer) (settle_still s)
@[simp] theorem settle_place_peerSeen (s : State) : (settle s).place.peerSeen = s.place.peerSeen :=
  congrArg (fun q : Still => q.place.peerSeen) (settle_still s)
@[simp] theorem settle_place_taken (s : State) : (settle s).place.taken = s.place.taken :=
  congrArg (fun q : Still => q.place.taken) (settle_still s)
@[simp] theorem settle_place_slowRun (s : State) : (settle s).place.slowRun = s.place.slowRun :=
  congrArg (fun q : Still => q.place.slowRun) (settle_still s)
@[simp] theorem settle_place_rate (s : State) : (settle s).place.rate = s.place.rate :=
  congrArg (fun q : Still => q.place.rate) (settle_still s)
@[simp] theorem settle_place_mismatches (s : State) : (settle s).place.mismatches = s.place.mismatches :=
  congrArg (fun q : Still => q.place.mismatches) (settle_still s)

@[simp] theorem settle_ram (s : State) : { (settle s).mram with dev := { (settle s).mram.dev with drops := 0 } } =
    { s.mram with dev := { s.mram.dev with drops := 0 } } := congrArg Still.mram (settle_still s)

end Sys2Proof.Machine
end

