-- ==== Sys2Proof/Laws/Outputs.lean ====
section
/-! SUPPORT. What an update to the I/O dies makes of the output commands. -/

namespace Sys2Proof.Machine

open Sys2Proof

theorem getLsbD_putBit_all {w : Nat} (x : BitVec w) (k : Nat) (v : Bool) (n : Nat) :
    (putBit x k v).getLsbD n = if n = k ∧ n < w then v else x.getLsbD n := by
  by_cases hw : n < w
  · have hp : (BitVec.ofNat w (2 ^ k)).getLsbD n = decide (k = n) := by
      simp only [BitVec.getLsbD_ofNat, Nat.testBit_two_pow, hw, decide_true, Bool.true_and]
    by_cases h : n = k
    · have hq := hp.trans (decide_eq_true h.symm)
      rw [if_pos ⟨h, hw⟩]
      cases v
      · exact (BitVec.getLsbD_and ..).trans (by rw [BitVec.getLsbD_not, hq]; cases decide (n < w) <;> cases x.getLsbD n <;> rfl)
      · exact (BitVec.getLsbD_or ..).trans (by rw [hq]; cases x.getLsbD n <;> rfl)
    · have hq := hp.trans (decide_eq_false (Ne.symm h))
      rw [if_neg fun e => h e.1]
      cases v
      · exact (BitVec.getLsbD_and ..).trans (by rw [BitVec.getLsbD_not, hq, decide_eq_true hw]; cases x.getLsbD n <;> rfl)
      · exact (BitVec.getLsbD_or ..).trans (by rw [hq]; cases x.getLsbD n <;> rfl)
  · simp [hw, BitVec.getLsbD_of_ge _ n (by omega : w ≤ n)]

theorem getLsbD_bits32_upto (f : Nat → Bool) (m n : Nat) :
    ((List.range m).foldl (fun w n => putBit w n (f n)) (0 : BitVec 32)).getLsbD n = (decide (n < m ∧ n < 32) && f n) := by
  induction m with
  | zero => simp
  | succ m ih =>
    rw [List.range_succ, List.foldl_append]
    simp only [List.foldl_cons, List.foldl_nil, getLsbD_putBit_all, ih]
    by_cases h : n = m
    · subst h
      by_cases h2 : n < 32 <;> simp [h2]
    · have : n < m + 1 ↔ n < m := by omega
      simp [h, this]

/-- Bit n of the word that a test of the 32 channels gives. -/
@[simp] theorem getLsbD_bits32 (f : Nat → Bool) (n : Nat) : (bits32 f).getLsbD n = (decide (n < 32) && f n) := by
  have := getLsbD_bits32_upto f 32 n
  simpa [bits32] using this

end Sys2Proof.Machine
end

