-- ==== Sys2Proof/Laws/Quiet.lean ====
section
/-! SUPPORT. What the raises, records and forwarded events of an edge leave as they are, and what the end of an edge
    leaves
where no image waits: every block but the event router, the journal, the triggers of event tasks and the link's
    messages. -/

namespace Sys2Proof.Machine

open Sys2Proof

/-- What the events of an edge leave: a task but for its trigger and merged count, the crossing link but for its
    messages. -/
structure Quiet where
  still : Still
  place : Place
  loop : LoopEng
  sol : Sol
  stn : StnEng
  scan : Scan
  pair : Pair
  task : Nat → Task

/-- That of a state. -/
def State.quiet (s : State) : Quiet :=
  ⟨s.still, s.place, s.loop, s.sol, s.stn, { s.scan with tasks := [] }, { s.pair with sent := [], held := none, txSeq := 0 },
    fun n => { s.task n with trig := false, merged := 0 }⟩

theorem foldl_quiet {α : Type} (f : State → α → State) (h : ∀ s a, (f s a).quiet = s.quiet) (l : List α) (s : State) :
    (l.foldl f s).quiet = s.quiet := by
  induction l generalizing s with
  | nil => rfl
  | cons a l ih => simp [ih, h]

@[simp] theorem ite_quiet (c : Prop) [Decidable c] (a b : State) :
    (if c then a else b).quiet = if c then a.quiet else b.quiet := by split <;> rfl

@[simp] theorem State.updEvt_quiet (s : State) (f : Evt → Evt) : (s.updEvt f).quiet = s.quiet := rfl
@[simp] theorem State.updJrn_quiet (s : State) (f : Jrn → Jrn) : (s.updJrn f).quiet = s.quiet := rfl

theorem sendLink_quiet (m : LinkMsg) (s : State) : (sendLink m s).quiet = s.quiet := by
  unfold sendLink Pair.sendHeld
  split
  · simp only [State.updPair, State.quiet, Pair.send]
    split <;> rfl
  · rfl

theorem forwardEvents_quiet (s : State) : (forwardEvents s).quiet = s.quiet := by
  unfold forwardEvents
  simp [sendLink_quiet, foldl_quiet]

theorem addRec_quiet (a0 : NewRec) (s : State) : (addRec a0 s).quiet = s.quiet := by
  unfold addRec
  simp [foldl_quiet]

theorem triggerTask_quiet (t : Nat) (s : State) : (triggerTask t s).quiet = s.quiet := by
  unfold triggerTask State.quiet
  congr 1
  funext n
  by_cases h : n = t
  · subst h
    simp only [State.task, State.updTask, State.updScan, Store.get_upd_same]
    split <;> rfl
  · simp only [State.task, State.updTask, State.updScan, Store.get_upd_other _ _ _ _ _ (Ne.symm h)]

theorem performRaise_quiet (s : State) (a1 : Nat × Nat) : (performRaise s a1).quiet = s.quiet := by
  unfold performRaise
  try simp only []
  (repeat' split) <;>
    first
    | with_reducible rfl
    | (simp [addRec_quiet, triggerTask_quiet, foldl_quiet]; done)
    | (simp_all [addRec_quiet, triggerTask_quiet, foldl_quiet]; done)

theorem performPeer_quiet (s : State) (a1 : Nat × Nat) : (performPeer s a1).quiet = s.quiet := by
  unfold performPeer
  simp [addRec_quiet, foldl_quiet]

theorem dropRecs_quiet (n : Nat) (s : State) : (dropRecs n s).quiet = s.quiet := rfl

theorem createRec_quiet (s : State) (r : NewRec) : (createRec s r).1.quiet = s.quiet := by
  unfold createRec
  split
  · rfl
  · simp only []
    split <;> rfl

theorem createAll_quiet (l : List NewRec) (s : State) : (createAll l s).1.quiet = s.quiet := by
  induction l generalizing s with
  | nil => rfl
  | cons r l ih => exact (ih _).trans (createRec_quiet s r)

theorem startFlush_quiet (s : State) : (startFlush s).quiet = s.quiet := by
  unfold startFlush
  simp [foldl_quiet]

theorem settleEvents_quiet (s : State) : (settleEvents s).quiet = s.quiet := by
  unfold settleEvents
  split
  · rfl
  · extract_lets own peer s1 s2 s3 recs s4 before
    have h1 : s1.quiet = s.quiet := rfl
    have h2 : s2.quiet = s1.quiet := foldl_quiet _ performRaise_quiet _ _
    have h3 : s3.quiet = s2.quiet := foldl_quiet _ performPeer_quiet _ _
    have h4 : s4.quiet = s3.quiet := rfl
    have h : s4.quiet = s.quiet := by rw [h4, h3, h2, h1]
    clear_value s4 recs before
    split
    rename_i s5 d h5
    have h6 : s5.quiet = s.quiet := by
      have := createAll_quiet recs s4
      rw [h5] at this
      exact this.trans h
    simp only [apply_ite State.quiet, startFlush_quiet, performRaise_quiet, ite_self, h6]


theorem tryImages_none (s : State) (h : s.pair.images = []) : tryImages s = s := by
  simp [tryImages, h]

theorem settle_quiet (s : State) (h : s.pair.images = []) : (settle s).quiet = s.quiet := by
  unfold settle
  rw [tryImages_none s h]
  simp [forwardEvents_quiet, settleEvents_quiet]

theorem settle_loop (s : State) (h : s.pair.images = []) : (settle s).loop = s.loop := congrArg Quiet.loop
    (settle_quiet s h)
theorem settle_place (s : State) (h : s.pair.images = []) : (settle s).place = s.place :=
  congrArg Quiet.place (settle_quiet s h)
theorem settle_sol (s : State) (h : s.pair.images = []) : (settle s).sol = s.sol := congrArg Quiet.sol (settle_quiet
    s h)
theorem settle_stn (s : State) (h : s.pair.images = []) : (settle s).stn = s.stn := congrArg Quiet.stn (settle_quiet
    s h)
theorem settle_scan_data (s : State) (h : s.pair.images = []) : (settle s).scan.data = s.scan.data :=
  congrArg (fun q : Quiet => q.scan.data) (settle_quiet s h)
theorem settle_scan_frozen (s : State) (h : s.pair.images = []) : (settle s).scan.frozen = s.scan.frozen :=
  congrArg (fun q : Quiet => q.scan.frozen) (settle_quiet s h)
theorem settle_scan_seq (s : State) (h : s.pair.images = []) : (settle s).scan.seq = s.scan.seq :=
  congrArg (fun q : Quiet => q.scan.seq) (settle_quiet s h)
theorem settle_scan_readies (s : State) (h : s.pair.images = []) : (settle s).scan.readies = s.scan.readies :=
  congrArg (fun q : Quiet => q.scan.readies) (settle_quiet s h)
theorem settle_scan_readyEdge (s : State) (h : s.pair.images = []) : (settle s).scan.readyEdge = s.scan.readyEdge :=
  congrArg (fun q : Quiet => q.scan.readyEdge) (settle_quiet s h)
theorem settle_scan_errq (s : State) (h : s.pair.images = []) : (settle s).scan.errq = s.scan.errq :=
  congrArg (fun q : Quiet => q.scan.errq) (settle_quiet s h)
theorem settle_scan_errDropped (s : State) (h : s.pair.images = []) : (settle s).scan.errDropped = s.scan.errDropped
    :=
  congrArg (fun q : Quiet => q.scan.errDropped) (settle_quiet s h)
theorem settle_scan_recovered (s : State) (h : s.pair.images = []) : (settle s).scan.recovered = s.scan.recovered :=
  congrArg (fun q : Quiet => q.scan.recovered) (settle_quiet s h)
theorem settle_scan_abandoned (s : State) (h : s.pair.images = []) : (settle s).scan.abandoned = s.scan.abandoned :=
  congrArg (fun q : Quiet => q.scan.abandoned) (settle_quiet s h)
theorem settle_scan_hwTimers (s : State) (h : s.pair.images = []) : (settle s).scan.hwTimers = s.scan.hwTimers :=
  congrArg (fun q : Quiet => q.scan.hwTimers) (settle_quiet s h)
theorem settle_scan_hwTasks (s : State) (h : s.pair.images = []) : (settle s).scan.hwTasks = s.scan.hwTasks :=
  congrArg (fun q : Quiet => q.scan.hwTasks) (settle_quiet s h)
theorem settle_scan_forces (s : State) (h : s.pair.images = []) : (settle s).scan.forces = s.scan.forces :=
  congrArg (fun q : Quiet => q.scan.forces) (settle_quiet s h)
theorem settle_scan_frcPending (s : State) (h : s.pair.images = []) : (settle s).scan.frcPending = s.scan.frcPending
    :=
  congrArg (fun q : Quiet => q.scan.frcPending) (settle_quiet s h)
theorem settle_scan_frcSel (s : State) (h : s.pair.images = []) : (settle s).scan.frcSel = s.scan.frcSel :=
  congrArg (fun q : Quiet => q.scan.frcSel) (settle_quiet s h)
theorem settle_scan_frcIndex (s : State) (h : s.pair.images = []) : (settle s).scan.frcIndex = s.scan.frcIndex :=
  congrArg (fun q : Quiet => q.scan.frcIndex) (settle_quiet s h)
theorem settle_scan_frcLo (s : State) (h : s.pair.images = []) : (settle s).scan.frcLo = s.scan.frcLo :=
  congrArg (fun q : Quiet => q.scan.frcLo) (settle_quiet s h)
theorem settle_scan_frcHi (s : State) (h : s.pair.images = []) : (settle s).scan.frcHi = s.scan.frcHi :=
  congrArg (fun q : Quiet => q.scan.frcHi) (settle_quiet s h)
theorem settle_scan_frcReason (s : State) (h : s.pair.images = []) : (settle s).scan.frcReason = s.scan.frcReason :=
  congrArg (fun q : Quiet => q.scan.frcReason) (settle_quiet s h)
theorem settle_scan_frcDone (s : State) (h : s.pair.images = []) : (settle s).scan.frcDone = s.scan.frcDone :=
  congrArg (fun q : Quiet => q.scan.frcDone) (settle_quiet s h)
theorem settle_scan_frcBusy (s : State) (h : s.pair.images = []) : (settle s).scan.frcBusy = s.scan.frcBusy :=
  congrArg (fun q : Quiet => q.scan.frcBusy) (settle_quiet s h)
theorem settle_scan_boundaryDone (s : State) (h : s.pair.images = []) : (settle s).scan.boundaryDone =
    s.scan.boundaryDone :=
  congrArg (fun q : Quiet => q.scan.boundaryDone) (settle_quiet s h)
theorem settle_pair_role (s : State) (h : s.pair.images = []) : (settle s).pair.role = s.pair.role :=
  congrArg (fun q : Quiet => q.pair.role) (settle_quiet s h)
theorem settle_pair_fenceOut (s : State) (h : s.pair.images = []) : (settle s).pair.fenceOut = s.pair.fenceOut :=
  congrArg (fun q : Quiet => q.pair.fenceOut) (settle_quiet s h)
theorem settle_pair_peerOkOut (s : State) (h : s.pair.images = []) : (settle s).pair.peerOkOut = s.pair.peerOkOut :=
  congrArg (fun q : Quiet => q.pair.peerOkOut) (settle_quiet s h)
theorem settle_pair_fenced (s : State) (h : s.pair.images = []) : (settle s).pair.fenced = s.pair.fenced :=
  congrArg (fun q : Quiet => q.pair.fenced) (settle_quiet s h)
theorem settle_pair_linkUp (s : State) (h : s.pair.images = []) : (settle s).pair.linkUp = s.pair.linkUp :=
  congrArg (fun q : Quiet => q.pair.linkUp) (settle_quiet s h)
theorem settle_pair_laneUp (s : State) (h : s.pair.images = []) : (settle s).pair.laneUp = s.pair.laneUp :=
  congrArg (fun q : Quiet => q.pair.laneUp) (settle_quiet s h)
theorem settle_pair_laneBad (s : State) (h : s.pair.images = []) : (settle s).pair.laneBad = s.pair.laneBad :=
  congrArg (fun q : Quiet => q.pair.laneBad) (settle_quiet s h)
theorem settle_pair_crc0 (s : State) (h : s.pair.images = []) : (settle s).pair.crc0 = s.pair.crc0 :=
  congrArg (fun q : Quiet => q.pair.crc0) (settle_quiet s h)
theorem settle_pair_crc1 (s : State) (h : s.pair.images = []) : (settle s).pair.crc1 = s.pair.crc1 :=
  congrArg (fun q : Quiet => q.pair.crc1) (settle_quiet s h)
theorem settle_pair_bad0 (s : State) (h : s.pair.images = []) : (settle s).pair.bad0 = s.pair.bad0 :=
  congrArg (fun q : Quiet => q.pair.bad0) (settle_quiet s h)
theorem settle_pair_bad1 (s : State) (h : s.pair.images = []) : (settle s).pair.bad1 = s.pair.bad1 :=
  congrArg (fun q : Quiet => q.pair.bad1) (settle_quiet s h)
theorem settle_pair_rxSeq (s : State) (h : s.pair.images = []) : (settle s).pair.rxSeq = s.pair.rxSeq :=
  congrArg (fun q : Quiet => q.pair.rxSeq) (settle_quiet s h)
theorem settle_pair_peerActive (s : State) (h : s.pair.images = []) : (settle s).pair.peerActive = s.pair.peerActive
    :=
  congrArg (fun q : Quiet => q.pair.peerActive) (settle_quiet s h)
theorem settle_pair_leaseSeq (s : State) (h : s.pair.images = []) : (settle s).pair.leaseSeq = s.pair.leaseSeq :=
  congrArg (fun q : Quiet => q.pair.leaseSeq) (settle_quiet s h)
theorem settle_pair_leases (s : State) (h : s.pair.images = []) : (settle s).pair.leases = s.pair.leases :=
  congrArg (fun q : Quiet => q.pair.leases) (settle_quiet s h)
theorem settle_pair_ta (s : State) (h : s.pair.images = []) : (settle s).pair.ta = s.pair.ta :=
  congrArg (fun q : Quiet => q.pair.ta) (settle_quiet s h)
theorem settle_pair_leaseAt (s : State) (h : s.pair.images = []) : (settle s).pair.leaseAt = s.pair.leaseAt :=
  congrArg (fun q : Quiet => q.pair.leaseAt) (settle_quiet s h)
theorem settle_pair_t4 (s : State) (h : s.pair.images = []) : (settle s).pair.t4 = s.pair.t4 :=
  congrArg (fun q : Quiet => q.pair.t4) (settle_quiet s h)
theorem settle_pair_exch (s : State) (h : s.pair.images = []) : (settle s).pair.exch = s.pair.exch :=
  congrArg (fun q : Quiet => q.pair.exch) (settle_quiet s h)
theorem settle_pair_own (s : State) (h : s.pair.images = []) : (settle s).pair.own = s.pair.own :=
  congrArg (fun q : Quiet => q.pair.own) (settle_quiet s h)
theorem settle_pair_peer (s : State) (h : s.pair.images = []) : (settle s).pair.peer = s.pair.peer :=
  congrArg (fun q : Quiet => q.pair.peer) (settle_quiet s h)
theorem settle_pair_compared (s : State) (h : s.pair.images = []) : (settle s).pair.compared = s.pair.compared :=
  congrArg (fun q : Quiet => q.pair.compared) (settle_quiet s h)
theorem settle_pair_mismatch (s : State) (h : s.pair.images = []) : (settle s).pair.mismatch = s.pair.mismatch :=
  congrArg (fun q : Quiet => q.pair.mismatch) (settle_quiet s h)
theorem settle_pair_mismatchAt (s : State) (h : s.pair.images = []) : (settle s).pair.mismatchAt = s.pair.mismatchAt
    :=
  congrArg (fun q : Quiet => q.pair.mismatchAt) (settle_quiet s h)
theorem settle_pair_digestDiff (s : State) (h : s.pair.images = []) : (settle s).pair.digestDiff = s.pair.digestDiff
    :=
  congrArg (fun q : Quiet => q.pair.digestDiff) (settle_quiet s h)
theorem settle_pair_peerFail (s : State) (h : s.pair.images = []) : (settle s).pair.peerFail = s.pair.peerFail :=
  congrArg (fun q : Quiet => q.pair.peerFail) (settle_quiet s h)
theorem settle_pair_fenceFault (s : State) (h : s.pair.images = []) : (settle s).pair.fenceFault = s.pair.fenceFault
    :=
  congrArg (fun q : Quiet => q.pair.fenceFault) (settle_quiet s h)
theorem settle_pair_peerLost (s : State) (h : s.pair.images = []) : (settle s).pair.peerLost = s.pair.peerLost :=
  congrArg (fun q : Quiet => q.pair.peerLost) (settle_quiet s h)
theorem settle_pair_partner (s : State) (h : s.pair.images = []) : (settle s).pair.partner = s.pair.partner :=
  congrArg (fun q : Quiet => q.pair.partner) (settle_quiet s h)
theorem settle_pair_apart (s : State) (h : s.pair.images = []) : (settle s).pair.apart = s.pair.apart :=
  congrArg (fun q : Quiet => q.pair.apart) (settle_quiet s h)
theorem settle_pair_expired (s : State) (h : s.pair.images = []) : (settle s).pair.expired = s.pair.expired :=
  congrArg (fun q : Quiet => q.pair.expired) (settle_quiet s h)
theorem settle_pair_bistNext (s : State) (h : s.pair.images = []) : (settle s).pair.bistNext = s.pair.bistNext :=
  congrArg (fun q : Quiet => q.pair.bistNext) (settle_quiet s h)
theorem settle_pair_snap (s : State) (h : s.pair.images = []) : (settle s).pair.snap = s.pair.snap :=
  congrArg (fun q : Quiet => q.pair.snap) (settle_quiet s h)
theorem settle_pair_rounds (s : State) (h : s.pair.images = []) : (settle s).pair.rounds = s.pair.rounds :=
  congrArg (fun q : Quiet => q.pair.rounds) (settle_quiet s h)
theorem settle_pair_pages (s : State) (h : s.pair.images = []) : (settle s).pair.pages = s.pair.pages :=
  congrArg (fun q : Quiet => q.pair.pages) (settle_quiet s h)
theorem settle_pair_received (s : State) (h : s.pair.images = []) : (settle s).pair.received = s.pair.received :=
  congrArg (fun q : Quiet => q.pair.received) (settle_quiet s h)
theorem settle_pair_resynced (s : State) (h : s.pair.images = []) : (settle s).pair.resynced = s.pair.resynced :=
  congrArg (fun q : Quiet => q.pair.resynced) (settle_quiet s h)
theorem settle_pair_joinNext (s : State) (h : s.pair.images = []) : (settle s).pair.joinNext = s.pair.joinNext :=
  congrArg (fun q : Quiet => q.pair.joinNext) (settle_quiet s h)
theorem settle_pair_joining (s : State) (h : s.pair.images = []) : (settle s).pair.joining = s.pair.joining :=
  congrArg (fun q : Quiet => q.pair.joining) (settle_quiet s h)
theorem settle_pair_tideTaken (s : State) (h : s.pair.images = []) : (settle s).pair.tideTaken = s.pair.tideTaken :=
  congrArg (fun q : Quiet => q.pair.tideTaken) (settle_quiet s h)
theorem settle_pair_images (s : State) (h : s.pair.images = []) : (settle s).pair.images = s.pair.images :=
  congrArg (fun q : Quiet => q.pair.images) (settle_quiet s h)
theorem settle_pair_handed (s : State) (h : s.pair.images = []) : (settle s).pair.handed = s.pair.handed :=
  congrArg (fun q : Quiet => q.pair.handed) (settle_quiet s h)
theorem settle_pair_ntoff (s : State) (h : s.pair.images = []) : (settle s).pair.ntoff = s.pair.ntoff :=
  congrArg (fun q : Quiet => q.pair.ntoff) (settle_quiet s h)
theorem settle_pair_eccCorr (s : State) (h : s.pair.images = []) : (settle s).pair.eccCorr = s.pair.eccCorr :=
  congrArg (fun q : Quiet => q.pair.eccCorr) (settle_quiet s h)
theorem settle_pair_lastTile (s : State) (h : s.pair.images = []) : (settle s).pair.lastTile = s.pair.lastTile :=
  congrArg (fun q : Quiet => q.pair.lastTile) (settle_quiet s h)
theorem settle_pair_outFail (s : State) (h : s.pair.images = []) : (settle s).pair.outFail = s.pair.outFail :=
  congrArg (fun q : Quiet => q.pair.outFail) (settle_quiet s h)
theorem settle_pair_uncorr (s : State) (h : s.pair.images = []) : (settle s).pair.uncorr = s.pair.uncorr :=
  congrArg (fun q : Quiet => q.pair.uncorr) (settle_quiet s h)
theorem settle_pair_coreFail (s : State) (h : s.pair.images = []) : (settle s).pair.coreFail = s.pair.coreFail :=
  congrArg (fun q : Quiet => q.pair.coreFail) (settle_quiet s h)
theorem settle_pair_tileFail (s : State) (h : s.pair.images = []) : (settle s).pair.tileFail = s.pair.tileFail :=
  congrArg (fun q : Quiet => q.pair.tileFail) (settle_quiet s h)
theorem settle_pair_reason (s : State) (h : s.pair.images = []) : (settle s).pair.reason = s.pair.reason :=
  congrArg (fun q : Quiet => q.pair.reason) (settle_quiet s h)
theorem settle_pair_done (s : State) (h : s.pair.images = []) : (settle s).pair.done = s.pair.done :=
  congrArg (fun q : Quiet => q.pair.done) (settle_quiet s h)
theorem settle_pair_busy (s : State) (h : s.pair.images = []) : (settle s).pair.busy = s.pair.busy :=
  congrArg (fun q : Quiet => q.pair.busy) (settle_quiet s h)
theorem settle_task_run (s : State) (n : Nat) (h : s.pair.images = []) : ((settle s).task n).run = (s.task n).run :=
  congrArg (fun q : Quiet => (q.task n).run) (settle_quiet s h)
theorem settle_task_frozen (s : State) (n : Nat) (h : s.pair.images = []) : ((settle s).task n).frozen = (s.task
    n).frozen :=
  congrArg (fun q : Quiet => (q.task n).frozen) (settle_quiet s h)
theorem settle_task_scans (s : State) (n : Nat) (h : s.pair.images = []) : ((settle s).task n).scans = (s.task
    n).scans :=
  congrArg (fun q : Quiet => (q.task n).scans) (settle_quiet s h)
theorem settle_task_overruns (s : State) (n : Nat) (h : s.pair.images = []) : ((settle s).task n).overruns = (s.task
    n).overruns :=
  congrArg (fun q : Quiet => (q.task n).overruns) (settle_quiet s h)
theorem settle_task_faults (s : State) (n : Nat) (h : s.pair.images = []) : ((settle s).task n).faults = (s.task
    n).faults :=
  congrArg (fun q : Quiet => (q.task n).faults) (settle_quiet s h)
theorem settle_task_replays (s : State) (n : Nat) (h : s.pair.images = []) : ((settle s).task n).replays = (s.task
    n).replays :=
  congrArg (fun q : Quiet => (q.task n).replays) (settle_quiet s h)
theorem settle_task_confirms (s : State) (n : Nat) (h : s.pair.images = []) : ((settle s).task n).confirms = (s.task
    n).confirms :=
  congrArg (fun q : Quiet => (q.task n).confirms) (settle_quiet s h)
theorem settle_task_exec (s : State) (n : Nat) (h : s.pair.images = []) : ((settle s).task n).exec = (s.task n).exec
    :=
  congrArg (fun q : Quiet => (q.task n).exec) (settle_quiet s h)
theorem settle_task_execMax (s : State) (n : Nat) (h : s.pair.images = []) : ((settle s).task n).execMax = (s.task
    n).execMax :=
  congrArg (fun q : Quiet => (q.task n).execMax) (settle_quiet s h)
theorem settle_task_instr (s : State) (n : Nat) (h : s.pair.images = []) : ((settle s).task n).instr = (s.task
    n).instr :=
  congrArg (fun q : Quiet => (q.task n).instr) (settle_quiet s h)
theorem settle_task_storeHw (s : State) (n : Nat) (h : s.pair.images = []) : ((settle s).task n).storeHw = (s.task
    n).storeHw :=
  congrArg (fun q : Quiet => (q.task n).storeHw) (settle_quiet s h)
theorem settle_task_deltaHw (s : State) (n : Nat) (h : s.pair.images = []) : ((settle s).task n).deltaHw = (s.task
    n).deltaHw :=
  congrArg (fun q : Quiet => (q.task n).deltaHw) (settle_quiet s h)
theorem settle_task_mismatch (s : State) (n : Nat) (h : s.pair.images = []) : ((settle s).task n).mismatch = (s.task
    n).mismatch :=
  congrArg (fun q : Quiet => (q.task n).mismatch) (settle_quiet s h)
theorem settle_task_last (s : State) (n : Nat) (h : s.pair.images = []) : ((settle s).task n).last = (s.task n).last
    :=
  congrArg (fun q : Quiet => (q.task n).last) (settle_quiet s h)
theorem settle_task_committed (s : State) (n : Nat) (h : s.pair.images = []) : ((settle s).task n).committed =
    (s.task n).committed :=
  congrArg (fun q : Quiet => (q.task n).committed) (settle_quiet s h)
theorem settle_task_clamps (s : State) (n : Nat) (h : s.pair.images = []) : ((settle s).task n).clamps = (s.task
    n).clamps :=
  congrArg (fun q : Quiet => (q.task n).clamps) (settle_quiet s h)
theorem settle_task_due (s : State) (n : Nat) (h : s.pair.images = []) : ((settle s).task n).due = (s.task n).due :=
  congrArg (fun q : Quiet => (q.task n).due) (settle_quiet s h)
theorem settle_task_decision (s : State) (n : Nat) (h : s.pair.images = []) : ((settle s).task n).decision = (s.task
    n).decision :=
  congrArg (fun q : Quiet => (q.task n).decision) (settle_quiet s h)
theorem settle_task_told (s : State) (n : Nat) (h : s.pair.images = []) : ((settle s).task n).told = (s.task n).told
    :=
  congrArg (fun q : Quiet => (q.task n).told) (settle_quiet s h)

end Sys2Proof.Machine
end

