-- ==== Sys2Proof/Laws/Raise.lean ====
section
/-! SUPPORT. What a raise on an edge leaves after the edge: its pending bit (17 R475). -/

namespace Sys2Proof.Machine

open Sys2Proof

theorem getLsbD_putBit {w : Nat} (x : BitVec w) (n k : Nat) :
    (putBit x k true).getLsbD n = (x.getLsbD n || decide (n < w ∧ n = k)) := by
  simp only [putBit, if_true, BitVec.getLsbD_or, BitVec.getLsbD_ofNat, Nat.testBit_two_pow]
  by_cases h : k = n
  · subst h
    simp
  · have h' : ¬n = k := fun e => h e.symm
    simp [h, h']

/-- A source is among the raises. -/
def raisedIn (l : List (Nat × Nat)) (n : Nat) : Prop := ∃ k, (n, k) ∈ l

theorem raisedIn_mergeRaise (l : List (Nat × Nat)) (x : Nat × Nat) (n : Nat) :
    raisedIn (mergeRaise l x) n ↔ n = x.1 ∨ raisedIn l n := by
  induction l with
  | nil =>
    obtain ⟨a, b⟩ := x
    simp [mergeRaise, raisedIn]
  | cons y l ih =>
    obtain ⟨a, b⟩ := x
    obtain ⟨c, d⟩ := y
    simp only [mergeRaise]
    split
    · simp [raisedIn, exists_or]
    · split
      · rename_i he
        subst he
        simp [raisedIn, exists_or]
      · simp only [raisedIn, List.mem_cons, Prod.mk.injEq, exists_or] at ih ⊢
        rw [ih]
        constructor
        · rintro (h | h | h)
          · exact .inr (.inl h)
          · exact .inl h
          · exact .inr (.inr h)
        · rintro (h | h | h)
          · exact .inr (.inl h)
          · exact .inl h
          · exact .inr (.inr h)

theorem raisedIn_foldl_mergeRaise (l m : List (Nat × Nat)) (n : Nat) :
    raisedIn (l.foldl mergeRaise m) n ↔ raisedIn l n ∨ raisedIn m n := by
  induction l generalizing m with
  | nil => simp [raisedIn]
  | cons x l ih =>
    simp only [List.foldl_cons, ih, raisedIn_mergeRaise]
    obtain ⟨a, b⟩ := x
    simp only [raisedIn, List.mem_cons, Prod.mk.injEq, exists_or]
    constructor
    · rintro (h | h | h)
      · exact .inl (.inr h)
      · exact .inl (.inl ⟨b, h, rfl⟩)
      · exact .inr h
    · rintro ((⟨_, h, _⟩ | h) | h)
      · exact .inr (.inl h)
      · exact .inl h
      · exact .inr (.inr h)

theorem triggerTask_evt (t : Nat) (s : State) : (triggerTask t s).evt = s.evt := rfl

theorem performRaise_pend (s : State) (x : Nat × Nat) (n : Nat) :
    (performRaise s x).evt.pend.getLsbD n = (s.evt.pend.getLsbD n || decide (n < 256 ∧ n = x.1)) := by
  have h : (performRaise s x).evt.pend = putBit s.evt.pend x.1 true := by
    unfold performRaise
    simp only []
    (repeat' split) <;> rfl
  rw [h, getLsbD_putBit]

theorem performPeer_pend (s : State) (x : Nat × Nat) (n : Nat) (h : s.evt.pend.getLsbD n = true) :
    (performPeer s x).evt.pend.getLsbD n = true := by
  have e : (performPeer s x).evt.pend = putBit s.evt.pend x.1 true := by
    unfold performPeer
    simp only []
    split <;> rfl
  rw [e, getLsbD_putBit, h, Bool.true_or]

theorem foldl_performRaise_pend (l : List (Nat × Nat)) (s : State) (n : Nat) (hn : n < 256)
    (h : raisedIn l n ∨ s.evt.pend.getLsbD n = true) : (l.foldl performRaise s).evt.pend.getLsbD n = true := by
  induction l generalizing s with
  | nil => simpa [raisedIn] using h
  | cons x l ih =>
    refine ih _ ?_
    rw [performRaise_pend]
    rcases h with ⟨k, h⟩ | h
    · rcases List.mem_cons.1 h with h | h
      · subst h
        exact .inr (by simp [hn])
      · exact .inl ⟨k, h⟩
    · exact .inr (by simp [h])

theorem foldl_performPeer_pend (l : List (Nat × Nat)) (s : State) (n : Nat) (h : s.evt.pend.getLsbD n = true) :
    (l.foldl performPeer s).evt.pend.getLsbD n = true := by
  induction l generalizing s with
  | nil => exact h
  | cons x l ih => exact ih _ (performPeer_pend s x n h)

theorem createRec_evt (s : State) (r : NewRec) : (createRec s r).1.evt = s.evt := by
  unfold createRec
  split
  · rfl
  · simp only []
    split <;> rfl

theorem createAll_evt (l : List NewRec) (s : State) : (createAll l s).1.evt = s.evt := by
  induction l generalizing s with
  | nil => rfl
  | cons r l ih => exact (ih _).trans (createRec_evt s r)

theorem startFlush_evt (s : State) : (startFlush s).evt = s.evt := by
  unfold startFlush
  split <;> rfl

theorem settleEvents_pend (s : State) (n : Nat) (hn : n < 256)
    (h : raisedIn s.evt.edge n ∨ s.evt.pend.getLsbD n = true) : (settleEvents s).evt.pend.getLsbD n = true := by
  unfold settleEvents
  split
  · rename_i he
    rcases h with ⟨k, h⟩ | h
    · simp only [Bool.and_eq_true, List.isEmpty_iff] at he
      simp [he.1.1] at h
    · exact h
  · extract_lets own peer s1 s2 s3 recs s4 before urgent
    have h2 : s2.evt.pend.getLsbD n = true := by
      refine foldl_performRaise_pend own s1 n hn ?_
      exact h.imp (fun h => (raisedIn_foldl_mergeRaise _ _ _).2 (.inl h)) id
    have h4 : s4.evt.pend.getLsbD n = true := foldl_performPeer_pend peer s2 n h2
    clear_value s4 recs before urgent
    split
    rename_i s5 d h5
    have h6 : s5.evt.pend.getLsbD n = true := by
      have := createAll_evt recs s4
      rw [h5] at this
      rw [this]
      exact h4
    have h7 : (if (d && !own.any (·.1 == 216)) = true then performRaise s5 (216, 0) else s5).evt.pend.getLsbD n = true := by
      split
      · rw [performRaise_pend, h6, Bool.true_or]
      · exact h6
    extract_lets s8
    split
    · rw [startFlush_evt]
      exact h7
    · exact h7

/-- A source raised on an edge, or pending before it, is pending after it. -/
theorem settle_pend (s : State) (n : Nat) (hn : n < 256) (on : s.start.power = .on) (hi : s.pair.images = [])
    (h : raisedIn s.evt.edge n ∨ s.evt.pend.getLsbD n = true) : (settle s).evt.pend.getLsbD n = true := by
  have e : (settle s).evt.pend = (settleEvents s).evt.pend := by
    unfold settle
    rw [tryImages_none s hi]
    simp only [on, true_or, if_true, forwardEvents]
    split
    · rfl
    · split
      · unfold sendLink
        split <;> rfl
      · rfl
  rw [e]
  exact settleEvents_pend s n hn h

theorem raisedIn_raise (n k : Nat) (s : State) : raisedIn (raise n s k).evt.edge n :=
  ⟨k, by simp [raise]⟩

theorem raisedIn_raise_of (m n k : Nat) (s : State) (h : raisedIn s.evt.edge n) : raisedIn (raise m s k).evt.edge n := by
  obtain ⟨j, h⟩ := h
  exact ⟨j, by simp [raise, h]⟩

end Sys2Proof.Machine
end

