-- ==== Sys2Proof/Laws/Tic.lean ====
section
/-! SUPPORT. What one TIC instruction does: it takes its scan on, faults, or changes nothing. -/

namespace Sys2Proof.Machine

open Sys2Proof

variable {s : State} {t : BitVec 5} {r : Run} {c : TaskCfg}

/-- The scan as an instruction finds it: counted, past its words, and running. -/
def Run.begun (r : Run) (words units : Nat) : Run :=
  { r with units := r.units + units, pc := r.pc + words, phase := if r.phase = .ready then .running else r.phase }

theorem ticStep_eq {n : Nat} (w : Nat) (u : Run → Nat) (f : TaskCfg → Run → State → TicRes) (h : Scanning s t r c n)
    (hu : r.units + u r ≤ c.worst) :
    ticStep t w u f s = match f c (r.begun w (u r)) s with
      | .none => s
      | .fault code => ticFault t.toNat code r s
      | .ok r' s' => s'.updTask t.toNat fun k => { k with run := some r' } := by
  unfold ticStep
  rw [h.run, h.cfg]
  simp only [h.first, if_true, if_neg (Nat.not_lt.2 hu), Run.begun]
  all_goals rfl

/-- What a command's beginning sends leaves the waiting images as they are. -/
@[simp] theorem clearSent_images (s : State) : (clearSent s).pair.images = s.pair.images := by
  simp only [clearSent, State.updPair, Pair.sendHeld, Pair.send]
  split
  · split <;> rfl
  · rfl

/-- No image waits, and the message list does not matter to a scan. -/
theorem Scanning.clear {n : Nat} (h : Scanning s t r c n) : Scanning (clearSent s) t r c n :=
  ⟨⟨h.calm.on, (clearSent_images s).trans h.calm.images⟩, h.run, h.cfg, h.first, h.room⟩

/-- An instruction that succeeds takes the scan on. -/
theorem tic_ok {n : Nat} (w : Nat) (u : Run → Nat) (f : TaskCfg → Run → State → TicRes) (h : Scanning s t r c n)
    (hu : r.units + u r ≤ c.worst) {r' : Run} {s' : State} (hf : f c (r.begun w (u r)) (clearSent s) = .ok r' s')
    (hi : s'.pair.images = []) (hd : s'.scan.data = s.scan.data) :
    ∃ v, tic t w u f s = .next v ∧ (v.task t.toNat).run = some r' ∧ v.scan.data = s.scan.data := by
  refine ⟨settle (ticStep t w u f (clearSent s)), by simp [tic, actOn, act, h.calm.on], ?_⟩
  rw [ticStep_eq w u f h.clear hu, hf]
  refine ⟨?_, ?_⟩
  · rw [settle_task_run]
    · simp only [State.task, State.updTask, State.updScan, Store.get_upd_same]
    · exact hi
  · rw [settle_scan_data]
    · exact hd
    · exact hi

/-- A one-word instruction that only changes the scan. -/
theorem ticRun_ok {n : Nat} (u : Nat) (f : Run → Option Run) (h : Scanning s t r c n) (hu : r.units + u ≤ c.worst)
    {r' : Run} (hf : f (r.begun 1 u) = some r') :
    ∃ v, ticRun t u f s = .next v ∧ (v.task t.toNat).run = some r' ∧ v.scan.data = s.scan.data :=
  tic_ok (s' := clearSent s) 1 (fun _ => u) _ h hu (by simp only [hf]) ((clearSent_images s).trans h.calm.images) rfl

theorem updTask_task (s : State) (n : Nat) (f : Task → Task) : ((s.updTask n f).task n) = f (s.task n) :=
  Store.get_upd_same _ _ _ _

theorem updTask_data (s : State) (n : Nat) (f : Task → Task) : (s.updTask n f).scan.data = s.scan.data := rfl

theorem raise_task (k j : Nat) (s : State) (n : Nat) : ((raise k s j).task n) = s.task n := rfl

theorem addRec_task (r : NewRec) (s : State) (n : Nat) : ((addRec r s).task n) = s.task n := rfl

/-- What a fault leaves of its task, before the end of the edge. -/
structure Faulted (s v : State) (t code : Nat) (r : Run) : Prop where
  power : v.start.power = s.start.power
  images : v.pair.images = s.pair.images
  data : v.scan.data = s.scan.data
  held : r.spec = true → (v.task t).run = some { r with held := some { code := code, task := t, off := r.pc } }
  gone : r.spec = false → (v.task t).run = none ∧ (v.task t).faults = satInc (s.task t).faults ∧ raisedIn v.evt.edge 160

theorem queueCause_task (k : ErrCause) (s : State) (n : Nat) : ((queueCause k s).task n) = s.task n := by
  unfold queueCause
  split <;> rfl

theorem queueCause_raised (k : ErrCause) (s : State) (n : Nat) (h : raisedIn s.evt.edge n) :
    raisedIn (queueCause k s).evt.edge n := by
  unfold queueCause
  split
  · exact h
  · exact raisedIn_raise_of _ _ _ _ h

theorem queueCause_rest (k : ErrCause) (s : State) : (queueCause k s).start = s.start ∧ (queueCause k s).pair = s.pair
    ∧ (queueCause k s).scan.data = s.scan.data := by
  unfold queueCause
  split <;> exact ⟨rfl, rfl, rfl⟩

theorem countEnded_task (t : Nat) (s : State) (n : Nat) : ((countEnded t s).task n) = s.task n := by
  unfold countEnded
  split <;> rfl

theorem countEnded_rest (t : Nat) (s : State) : (countEnded t s).start = s.start ∧ (countEnded t s).pair = s.pair
    ∧ (countEnded t s).scan.data = s.scan.data := by
  unfold countEnded
  split <;> exact ⟨rfl, rfl, rfl⟩

theorem ticFault_spec (n code : Nat) (r : Run) (s : State) : Faulted s (ticFault n code r s) n code r := by
  unfold ticFault
  simp only []
  split
  · rename_i h
    refine ⟨rfl, rfl, rfl, fun _ => ?_, fun e => by simp [h] at e⟩
    simp only [State.task, State.updTask, State.updScan, Store.get_upd_same]
  · rename_i h
    have key : ∀ v : State, v.start = s.start → v.pair = s.pair → v.scan.data = s.scan.data → (v.task n).run = none →
        (v.task n).faults = satInc (s.task n).faults → raisedIn v.evt.edge 160 → Faulted s v n code r :=
      fun v a b c d e f => ⟨by rw [a], by rw [b], c, fun e => absurd e h, fun _ => ⟨d, e, f⟩⟩
    unfold realFault
    extract_lets s1 s2 s3 s4
    have hr : raisedIn s4.evt.edge 160 := raisedIn_raise _ _ _
    have ht : s4.task n = { s.task n with run := none, faults := satInc (s.task n).faults } := by
      have e4 : s4.task n = s2.task n := (raise_task _ _ _ _).trans (addRec_task _ _ _)
      rw [e4, updTask_task]
      simp only [s1, abandonScan, updTask_task, countEnded_task]
    have h1 : (s4.task n).run = none := by rw [ht]
    have h2 : (s4.task n).faults = satInc (s.task n).faults := by rw [ht]
    have q := countEnded_rest n s
    have a1 : s4.start = s.start := by simp [s4, s3, s2, s1, raise, addRec, abandonScan, q.1]
    have a2 : s4.pair = s.pair := by simp [s4, s3, s2, s1, raise, addRec, abandonScan, q.2.1]
    have a3 : s4.scan.data = s.scan.data := by
      simp only [s4, s3, raise, addRec, State.updEvt_scan, State.updJrn_scan, s2, s1, abandonScan, updTask_data, q.2.2]
    clear_value s4
    split
    · exact key s4 a1 a2 a3 h1 h2 hr
    · have q := queueCause_rest { code := code, task := n, off := r.pc } s4
      exact key _ (q.1.trans a1) (q.2.1.trans a2) (q.2.2.trans a3) (by rw [queueCause_task]; exact h1) (by rw [queueCause_task]; exact h2)
        (queueCause_raised _ _ _ hr)

/-- The end of the edge of a fault. -/
theorem settle_faulted {i : Instr} {v : State} {code : Nat} (on : s.start.power = .on) (hi : s.pair.images = [])
    (e : exec i s = .next (settle v)) (h : Faulted (clearSent s) v t.toNat code r) : FaultsWith i s t code r := by
  have hv : v.pair.images = [] := h.images.trans ((clearSent_images s).trans hi)
  refine ⟨_, e, ?_, fun g => ?_, fun g => ⟨?_, ?_, ?_⟩⟩
  · rw [settle_scan_data v hv]
    exact h.data
  · rw [settle_task_run v _ hv]
    exact h.held g
  · rw [settle_task_run v _ hv]
    exact (h.gone g).1
  · rw [settle_task_faults v _ hv]
    exact (h.gone g).2.1
  · exact settle_pend v 160 (by decide) (h.power.trans on) hv (.inl (h.gone g).2.2)

theorem tic_faults {n : Nat} {i : Instr} (w : Nat) (u : Run → Nat) (f : TaskCfg → Run → State → TicRes)
    (e : exec i s = tic t w u f s) (h : Scanning s t r c n) {code : Nat} (hu : r.units + u r ≤ c.worst)
    (hf : f c (r.begun w (u r)) (clearSent s) = .fault code) : FaultsWith i s t code r := by
  refine settle_faulted (v := ticStep t w u f (clearSent s)) h.calm.on h.calm.images ?_ ?_
  · rw [e]
    simp [tic, actOn, act, h.calm.on]
  · rw [ticStep_eq w u f h.clear hu, hf]
    exact ticFault_spec _ _ _ _

theorem tic_budget {n : Nat} {i : Instr} (w : Nat) (u : Run → Nat) (f : TaskCfg → Run → State → TicRes)
    (e : exec i s = tic t w u f s) (h : Scanning s t r c n) (hu : c.worst < r.units + u r) : FaultsWith i s t 4 r := by
  refine settle_faulted (v := ticStep t w u f (clearSent s)) h.calm.on h.calm.images ?_ ?_
  · rw [e]
    simp [tic, actOn, act, h.calm.on]
  · unfold ticStep
    rw [h.clear.run, h.clear.cfg]
    simp only [h.clear.first, if_true, if_pos hu]
    exact ticFault_spec _ _ _ _

end Sys2Proof.Machine
end

