-- ==== Sys2Proof/Tests/Slice0.lean ====
section
/-! SUPPORT. Tests: ill-formed commands, decoded words, effects worked out by hand from the rules, and states that meet the
hypotheses of the statements. -/

namespace Sys2Proof.Tests

open Sys2Proof Sys2Proof.Machine

/-- The state that a command leads to. -/
def after (i : Instr) (s : State) : State :=
  match exec i s with
  | .next t => t
  | _ => s

/-! ## Ill-formed commands -/

theorem test_wf_refuses :
    (Instr.ld 0 .bool 0xFFFFF).wf = true ∧ (Instr.add 0 .bool).wf = false ∧ (Instr.lds 0 .dint 4).wf = false
    ∧ (Instr.ldx 0 .dint 0x100000000).wf = false ∧ (Instr.math 0 .dint 0).wf = false ∧ (Instr.math 0 .real 12).wf = false
    ∧ (Instr.shl 0 .bool).wf = false ∧ (Instr.mod 0 .real).wf = false := by decide

theorem test_wf_refuses_messages :
    (Instr.ferryReply 0 [1, 2]).wf = false ∧ (Instr.pollReply 0 []).wf = false ∧ (Instr.pollTimeout 1280).wf = false
    ∧ (Instr.ptpMessage 0 [] {}).wf = false
    ∧ (Instr.ptpMessage 0 (List.replicate 60 0) { step := some (false, 0, 1000000000) }).wf = false
    ∧ (Instr.ptpMessage 0 (List.replicate 60 0) { reply := some (1, []) }).wf = false
    ∧ (Instr.lease 1 1 0 { ns := 1000000000 } {}).wf = false ∧ (Instr.leaseAck 1 1 {} { ns := 1000000000 }).wf = false
    ∧ (Instr.image 1 { task := 0, words := [(1048576, 0)] }).wf = false
    ∧ (Instr.sample 1 { time := {}, mark := 0, volt := 0, meas := [⟨0, 1, 0⟩] }).wf = false
    ∧ (Instr.solver 1 { spans := [(1040, 1)] }).wf = false ∧ (Instr.solver 1 { stopped := [(1040, 1, 1)] }).wf = false
    ∧ (Instr.digest 1 { fix := false }).wf = false ∧ (Instr.resync 1 1 0 [0]).wf = false := by decide

theorem test_wf_refuses_others :
    (Instr.corePairBist 5 true).wf = false ∧ (Instr.hello 0 [1]).wf = false ∧ (Instr.prove 0 0 [1]).wf = false
    ∧ (Instr.mgmtRead ⟨0, 0, 0, [], []⟩ 0 1).wf = false ∧ (Instr.close ⟨0, 0, 0, [], [1]⟩).wf = false
    ∧ (Instr.mgmtWrite ⟨0, 0, 0, [], List.replicate 16 0⟩ 0 2 [0]).wf = false
    ∧ (Instr.mgmtWrite ⟨0, 0, 0, [], []⟩ 0 1 [0]).wf = false ∧ (Instr.hspiIgnoredTransaction 0x0B).wf = false
    ∧ (Instr.hspiIgnoredTransaction 0x02).wf = false ∧ (Instr.hspiIgnoredTransaction 0x05).wf = false
    ∧ (Instr.iteration 1040).wf = false ∧ (Instr.factorStep 1040).wf = false
    ∧ (Instr.solverDeadline 0 (List.replicate 65 none)).wf = false := by decide

/-! ## Decoded words, by the encoding table (09 R241, R242) -/

theorem test_decode_add : (decodeIns 0 [0x10400000]).bind (ticInstr 1) = some (.add 1 .dint) := by decide

theorem test_decode_ldx_lreal :
    (decodeIns 0 [0x06B00000, 0x54442D18, 0x400921FB]).bind (ticInstr 0) = some (.ldx 0 .lreal 0x400921FB54442D18) := by decide

theorem test_decode_call : (decodeIns 0 [0x43100040, 0x00000007]).bind (ticInstr 2) = some (.call 2 true 0x40 7) := by decide

theorem test_table_words : decodeTableWord 32 0 = none ∧ (State.reset.withFetchWord 32 0) = State.reset := ⟨rfl, rfl⟩

/-! ## A small adopted manifest -/

def task (n trigger : Nat) : TaskCfg :=
  { num := n, prio := n, trigger := trigger, spec := false, entry := 0, await := none, frameBase := 0, worst := 1000
    minInterval := 1000, imageSize := 4096, storeSize := 1024, deltaSize := 1024 }

def mark (action param angle : Nat) : TideMark := { modulus := 1, offset := 0, angle := angle, action := action, param := param }

def loop3 : LoopCfg :=
  { num := 3, group := 0, direct := false, startManual := false, measure := .variable, channel := 0, window := 0, outKind := 0
    measVar := 0, rangeLow := 0, rangeHigh := 0x3FF0000000000000, spt := 0, kp := 2 ^ 24, ti := 0, td := 0, lo := 0
    hi := 2 ^ 24, ramp := 2 ^ 24, tr := 0, kv := 0, init := 0, dest := 0, cycleTime := 100, minPulse := 0
    scaleLow := 0, scaleHigh := 0, gains := [] }

def station (n : Nat) (c : Bool) : StationCfg :=
  { num := n, cfgC := c, dual := false, autoRejoin := false, tagged := false, addrA := [2, 0, 0, 0, 0, 9], addrB := []
    portsA := 1, portsB := 0, missLimit := 3, rejoinCount := 2, group := 0, tci := 0, outputs := [], inputs := [(2, 1, 0)]
    statusVar := none, modules := 1 }

def qp : Template :=
  { recIndex := 0, classP := false, n := 1, m := 1, nu := 1, nx := 1, v := 0, nnzE := 0, nnzP := 1, nnzA := 1, nnzL := 1
    fmts := List.replicate 16 24, boxes := List.replicate 16 (-(2 ^ 30), 2 ^ 30), perm := [0, 1], pPat := [[0]], aPat := [[0]]
    pVal := [2 ^ 24], aVal := [2 ^ 24], q := [0], lo := [0], hi := [2 ^ 24], scenList := [], scenVal := [], stateMap := []
    x0 := [0], lcols := [[1], []] }

def problem0 : ProblemCfg :=
  { num := 0, template := 0, scenarios := 1, runAhead := false, hostDelta := true, itMax := 100, rho0 := 65536, rhoMin := 1
    rhoMax := 2 ^ 30, sigma := 1, alpha := 2 ^ 24, epsAbs := 1, epsRel := 1, deltaMin := 1, deltaReg := 1, regLimit := 10
    checkInterval := 10, trust := 0, weights := [2 ^ 24] }

def meter2 : MeterCfg :=
  { chan := 2, input := 1, onToOff := false, table := none, weight := 5, tOn := 1000, tOff := 1000, fallback := 3, unit := 0
    totalVar := none, accVar := none, tariffVar := none }

def pairCfg : PairSetup :=
  { healthFrames := true, mismatchLimit := 2, healthDst := [1, 2, 3, 4, 5, 6], healthEtype := 0, healthPorts := 1
    healthInterval := 1, minTsafe := 100, raw := [] }

def man : Manifest :=
  { tide := { marks := [mark 1 0 10, mark 2 1 20, mark 3 0 30, mark 4 0 40, mark 5 0 50, mark 6 0 60, mark 7 0 70] }
    tasks := { stateTask := 1, tasks := [task 0 3, task 1 1, task 2 2] }
    code := { pous := [{ first := 0, words := 1, frame := 0, kind := 0, result := 0, depth := 1 }, { first := 8, words := 1, frame := 0, kind := 2, result := 0, depth := 1 }], code := [] }
    data := { varCount := 64, regions := [{ first := 0, count := 8, ty := 4, kind := 2 }, { first := 8, count := 8, ty := 4, kind := 3 }, { first := 16, count := 48, ty := 4, kind := 1 }] }
    force := some { spi := true, mgmt := false, entries := [(8, 2)] }
    problems := [problem0], templates := [qp], loops := [loop3]
    stations := some { groups := [0], stations := [station 7 true, station 9 false], pollBudget := 1, pollTimeout := 10 }
    net := some {}
    field := some { chans := [{ mode := .output, bind := some 8 }, { mode := .input }] ++ List.replicate 30 {} }
    meters := some { saveInterval := 60, baseOffset := 0, meters := [meter2], tables := [], offsets := [] } }

/-- A unit at stage 3 with its tide locked at 50 Hz and no scan in progress. -/
def live : State :=
  { start := { power := .on, stage := 3, adopted := true }, man := some man
    tide := { mode := .locked, rate := 50000000000, meas := 50000000000 }, ntime := { started := true }
    clk := { lock := 7, qual := 15, us := 1000000 }, jrn := { rebuilt := true, optime := 100000 } }

theorem calm_live : Calm live := ⟨rfl, rfl⟩

/-! ## TIC -/

/-- A unit whose task 1 executes the scan `r`. -/
def scanOf (r : Run) : State := { live with scan := { data := [(16, 5)], tasks := [(1, { run := some r })] } }

def run3 : Run := { stack := [7, 6, 1, 4, 2], image := [(16, 5)], pc := 4, units := 10 }

theorem scanning (r : Run) (n : Nat) (h : isRunning (scanOf r) 1 r = true) (k : r.units + n ≤ 1000) :
    Scanning (scanOf r) 1 r (task 1 1) n :=
  ⟨⟨rfl, rfl⟩, rfl, rfl, h, k⟩

/-- R256: 2147483647 + 1 wraps. -/
theorem test_add_wraps :
    ((after (.add 1 .dint) (scanOf { run3 with stack := [1, 0x7FFFFFFF] })).task 1).run.map (·.stack)
      = some [0xFFFFFFFF80000000] := by decide

/-- R256: -7 MOD 2 is -1. -/
theorem test_mod_sign :
    ((after (.mod 1 .dint) (scanOf { run3 with stack := [2, 0xFFFFFFFFFFFFFFF9] })).task 1).run.map (·.stack)
      = some [0xFFFFFFFFFFFFFFFF] := by decide

/-- R256, R272: a division by zero abandons the scan, counts a fault and raises 160. -/
theorem test_div_zero :
    let t := after (.div 1 .dint) (scanOf { run3 with stack := [0, 1] })
    (t.task 1).run = none ∧ (t.task 1).faults = 1 ∧ t.evt.pend.getLsbD 160 = true := by decide

theorem meets_step : ({ live with pending := [.tideLock] } : State).pending = .tideLock :: [] := rfl

theorem meets_idle : live.pending = [] ∧ live.start.power = .on ∧ live.ntime.started = true := ⟨rfl, rfl, rfl⟩

theorem meets_invariants : Fits live ∧ Settled live ∧ step live = .next (elapse 1 live) :=
  ⟨⟨by decide, by decide⟩, ⟨rfl, rfl, rfl⟩, rfl⟩

theorem meets_encode :
    (Instr.srd 3 .dint 9 1 3).wf = true ∧ ticTask (.srd 3 .dint 9 1 3) = some 3
    ∧ (ticFields (.srd 3 .dint 9 1 3)).isSome = true := by decide

theorem meets_pushes :
    Scanning (scanOf run3) 1 run3 (task 1 1) 1 ∧ ldsType 0 = some .udint ∧ ldsType 11 = some .udint
    ∧ run3.stack = 7 :: [6, 1, 4, 2] ∧ run3.stack = 7 :: 6 :: [1, 4, 2] :=
  ⟨scanning _ _ (by decide) (by decide), by decide, by decide, rfl, rfl⟩

/-- The store area has room for exactly one more entry. -/
def full : Run := { run3 with entries := List.replicate 63 (.store 20 .dint 1) }

theorem meets_stores :
    Scanning (scanOf full) 1 full (task 1 1) 1 ∧ (full.entries.length + 1) * 16 = (task 1 1).storeSize
    ∧ full.stack = 7 :: [6, 1, 4, 2] := ⟨scanning _ _ (by decide) (by decide), by decide, rfl⟩

/-- The last element of the region at 16, the first beyond it, and a negative index; with room for an entry. -/
theorem meets_indexed :
    Scanning (scanOf run3) 1 run3 (task 1 1) 1
    ∧ regionAt (scanOf run3).dataArea (0x10#20).toNat = some { first := 16, count := 48, ty := 4, kind := 1 }
    ∧ (63 : Int) = (0x10#20).toNat + slotInt .dint 47 * tyWords .dint
    ∧ 63 < ({ first := 16, count := 48, ty := 4, kind := 1 } : Region).stop
    ∧ (({ first := 16, count := 48, ty := 4, kind := 1 } : Region).stop : Int)
      ≤ (0x10#20).toNat + slotInt .dint 48 * tyWords .dint ∧ slotInt .dint 0xFFFFFFFFFFFFFFFF < 0
    ∧ (run3.entries.length + 1) * 16 ≤ (task 1 1).storeSize :=
  ⟨scanning _ _ (by decide) (by decide), rfl, by decide, by decide, by decide, by decide, by decide⟩

theorem meets_operands :
    Scanning (scanOf run3) 1 run3 (task 1 1) 24 ∧ run3.stack = 7 :: 6 :: 1 :: [4, 2] ∧ tyN .dint = true ∧ tyB .udint = true
    ∧ tyI .dint = true ∧ tyFloat .dint = false ∧ tyFloat .real = true ∧ slotF .real 0x7FC00000 = .nan
    ∧ slotInt .dint 7 ≠ 0 ∧ slotInt .dint 0 = 0 ∧ (9#4).toNat < 10 ∧ 10 ≤ (10#4).toNat ∧ (11#4).toNat ≤ 11
    ∧ run3.units + 24 ≤ (task 1 1).worst :=
  ⟨scanning _ _ (by decide) (by decide), rfl, by decide, by decide, by decide, by decide, by decide, by decide, by decide
    , by decide, by decide, by decide, by decide, by decide⟩

/-- A function in execution, called with one slot of its caller's. -/
def called : Run := { run3 with calls := [{ pc := 9, base := 3, stack := [8], gives := true }] }

theorem meets_control :
    Scanning (scanOf run3) 1 run3 (task 1 1) 2
    ∧ ((scanOf run3).man.map (·.code.pous)).bind (·[(1#12).toNat]?)
      = some { first := 8, words := 1, frame := 0, kind := 2, result := 0, depth := 1 }
    ∧ run3.calls = [] ∧ called.calls = { pc := 9, base := 3, stack := [8], gives := true } :: []
    ∧ isRunning (scanOf called) 1 called = true :=
  ⟨scanning _ _ (by decide) (by decide), rfl, rfl, rfl, by decide⟩

/-- 09 R254: a function's result comes on top of its caller's slots, and nothing else of its own share does. -/
theorem test_return :
    ((after (.ret 1) (scanOf called)).task 1).run.map (fun r => (r.stack, r.pc, r.base)) = some ([7, 8], 9, 3) := by decide

/-- A timer at word 16 in each state of its bits: not running, its input on, and running. -/
theorem meets_timers :
    Scanning (scanOf run3) 1 run3 (task 1 1) 2 ∧ run3.stack = 7 :: 6 :: [1, 4, 2]
    ∧ (run3.entries.length + 3) * 16 ≤ (task 1 1).storeSize ∧ slotBool 0 = false ∧ slotBool 1 = true
    ∧ (readVar run3 .udint 16).getLsbD 0 = true ∧ (readVar run3 .udint 20).getLsbD 0 = false
    ∧ (timerAt { run3 with image := [(16, 4)] } 16).run = true ∧ (timerAt run3 20).run = false
    ∧ isRunning (scanOf { run3 with image := [(16, 4)] }) 1 { run3 with image := [(16, 4)] } = true :=
  ⟨scanning _ _ (by decide) (by decide), rfl, by decide, by decide, by decide, by decide, by decide, by decide, by decide
    , by decide⟩

theorem meets_counters :
    Scanning (scanOf run3) 1 run3 (task 1 1) 2 ∧ (run3.entries.length + 2) * 16 ≤ (task 1 1).storeSize
    ∧ run3.stack = 7 :: 6 :: 1 :: [4, 2] ∧ run3.stack = 7 :: 6 :: 1 :: 4 :: 2 :: [] :=
  ⟨scanning _ _ (by decide) (by decide), by decide, rfl, rfl⟩

/-- Parameters at the ends of their range, and the 256th and the 257th journal write of a scan. -/
theorem meets_device_writes :
    Scanning (scanOf run3) 1 run3 (task 1 1) 4 ∧ (run3.entries.length + 1) * 16 ≤ (task 1 1).storeSize
    ∧ (loopCfg (scanOf run3) (3#9).toNat).isSome = true ∧ paramAllowed .dint 1 = true ∧ paramAllowed .lreal 13 = true
    ∧ (paramAllowed .lreal 12 && paramWritable 12) = true ∧ jrnCount run3 < 256 ∧ 256 ≤ jrnCount { run3 with entries := List.replicate 256 (.jrn 0 0 0 0 0) } :=
  ⟨scanning _ _ (by decide) (by decide), by decide, by decide, by decide, by decide, by decide, by decide, by decide +kernel⟩

/-- A delta frame of one pair that passes, one for no problem, and one that the task's area cannot take. -/
def framed : Run := { run3 with image := [(20, 0x00010000), (21, 1), (22, 0), (23, 3)] }

theorem meets_solver_access :
    Scanning (scanOf framed) 1 framed (task 1 1) 3 ∧ dfwCount framed 20 = 1
    ∧ deltaReason (scanOf framed) (wordsToBytes (loadDelta 20 4 framed).1) 16 false = 0
    ∧ deltaReason (scanOf run3) (wordsToBytes (loadDelta 20 2 { run3 with image := [(20, 5)] }).1) 8 false = 1
    ∧ (task 1 1).deltaSize < deltaUsed 1 { framed with delta := [List.replicate 1016 0] } (scanOf framed) + 16
    ∧ deltaUsed 1 framed (scanOf framed) + 16 ≤ (task 1 1).deltaSize
    ∧ problemDef (scanOf run3) (0#20).toNat = some (problem0, qp) ∧ (resultFor (scanOf run3) run3 0).isSome = true
    ∧ resultFor (scanOf run3) { run3 with marks := 1 } 0 = none ∧ problem0.scenarios ≤ (1#3).toNat
    ∧ (0#3).toNat < problem0.scenarios :=
  ⟨scanning _ _ (by decide) (by decide), by decide, by decide, by decide, by decide +kernel, by decide, rfl, by decide, by decide
    , by decide, by decide⟩

/-- 990 of 1,000 units are used: the 10 that are left do not do for MATH. -/
def late : Run := { run3 with units := 990 }

theorem meets_budget :
    ticTask (.math 1 .real 0) = some 1 ∧ Scanning (scanOf late) 1 late (task 1 1) 0
    ∧ (task 1 1).worst < late.units + ticUnits late (.math 1 .real 0) :=
  ⟨by decide, scanning _ _ (by decide) (by decide), by decide⟩

theorem meets_tic_frame :
    ticTask (.dup 1) = some 1 ∧ (scanOf run3).pair.images = [] ∧ ∃ u, exec (.dup 1) (scanOf run3) = .next u :=
  ⟨by decide, rfl, _, rfl⟩

/-! ## Start sequence -/

/-- At t0, and at steps 1, 2 and 3 of stage 1. -/
def at0 : State := { start := { power := .on } }
def atStep (n : Byte) : State := { start := { power := .on, stage := 1, step := n, pointer := some ⟨1, 1, 1, 0, 1, 1, 0⟩ } }

theorem meets_starts :
    State.reset.start.power = .off ∧ State.reset.pins.resetN = true ∧ ({} : State).start.power = .off
    ∧ ({ pins := { resetN := false } } : State).pins.resetN = false
    ∧ ({ start := { power := .held }, pins := { vin := true } } : State).start.power = .held
    ∧ ({ start := { power := .held }, pins := { vin := true } } : State).pins.vin = true ∧ at0.start.power = .on := by decide

theorem meets_supply_loss : Calm at0 ∧ at0.start.power = .on ∧ ({ start := { power := .flush } } : State).start.power = .flush
    ∧ at0.start.threshold.toNat ≤ (0x0A28#16).toNat ∧ (0x0A27#16).toNat < at0.start.threshold.toNat
    ∧ givesOver at0 = false := ⟨⟨rfl, rfl⟩, rfl, rfl, by decide, by decide, by decide⟩

/-- 04 R105: a VIN at the threshold is no warning, one below it begins the flush. -/
theorem test_threshold :
    (after (.pfailWarn 0x0A28 false) at0).start.power = .on ∧ (after (.pfailWarn 0x0A27 false) at0).start.power = .flush := by
  decide +kernel

theorem meets_stages :
    Calm at0 ∧ at0.start.stage = 0 ∧ at0.fio.loaded = false ∧ Calm (atStep 1) ∧ (atStep 1).start.stage = 1
    ∧ (atStep 1).start.step = 1 ∧ (atStep 9).start.step = 9 ∧ (atStep 9).clk.qual.getLsbD 2 = false :=
  ⟨⟨rfl, rfl⟩, rfl, rfl, ⟨rfl, rfl⟩, rfl, rfl, rfl, by decide⟩

/-- Blank flash: both checks refuse. What passes depends on the opaque signature functions of Config. -/
theorem meets_checks :
    Calm (atStep 2) ∧ (atStep 2).keys.fwReason = 0 ∧ (atStep 3).start.refused = false
    ∧ (∃ n g, verifyFirmware (atStep 2) ⟨1, 1, 1, 0, 1, 1, 0⟩ none = .refuse n g)
    ∧ ∃ n i g, verifyManifest (atStep 3) 1 1 none = .refuse n i g :=
  ⟨⟨rfl, rfl⟩, rfl, rfl, ⟨_, _, rfl⟩, _, _, _, rfl⟩

theorem meets_hold :
    Calm (atStep 7) ∧ (atStep 7).start.step = 7 ∧ ({ atStep 6 with tide := { mode := .acquire, validRun := 8 } } : State).tide.mode = .acquire
    ∧ 8 ≤ ({ atStep 6 with tide := { mode := .acquire, validRun := 8 } } : State).tide.validRun
    ∧ ({ atStep 6 with tide := { mode := .acquire, validRun := 7 } } : State).tide.validRun < 8 :=
  ⟨⟨rfl, rfl⟩, rfl, rfl, by decide, by decide⟩

/-- The power-on start: VIN valid, then stage 0 with one power cycle more. -/
theorem test_power_on :
    (after .vinValid State.reset).start.power = .on ∧ (after .vinValid State.reset).mram.dev.pcyc = 1
    ∧ (after .vinValid State.reset).start.stage = 0 := by decide +kernel

/-- RESET_N keeps the next start from happening. -/
theorem test_reset_n :
    (after .resetNAssert at0).start.power = .held ∧ (after .vinValid { pins := { resetN := false } }).start.power = .held := by
  decide +kernel

/-- 04 R84: the mooring evaluation ends stage 0. -/
theorem test_stage_one : (after (.mooringEvaluate none) at0).start.stage = 1 ∧ (after (.mooringEvaluate none) at0).start.step = 1 := by
  decide +kernel

def mooring : Mooring :=
  { slot := 0, mgmtPorts := 0, seq := 1, owner := [], digest := [], chans := [], raw := []
    loops := [{ pi := true, input := 0, duty := false, direct := false, mask := 1, low := 0, high := 1000, sp := 500, hyst := 10
                kp := 65536, ti := 10, cycle := 1000, lo := 0, hi := 1000, sample := 100, window := 100 }]
    ilks := [{ cond := 1, subject := 0, forceOn := true, latching := true, persistent := false, threshold := 0, mask := 2
               delay := 0 }] }

def moored : State :=
  { start := { power := .on, stage := 1 }, moor := { running := true, record := some mooring } }

theorem meets_mooring :
    Calm moored ∧ moored.moor.running = true ∧ ((moored.moor.record.map (·.loops)).bind (·[(0#4).toNat]?)).any (·.pi) = true
    ∧ ((moored.moor.record.map (·.ilks)).getD []).length = 1 := ⟨⟨rfl, rfl⟩, rfl, by decide, rfl⟩

/-! ## Tide and register accesses -/

/-- A tracker that measures 50 Hz at an angle. -/
def grid (a : BitVec 16) : Tracker := { freqLo := 50000000, freqHi := 50000000, freq := 50000000, amplitude := 20000, angle := a }

def tideIs (m : TideMode) : State := { live with tide := { live.tide with mode := m, validRun := 8, invalidRun := 3 } }

/-- Valid and invalid cycles in every mode, with the source 16 and 17 steps away. -/
theorem meets_boundaries :
    Calm (tideIs .holdover) ∧ validCycle live.tideSetup (grid 0) = true ∧ validCycle live.tideSetup {} = false
    ∧ (wrapAngle (0 - (grid 16).angle)).natAbs = 16 ∧ (wrapAngle (0 - (grid 17).angle)).natAbs = 17
    ∧ (∀ m ∈ [TideMode.locked, .holdover, .coast], (tideIs m).tide.runs = true) ∧ live.tide.peerSrc = false
    ∧ live.tide.peerTracker = none := ⟨⟨rfl, rfl⟩, by decide, by decide, by decide, by decide, by decide, rfl, rfl⟩

theorem meets_mode_changes :
    Calm (tideIs .coast) ∧ 3 ≤ (tideIs .holdover).tide.invalidRun ∧ 8 ≤ (tideIs .coast).tide.validRun
    ∧ (wrapAngle ((tideIs .coast).tide.angle - 16)).natAbs ≤ 16 ∧ 16 < (wrapAngle ((tideIs .coast).tide.angle - 17)).natAbs
    ∧ 1024 < (wrapAngle ((tideIs .locked).tide.angle - 1025)).natAbs := ⟨⟨rfl, rfl⟩, by decide⟩

/-- The last cycle that a stamp serves, and the first beyond it. -/
theorem meets_conversions :
    let s : State := { live with tide := { live.tide with convReq := some (65535, 0), stamp := some (0, {}) } }
    Calm s ∧ s.tide.convReq = some (65535, 0) ∧ s.tide.stamp = some (0, {})
    ∧ ((65535 : Word) - (0#48).setWidth 32).toNat ≤ 65535 ∧ 65535 < ((65536 : Word) - (0#48).setWidth 32).toNat :=
  ⟨⟨rfl, rfl⟩, rfl, rfl, by decide, by decide⟩

/-- 02 R38: with P in 1/64 ns, 20,000,000 ns a cycle. -/
theorem test_convert : convertNs 65536 1280000000 = 20000000 ∧ convertNs 32768 1280000000 = 10000000 := by decide

/-- 02 R51: the end read gives the value of the snapshot, not the running count. -/
theorem test_snapshot :
    let s := { after (.tideCycleRead .spi) live with tide := { live.tide with cycle := 0x500000000 } }
    (s.path .spi).snTide = some {} ∧ ((after (.snapshotEndRead .spi .tide) s).path .spi).out = [0] := by decide +kernel

theorem meets_snapshots :
    Calm live ∧ (({ live with mtr := { live.mtr with ch := [(0, { known := true })] } } : State).meter 0).known = true :=
  ⟨calm_live, by decide⟩

/-- Addresses on both sides of the map's blocks, and a misaligned one. -/
theorem meets_register_writes :
    Calm live ∧ (0x3FFFFFFC#32).toNat % 4 = 0 ∧ (0x3FFFFFFC#32).toNat / 65536 < 0x4000
    ∧ 0x4013 < (0x40140000#32).toNat / 65536 ∧ (0x40070000#32).toNat / 65536 = 0x4007 ∧ (0x400F0000#32).toNat / 65536 = 0x400F
    ∧ (0x40000001#32).toNat % 4 ≠ 0 := ⟨calm_live, by decide⟩

/-- 04 R111: 5,000 is in range, 5,001 is not. -/
theorem test_pfail_config :
    (after (.registerWrite .spi 0x4000004C 5000) live).start.threshold = 5000
    ∧ (after (.registerWrite .spi 0x4000004C 5001) live).start.threshold = 0x0A28 := by decide +kernel

theorem meets_spi :
    Calm live ∧ spiServed live = true ∧ live.clk.mode = .run ∧ (0x40000000#32).toNat % 4 = 0 ∧ (0x40000002#32).toNat % 4 ≠ 0
    ∧ (0x9F#8) ≠ 0x0B ∧ (0x9F#8) ≠ 0x02 ∧ (0x9F#8) ≠ 0x05 :=
  ⟨calm_live, by decide, rfl, by decide, by decide, by decide, by decide, by decide⟩

/-- A unit with a management port 0, a host key, and a setup or a session. -/
def managed : State :=
  { live with ports := [(0, { cfg := { enabled := true, mgmt := true }, up := true })], keys := { hostKey := some [1] }
              hst := { setup := some ⟨5, [], []⟩ } }

def inSession : State := { managed with hst := { session := some { sid := 5, key := [2], last := some 3 } } }

theorem meets_sessions :
    Calm managed ∧ servesMgmt managed 0 = true ∧ helloAllowed managed = true ∧ managed.hst.session = none
    ∧ managed.keys.hostKey = some [1] ∧ managed.hst.setup = some ⟨5, [], []⟩ ∧ (List.replicate 16 (0 : Byte)).length = 16
    ∧ (∃ tag, tag = setupTag [1] 0x48 ⟨5, [], []⟩) ∧ servesMgmt inSession 0 = true
    ∧ inSession.hst.session = some { sid := 5, key := [2], last := some 3 } ∧ (some (3 : Word)).all (· < 4) = true ∧ accessStatus 0x40000000 1 = 0
    ∧ accessStatus 0x40000000 256 = 0 ∧ accessStatus 0x40000000 257 ≠ 0 ∧ accessStatus 0x40000001 1 ≠ 0
    ∧ (∃ h : MgmtHead, h.port = 0 ∧ h.session = 5 ∧ h.counter = 4
      ∧ h.raw = requestBytes 0x05 h (accessPayload 0x40000000 1) ∧ h.tag = frameTag [2] h.raw "UL-7160 mgmt request") :=
  ⟨⟨rfl, rfl⟩, by decide, by decide, rfl, rfl, rfl, rfl, ⟨_, rfl⟩, by decide, rfl, by decide, by decide, by decide, by decide
    , by decide, ⟨0, 5, 4, _, frameTag [2] (requestBytes 0x05 ⟨0, 5, 4, [], []⟩ (accessPayload 0x40000000 1)) "UL-7160 mgmt request"⟩
    , rfl, rfl, rfl, rfl, rfl⟩

/-- The largest and the smallest range, the last sector, and what lies just beyond them. -/
theorem meets_flash :
    Calm live ∧ Memory.wf (0xFF : Byte) live.flash = true ∧ live.hst.flBusy = false
    ∧ 0 + 4096 ≤ Config.flashMiB * 2 ^ 20 ∧ 0xFFFFFFC + 4 ≤ Config.flashMiB * 2 ^ 20 ∧ ¬ (4100 ≤ 4096) ∧ 2 % 4 ≠ 0
    ∧ 0xFFF0000 % 65536 = 0 ∧ 0xFFF0000 + 65536 ≤ Config.flashMiB * 2 ^ 20 ∧ changeReason live 0x00FF0000 65536 = 0
    ∧ changeReason live 0x00900000 65536 = 0 ∧ changeReason live 0x008FFFFC 4 = 2 ∧ changeReason at0 0 4 = 1
    ∧ ({ live with hst := { flBusy := true, flOp := some .erase, flCount := 65536 } } : State).hst.flOp = some .erase :=
  ⟨calm_live, by decide, rfl, by unfold Config.flashMiB; omega, by unfold Config.flashMiB; omega, by decide, by decide, by decide
    , by unfold Config.flashMiB; omega, by decide, by decide, by decide, by decide, rfl⟩

/-- 20 R570: an erase completes with the sector's bytes at 0xFF and raises 22. -/
theorem test_erase :
    let s : State := { live with flash := [(65535, 1), (65536, 2), (131072, 3)]
                                 hst := { flBusy := true, flOp := some .erase, flAt := 65536, flCount := 65536 } }
    let t := after (.flashDone true) s
    t.flash = [(65535, 1), (131072, 3)] ∧ t.hst.flDone = true ∧ t.evt.pend.getLsbD 22 = true := by decide +kernel

theorem meets_accept_other :
    let s : State := { atStep 3 with start := { (atStep 3).start with refused := true } }
    Calm s ∧ Memory.wf (0xFF : Byte) s.flash = true ∧ s.hst.flBusy = false ∧ s.hst.flLen = 0 ∧ s.start.refused = true
    ∧ s.start.stage = 1 ∧ s.start.pointer.isSome = true
    ∧ ∃ n i g, verifyManifest s (otherSlot 1) s.hst.flSeq.toNat none = .refuse n i g :=
  ⟨⟨rfl, rfl⟩, by decide, rfl, rfl, rfl, rfl, rfl, _, _, _, rfl⟩

/-! ## Events, journal, keys -/

/-- Every source routed to the journal, forwarded, and to task 2. -/
def routed : State :=
  { live with evt := { routes := some (List.replicate 256 { journal := true, pair := true, irq := 0, severity := 3, task := some 2 }) } }

theorem meets_raises :
    Settled live ∧ Settled routed ∧ (routeOf routed 255).pair = true ∧ (routeOf routed 0).task = some 2
    ∧ routed.isActive = true ∧ (routeOf live 216).journal = false ∧ recordless 160 = true ∧ (routeOf live 0).severity < 6
    ∧ mergeLast live.jrn.optime (routedRec (routeOf live 0) 0 0 false) live.jrn.buffer = none ∧ bufferCount live < 2048
    ∧ bufferCount live ≠ 1535 ∧ (nextKey live.jrn).1 ≤ live.jrn.optime.toNat + 1000 :=
  ⟨⟨rfl, rfl, rfl⟩, ⟨rfl, rfl, rfl⟩, by decide, by decide, by decide, by decide, by decide, by decide, rfl, by decide
    , by decide, by decide⟩

/-- 17 R475, R486: two raises of a source on one edge count once, with the lower subject. -/
theorem test_raise_merge :
    let t := settleEvents (raise 64 (raise 64 live 5) 3)
    Store.get 0 t.evt.count 64 = 1 ∧ t.jrn.buffer.map (fun r => (r.source, r.payload)) = [(64, 3)] := by decide +kernel

def jrec : JRec :=
  { optime := 1, pcyc := 1, sev := 4, peer := false, order := 0, source := 64, sub := 0, code := 0, payload := 0 }

theorem meets_journal :
    Calm live ∧ Settled live ∧ live.jrn.busy = false ∧ live.jrn.flushing = false ∧ live.jrn.rebuilt = true
    ∧ live.jrn.buffer = [] ∧ live.jrn.taken = [] ∧ (nextKey live.jrn).1 ≤ live.jrn.optime.toNat + 1000
    ∧ (∃ v, freeSlot 0 live.mram.journal = some v)
    ∧ (1048575#20).toNat + (1#11).toNat ≤ 1048576 ∧ 1 ≤ (1#11).toNat ∧ (1024#11).toNat ≤ 1024
    ∧ ({ live with jrn := { rebuilt := true, flushing := true, hostFlush := true, taken := [jrec] } } : State).jrn.taken = [jrec]
    ∧ ({ live with keys := { sealKey := some [1], sealBlob := 3 } } : State).keys.sealBlob ≠ 0xFF
    ∧ ({ live with jrn := { extNext := [1] } } : State).jrn.extNext ≠ [] ∧ at0.jrn.rebuilt = false ∧ at0.jrn.again = false :=
  ⟨calm_live, ⟨rfl, rfl, rfl⟩, rfl, rfl, rfl, rfl, rfl, by decide, ⟨_, rfl⟩, by decide, by decide, by decide, rfl, by decide
    , by decide, by decide, rfl⟩

/-- What a blob slot holds depends on the opaque unwrapping of Config: only empty slots are shown. -/
theorem meets_keys :
    Calm live ∧ live.keys.job = none ∧ slotBlob live (argSlot live.keys) = none
    ∧ live.keys.held.getLsbD (argSlot live.keys) = false ∧ argProvable live.keys = false ∧ argWrapped live.keys = false
    ∧ live.mram.dev.owner = none ∧ 2 ≤ live.start.stage ∧ at0.start.stage < 2
    ∧ live.fuses < ({ live.keys with fwSv := 1 } : Keys).fwSv.toNat
    ∧ at0.fuses < ({ at0.keys with fwSv := 1 } : Keys).fwSv.toNat ∧ live.keys.fwSv.toNat ≤ live.fuses
    ∧ purposeFits 1 1 = true ∧ argProvable { live.keys with args := 0xFFFFFFFF } = true
    ∧ ({ live.keys with job := some {} } : Keys).job = some {} :=
  ⟨calm_live, rfl, by decide, by decide, by decide, by decide, rfl, by decide, by decide, by decide, by decide, by decide, by decide
    , by decide, rfl⟩

/-- 18 R525: a fuse commit blows up to the firmware's security version, and never beyond 64. -/
theorem test_fuse_commit :
    let s := fun (n : Byte) => ({ live with keys := { job := some { effect := .fuse }, fwSv := n }, fuses := 2 } : State)
    (after .keyCommandDone (s 5)).fuses = 5 ∧ (after .keyCommandDone (s 200)).fuses = 64 := by decide +kernel

/-! ## Clocks, loops, field and meters -/

theorem meets_clocks :
    let k := live.clk
    Calm live ∧ ({ k with armed := true } : Clk).armed = true ∧ ({ k with opened := 1 } : Clk).opened ≠ 0
    ∧ k.qual.getLsbD 0 = true ∧ k.qual.getLsbD 2 = true ∧ loopBit .pllNet = some 2
    ∧ ({ k with relocking := 4 } : Clk).relocking.getLsbD 2 = true ∧ ({ k with mode := .deep } : Clk).mode ≠ .run
    ∧ ({ k with wakeEn := 4 } : Clk).wakeEn.getLsbD (wakeNumber .alarm1 - 1) = true
    ∧ k.wakeEn.getLsbD (wakeNumber .alarm0 - 1) = false ∧ (atStep 9).start.stage = 1 ∧ (atStep 9).moor.record = none
    ∧ (atStep 9).fio.applied = 0 ∧ k.fmBusy = false ∧ gateLength { k with fmCfg := 1 } ≠ 0 :=
  ⟨calm_live, by decide, by decide, by decide, by decide, by decide, by decide, by decide, by decide, by decide, by decide, by decide, by decide, by decide, by decide⟩

theorem meets_calendar :
    Calm live ∧ (stagedTime { year := 2024, date := 0x0000021D, time := 0x00173B3B }).valid = true
    ∧ (stagedTime { year := 2023, date := 0x0000021D, time := 0 }).valid = false ∧ live.cal.shift.toInt.natAbs ≤ 32768
    ∧ (alarmMet live.cal false).contains live.cal.now.secs = false ∧ alarmMatches { live.cal with alm0Time := 0x88808080, alm0Date := 0x80008080 } false = true
    ∧ (ptpCalendar { live with ntime := { live.ntime with sec := 1700000000, set := true, servo := 2, gmUtc := some 37 } }).isSome = true
    ∧ ptpCalendar at0 = none := ⟨calm_live, by decide⟩

theorem meets_loops :
    Calm live ∧ live.isStandby = false ∧ (live.loopTable.map (·.num)).Nodup ∧ (fireMark 2 3 (clearSent live)).isSome = true
    ∧ loopCfg live 3 = some loop3 ∧ loopCfg live 511 = none ∧ live.loop.tstPending = none
    ∧ testValid { kind := 1, output := false, hold := 0, amp := 0x1000000, len := 1, f0 := 0, f1 := 0 } = true
    ∧ testValid { kind := 1, output := false, hold := 0, amp := 0x1000001, len := 1, f0 := 0, f1 := 0 } = false :=
  ⟨calm_live, by decide⟩

/-- 11 R311: a sample at the mark starts the loop and stamps it. -/
theorem test_loop_sample :
    let t := after (.loopGroupSample 2) live
    (t.loopSt 3).started = true ∧ t.tide.angle = 30 ∧ Store.get 0 t.tide.fired 2 = 1 := by decide +kernel

/-- Channel 0 is an output, channel 1 an input; a readback that differs, and a standby. -/
def fielded : State := { live with fio := { loaded := true, applied := 1, cmd := 1, supply := 2 } }

theorem meets_field :
    Calm fielded ∧ (channelOf fielded 1).mode ≠ .unused ∧ fielded.fio.filtered.getLsbD 1 ≠ true ∧ isOutput fielded 0 = true
    ∧ releasedOut fielded 0 = false ∧ fielded.fio.filtered.getLsbD 0 ≠ fielded.fio.cmd.getLsbD 0 ∧ fielded.fio.kept = false
    ∧ ({ fielded with pair := { role := .lockstep } } : State).isStandby = true ∧ wantOut fielded 0 = false
    ∧ fielded.fio.wdog.getLsbD 3 = false ∧ fielded.fio.supply.getLsbD 1 = true :=
  ⟨⟨rfl, rfl⟩, by decide⟩

/-- 15 R437: a mismatch sets FAULT and raises 32 once. -/
theorem test_readback :
    let t := after (.readbackMismatch 0) fielded
    t.fio.fault = true ∧ t.evt.pend.getLsbD 32 = true ∧ (after (.readbackMismatch 0) { t with evt := {} }).evt.pend = 0 := by
  decide +kernel

/-- 15 R438, R440: a supply fault turns its group off. -/
theorem test_supply : (after (.vfldFault 0) fielded).fio.applied = 0 := by decide +kernel

/-- A meter whose forwarded edge has been stable for its 100 ms, at a total just below the wrap. -/
def metered : State :=
  { live with mtr := { ch := [(2, { begun := true, known := true, fwd := true, fwdAt := 899000, fwdTime := some 899000
                                    vals := { total := 0xFFFFFFFFFFFFFFFB } })] }
              fio := { raw := 2, rawAt := [(1, 899000)] }, clk := { live.clk with us := 999000 } }

def meteredAt (us : DWord) : State := { metered with clk := { metered.clk with us := us } }

theorem meets_meters :
    Calm metered ∧ metered.start.adopted = true ∧ ((definedMeters metered).map (·.chan)).Nodup ∧ meter2 ∈ definedMeters metered
    ∧ meter2.input = (1#5).toNat ∧ meter2.chan = (2#4).toNat ∧ (live.meter 2).begun = false
    ∧ (metered.meter 2).begun = true ∧ (metered.meter 2).fwd ≠ (metered.meter 2).qs ∧ (metered.meter 2).fwd ≠ meter2.onToOff
    ∧ 2 ^ 64 ≤ (metered.meter 2).vals.total.toNat + meter2.weight ∧ metered.clk.us.toNat - (metered.meter 2).fwdAt.toNat = stableTime meter2 true
    ∧ (meteredAt 998999).clk.us.toNat - (metered.meter 2).fwdAt.toNat < stableTime meter2 true
    ∧ (Store.get 0 metered.fio.rawAt 1).toNat + max (stableTime meter2 true) (stableTime meter2 false) = metered.clk.us.toNat
    ∧ merges 899199 (metered.meter 2) = true ∧ merges 899200 (metered.meter 2) = false
    ∧ (fireMark 6 7 (clearSent metered)).isSome = true ∧ (4#3).toNat ≤ 4 := ⟨⟨rfl, rfl⟩, by decide⟩

/-- 16 R450, R456: the pulse adds its weight of 5, the total wraps and raises 33. -/
theorem test_meter_wrap :
    let t := after (.meterEdgeQualified 2) metered
    (t.meter 2).vals.total = 0 ∧ (t.meter 2).vals.wTotal = 1 ∧ (t.meter 2).vals.acc0 = 5 ∧ t.evt.pend.getLsbD 33 = true := by
  decide +kernel

/-- 16 R449: a change within 200 µs of the last is merged, one at 200 µs is not. -/
theorem test_meter_merge :
    ((after (.pulseInputChange 1 false) (meteredAt 899199)).meter 2).merged = 1
    ∧ ((after (.pulseInputChange 1 false) (meteredAt 899200)).meter 2).merged = 0 := by decide +kernel

/-- 16 R450: an edge 1 µs short of its debounce time is not yet qualified. -/
theorem test_meter_stable : ((after (.meterEdgeQualified 2) (meteredAt 998999)).meter 2).pulses = 0 := by decide +kernel

theorem meets_save :
    ({ live with keys := { sealKey := some [1] } } : State).keys.sealKey = some [1]
    ∧ ({ live.mtr with saving := [⟨0, 0, 0, true, [], []⟩] } : Mtr).saving = ⟨0, 0, 0, true, [], []⟩ :: [] := ⟨rfl, rfl⟩

/-! ## Ports, network time and stations -/

/-- Port 0 with its link up. -/
def ported (x : Port) : State := { live with ports := [(0, { x with up := true })] }

def portOn : PortCfg := { enabled := true, addr := [2, 0, 0, 0, 0, 1] }

/-- A frame to the port: 60 bytes. -/
def aFrame : Bytes := [2, 0, 0, 0, 0, 1, 2, 0, 0, 0, 0, 9, 0x88, 0xB5] ++ List.replicate 46 0

/-- A Sync message of domain 0: 60 bytes. -/
def aPtp : Bytes := [0x01, 0x1B, 0x19, 0, 0, 0, 2, 0, 0, 0, 0, 9, 0x88, 0xF7, 0x00, 0x02, 0, 44, 0] ++ List.replicate 41 0

/-- A frame launched at 60 µs: due and not late at 110 µs, late 1 ns later. -/
def launched : QFrame := { bytes := aFrame, launch := some { ns := 60000 } }

def portedAt (ns : BitVec 30) (x : Port) : State := { ported x with ntime := { live.ntime with ns := ns } }

theorem meets_ports :
    let s := portedAt 110000 { cfg := portOn, q0 := [launched], txSa := [(1, some {})] }
    let m := portedAt 110000 { cfg := { portOn with macsec := 2 }, q0 := [launched], txSa := [(0, some { pn := 0xFFFFFFFE })] }
    Calm s ∧ (portCfg s 0).enabled = true ∧ launchStopped s = false ∧ (s.port 0).q0 = launched :: [] ∧ headDue s launched = true
    ∧ (launched.launch.any fun t => decide (stampNanos t + (s.port 0).lateLimit.toNat * 1000 < nowNanos s)) = false
    ∧ (launched.launch.any fun t => decide (stampNanos t + (s.port 0).lateLimit.toNat * 1000 < nowNanos (portedAt 110001 {}))) = true
    ∧ launched.suppressed = false ∧ s.isStandby = false ∧ (s.port 0).up = true ∧ (live.port 0).up = false
    ∧ protects (portCfg s 0) aFrame = false ∧ (decide (60 ≤ aFrame.length ∧ aFrame.length ≤ 1556) && addressed portOn aFrame) = true
    ∧ addressed portOn (List.replicate 60 0) = false ∧ Store.get none (s.port 0).txSa 1 = some {}
    ∧ Store.get none (s.port 0).txSa 2 = none ∧ (s.path .spi).net = 0
    ∧ (s.port 0).busyTill ≤ s.clk.hfNs ∧ s.clk.hfNs < 1 ∧ stationType s aFrame = true ∧ stationType s aPtp = false
    ∧ (decide (60 ≤ aPtp.length ∧ aPtp.length ≤ 1556) && addressed portOn aPtp) = true
    ∧ linkOf 0 portOn (.codeword 1000 true) false = some 0 ∧ linkOf 0 portOn (.codeword 100 true) false = none
    ∧ linkOf 4 { portOn with ampl := 3 } .t1l false = some 2
    ∧ Calm m ∧ protects (portCfg m 0) aFrame = true ∧ (0xFFFFFFFE#64).toNat < 0xFFFFFFFF
    ∧ Store.get none (m.port 0).txSa (m.port 0).txAn.toNat = some { pn := 0xFFFFFFFE } :=
  ⟨⟨rfl, rfl⟩, by decide, rfl, rfl, by decide, by decide, by decide, by decide, by decide, by decide, by decide, by decide, by decide
    , by decide, by decide, by decide, rfl, by decide, by decide, by decide, by decide, by decide, by decide, by decide
    , by decide, ⟨rfl, rfl⟩, by decide, by decide, rfl⟩

/-- A protected frame too short for its tag, and one on a port without channels, fail to open. -/
theorem meets_open : ∃ b, openFrame (ported { cfg := { portOn with macsec := 2 } }) 0 { portOn with macsec := 2 } aFrame = .inr b :=
  ⟨_, rfl⟩

/-- 13 R388: a frame later than its limit is counted and not sent. -/
theorem test_late_frame :
    let t := fun n => (after (.frameLaunch 0) (portedAt n { cfg := portOn, q0 := [launched] })).port 0
    (t 110000).sent = aFrame ∧ (t 110000).tx = 1 ∧ (t 110000).busyTill = (60 + 4 + 20) * 8 ∧ (t 110001).late = 1 ∧ (t 110001).tx = 0 := by decide +kernel

/-- The increment's two ends and what lies beyond, a step that would leave the range, and PTP on port 0. -/
theorem meets_network_time :
    let z := live.ntime
    let q := ported { cfg := { portOn with ptp := true } }
    Calm live ∧ hostTime live = true ∧ incrOk 3 0x80000000 = true ∧ incrOk 3 0x7FFFFFFF = false ∧ incrOk 4 0x80000000 = true
    ∧ incrOk 4 0x80000001 = false ∧ hostTime q = false ∧ z.started = true ∧ z.stepNs.toNat ≤ 999999999
    ∧ (0 : Int) ≤ nowNanos (elapse 1 live) + (z.stepSec.toNat * 10 ^ 9 + z.stepNs.toNat : Int)
    ∧ (nowNanos (elapse 1 live) : Int) - (1 * 10 ^ 9 + 0) < 0
    ∧ (2 ^ 48 * 10 ^ 9 : Nat) ≤ (nowNanos (elapse 1 live) : Int) + ((2 ^ 48 - 1) * 10 ^ 9 + 999999999)
    ∧ at0.ntime.started = false ∧ (999999999#30).toNat ≤ 999999999 ∧ 999999999 < (1000000000#30).toNat
    ∧ (portCfg q 0).enabled = true ∧ (portCfg q 0).ptp = true ∧ q.isStandby = false ∧ (q.port 0).up = true
    ∧ plainTakes q 0 aPtp = true ∧ isPtp aPtp = true ∧ (q.port 0).ptpIn.find? (·.1 == aPtp) = none
    ∧ ({ ptpIn := [(aPtp, some {})] } : Port).ptpIn.find? (·.1 == aPtp) = some (aPtp, some {})
    ∧ ptpServed q aPtp = true ∧ ptpServed q aFrame = false ∧ ptpMay q 0 aPtp = true
    ∧ (q.port 0).q2.length < 32 ∧ (List.range 8).find? (fun p => (portCfg q p).enabled && (portCfg q p).ptp) = some 0 :=
  ⟨calm_live, by decide, by decide, by decide, by decide, by decide, by decide, by decide, by decide, by decide +kernel
    , by decide +kernel, by decide +kernel, by decide, by decide, by decide, by decide, by decide, by decide, by decide, by decide
    , by decide, by decide, by decide, by decide, by decide, by decide, by decide, by decide⟩

/-- A reply of station 7 (kind 2) or 9 (kind 4) with one word. -/
def reply (kind n : Nat) : Bytes :=
  [2, 0, 0, 0, 0, 1, 2, 0, 0, 0, 0, 9, 0x88, 0xB5] ++ stationHead kind n 6 0 0 0 0 0 none 1 ++ [0x78, 0x56, 0x34, 0x12, 0, 0]

/-- Station 7 has sent its frame 6, and station 9 its poll 6. -/
def exchanged : State :=
  { ported { cfg := portOn } with stn := { stns := [(7, { seq := 6, launch := some {} }), (9, { seq := 6, poll := some { mod := 0, pathB := false } })] } }

theorem meets_stations :
    let s := exchanged
    Calm s ∧ toStations s 0 (reply 2 7) = true ∧ toStations s 0 (reply 4 9) = true ∧ toStations live 0 (reply 2 7) = false
    ∧ (fireMark 3 4 (clearSent s)).isSome = true ∧ at0.start.stage.toNat < 2 ∧ 2 ≤ s.start.stage.toNat
    ∧ groupStations s 0 = [station 7 true] ∧ (station 7 true).dual = false ∧ (s.port (stationPlace s 7).portA).q0.length < 256
    ∧ s.isStandby = false ∧ fld (splitFrame (reply 2 7)).head 2 2 = 7 ∧ stationCfg s 8 = none
    ∧ stationCfg s 7 = some (station 7 true) ∧ replyPath s (station 7 true) 0 (splitFrame (reply 2 7)).src = some false
    ∧ fld (splitFrame (reply 2 7)).head 4 4 = (s.station 7).seq.toNat ∧ fld (splitFrame (reply 2 7)).head 8 8 = (s.station 7).epoch.toNat
    ∧ (s.station 7).launch.isSome = true ∧ replyFormed (splitFrame (reply 2 7)) 2 0 (inputWords (station 7 true)).length = true
    ∧ stationCfg s 9 = some (station 9 false) ∧ (s.station 9).poll = some { mod := 0, pathB := false } ∧ s.clk.hfNs = 0
    ∧ replyFormed (splitFrame (reply 4 9)) 4 0 (moduleWords (station 9 false) 0).length = true
    ∧ replyPath s (station 9 false) 0 (splitFrame (reply 4 9)).src = some false
    ∧ ({ phase := .dropped } : Stn).phase = .dropped := ⟨⟨rfl, rfl⟩, by decide +kernel⟩

/-- 12 R345: the reply's word is the station's input, word 2. -/
theorem test_station_reply :
    let t := after (.ferryReply 0 (reply 2 7)) exchanged
    Store.get 0 t.scan.data 2 = 0x12345678 ∧ (t.station 7).rx = 1 ∧ (t.station 7).fresh = true := by decide +kernel

/-- 12 R335: an apply offset ends before the scan period of one cycle does. -/
theorem test_apply_offset :
    applyOk { man with stations := some { groups := [65535] } } = true
    ∧ applyOk { man with stations := some { groups := [65536] } } = false := by decide

/-! ## The pair -/

def paired (p : Pair) : State := { live with man := some { man with pair := some pairCfg }, pair := p }

def actv : Pair := { role := .activeLockstep, peerOkOut := true, linkUp := true, ta := some 1000, leases := [(7, 1000)], leaseSeq := 7 }

/-- The nanosecond count at some ns. -/
def atNs (n : Nat) (s : State) : State := { s with clk := { s.clk with hfNs := n } }

def stby (r : PairRole) : Pair := { role := r, linkUp := true, leaseAt := some 5, rxSeq := 0xFFFFFFFF, exch := some ({}, {}, {}), tideTaken := true }

theorem meets_leases :
    Calm (paired actv) ∧ activePair (paired actv) = true ∧ actv.linkUp = true ∧ actv.handed = false ∧ actv.fenced = false
    ∧ actv.leases.find? (·.1 == 7) = some (7, 1000) ∧ actv.ta.isSome = true ∧ nextSeq (stby .lockstep).rxSeq = 1
    ∧ (∀ r ∈ [PairRole.lockstep, .staging, .resync, .notReady, .heldOut, .waiting], (paired (stby r)).isStandby = true)
    ∧ (∀ a, actv.ta = some a → (atNs 1201000 (paired actv)).clk.hfNs ≤ a + 1200000)
    ∧ (∃ a, actv.ta = some a ∧ a + 1200000 < (atNs 1201001 (paired actv)).clk.hfNs)
    ∧ (atNs 4200999 (paired actv)).clk.hfNs < 1000 + 4200000 ∧ 1000 + 4200000 ≤ (atNs 4201000 (paired actv)).clk.hfNs
    ∧ (paired actv).fio.kept = false ∧ (atNs 3000004 live).clk.hfNs < 5 + 3000000 ∧ 5 + 3000000 ≤ (atNs 3000005 live).clk.hfNs
    ∧ (stby .lockstep).expired = false ∧ (stby .lockstep).leaseAt = some 5 ∧ mayTakeOver (paired (stby .staging)) = true
    ∧ mayTakeOver (paired (stby .notReady)) = false
    ∧ ({ actv with fenced := true } : Pair).fenced = true :=
  ⟨⟨rfl, rfl⟩, by decide, by decide, by decide, by decide, by decide, by decide, by decide, by decide
    , fun _ h => by cases h; decide, ⟨1000, rfl, by decide⟩, by decide⟩

/-- 14 R409: a standby in lockstep whose lease has run out takes over with a new epoch, and not 1 ns before. -/
theorem test_takeover :
    let t := after .pairTakeover (atNs 3000005 (paired (stby .lockstep)))
    (after .pairTakeover (atNs 3000004 (paired (stby .lockstep)))).pair.role = .lockstep ∧ t.pair.role = .activeAlone ∧ t.mram.dev.epoch = 1 ∧ t.evt.pend.getLsbD 192 = true := by decide +kernel

/-- A standby whose task 1 runs its scan 5. -/
def behind : State := { paired (stby .lockstep) with scan := { tasks := [(1, { run := some { run3 with scan := 5 } })] } }

/-- The same with task 2 as the state task. -/
def behindOther : State := { behind with man := some { man with pair := some pairCfg, tasks := { man.tasks with stateTask := 2 } } }

def dig (x : Byte) : DigestMsg := { fix := true, cycle := 9, digest := [x] }

theorem meets_link :
    let s := paired (stby .lockstep)
    Calm s ∧ (stby .lockstep).linkUp = true ∧ taskCfg s 1 = some (task 1 1) ∧ imageReady s { task := 1, scan := 6 } = true
    ∧ (behind.task 1).run = some { run3 with scan := 5 } ∧ (6 : Word) = 5 + 1 ∧ (1#5).toNat ≠ behindOther.stateTask ∧ s.isStandby = true
    ∧ s.mark? 2 = some (mark 3 0 30) ∧ (s.loopTable.map (·.num)).Nodup ∧ (loop3.group = 0)
    ∧ ({ s with tide := { s.tide with mode := .follow } } : State).tide.mode = .follow ∧ validCycle s.tideSetup (grid 0) = true
    ∧ (paired actv).isStandby = false ∧ comparing s = true ∧ (stby .lockstep).own.find? (sameDigest (dig 1)) = none
    ∧ ({ stby .lockstep with own := [dig 2] } : Pair).own.find? (sameDigest (dig 1)) = some (dig 2) ∧ dig 2 ≠ dig 1
    ∧ ({ stby .lockstep with own := [dig 1] } : Pair).own.find? (sameDigest (dig 1)) = some (dig 1)
    ∧ s.tide.steer = none ∧ (wrapAngle (16#16)).natAbs ≤ 16 ∧ 16 < (wrapAngle (17#16)).natAbs ∧ s.sol.commitLater = none
    ∧ s.sol.peerPhase = s.sol.phase ∧ ({ peerPhase := 1 } : Sol).phase < ({ peerPhase := 1 } : Sol).peerPhase
    ∧ epochDue s = false ∧ epochDue (paired (stby .resync)) = true ∧ s.man.isSome = true ∧ s.pair.apart = false
    ∧ s.pair.laneUp ≠ 3 ∧ live.pair.linkUp = false ∧ ({ laneBad := 3 } : Pair).laneBad.getLsbD 1 = true ∧ live.pins.peerOkIn = false
    ∧ ({ role := .waiting } : Pair).role = .waiting
    ∧ (((List.replicate 16 (0 : Nat)).filter fun t => decide (live.clk.hfNs < t + 10 ^ 9)).length + 1 = 17)
    ∧ (((List.replicate 15 (0 : Nat)).filter fun t => decide (live.clk.hfNs < t + 10 ^ 9)).length + 1 = 16) :=
  ⟨⟨rfl, rfl⟩, by decide +kernel⟩

/-- 14 R404: digests that differ cost the standby its lockstep. -/
theorem test_digest_mismatch :
    let t := after (.digest 1 (dig 1)) (paired { stby .lockstep with rxSeq := 0, own := [dig 2] })
    t.pair.mismatch = 1 ∧ t.pair.role ≠ .lockstep ∧ t.evt.pend.getLsbD 196 = true := by decide +kernel

theorem meets_pair_commands :
    let s := paired actv
    Calm s ∧ s.inPair = true ∧ actv.busy = false ∧ standbyReady s = true ∧ activePair (paired (stby .heldOut)) = false
    ∧ standbyReady (paired { actv with role := .activeAlone }) = false ∧ activePair (paired { actv with role := .activeAlone }) = true
    ∧ s.man.bind (·.pair) = some pairCfg ∧ pairCfg.healthFrames = true ∧ pairCfg.healthPorts / 2 ^ 0 % 2 = 1
    ∧ pairCfg.healthPorts / 2 ^ 1 % 2 = 0 ∧ ((ported {}).port 0).up = true ∧ ((ported {}).port 0).q3.length < 32
    ∧ s.place.tileFault.getLsbD 63 = false ∧ (4#3).toNat < 5
    ∧ bistTakes s 0 = true ∧ bistTakes s 63 = false ∧ spareIdle s 4 = false
    ∧ spareIdle { s with place := { s.place with cur := { s.place.cur with sparePair := some 4 } } } 4 = true
    ∧ 8 ≤ Store.get 0 ({ slowRun := [(63, 8)] } : Place).slowRun 63 ∧ s.place.tileSlow.getLsbD 63 = false :=
  ⟨⟨rfl, rfl⟩, by decide⟩

/-- 14 R412: a switch-over is refused to a standby, and taken by an active unit in lockstep. -/
theorem test_switch :
    (after (.pairCtrlSwitch .spi 0xF3C8) (paired (stby .lockstep))).pair.reason = 1
    ∧ (after (.pairCtrlSwitch .spi 0xF3C8) (paired actv)).pair.busy = true := by decide +kernel

/-! ## The solver -/

/-- The fix of the period waits for nothing more; a checkpoint is being written, over the older of two. -/
def fixed : State :=
  { live with sol := { fixing := true, delivered := true, marks := 3, probs := [(0, { pend := some ({ code := 1 }, true) })]
                       draft := some ⟨0, 0, [], [], []⟩ }
              mram := { live.mram with ck0 := some ⟨4, 0, [], [], []⟩, ck1 := some ⟨3, 0, [], [], []⟩ } }

theorem meets_period :
    Calm live ∧ Calm fixed ∧ (fireMark 0 1 (clearSent live)).isSome = true ∧ (fireMark 4 5 (clearSent live)).isSome = true
    ∧ (fireMark 5 6 (clearSent live)).isSome = true ∧ live.sol.fixing = false ∧ fixed.sol.fixing = true
    ∧ fixed.sol.aheadLater = false ∧ fixed.sol.commitLater = none ∧ problemNums fixed = [0] ∧ (fixed.prob 0).running = false
    ∧ ({ fixed.sol with delivered := false } : Sol).delivered = false ∧ fixed.sol.started = false
    ∧ (problemDef fixed 0).isSome = true ∧ (fixed.prob 0).pend = some ({ code := 1 }, true)
    ∧ fixed.sol.draft = some ⟨0, 0, [], [], []⟩ ∧ newestCheckpoint fixed.mram = some (⟨4, 0, [], [], []⟩, false)
    ∧ newestCheckpoint live.mram = none ∧ live.sol.hdBusy = false ∧ problem0.runAhead = false
    ∧ (paired actv).inPair = true ∧ (paired actv).pair.linkUp = true :=
  ⟨calm_live, ⟨rfl, rfl⟩, by decide +kernel⟩

/-- A host frame of one pair (problem 0, index 0, format-converted 3) that passes, and one that names no problem. -/
theorem meets_submit :
    let b := fun (m : Store Byte) => Store.getMany 0 m 0 (8 + 8 * min (fld (Store.getMany 0 m 4 2) 0 2) 4096)
    deltaReason live (b [(2, 1), (4, 1), (12, 3)]) 32776 true = 0 ∧ deltaReason live (b [(0, 5), (2, 1), (4, 1)]) 32776 true ≠ 0 := by
  decide +kernel

/-- Problem 0 solves, with a factor in use and perhaps a new one in progress. -/
def solving (b : Option Build) : State :=
  { live with place := { live.place with cur := { live.place.cur with probs := [(0, { tiles := [0] })] } }
              sol := { started := true
                       probs := [(0, { running := true, work := .solve, factor := some { l := [[], [0]], dinv := [2 ^ 24, 2 ^ 24] }, build := b })] } }

/-- A factorisation that holds the tile's factor unit, at its first column. -/
def building : Build := { isRho := true, holds := true }

theorem meets_solver :
    let s := solving none
    let v := beginRound 0 (closeRound 0 (clearSent s))
    let w := beginRound 0 (closeRound 0 (clearSent (solving (some building))))
    Calm s ∧ s.sol.commitLater = none ∧ problemDef s 0 = some (problem0, qp) ∧ unitOf s 0 = 0 ∧ turnOf v 0 = some 0 ∧ paced v 0 = true
    ∧ (v.prob 0).factor.isSome = true ∧ stepDue (v.prob 0) = false ∧ canIterate (v.prob 0) = true ∧ (v.prob 0).build = none
    ∧ turnOf w 0 = some 0 ∧ paced w 0 = true ∧ (w.prob 0).build = some building ∧ stepDue (w.prob 0) = true
    ∧ (w.prob 0).stopping = false ∧ (w.prob 0).stopAt = none ∧ building.inPlace = false :=
  ⟨⟨rfl, rfl⟩, rfl, by decide +kernel⟩

/-- One constraint that sums the variable 0 of problem 0. -/
def share0 : CConstraint :=
  { fmtG := 24, fmtPrice := 24, lower := -10, upper := 10, tol := 0, beta := 65536, lmax := 2 ^ 30, priceVar := none
    terms := [{ problem := 0, var := 0, recoverable := true, coef := 65536 }] }

/-- A coupled solve in its outer iteration `o`, problem 0's share at hand. -/
def coupled (o : Nat) (lo : Int) : State :=
  { solving none with
    man := some { man with coupling := some { outerLimit := 3, cons := [{ share0 with lower := lo }] } }
    sol := { started := true, outer := some o, prices := [(0, 0)]
             probs := [(0, { running := true, share := true, shareConv := true, live := { x := [[0]] } })] } }

theorem meets_outer :
    let s := coupled 1 (-10)
    let run := fun s : State => (coupledNums s).filter fun n => (s.prob n).running
    let done := fun s : State =>
      (s.coupling.cons.zip ((s.coupling.cons.map fun c => (wr c.fmtG (couplingSum s c)).1).zip s.sol.prices)).all
        (fun (c, g, p) => constraintOk c g p) && (run s).all fun n => (s.prob n).shareConv
    Calm s ∧ s.sol.outer = some 1 ∧ s.sol.started = true ∧ s.sol.fixing = false ∧ run s = [0] ∧ (s.prob 0).share = true
    ∧ done s = true ∧ done (coupled 1 5) = false ∧ (coupled 1 5).coupling.outerLimit ≠ 1 ∧ (coupled 3 5).sol.outer = some 3
    ∧ (coupled 3 5).coupling.outerLimit = 3 ∧ (problemDef s 0).isSome = true := ⟨⟨rfl, rfl⟩, by decide +kernel⟩

/-! ## Scans and forces -/

/-- A run that has ended, one that speculates on a word that it loaded, and one whose word has changed since. -/
def ended : Run := { run3 with done := true, entries := [.store 20 .dint 9], events := [31] }
def guessed (w : Word) : Run := { run3 with spec := true, loads := [(0, w)] }

theorem meets_scans :
    Calm live ∧ (fireMark 1 2 (clearSent live)).isSome = true ∧ live.isStandby = false ∧ tasksRun live = true
    ∧ taskCfg live 1 = some (task 1 1) ∧ (task 1 1).num = 1 ∧ (live.task 1).run = none
    ∧ ((scanOf run3).task 1).run = some run3 ∧ taskCfg live 2 = some (task 2 2) ∧ (task 2 2).trigger = 2 ∧ 2 ≠ live.stateTask
    ∧ Settled live ∧ ({ trig := true } : Task).trig = true ∧ run3.outstanding = [] ∧ (guessed 0).held = none
    ∧ speculationHolds (scanOf (guessed 0)) (guessed 0) = true ∧ speculationHolds (scanOf (guessed 1)) (guessed 1) = false
    ∧ ({ run3 with phase := .awaiting } : Run).phase = .awaiting ∧ run3.spec = false ∧ run3.live = true
    ∧ run3.again = false ∧ ({ run3 with again := true } : Run).live = true ∧ taskCfg live 0 = some (task 0 3)
    ∧ inTurn (scanOf ended) 1 ended = true ∧ intervalOver live (task 2 2) = true
    ∧ intervalOver { live with scan := { tasks := [(2, { frozen := some 999001 })] } } (task 2 2) = false
    ∧ ended.committable = true ∧ ended.boundary = false ∧ ({ ended with boundary := true } : Run).committable = true
    ∧ (31 ∈ ended.events) ∧ live.start.adopted = true ∧ (atStep 8).start.stage = 1
    ∧ ({ man with field := none } : Manifest).field = none
    ∧ ({ live.mram with retDraft := some (retainedNow live) } : Mram).retDraft = some (retainedNow live)
    ∧ (∃ e, ({ errq := [e] } : Scan).errq = e :: []) :=
  ⟨calm_live, by decide +kernel, rfl, by decide, by decide +kernel, rfl, rfl, rfl, by decide +kernel, rfl, by decide
    , ⟨rfl, rfl, rfl⟩, rfl, rfl, rfl, by decide +kernel, by decide +kernel, rfl, rfl, by decide, rfl, by decide, by decide +kernel
    , by decide, by decide, by decide, by decide, rfl, by decide, by decide, rfl, rfl, rfl, rfl, { code := 0xA0, task := 1 }, rfl⟩

/-- 10 R284: a commit makes its store and its event real, and raises 224 + 31. -/
theorem test_commit :
    let t := after (.scanCommit 1) (scanOf ended)
    Store.get 0 t.scan.data 20 = 9 ∧ (t.task 1).scans = 1 ∧ t.scan.seq = 1 ∧ t.evt.pend.getLsbD 255 = true := by decide +kernel

/-- The last index that the permission covers, the first beyond it, and no permission at all. -/
theorem meets_forces :
    let at' := fun (i : BitVec 20) => ({ live with scan := { frcIndex := i } } : State)
    Calm live ∧ forceSetReason (at' 9) .spi 255 = 0 ∧ forceSetReason (at' 10) .spi 0 = 2 ∧ forceSetReason (at' 9) .mgmt 0 = 2
    ∧ forceSetReason at0 .spi 0 = 1 ∧ forceClearReason live .spi none = 0 ∧ forceClearReason live .spi (some 0) = 7
    ∧ (0x6F0C : BitVec 16) ≠ 0x6F0D := ⟨calm_live, by decide +kernel⟩

end Sys2Proof.Tests
end

section
/-! SUPPORT. The proofs about SYS_PFAIL_CFG (04 R111): the lowest field of a register word, what a register write gives,
and what the SYS block makes of a write at +0x04C. -/

namespace Sys2Proof.Machine

open Sys2Proof

/-! ## The lowest field of a word -/

theorem fieldOf_zero (v : Word) (w : Nat) : fieldOf v 0 w = (v.setWidth w).toNat := by
  rw [fieldOf, Nat.pow_zero, Nat.div_one, BitVec.toNat_setWidth]

/-- A register that holds one field, from bit 0, reads as that field with zeros above it. -/
theorem regWord_lowest {w : Nat} (x : BitVec w) : regWord [(0, w, x.toNat)] = x.setWidth 32 := by
  simp [regWord, Nat.mod_eq_of_lt x.isLt, BitVec.ofNat_toNat]

/-! ## Commands that act, and register writes -/

@[simp] theorem clearSent_start (s : State) : (clearSent s).start = s.start := rfl

/-- While the logic die runs, a command gives what its effect leaves at the end of the edge. -/
theorem Gives.of_actOn {c : Instr} {s : State} {f : State → State} {P : State → Prop} (e : exec c s = actOn s f)
    (on : s.start.power = .on) (h : P (settle (f (clearSent s)))) : Gives c s P :=
  ⟨_, by rw [e, actOn, if_pos on, act], h⟩

theorem exec_registerWrite (p : Path) (a v : Word) (s : State) :
    exec (.registerWrite p a v) s = actOn s (registerWrite p a v) := rfl

/-- A write of an aligned address that is no command register goes to the register's block (20 R562). -/
theorem registerWrite_eq_dataWrite {p : Path} {a v : Word} {s : State} (ha : aligned a = true)
    (hp : plainCommand p a v s = none) (hk : keyedCommand p a v = none) :
    registerWrite p a v s = dataWrite p a v s := by
  simp only [registerWrite, ha, if_true, writeWord, hp, hk]

/-! ## SYS_PFAIL_CFG -/

theorem regValue_pfailConfig (p : Path) (s : State) : regValue p 0x4000004C s = s.start.threshold.setWidth 32 :=
  regWord_lowest s.start.threshold

theorem registerWrite_pfailConfig (p : Path) (v : Word) (s : State) :
    registerWrite p 0x4000004C v s = sysWrite 0x4C v s :=
  registerWrite_eq_dataWrite rfl rfl rfl

/-- A write takes THRESHOLD from its lowest 13 bits where they lie in range, and else changes nothing. -/
theorem sysWrite_pfailConfig (v : Word) (s : State) :
    sysWrite 0x4C v s =
      if 2500 ≤ v.toNat % 8192 ∧ v.toNat % 8192 ≤ 5000 then s.updStart fun x => { x with threshold := v.setWidth 13 }
      else s := by
  have field : fieldOf v 0 13 = v.toNat % 8192 := by rw [fieldOf_zero, BitVec.toNat_setWidth]
  have value : BitVec.ofNat 13 (v.toNat % 8192) = v.setWidth 13 := by
    rw [← field, fieldOf_zero, BitVec.ofNat_toNat, BitVec.setWidth_eq]
  simp only [sysWrite, if_true, field, value]

/-- What a write of SYS_PFAIL_CFG makes of the start block shows unchanged after the edge. -/
theorem gives_pfailConfig {s : State} (h : Calm s) (p : Path) (v : Word) {x : Start}
    (hx : (sysWrite 0x4C v (clearSent s)).start = x) :
    Gives (.registerWrite p 0x4000004C v) s fun t => t.start = x :=
  .of_actOn (exec_registerWrite p _ v s) h.on (by rw [settle_start, registerWrite_pfailConfig, hx])

/-- Settles O34: the write reaches the SYS block, which compares the field with the range, and the end of the edge
leaves the start block as it is. -/
theorem pfailConfigRegister : Obligations.PfailConfigRegister := by
  refine ⟨rfl, fun s p v => ⟨regValue_pfailConfig p s, fun calm => ⟨fun low high => ?_, fun outside => ?_⟩⟩⟩
  · refine gives_pfailConfig calm p v ?_
    rw [sysWrite_pfailConfig, if_pos ⟨low, high⟩, State.updStart_start, clearSent_start]
  · refine gives_pfailConfig calm p v ?_
    rw [sysWrite_pfailConfig, if_neg (by omega), clearSent_start]

end Sys2Proof.Machine
end

section
/-! SUPPORT. The proofs about TIC code (09): the integer that a canonical slot holds (R244, R256), what a store leaves to be
read back (R250), the element of an indexed access (R262), and what an instruction that succeeds makes of its scan. -/

namespace Sys2Proof.Machine

open Sys2Proof

/-! ## Integers in slots -/

/-- The low bits of a wrapped integer are that integer wrapped to fewer bits. -/
theorem setWidth_ofInt_of_le {w m : Nat} (h : w ≤ m) (n : Int) : (BitVec.ofInt m n).setWidth w = BitVec.ofInt w n := by
  apply BitVec.eq_of_toInt_eq
  rw [← BitVec.signExtend_eq_setWidth_of_le _ h, BitVec.toInt_signExtend_eq_toInt_bmod_of_le _ h, BitVec.toInt_ofInt,
    BitVec.toInt_ofInt, Int.bmod_bmod_of_dvd (Nat.pow_dvd_pow 2 h)]

/-- A sign extension keeps the low bits. -/
theorem setWidth_signExtend_of_le {w m : Nat} (h : w ≤ m) (x : BitVec w) : (x.signExtend m).setWidth w = x := by
  apply BitVec.eq_of_toInt_eq
  rw [← BitVec.signExtend_eq_setWidth_of_le _ h, BitVec.toInt_signExtend_eq_toInt_bmod_of_le _ h,
    BitVec.toInt_signExtend_of_le h, BitVec.toInt_bmod_cancel]

theorem tyBits_le (t : Ty) : tyBits t ≤ 64 := by cases t <;> decide

theorem canon_of_signed {t : Ty} (h : tySigned t = true) (v : DWord) :
    canon t v = (v.setWidth (tyBits t)).signExtend 64 := by
  cases t with
  | sint | int | dint => rfl
  | lint | time | ldt => simp [canon, tyBits]
  | _ => cases h

theorem canon_of_unsigned {t : Ty} (h : tySigned t = false) (hb : t ≠ .bool) (v : DWord) :
    canon t v = (v.setWidth (tyBits t)).setWidth 64 := by
  cases t with
  | usint | uint | udint | real => rfl
  | ulint | lreal => simp [canon, tyBits]
  | bool => exact absurd rfl hb
  | _ => cases h

/-- A canonical slot is the canonical slot of itself (09 R244). -/
@[simp] theorem canon_canon (t : Ty) (v : DWord) : canon t (canon t v) = canon t v := by
  by_cases hb : t = .bool
  · subst hb
    by_cases hv : v.setWidth 32 = 0#32 <;> simp [canon, hv]
  · cases h : tySigned t with
    | true => rw [canon_of_signed h, canon_of_signed h, setWidth_signExtend_of_le (tyBits_le t)]
    | false => rw [canon_of_unsigned h hb, canon_of_unsigned h hb, BitVec.setWidth_setWidth_of_le _ (tyBits_le t),
        BitVec.setWidth_eq]

/-- The slot of an integer holds it wrapped modulo 2^w (09 R256). -/
theorem slotInt_intSlot {t : Ty} (hb : t ≠ .bool) (n : Int) : slotInt t (intSlot t n) = wrapInt t n := by
  rw [slotInt, wrapInt, intSlot, canon_canon]
  cases h : tySigned t with
  | true =>
    rw [if_pos rfl, if_pos rfl, canon_of_signed h, setWidth_ofInt_of_le (tyBits_le t),
      BitVec.toInt_signExtend_of_le (tyBits_le t), BitVec.toInt_ofInt]
  | false =>
    rw [if_neg (by decide), if_neg (by decide), canon_of_unsigned h hb, setWidth_ofInt_of_le (tyBits_le t),
      BitVec.toNat_setWidth_of_le (tyBits_le t), BitVec.toNat_ofInt]
    exact Int.toNat_of_nonneg (Int.emod_nonneg _ (Int.natCast_ne_zero.2 (Nat.ne_of_gt (Nat.two_pow_pos _))))

/-! ## Stores and their reading back -/

/-- The value that an entry of the store area holds for the variable at `i`. -/
def storedAt (i : Nat) : Landing → Option DWord
  | .store j _ v => if j = i then some v else none
  | _ => none

@[simp] theorem storedAt_store (i : Nat) (t : Ty) (v : DWord) : storedAt i (.store i t v) = some v := if_pos rfl

theorem landed_eq (r : Run) (i : Nat) : landed r i = r.entries.findSome? (storedAt i) := rfl

theorem storeVar_eq (c : TaskCfg) (r : Run) (t : Ty) (i : Nat) (v : DWord) :
    storeVar c r t i v = landEntry c r (fun e => (storedAt i e).isSome) (.store i t (canon t v)) := by
  unfold storeVar
  congr 1
  funext e
  cases e with
  | store j _ _ => by_cases h : j = i <;> simp [storedAt, h]
  | _ => rfl

/-- The entries after one more: those that `same` accepts are replaced, or it is appended (10 R283). -/
def withEntry (same : Landing → Bool) (e : Landing) (l : List Landing) : List Landing :=
  if l.any same then l.map (fun x => if same x then e else x) else l ++ [e]

theorem landEntry_of_room {c : TaskCfg} {r : Run} (room : storeRoom c r = true) (same : Landing → Bool) (e : Landing) :
    landEntry c r same e = some { r with entries := withEntry same e r.entries } := by
  unfold landEntry withEntry
  rw [if_pos room]
  split <;> rfl

/-- An entry for a variable is the first that is found for it afterwards. -/
theorem findSome?_withEntry {i : Nat} {e : Landing} {v : DWord} (he : storedAt i e = some v) (l : List Landing) :
    (withEntry (fun x => (storedAt i x).isSome) e l).findSome? (storedAt i) = some v := by
  unfold withEntry
  split
  case isTrue h =>
    induction l with
    | nil => cases h
    | cons x l ih =>
      cases hx : storedAt i x with
      | some w => simp [hx, he]
      | none => simpa [hx] using ih (by simpa [hx] using h)
  case isFalse h =>
    have none_held : l.findSome? (storedAt i) = none := by simpa using h
    rw [List.findSome?_append, none_held, Option.none_or, List.findSome?_singleton, he]

theorem readVar_of_landed {r : Run} {i : Nat} {v : DWord} (h : landed r i = some v) (t : Ty) :
    readVar r t i = canon t v := by
  simp only [readVar, h]

/-- A store with landing room is read back in canonical form, and leaves the evaluation stack alone. -/
theorem storeVar_readVar {c : TaskCfg} {r : Run} (room : storeRoom c r = true) (t : Ty) (i : Nat) (v : DWord) :
    ∃ r', storeVar c r t i v = some r' ∧ r'.stack = r.stack ∧ readVar r' t i = canon t v := by
  refine ⟨_, (storeVar_eq c r t i v).trans (landEntry_of_room room _ _), rfl, ?_⟩
  refine (readVar_of_landed (v := canon t v) ?_ t).trans (canon_canon t v)
  rw [landed_eq, findSome?_withEntry (storedAt_store i t _)]

/-! ## Loads -/

/-- A load changes the recorded loads of its scan alone. -/
theorem loadVar_eq (r : Run) (t : Ty) (i : Nat) :
    loadVar r t i = (readVar r t i, { r with loads := (loadVar r t i).2.loads }) := by
  unfold loadVar
  split <;> rfl

/-- A push leaves the variable's value on the stack and its words among the scan's loads; the count, the phase and the
slots below do not matter to them. -/
theorem pushVar_begun (r : Run) (words units : Nat) (t : Ty) (i : Nat) (k : List DWord) :
    pushVar t i { r.begun words units with stack := k }
      = { r.after words units (readVar r t i :: k) with loads := (loadVar r t i).2.loads } := by
  have value : readVar { r.begun words units with stack := k } t i = readVar r t i := rfl
  have loads : (loadVar { r.begun words units with stack := k } t i).2.loads = (loadVar r t i).2.loads := by
    unfold loadVar
    change (if (r.spec && (landed r i).isNone) = true then _ else _ : DWord × Run).2.loads = _
    split <;> rfl
  rw [pushVar, loadVar_eq, value, loads]
  rfl

/-! ## Elements -/

theorem elementIndex_of_lt {s : State} {t : Ty} {base j : Nat} {i : Int} {g : Region}
    (hg : regionAt s.dataArea base = some g) (h0 : 0 ≤ i) (hj : (j : Int) = base + i * tyWords t) (hlt : j < g.stop) :
    elementIndex s t base i = some j := by
  simp only [elementIndex, hg, ← hj]
  rw [if_pos ⟨h0, by omega⟩, Int.toNat_natCast]

theorem elementIndex_outside {s : State} {t : Ty} {base : Nat} {i : Int} {g : Region}
    (hg : regionAt s.dataArea base = some g) (h : i < 0 ∨ (g.stop : Int) ≤ base + i * tyWords t) :
    elementIndex s t base i = none := by
  simp only [elementIndex, hg]
  exact if_neg (by omega)

@[simp] theorem elementIndex_clearSent (s : State) (t : Ty) (base : Nat) (i : Int) :
    elementIndex (clearSent s) t base i = elementIndex s t base i := rfl

/-! ## Instructions that succeed or fault -/

@[simp] theorem Run.begun_stack (r : Run) (words units : Nat) : (r.begun words units).stack = r.stack := rfl

section

variable {s : State} {t : BitVec 5} {r : Run} {c : TaskCfg} {i : Instr} {ty : Ty} {k : List DWord}

theorem Continues.of_tic {f : TaskCfg → Run → State → TicRes} {r' : Run} (e : exec i s = tic t 1 (fun _ => 1) f s)
    (h : Scanning s t r c 1) (hf : f c (r.begun 1 1) (clearSent s) = .ok r' (clearSent s)) : Continues i s t r' := by
  rw [Continues, Gives, e]
  exact tic_ok 1 (fun _ => 1) f h h.room hf ((clearSent_images s).trans h.calm.images) rfl

theorem FaultsWith.of_tic {f : TaskCfg → Run → State → TicRes} {code : Nat} (e : exec i s = tic t 1 (fun _ => 1) f s)
    (h : Scanning s t r c 1) (hf : f c (r.begun 1 1) (clearSent s) = .fault code) : FaultsWith i s t code r :=
  tic_faults 1 (fun _ => 1) f e h h.room hf

theorem Continues.of_ticRun {f : Run → Option Run} {r' : Run} (e : exec i s = ticRun t 1 f s) (h : Scanning s t r c 1)
    (hf : f (r.begun 1 1) = some r') : Continues i s t r' := by
  rw [Continues, Gives, e]
  exact ticRun_ok 1 f h h.room hf

theorem Continues.of_mapTop {g : Bool} {f : DWord → DWord} {a : DWord}
    (e : exec i s = ticRun t 1 (fun r => given g (mapTop r f)) s) (h : Scanning s t r c 1) (hg : g = true)
    (hs : r.stack = a :: k) : Continues i s t (r.after 1 1 (f a :: k)) :=
  .of_ticRun e h (by simp only [given, hg, if_true, mapTop, Run.begun, hs, Run.after])

theorem Continues.of_mapTwo {g : Bool} {f : DWord → DWord → DWord} {a b : DWord}
    (e : exec i s = ticRun t 1 (fun r => given g (mapTwo r f)) s) (h : Scanning s t r c 1) (hg : g = true)
    (hs : r.stack = b :: a :: k) : Continues i s t (r.after 1 1 (f a b :: k)) :=
  .of_ticRun e h (by simp only [given, hg, if_true, mapTwo, Run.begun, hs, Run.after])

/-! ## LDIX and STIX (R262) -/

theorem continues_ldix {x : BitVec 20} {n : DWord} {j : Nat} (h : Scanning s t r c 1) (hs : r.stack = n :: k)
    (he : elementIndex s ty x.toNat (slotInt .dint n) = some j) :
    Continues (.ldix t ty x) s t { r.after 1 1 (readVar r ty j :: k) with loads := (loadVar r ty j).2.loads } := by
  refine .of_tic rfl h ?_
  simp only [Run.begun_stack, hs, elementIndex_clearSent, he, pushVar_begun]

theorem faultsWith_ldix {x : BitVec 20} {n : DWord} (h : Scanning s t r c 1) (hs : r.stack = n :: k)
    (he : elementIndex s ty x.toNat (slotInt .dint n) = none) : FaultsWith (.ldix t ty x) s t 2 r := by
  refine .of_tic rfl h ?_
  simp only [Run.begun_stack, hs, elementIndex_clearSent, he]

theorem continues_stix {x : BitVec 20} {v n : DWord} {j : Nat} (h : Scanning s t r c 1) (hs : r.stack = v :: n :: k)
    (room : (r.entries.length + 1) * 16 ≤ c.storeSize)
    (he : elementIndex s ty x.toNat (slotInt .dint n) = some j) :
    ∃ r', Continues (.stix t ty x) s t r' ∧ r'.stack = k ∧ readVar r' ty j = canon ty v := by
  obtain ⟨r', stored, stack, value⟩ :=
    storeVar_readVar (r := { r.begun 1 1 with stack := k }) (decide_eq_true room) ty j v
  refine ⟨r', .of_tic rfl h ?_, stack, value⟩
  simp only [Run.begun_stack, hs, elementIndex_clearSent, he, stored, okOrFull]

theorem faultsWith_stix {x : BitVec 20} {v n : DWord} (h : Scanning s t r c 1) (hs : r.stack = v :: n :: k)
    (he : elementIndex s ty x.toNat (slotInt .dint n) = none) : FaultsWith (.stix t ty x) s t 2 r := by
  refine .of_tic rfl h ?_
  simp only [Run.begun_stack, hs, elementIndex_clearSent, he]

/-! ## Integer arithmetic (R256) -/

theorem arith_add (hf : tyFloat ty = false) (a b : DWord) :
    arith 0 ty a b = intSlot ty (slotInt ty a + slotInt ty b) := by
  simp [arith, hf]

theorem arith_sub (hf : tyFloat ty = false) (a b : DWord) :
    arith 1 ty a b = intSlot ty (slotInt ty a - slotInt ty b) := by
  simp [arith, hf]

theorem arith_mul (hf : tyFloat ty = false) (a b : DWord) :
    arith 2 ty a b = intSlot ty (slotInt ty a * slotInt ty b) := by
  simp [arith, hf]

theorem negSlot_int (hf : tyFloat ty = false) (a : DWord) : negSlot ty a = intSlot ty (-slotInt ty a) := by
  simp [negSlot, hf]

theorem absSlot_int (hf : tyFloat ty = false) (a : DWord) : absSlot ty a = intSlot ty (slotInt ty a).natAbs := by
  simp [absSlot, hf]

theorem continues_div {a b : DWord} (h : Scanning s t r c 1) (hn : tyN ty = true) (hf : tyFloat ty = false)
    (hs : r.stack = b :: a :: k) (hb : slotInt ty b ≠ 0) :
    Continues (.div t ty) s t (r.after 1 1 (intSlot ty ((slotInt ty a).tdiv (slotInt ty b)) :: k)) := by
  refine .of_tic rfl h ?_
  simp [Run.begun, Run.after, hs, hn, hf, hb, divSlot]

theorem faultsWith_div {a b : DWord} (h : Scanning s t r c 1) (hn : tyN ty = true) (hf : tyFloat ty = false)
    (hs : r.stack = b :: a :: k) (hb : slotInt ty b = 0) : FaultsWith (.div t ty) s t 1 r := by
  refine .of_tic rfl h ?_
  simp [Run.begun_stack, hs, hn, hf, hb]

theorem continues_mod {a b : DWord} (h : Scanning s t r c 1) (hi : tyI ty = true)
    (hs : r.stack = b :: a :: k) (hb : slotInt ty b ≠ 0) :
    Continues (.mod t ty) s t
      (r.after 1 1 (intSlot ty (slotInt ty a - (slotInt ty a).tdiv (slotInt ty b) * slotInt ty b) :: k)) := by
  refine .of_tic rfl h ?_
  simp [Run.begun, Run.after, hs, hi, hb, Int.tmod_def, Int.mul_comm]

theorem faultsWith_mod {a b : DWord} (h : Scanning s t r c 1) (hi : tyI ty = true)
    (hs : r.stack = b :: a :: k) (hb : slotInt ty b = 0) : FaultsWith (.mod t ty) s t 1 r := by
  refine .of_tic rfl h ?_
  simp [Run.begun_stack, hs, hi, hb]

/-- An instruction that leaves the slot of an integer leaves it canonical and wrapped to its type. -/
theorem Continues.wraps {v : DWord} {n : Int} (hn : tyN ty = true) (hv : v = intSlot ty n)
    (h : Continues i s t (r.after 1 1 (v :: k))) :
    ∃ v, Continues i s t (r.after 1 1 (v :: k)) ∧ canon ty v = v ∧ slotInt ty v = wrapInt ty n := by
  subst hv
  exact ⟨_, h, canon_canon _ _, slotInt_intSlot (by rintro rfl; cases hn) n⟩

end

/-- Settles O11: the element index is the operand's plus i times the width exactly where that lies in the region; LDIX
pushes the variable there, STIX lands it, and both fault with INDEX where there is no element. -/
theorem ticIndexedElements : Obligations.TicIndexedElements := by
  intro s t r c ty x g h hg
  refine ⟨fun n k hs => ⟨fun j h0 hj hlt => ?_, fun out => ?_⟩, fun v n k hs => ⟨fun j h0 hj hlt room => ?_, fun out => ?_⟩⟩
  · exact continues_ldix h hs (elementIndex_of_lt hg h0 hj hlt)
  · exact faultsWith_ldix h hs (elementIndex_outside hg out)
  · exact continues_stix h hs room (elementIndex_of_lt hg h0 hj hlt)
  · exact faultsWith_stix h hs (elementIndex_outside hg out)

/-- Settles O13: each result is the slot of the exact integer, which holds it wrapped modulo 2^w; a zero divisor faults. -/
theorem ticIntegerArithmetic : Obligations.TicIntegerArithmetic := by
  intro s t r c ty h hn hf
  refine ⟨fun a b k hs => ⟨?_, ?_, ?_, fun hb => ?_, fun hb hi => ?_, fun hb => ?_, fun hb hi => ?_⟩,
    fun a k hs => ⟨?_, ?_⟩⟩
  · exact Continues.wraps hn (arith_add hf a b) (.of_mapTwo rfl h hn hs)
  · exact Continues.wraps hn (arith_sub hf a b) (.of_mapTwo rfl h hn hs)
  · exact Continues.wraps hn (arith_mul hf a b) (.of_mapTwo rfl h hn hs)
  · exact Continues.wraps hn rfl (continues_div h hn hf hs hb)
  · exact Continues.wraps hn rfl (continues_mod h hi hs hb)
  · exact faultsWith_div h hn hf hs hb
  · exact faultsWith_mod h hi hs hb
  · exact Continues.wraps hn (negSlot_int hf a) (.of_mapTop rfl h hn hs)
  · exact Continues.wraps hn (absSlot_int hf a) (.of_mapTop rfl h hn hs)

end Sys2Proof.Machine
end

section
/-! SUPPORT. The TIC instructions as commands: each is one step of its task's scan, whose own effect on the rest of the block is
at most a counted clamp or a dropped journal write (09 R259, R267, R270). -/

namespace Sys2Proof.Machine

open Sys2Proof

/-- What one instruction makes of the block outside its scan: nothing, a counted clamp (09 R259), or a journal write that is
dropped (09 R267). -/
def TicRes.Local (t : Nat) (s : State) : TicRes → Prop
  | .ok _ u => u = s ∨ u = countClamp t s ∨ u = raise 216 (dropRecs 1 s)
  | _ => True

theorem okOrFull_local (t : Nat) (o : Option Run) (s : State) : (okOrFull o s).Local t s := by
  cases o with
  | none => trivial
  | some r => exact .inl rfl

theorem popStore_local (t : Nat) (ty : Ty) (i : Nat) (c : TaskCfg) (r : Run) (s : State) :
    (popStore ty i c r s).Local t s := by
  unfold popStore
  split
  · exact okOrFull_local ..
  · trivial

theorem timerInstr_local (t : Nat) (f : Int → Int → Bool → Bool → TimerSt → TimerSt) (b : Nat) (c : TaskCfg) (r : Run)
    (s : State) : (timerInstr f b c r s).Local t s := by
  unfold timerInstr
  split
  · exact okOrFull_local ..
  · trivial

theorem ctuInstr_local (t b : Nat) (c : TaskCfg) (r : Run) (s : State) : (ctuInstr b c r s).Local t s := by
  unfold ctuInstr
  split
  · exact okOrFull_local ..
  · trivial

theorem ctdInstr_local (t b : Nat) (c : TaskCfg) (r : Run) (s : State) : (ctdInstr b c r s).Local t s := by
  unfold ctdInstr
  split
  · exact okOrFull_local ..
  · trivial

theorem ctudInstr_local (t b : Nat) (c : TaskCfg) (r : Run) (s : State) : (ctudInstr b c r s).Local t s := by
  unfold ctudInstr
  split
  · exact okOrFull_local ..
  · trivial

theorem trigInstr_local (t : Nat) (up : Bool) (b : Nat) (c : TaskCfg) (r : Run) (s : State) :
    (trigInstr up b c r s).Local t s := by
  unfold trigInstr
  split
  · exact okOrFull_local ..
  · trivial

theorem dfwInstr_local (t i n : Nat) (c : TaskCfg) (r : Run) (s : State) : (dfwInstr i n c r s).Local t s := by
  unfold dfwInstr
  simp only []
  split
  · exact .inl rfl
  · split <;> exact .inl rfl

theorem srdInstr_local (t : Nat) (ty : Ty) (n vec sc : Nat) (r : Run) (s : State) :
    (srdInstr ty n vec sc r s).Local t s := by
  unfold srdInstr
  simp only []
  repeat' split
  all_goals first
    | trivial
    | exact .inl rfl

theorem lprInstr_local (t : Nat) (ty : Ty) (n code : Nat) (r : Run) (s : State) : (lprInstr ty n code r s).Local t s := by
  unfold lprInstr
  split
  · exact .inl rfl
  · trivial

theorem lpwInstr_local (t : Nat) (ty : Ty) (n code : Nat) (c : TaskCfg) (r : Run) (s : State) :
    (lpwInstr ty n code c r s).Local t s := by
  unfold lpwInstr
  split
  · split
    · exact okOrFull_local ..
    · trivial
  · trivial

theorem jrnInstr_local (t src sev code sub : Nat) (c : TaskCfg) (r : Run) (s : State) :
    (jrnInstr src sev code sub c r s).Local t s := by
  unfold jrnInstr
  split
  · simp only []
    split
    · exact .inr (.inr rfl)
    · exact okOrFull_local ..
  · trivial

/-- A command is one TIC instruction of a task: so many words, so many units, and a local effect. -/
def IsTic (i : Instr) (t : BitVec 5) : Prop :=
  ∃ (w : Nat) (f : TaskCfg → Run → State → TicRes),
    (∀ s, exec i s = tic t w (fun r => ticUnits r i) f s) ∧ ∀ c r s, (f c r s).Local t.toNat s

/-- A one-word instruction that only changes the scan is a TIC step with a local effect. -/
theorem ticRun_eq_tic (t : BitVec 5) (u : Nat) (f : Run → Option Run) :
    ∃ g, (∀ s, ticRun t u f s = tic t 1 (fun _ => u) g s) ∧ ∀ c r s, (g c r s).Local t.toNat s := by
  refine ⟨_, fun _ => rfl, fun c r s => ?_⟩
  split
  · exact .inl rfl
  · trivial

theorem IsTic.of_run {i : Instr} {t : BitVec 5} {f : Run → Option Run} {u : Nat} (hu : ∀ r, ticUnits r i = u)
    (e : ∀ s, exec i s = ticRun t u f s) : IsTic i t := by
  obtain ⟨g, hg, local_g⟩ := ticRun_eq_tic t u f
  exact ⟨1, g, fun s => by rw [e, hg, funext hu], local_g⟩

/-- Every instruction of a task is one step of its scan. -/
theorem isTic_of_ticTask {i : Instr} {t : BitVec 5} (h : ticTask i = some t) : IsTic i t := by
  cases i with
  | ld | ldf | ldi | jmp | ret | evr =>
    cases h
    exact .of_run (fun _ => rfl) fun _ => by unfold exec; exact rfl
  | dup | drop | swap | add | sub | mul | neg | abs | min | max | limit | math | sel | andB | orB | xor
  | notB | shl | shr | rol | ror | eq | ne | lt | le | gt | ge | jmpc | jmpcn | lds =>
    cases h
    exact .of_run (fun _ => rfl) fun _ => rfl
  | st | stf =>
    cases h
    exact ⟨_, _, fun _ => rfl, fun _ _ _ => popStore_local ..⟩
  | ldx =>
    cases h
    exact ⟨_, _, fun _ => rfl, fun _ _ _ => .inl rfl⟩
  | ldix | stix | div | mod =>
    cases h
    refine ⟨_, _, fun _ => rfl, fun c r s => ?_⟩
    repeat' split
    all_goals first
      | trivial
      | exact okOrFull_local ..
      | exact .inl rfl
  | cvt =>
    cases h
    refine ⟨_, _, fun _ => rfl, fun c r s => ?_⟩
    simp only []
    split
    · simp only [TicRes.Local]
      split
      · exact .inr (.inl rfl)
      · exact .inl rfl
    · trivial
  | call =>
    cases h
    refine ⟨_, _, fun _ => rfl, fun c r s => ?_⟩
    split
    · exact .inl rfl
    · trivial
  | ton | tof | tp =>
    cases h
    exact ⟨_, _, fun _ => rfl, fun _ _ _ => timerInstr_local ..⟩
  | ctu =>
    cases h
    exact ⟨_, _, fun _ => rfl, fun _ _ _ => ctuInstr_local ..⟩
  | ctd =>
    cases h
    exact ⟨_, _, fun _ => rfl, fun _ _ _ => ctdInstr_local ..⟩
  | ctud =>
    cases h
    exact ⟨_, _, fun _ => rfl, fun _ _ _ => ctudInstr_local ..⟩
  | rTrig | fTrig =>
    cases h
    exact ⟨_, _, fun _ => rfl, fun _ _ _ => trigInstr_local ..⟩
  | dfw =>
    cases h
    exact ⟨_, _, fun _ => rfl, fun _ _ _ => dfwInstr_local ..⟩
  | srd =>
    cases h
    exact ⟨_, _, fun _ => rfl, fun _ _ _ => srdInstr_local ..⟩
  | lpr =>
    cases h
    exact ⟨_, _, fun _ => rfl, fun _ _ _ => lprInstr_local ..⟩
  | lpw =>
    cases h
    exact ⟨_, _, fun _ => rfl, fun _ _ _ => lpwInstr_local ..⟩
  | jrn =>
    cases h
    exact ⟨_, _, fun _ => rfl, fun _ _ _ => jrnInstr_local ..⟩
  | _ => cases h

/-- What a TIC instruction does to the block: nothing, a fault of its scan, or its scan taken on after a local effect. -/
theorem ticStep_cases (t : BitVec 5) (w : Nat) (u : Run → Nat) (f : TaskCfg → Run → State → TicRes)
    (hf : ∀ c r s, (f c r s).Local t.toNat s) (s : State) :
    ticStep t w u f s = s ∨ (∃ code r, ticStep t w u f s = ticFault t.toNat code r s)
      ∨ ∃ r v, (v = s ∨ v = countClamp t.toNat s ∨ v = raise 216 (dropRecs 1 s))
        ∧ ticStep t w u f s = v.updTask t.toNat fun k => { k with run := some r } := by
  unfold ticStep
  split
  · rename_i r c _ _
    split
    · split
      · exact .inr (.inl ⟨_, _, rfl⟩)
      · have hl := hf c { r with units := r.units + u r, pc := r.pc + w
                                 phase := if r.phase = .ready then .running else r.phase } s
        split
        · exact .inl rfl
        · exact .inr (.inl ⟨_, _, rfl⟩)
        · rename_i e
          rw [e] at hl
          exact .inr (.inr ⟨_, _, hl, rfl⟩)
    · exact .inl rfl
  · exact .inl rfl

end Sys2Proof.Machine
end

section
/-! SUPPORT. Every command as one answer: it leaves the state alone, or the end of an edge follows an effect that keeps the
waiting commands, the flash's canonical form and the fuses (95; 17 R475; 18 R508). -/

namespace Sys2Proof.Machine

open Sys2Proof

/-- The answer of a command: the state as it was, or the end of the edge of an effect that keeps what `Grows` says. -/
def Answers (s : State) (o : Host.Outcome State Fault Refusal) : Prop :=
  o = .next s ∨ ∃ v, Grows s v ∧ o = .next (settle v)

theorem Answers.act {s : State} {f : State → State} (h : ∀ u, Grows u (f u)) : Answers s (act s f) :=
  .inr ⟨f (clearSent s), (clearSent_grows s).trans (h _), rfl⟩

theorem Answers.actOn {s : State} {f : State → State} (h : ∀ u, Grows u (f u)) : Answers s (actOn s f) := by
  unfold Machine.actOn
  split
  · exact .act h
  · exact .inl rfl

theorem Answers.actKey {s : State} {k w : BitVec 16} {f : State → State} (h : ∀ u, Grows u (f u)) :
    Answers s (actKey s k w f) := by
  unfold Machine.actKey
  split
  · exact .actOn h
  · exact .inl rfl

theorem Grows.ite {c : Prop} [Decidable c] {s a b : State} (ha : Grows s a) (hb : Grows s b) :
    Grows s (if c then a else b) := by
  split
  · exact ha
  · exact hb

/-- A command at a tide mark: the mark fires, and its own effect follows. -/
theorem atMark_grows (m k : Nat) (s : State) {f : TideMark → State → State} (h : ∀ x u, (f x u).fixed = u.fixed) :
    Grows s (atMark m k s f) := .of_fixed (atMark_fixed _ _ _ _ h)

/-- A message of the partner: what its own effect leaves fixed, its receipt leaves. -/
theorem receive_grows (q : Word) {f : State → State} (h : ∀ s, (f s).fixed = s.fixed) (s : State) :
    Grows s (receive q f s) := .of_fixed (receive_fixed q f h s)

theorem ticStep_grows (t : BitVec 5) (w : Nat) (u : Run → Nat) (f : TaskCfg → Run → State → TicRes)
    (hf : ∀ c r s, (f c r s).Local t.toNat s) (s : State) : Grows s (ticStep t w u f s) := by
  obtain e | ⟨code, r, e⟩ | ⟨r, v, hv, e⟩ := ticStep_cases t w u f hf s
  · rw [e]
    exact .refl s
  · rw [e]
    exact .of_fixed (ticFault_fixed ..)
  · rw [e]
    refine .of_fixed ((State.updTask_fixed ..).trans ?_)
    obtain rfl | rfl | rfl := hv
    · rfl
    · rfl
    · rw [raise_fixed]
      rfl

theorem Answers.of_isTic {i : Instr} {t : BitVec 5} (h : IsTic i t) (s : State) : Answers s (exec i s) := by
  obtain ⟨w, f, e, hf⟩ := h
  rw [e]
  exact .actOn fun u => ticStep_grows t w _ f hf u

/-- Every command answers. -/
theorem exec_answers (i : Instr) (s : State) : Answers s (exec i s) := by
  cases i with
  | vinValid => exact .act fun _ => vinValid_grows ..
  | resetNAssert => exact .act fun _ => resetAssert_grows ..
  | resetNRelease => exact .act fun _ => .of_fixed (resetRelease_fixed ..)
  | watchdogExpiry => exact .actOn fun _ => watchdogExpiry_grows ..
  | pfailWarn => exact .actOn fun _ => pfailWarn_grows ..
  | flushComplete => exact .act fun _ => .of_fixed (flushComplete_fixed ..)
  | vinBelowReset => exact .act fun _ => vinBelowReset_grows ..
  | hostWarm | hostCold | hostDefault => exact .actKey fun _ => hostRestart_grows ..
  | hfioQualified => exact .actOn fun _ => .of_fixed (hfioQualified_fixed ..)
  | safePatternLoaded => exact .actOn fun _ => .of_fixed (loadSafe_fixed ..)
  | mooringEvaluate => exact .actOn fun _ => .of_fixed (mooringStage_fixed ..)
  | mooringLoopSample => exact .actOn fun _ => .of_fixed (moorSample_fixed ..)
  | mooringPulseEnd => exact .actOn fun _ => .of_fixed (moorPulseEnd_fixed ..)
  | interlockEvaluation => exact .actOn fun _ => .of_fixed (evalInterlocks_fixed ..)
  | xtalQualified => exact .actOn fun _ => .of_fixed (xtalQualified_fixed ..)
  | xtalRetry => exact .actOn fun _ => .of_fixed (xtalRetry_fixed ..)
  | firmwareVerify => exact .actOn fun _ => .of_fixed (firmwareVerify_fixed ..)
  | holdOk => exact .actOn fun _ => .of_fixed (holdRises_fixed ..)
  | tideLock => exact .actOn fun _ => .of_fixed (tideLock_fixed ..)
  | acquisitionTimeout => exact .actOn fun _ => .of_fixed (acquisitionTimeout_fixed ..)
  | tideCycleRead | tideZcCycleRead | snapshotEndRead | jrnData7Read | ntimeSecLoRead | mtrTotalLoRead |
  jrnOptimeLoRead | calSubsecRead =>
    exact .actOn fun _ => .of_fixed (readRegister_fixed ..)
  | snapshotTimeout => exact .actOn fun _ => .of_fixed (snapLapse_fixed ..)
  | tideConvGo => exact .actOn fun _ => .of_fixed (startConv_fixed ..)
  | tideConvDone => exact .actOn fun _ => .of_fixed (finishConv_fixed ..)
  | unitSlow => exact .actOn fun _ => .of_fixed (unitSlow_fixed ..)
  | outerIterationEnd => exact .actOn fun _ => .of_fixed (outerEnd_fixed ..)
  | deliveryPass => exact .actOn fun _ => .of_fixed (deliveryPass_fixed ..)
  | resultsFixed => exact .actOn fun _ => .of_fixed (resultsFixed_fixed ..)
  | checkpointDone => exact .actOn fun _ => .of_fixed (checkpointDone_fixed ..)
  | submit => exact .actOn fun _ => .of_fixed (submitHost_fixed ..)
  | solVdataRead => exact .actOn fun _ => .of_fixed (readSolVdata_fixed ..)
  | eventTaskDispatch => exact .actOn fun _ => .of_fixed (dispatchEvent_fixed ..)
  | errorTaskDispatch => exact .actOn fun _ => .of_fixed (dispatchError_fixed ..)
  | scanCommit => exact .actOn fun _ => .of_fixed (scanCommit_fixed ..)
  | coreMismatch => exact .actOn fun _ => .of_fixed (coreMismatch_fixed ..)
  | forceSet => exact .actKey fun _ => .of_fixed (forceSet_fixed ..)
  | forceClear => exact .actKey fun _ => .of_fixed (forceClear_fixed ..)
  | forceClearAll => exact .actKey fun _ => .of_fixed (forceClearAll_fixed ..)
  | scanFrcSelWrite => exact .actOn fun _ => .of_fixed (selectForce_fixed ..)
  | scanTExecmaxRead => exact .actOn fun _ => .of_fixed (readExecMax_fixed ..)
  | testStart => exact .actKey fun _ => .of_fixed (testStart_fixed ..)
  | testStop => exact .actKey fun _ => .of_fixed (testStop_fixed ..)
  | captureArm => exact .actKey fun _ => .of_fixed (captureArm_fixed ..)
  | captureStop => exact .actKey fun _ => .of_fixed (captureStop_fixed ..)
  | pollTimeout => exact .actOn fun _ => .of_fixed (pollTimeout_fixed ..)
  | rejoin => exact .actKey fun _ => .of_fixed (rejoinCommand_fixed ..)
  | frameReceived => exact .actOn fun _ => .of_fixed (frameReceived_fixed ..)
  | ptpMessage => exact .actOn fun _ => .of_fixed (ptpMessage_fixed ..)
  | linkChange => exact .actOn fun _ => .of_fixed (linkChange_fixed ..)
  | frameLaunch => exact .actOn fun _ => .of_fixed (frameLaunch_fixed ..)
  | ntimeIncrFracWrite => exact .actOn fun _ => .of_fixed (hostIncr_fixed ..)
  | ntimeStep => exact .actKey fun _ => .of_fixed (hostStep_fixed ..)
  | leaseSend => exact .actOn fun _ => .of_fixed (leaseSend_fixed ..)
  | lease => exact .actOn (receive_grows _ fun _ => leaseIn_fixed ..)
  | leaseAck => exact .actOn (receive_grows _ fun _ => leaseAckIn_fixed ..)
  | image => exact .actOn (receive_grows _ fun _ => imageIn_fixed ..)
  | sample => exact .actOn (receive_grows _ fun _ => sampleIn_fixed ..)
  | tideMessage => exact .actOn (receive_grows _ fun _ => tideIn_fixed ..)
  | events => exact .actOn (receive_grows _ fun _ => eventsIn_fixed ..)
  | solver => exact .actOn (receive_grows _ fun _ => solverIn_fixed ..)
  | digest => exact .actOn (receive_grows _ fun _ => digestIn_fixed ..)
  | health => exact .actOn (receive_grows _ fun _ => healthIn_fixed ..)
  | resync => exact .actOn (receive_grows _ fun _ => resyncIn_fixed ..)
  | switchMsg => exact .actOn (receive_grows _ fun _ => switchIn_fixed ..)
  | take => exact .actOn (receive_grows _ fun _ => takeIn_fixed ..)
  | fenceOutDrop => exact .actOn fun _ => .of_fixed (fenceOutDrop_fixed ..)
  | selfFence => exact .actOn fun _ => .of_fixed (selfFenceByTime_fixed ..)
  | fenceInHigh => exact .act fun _ => .of_fixed (fenceInHigh_fixed ..)
  | pairTakeover => exact .actOn fun _ => .of_fixed (leaseExpired_fixed ..)
  | crossingLinkDown => exact .actOn fun _ => .of_fixed (linkDown_fixed ..)
  | laneRecover => exact .actOn fun _ => .of_fixed (laneRecover_fixed ..)
  | peerOkInLow => exact .actOn fun _ => .of_fixed (peerLow_fixed ..)
  | pairCtrlSwitch => exact .actKey fun _ => .of_fixed (switchCommand_fixed ..)
  | pairCtrlResync => exact .actKey fun _ => .of_fixed (resyncCommand_fixed ..)
  | healthFrame => exact .actOn fun _ => .of_fixed (healthFrame_fixed ..)
  | tileBist => exact .actOn fun _ => .of_fixed (tileTest_fixed ..)
  | corePairBist => exact .actOn fun _ => .of_fixed (corePairTest_fixed ..)
  | outputStageTest => exact .actOn fun _ => .of_fixed (stageTest_fixed ..)
  | clearFault => exact .actKey fun _ => .of_fixed (clearFaultCommand_fixed ..)
  | inputFilterChange => exact .actOn fun _ => .of_fixed (filterChange_fixed ..)
  | pulseMergeEnd => exact .actOn fun _ => .of_fixed (mergeEnd_fixed ..)
  | meterEdgeQualified => exact .actOn fun _ => .of_fixed (qualifyEdge_fixed ..)
  | readbackMismatch => exact .actOn fun _ => .of_fixed (readbackDiffers_fixed ..)
  | thermalShutdown => exact .actOn fun _ => .of_fixed (thermalTrip_fixed ..)
  | thermalRestart => exact .actOn fun _ => .of_fixed (thermalCooled_fixed ..)
  | ioWatchdogTrip => exact .act fun _ => .of_fixed (dieWatchdog_fixed ..)
  | groupTimerExpiry => exact .act fun _ => .of_fixed (groupExpired_fixed ..)
  | vfldFault => exact .act fun _ => .of_fixed (supplyLost_fixed ..)
  | vfldReturn => exact .act fun _ => .of_fixed (supplyBack_fixed ..)
  | journalFlushEnd => exact .actOn fun _ => .of_fixed (endFlush_fixed ..)
  | flush => exact .actKey fun _ => .of_fixed (hostFlush_fixed ..)
  | extract => exact .actKey fun _ => .of_fixed (startExtract_fixed ..)
  | jrnExtractDone => exact .actOn fun _ => .of_fixed (endExtract_fixed ..)
  | journalRebuildEnd => exact .actOn fun _ => .of_fixed (endRebuild_fixed ..)
  | dailyAnchor => exact .actOn fun _ => .of_fixed (anchor_fixed ..)
  | attest | endorse | keyOrigin | generate | importKey | install | load | enrolArm | fuseCommit | readChain |
  readBlob =>
    exact .actKey fun _ => .of_fixed (keyCommand_fixed ..)
  | keyCommandDone => exact .actOn fun _ => keyDone_grows ..
  | clkMonTrip => exact .actOn fun _ => .of_fixed (monitorTrip_fixed ..)
  | loopReferenceSwitch => exact .actOn fun _ => .of_fixed (switchReference_fixed ..)
  | clkLoopFail => exact .actOn fun _ => loopFails_grows ..
  | sleep => exact .actKey fun _ => .of_fixed (enterSleep_fixed ..)
  | deep => exact .actKey fun _ => .of_fixed (enterDeep_fixed ..)
  | wake => exact .actOn fun _ => .of_fixed (wakeUp_fixed ..)
  | fmeasStart => exact .actOn fun _ => .of_fixed (startMeasure_fixed ..)
  | fmeasDone => exact .actOn fun _ => .of_fixed (endMeasure_fixed ..)
  | fmeasErr => exact .actOn fun _ => .of_fixed (failMeasure_fixed ..)
  | calendarSecond => exact .act fun _ => .of_fixed (calendarSecond_fixed ..)
  | calAlarm => exact .act fun _ => .of_fixed (calendarAlarm_fixed ..)
  | backupBrownout => exact .act fun _ => .of_fixed (setOsf_fixed ..)
  | hspiRead => exact .actOn (spiTransaction_grows _ fun _ => .of_fixed (spiRead_fixed ..))
  | hspiReadTimeout => exact .actOn (spiTransaction_grows _ fun _ => .of_fixed (spiReadTimeout_fixed ..))
  | hspiStatus => exact .actOn (spiTransaction_grows _ fun _ => .of_fixed (spiStatus_fixed ..))
  | hspiIgnoredTransaction => exact .actOn (spiTransaction_grows _ fun _ => .of_fixed (spiIgnored_fixed ..))
  | hspiWrite => exact .actOn (spiTransaction_grows _ fun _ => spiWrite_grows ..)
  | hello => exact .actOn fun _ => .of_fixed (helloFrame_fixed ..)
  | prove => exact .actOn fun _ => .of_fixed (proveFrame_fixed ..)
  | mgmtRead => exact .actOn fun _ => .of_fixed (mgmtRead_fixed ..)
  | mgmtWrite => exact .actOn fun _ => mgmtWrite_grows ..
  | close => exact .actOn fun _ => .of_fixed (closeFrame_fixed ..)
  | flRead => exact .actKey fun _ => .of_fixed (flashReadCommand_fixed ..)
  | flProgram => exact .actKey fun _ => .of_fixed (flashProgramCommand_fixed ..)
  | flErase => exact .actKey fun _ => .of_fixed (flashEraseCommand_fixed ..)
  | flashDone => exact .actOn fun _ => flashDone_grows ..
  | registerWrite => exact .actOn fun _ => registerWrite_grows ..
  | crossingLinkUp => exact .actOn fun _ => .of_fixed (linkUp_fixed ..)
  | badCrcCopy => exact .actOn fun _ => .of_fixed (badCopy_fixed ..)
  | peerOkInChange => exact .act fun _ => .of_fixed (peerOkChange_fixed ..)
  | announceReceiptTimeout => exact .actOn fun _ => .of_fixed (announceTimeout_fixed ..)
  | holdLow => exact .actOn fun _ => .of_fixed (holdFalls_fixed ..)
  | retainedCopySealed => exact .actOn fun _ => .of_fixed (endRetained_fixed ..)
  | ld | ldf | st | stf | ldi | ldx | ldix | stix | dup | drop | swap | add | sub | mul | div | mod | neg | abs | min | max
  | limit | math | sel | andB | orB | xor | notB | shl | shr | rol | ror | eq | ne | lt | le | gt | ge | cvt | jmp | jmpc
  | jmpcn | call | ret | ton | tof | tp | ctu | ctd | ctud | rTrig | fTrig | dfw | srd | lpr | lpw | jrn | evr | lds =>
    exact .of_isTic (isTic_of_ticTask rfl) s
  | manifestVerify => exact .actOn fun u => .of_fixed ((settleAdoption_fixed _).trans (manifestVerify_fixed _ _))
  | tideCycleBoundary t =>
    exact .actOn fun u => .ite (.of_fixed ((sendLink_fixed ..).trans (cycleBoundary_fixed ..)))
      (.of_fixed (cycleBoundary_fixed ..))
  | coastStart => exact .actOn fun u => .ite (.of_fixed (enterCoast_fixed ..)) (.refl u)
  | relockStart => exact .actOn fun u => .ite (.of_fixed ((restamp_fixed ..).trans (relock_fixed ..))) (.refl u)
  | phaseJump => exact .actOn fun u => .ite (.of_fixed (enterSlew_fixed ..)) (.refl u)
  | slewEnd => exact .actOn fun u => .ite (.of_fixed (lockTide_fixed ..)) (.ite (.of_fixed rfl) (.refl u))
  | optimisationPeriodBoundary => exact .actOn fun u => atMark_grows _ _ u fun _ _ => periodBoundary_fixed ..
  | scanTaskStart => exact .actOn fun u => atMark_grows _ _ u fun _ _ => startTask_fixed ..
  | loopGroupSample =>
    exact .actOn fun u => atMark_grows _ _ u fun _ _ => (applyOutputs_fixed ..).trans (loopSample_fixed ..)
  | loopPulseEnd => exact .actOn fun u => .of_fixed ((applyOutputs_fixed ..).trans (pulseEnd_fixed ..))
  | ferryFrameLaunch => exact .actOn fun u => atMark_grows _ _ u fun _ _ => launchGroup_fixed ..
  | runAheadStart => exact .actOn fun u => atMark_grows _ _ u fun _ _ => runAheadStart_fixed ..
  | solverDeadline => exact .actOn fun u => atMark_grows _ _ u fun _ _ => solverDeadline_fixed ..
  | meterTariffCheck => exact .actOn fun u => atMark_grows _ _ u fun _ _ => foldl_fixed _ checkMeter_fixed _ _
  | iteration => exact .actOn fun u => .of_fixed ((resumeBoundary_fixed ..).trans (iterationDone_fixed ..))
  | factorStep => exact .actOn fun u => .of_fixed ((resumeBoundary_fixed ..).trans (factorStepDone_fixed ..))
  | resolution => exact .actOn fun u => .ite (.refl u) (.of_fixed (resolveScan_fixed ..))
  | retainCopy => exact .actOn fun u => .ite (.of_fixed (beginRetained_fixed ..)) (.refl u)
  | loopCapTagRead => exact .actOn fun u => .of_fixed ((capTagStep_fixed ..).trans (State.updPath_fixed ..))
  | ferryReply => exact .actOn fun u => .ite (.of_fixed (ferryReply_fixed ..)) (.refl u)
  | pollReply => exact .actOn fun u => .ite (.of_fixed (pollReply_fixed ..)) (.refl u)
  | txanChange => exact .actOn fun u => .of_fixed (selectAn_fixed ..)
  | fenceRestart => exact .actOn fun u => .ite (hostRestart_grows ..) (.refl u)
  | peerOkTimeout => exact .actOn fun u => .of_fixed rfl
  | eccScrubError place corrected =>
    refine .actOn fun u => .ite (.of_fixed (eccCorrected_fixed ..)) ?_
    cases place with
    | tile => exact .of_fixed (eccInTile_fixed ..)
    | other => exact .after_fixed (State.updPair_fixed ..) (hostRestart_grows ..)
  | ioDieUpdate => exact .actOn fun u => .of_fixed ((ioUpdate_fixed ..).trans (moorCycles_fixed ..))
  | pulseInputChange =>
    exact .actOn fun u => .ite (.refl u) (.ite
      (.of_fixed ((pulseChange_fixed ..).trans ((State.updFio_fixed ..).trans (mergeEnd_fixed ..))))
      (.of_fixed ((State.updFio_fixed ..).trans (mergeEnd_fixed ..))))
  | meterCountBegin => exact .actOn fun u => .ite (.of_fixed (beginCount_fixed ..)) (.refl u)
  | meterRateUpdate => exact .actOn fun u => .of_fixed (foldl_fixed _ decayRate_fixed _ _)
  | meterClear => exact .actKey fun u => .of_fixed (clearMeter_fixed ..)
  | meterPreset => exact .actKey fun u => .of_fixed (presetMeter_fixed ..)
  | optimeStore => exact .actOn fun u => .of_fixed ((servePeerOk_fixed ..).trans (State.updDev_fixed ..))
  | hfioTrim => exact .actOn fun u => .ite (.of_fixed rfl) (.refl u)
  | clkRunEnWrite => exact .actOn fun u => .of_fixed rfl
  | xtal2Stop =>
    unfold exec execXtal2Stop
    exact .act fun u => .of_fixed ((setOsf_fixed ..).trans (State.updClk_fixed ..))
  | backupPowerOnReset =>
    unfold exec execBackupPowerOnReset
    exact .act fun u => .ite (.of_fixed rfl) (.of_fixed ((raise_fixed ..).trans rfl))
  | vbatSwitch =>
    unfold exec execVbatSwitch
    exact .act fun u => .of_fixed rfl
  | vbatCheck =>
    unfold exec execVbatCheck
    exact .act fun u => .of_fixed rfl
  | calSet _ key =>
    refine .actOn fun u => ?_
    split
    · exact .of_fixed (calendarSet_fixed ..)
    · exact .of_fixed (rejectCal_fixed ..)
  | shift _ key =>
    refine .actOn fun u => ?_
    split
    · exact .of_fixed (calendarShift_fixed ..)
    · exact .of_fixed (rejectCal_fixed ..)
  | ptpSet _ key =>
    refine .actOn fun u => ?_
    split
    · exact .of_fixed (calendarPtpSet_fixed ..)
    · exact .of_fixed (rejectCal_fixed ..)
  | automaticSetting => exact .actOn fun u => .ite (.of_fixed (automaticSet_fixed ..)) (.refl u)
  | acceptOther =>
    unfold exec execAcceptOther
    simp only []
    split
    · exact .act fun u => .of_fixed rfl
    · exact .actKey fun u => acceptOther_grows ..
  | uncorrectableError => exact .actOn fun u => .ite (.refl u) (.of_fixed (tileFaulty_fixed ..))
  | meterSaveDone => exact .actOn fun u => .ite (.refl u) (.of_fixed (endSave_fixed ..))

end Sys2Proof.Machine
end

section
/-! SUPPORT. The queue, the step and the invariants: what every command keeps, and that the end of an edge leaves no raise and
no record undone (95; 17 R475; 18 R508, R525). -/

namespace Sys2Proof.Machine

open Sys2Proof

theorem Answers.grows {s : State} {o : Host.Outcome State Fault Refusal} (h : Answers s o) : ∃ t, o = .next t ∧ Grows s t := by
  obtain e | ⟨v, g, e⟩ := h
  · exact ⟨s, e, .refl s⟩
  · exact ⟨_, e, g.then_fixed (settle_fixed v)⟩

/-- Every command answers a next state with what `Grows` says. -/
theorem exec_grows (i : Instr) (s : State) : ∃ t, exec i s = .next t ∧ Grows s t := (exec_answers i s).grows

/-! ## One step -/

theorem step_nil {s : State} (h : s.pending = []) : step s = .next (elapse 1 s) := by
  unfold step
  rw [h]

theorem step_cons {s : State} {c : Instr} {rest : List Instr} (h : s.pending = c :: rest) :
    step s = exec c { s with pending := rest } := by
  unfold step
  rw [h]

/-- What one step leaves of flash and fuses. -/
theorem Grows.fits {s t : State} (h : Grows s t) (fits : Fits s) : Fits t :=
  ⟨h.flash fits.1, Nat.le_trans h.top (Nat.max_le.2 ⟨fits.2, Nat.le_refl _⟩)⟩

/-! ## The end of an edge -/

theorem addRec_evt (r : NewRec) (s : State) : (addRec r s).evt = s.evt := rfl

/-- A raise as it is performed leaves the lists of the edge's raises alone (17 R475). -/
theorem performRaise_edges (s : State) (x : Nat × Nat) :
    (performRaise s x).evt.edge = s.evt.edge ∧ (performRaise s x).evt.edgePeer = s.evt.edgePeer := by
  unfold performRaise
  simp only []
  (repeat' split) <;> exact ⟨rfl, rfl⟩

theorem performPeer_edges (s : State) (x : Nat × Nat) :
    (performPeer s x).evt.edge = s.evt.edge ∧ (performPeer s x).evt.edgePeer = s.evt.edgePeer := by
  unfold performPeer
  simp only []
  split <;> exact ⟨rfl, rfl⟩

/-- A fold of operations that leave the lists of raises alone leaves them alone. -/
theorem foldl_edges {α : Type} {f : State → α → State}
    (h : ∀ s a, (f s a).evt.edge = s.evt.edge ∧ (f s a).evt.edgePeer = s.evt.edgePeer) (l : List α) (s : State) :
    (l.foldl f s).evt.edge = s.evt.edge ∧ (l.foldl f s).evt.edgePeer = s.evt.edgePeer := by
  induction l generalizing s with
  | nil => exact ⟨rfl, rfl⟩
  | cons a l ih => exact ⟨(ih _).1.trans (h s a).1, (ih _).2.trans (h s a).2⟩

theorem createRec_jrn_edge (s : State) (r : NewRec) : (createRec s r).1.jrn.edge = s.jrn.edge := by
  unfold createRec
  split
  · rfl
  · simp only []
    split <;> rfl

theorem createAll_jrn_edge (l : List NewRec) (s : State) : (createAll l s).1.jrn.edge = s.jrn.edge := by
  induction l generalizing s with
  | nil => rfl
  | cons r l ih => exact (ih _).trans (createRec_jrn_edge s r)

theorem startFlush_jrn_edge (s : State) : (startFlush s).jrn.edge = s.jrn.edge := by
  unfold startFlush
  split <;> rfl

/-- The raise of JRN_OVERRUN creates no record of its own (17 R476, R490). -/
theorem performRaise_overrun_jrn (s : State) (k : Nat) : (performRaise s (216, k)).jrn.edge = s.jrn.edge := by
  have recordless_overrun : recordless 216 = true := by decide
  unfold performRaise
  simp only [recordless_overrun, Bool.not_true, Bool.and_false, Bool.false_eq_true, if_false]
  (repeat' split) <;> rfl

theorem settleEvents_settled (s : State) : Settled (settleEvents s) := by
  unfold settleEvents
  split
  · rename_i he
    simp only [Bool.and_eq_true, List.isEmpty_iff] at he
    exact ⟨he.1.1, he.1.2, he.2⟩
  · extract_lets own peer s1 s2 s3 recs s4 before urgent
    have e3 : s3.evt.edge = [] ∧ s3.evt.edgePeer = [] := by
      have p := foldl_edges performPeer_edges peer s2
      have o := foldl_edges performRaise_edges own s1
      exact ⟨p.1.trans o.1, p.2.trans o.2⟩
    have e4 : Settled s4 := ⟨e3.1, e3.2, rfl⟩
    clear_value s4 recs before urgent
    split
    rename_i s5 d h5
    have e5 : Settled s5 := by
      have evt := createAll_evt recs s4
      have jrn := createAll_jrn_edge recs s4
      rw [h5] at evt jrn
      rw [Settled, evt, jrn]
      exact e4
    extract_lets s6
    have e6 : Settled s6 := by
      show Settled (if (d && !own.any (·.1 == 216)) = true then performRaise s5 (216, 0) else s5)
      split
      · have p := performRaise_edges s5 (216, 0)
        exact ⟨p.1.trans e5.1, p.2.trans e5.2.1, (performRaise_overrun_jrn s5 0).trans e5.2.2⟩
      · exact e5
    split
    · rw [Settled, startFlush_evt, startFlush_jrn_edge]
      exact e6
    · exact e6

theorem sendLink_settled {m : LinkMsg} {s : State} (h : Settled s) : Settled (sendLink m s) := by
  unfold sendLink
  split
  · exact h
  · exact h

theorem forwardEvents_settled {s : State} (h : Settled s) : Settled (forwardEvents s) := by
  unfold forwardEvents
  simp only []
  split
  · exact h
  · split
    · exact sendLink_settled h
    · exact h

/-- The end of an edge leaves no raise and no record undone (17 R475). -/
theorem settle_settled (s : State) : Settled (settle s) := by
  unfold settle
  split
  · exact forwardEvents_settled (settleEvents_settled _)
  · exact ⟨rfl, rfl, rfl⟩

theorem Answers.settled {s t : State} (h : Answers s (.next t)) (hs : Settled s) : Settled t := by
  obtain e | ⟨v, -, e⟩ := h
  · cases e
    exact hs
  · cases e
    exact settle_settled v

theorem elapse_evt (n : Nat) (s : State) : (elapse n s).evt = s.evt := by
  unfold elapse
  simp only []
  (repeat' split) <;>
    simp only [State.updNtime_evt, State.updTide_evt, State.updJrn_evt, State.updClk_evt, State.updCal_evt]

theorem Jrn.elapse_edge (j : Jrn) (xtal : Bool) (us n : Nat) : (j.elapse xtal us n).edge = j.edge := rfl

theorem elapse_jrn_edge (n : Nat) (s : State) : (elapse n s).jrn.edge = s.jrn.edge := by
  unfold elapse
  simp only []
  (repeat' split) <;>
    simp only [State.updNtime_jrn, State.updTide_jrn, State.updJrn_jrn, State.updClk_jrn, State.updCal_jrn, Jrn.elapse_edge]

theorem elapse_settled (n : Nat) {s : State} (h : Settled s) : Settled (elapse n s) := by
  rw [Settled, elapse_evt, elapse_jrn_edge]
  exact h

/-! ## The idle step -/

/-- One PLL_NET tick moves NTIME by its increment, modulo its seconds (13 R377). -/
theorem ntime_elapse_one (z : Ntime) :
    (z.elapse 1).ns.toNat * 2 ^ 32 + (z.elapse 1).frac.toNat
      = (z.ns.toNat * 2 ^ 32 + z.frac.toNat + z.incr.toNat) % (10 ^ 9 * 2 ^ 32) := by
  simp only [Ntime.elapse, BitVec.toNat_ofNat]
  omega

end Sys2Proof.Machine
end

section
/-! SUPPORT. The statements on the queue, the step and the invariants. -/

namespace Sys2Proof.Machine

open Sys2Proof

/-- Settles O1: the queue decides what a step runs. -/
theorem stepRunsFrontCommand : Obligations.StepRunsFrontCommand := fun _ _ _ h => step_cons h

/-- Settles O2: with the clocks running, one cycle moves NTIME and the microsecond counter alone. -/
theorem idleStepPassesOneCycle : Obligations.IdleStepPassesOneCycle := by
  intro s idle on started
  refine ⟨elapse 1 s, step_nil idle, ?_⟩
  have run : elapse 1 s = { s with
      cal := s.cal.elapse 1, clk := s.clk.elapse 1
      jrn := s.jrn.elapse ((s.clk.elapse 1).qual.getLsbD 2) ((s.clk.elapse 1).us.toNat - s.clk.us.toNat) 1
      tide := s.tide.elapse (tideWeight s) 1, ntime := s.ntime.elapse 1 } := by
    unfold elapse
    simp only [State.updCal, State.updClk, State.updJrn, State.updTide, State.updNtime, on, started, true_or, if_true]
    rfl
  rw [run]
  refine ⟨ntime_elapse_one s.ntime, fun lock => ?_, idle, rfl, rfl, rfl, rfl, rfl, rfl, rfl, rfl, rfl, rfl, rfl, rfl, rfl,
    rfl, rfl, rfl, rfl, rfl⟩
  simp only [Clk.elapse, lock, if_true]

/-- Settles O3: every command's answer is the end of an edge that keeps the queue, on fuses that only rise. -/
theorem commandsKeepQueueAndFuses : Obligations.CommandsKeepQueueAndFuses := fun c s =>
  let ⟨t, e, g⟩ := exec_grows c s
  ⟨t, e, g.pending, g.fuses⟩

/-- Settles O4: a command's effect keeps the flash's canonical form and the top of the fuse count; so does an idle cycle. -/
theorem stepKeepsFlashAndFuses : Obligations.StepKeepsFlashAndFuses := by
  intro s t fits h
  cases hp : s.pending with
  | nil =>
    rw [step_nil hp] at h
    cases h
    exact (Grows.of_fixed (elapse_fixed 1 s)).fits fits
  | cons c rest =>
    rw [step_cons hp] at h
    obtain ⟨u, e, g⟩ := exec_grows c { s with pending := rest }
    rw [e] at h
    cases h
    exact g.fits fits

/-- Settles O5: a command ends its edge, and an idle cycle raises and records nothing. -/
theorem stepFinishesEdge : Obligations.StepFinishesEdge := by
  intro s t settled h
  cases hp : s.pending with
  | nil =>
    rw [step_nil hp] at h
    cases h
    exact elapse_settled 1 settled
  | cons c rest =>
    rw [step_cons hp] at h
    have answers := exec_answers c { s with pending := rest }
    rw [h] at answers
    exact answers.settled settled

/-- Settles O6: the flash is erased, no fuse is blown, no edge is open and no command waits. -/
theorem invariantsHoldAtReset : Obligations.InvariantsHoldAtReset :=
  ⟨⟨rfl, Nat.zero_le 64⟩, ⟨rfl, rfl, rfl⟩, rfl⟩

end Sys2Proof.Machine
end

section
/-! SUPPORT. What no TIC instruction changes, and the fault of one beyond its task's count (09 R255, R270). -/

namespace Sys2Proof.Machine

open Sys2Proof

theorem updTask_task_other {m n : Nat} (h : n ≠ m) (s : State) (f : Task → Task) : ((s.updTask m f).task n) = s.task n :=
  Store.get_upd_other _ _ _ _ _ h.symm

/-- What an instruction of task `t` leaves: every block but the task's own scan and counts, the error task's queue, and the
raises and records of the edge. -/
structure TicFramed (t : Nat) (s u : State) : Prop where
  still : u.still = s.still
  loop : u.loop = s.loop
  sol : u.sol = s.sol
  stn : u.stn = s.stn
  data : u.scan.data = s.scan.data
  forces : u.scan.forces = s.scan.forces
  seq : u.scan.seq = s.scan.seq
  runs : ∀ n, n ≠ t → (u.task n).run = (s.task n).run
  images : u.pair.images = s.pair.images

theorem TicFramed.refl (t : Nat) (s : State) : TicFramed t s s := ⟨rfl, rfl, rfl, rfl, rfl, rfl, rfl, fun _ _ => rfl, rfl⟩

theorem TicFramed.trans {t : Nat} {s u v : State} (h : TicFramed t s u) (g : TicFramed t u v) : TicFramed t s v :=
  ⟨g.still.trans h.still, g.loop.trans h.loop, g.sol.trans h.sol, g.stn.trans h.stn, g.data.trans h.data,
    g.forces.trans h.forces, g.seq.trans h.seq, fun n hn => (g.runs n hn).trans (h.runs n hn), g.images.trans h.images⟩

theorem clearSent_framed (t : Nat) (s : State) : TicFramed t s (clearSent s) :=
  ⟨rfl, rfl, rfl, rfl, rfl, rfl, rfl, fun _ _ => rfl, clearSent_images s⟩

theorem updTask_framed (t : Nat) (f : Task → Task) (s : State) : TicFramed t s (s.updTask t f) :=
  ⟨rfl, rfl, rfl, rfl, rfl, rfl, rfl, fun n hn => by rw [updTask_task_other hn], rfl⟩

theorem raise_framed (t k j : Nat) (s : State) : TicFramed t s (raise k s j) :=
  ⟨rfl, rfl, rfl, rfl, rfl, rfl, rfl, fun _ _ => rfl, rfl⟩

theorem dropRecs_framed (t n : Nat) (s : State) : TicFramed t s (dropRecs n s) :=
  ⟨rfl, rfl, rfl, rfl, rfl, rfl, rfl, fun _ _ => rfl, rfl⟩

theorem addRec_framed (t : Nat) (r : NewRec) (s : State) : TicFramed t s (addRec r s) :=
  ⟨rfl, rfl, rfl, rfl, rfl, rfl, rfl, fun _ _ => rfl, rfl⟩

theorem countEnded_framed (t n : Nat) (s : State) : TicFramed t s (countEnded n s) := by
  unfold countEnded
  split
  · exact ⟨rfl, rfl, rfl, rfl, rfl, rfl, rfl, fun _ _ => rfl, rfl⟩
  · exact .refl t s

theorem queueCause_framed (t : Nat) (c : ErrCause) (s : State) : TicFramed t s (queueCause c s) := by
  unfold queueCause
  split <;> exact ⟨rfl, rfl, rfl, rfl, rfl, rfl, rfl, fun _ _ => rfl, rfl⟩

theorem realFault_framed (c : ErrCause) (s : State) : TicFramed c.task s (realFault c s) := by
  unfold realFault abandonScan
  extract_lets s1 s2 s3 s4
  have h4 : TicFramed c.task s s4 :=
    (countEnded_framed ..).trans ((updTask_framed ..).trans ((updTask_framed ..).trans
      ((addRec_framed ..).trans (raise_framed ..))))
  split
  · exact h4
  · exact h4.trans (queueCause_framed ..)

theorem ticFault_framed (t code : Nat) (r : Run) (s : State) : TicFramed t s (ticFault t code r s) := by
  unfold ticFault
  simp only []
  split
  · exact updTask_framed ..
  · exact realFault_framed { code := code, task := t, off := r.pc } s

theorem ticStep_framed (t : BitVec 5) (w : Nat) (u : Run → Nat) (f : TaskCfg → Run → State → TicRes)
    (hf : ∀ c r s, (f c r s).Local t.toNat s) (s : State) : TicFramed t.toNat s (ticStep t w u f s) := by
  obtain e | ⟨code, r, e⟩ | ⟨r, v, hv, e⟩ := ticStep_cases t w u f hf s
  · rw [e]
    exact .refl _ s
  · rw [e]
    exact ticFault_framed ..
  · rw [e]
    refine TicFramed.trans ?_ (updTask_framed ..)
    obtain rfl | rfl | rfl := hv
    · exact .refl _ _
    · exact updTask_framed ..
    · exact (dropRecs_framed ..).trans (raise_framed ..)

/-- The end of an edge leaves what an instruction leaves, where no image waits. -/
theorem settle_framed (t : Nat) {s : State} (h : s.pair.images = []) : TicFramed t s (settle s) :=
  ⟨settle_still s, settle_loop s h, settle_sol s h, settle_stn s h, settle_scan_data s h, settle_scan_forces s h,
    settle_scan_seq s h, fun n _ => settle_task_run s n h, settle_pair_images s h⟩

/-- The placement but for the scans that each core pair has run. -/
theorem TicFramed.place {t : Nat} {s u : State} (h : TicFramed t s u) :
    { u.place with pairScans := s.place.pairScans } = s.place :=
  congrArg (fun q : Still => { q.place with pairScans := s.place.pairScans }) h.still

/-- Whatever a TIC instruction answers, its frame holds of it. -/
theorem IsTic.framed {i : Instr} {t : BitVec 5} (h : IsTic i t) {s u : State} (hi : s.pair.images = [])
    (e : exec i s = .next u) : TicFramed t.toNat s u := by
  obtain ⟨w, f, he, hf⟩ := h
  rw [he, tic, actOn] at e
  split at e
  · cases e
    have step := (clearSent_framed t.toNat s).trans (ticStep_framed t w (fun r => ticUnits r i) f hf (clearSent s))
    exact step.trans (settle_framed _ (step.images.trans hi))
  · cases e
    exact .refl _ s

/-- Settles O20: an instruction is one step of its scan, which compares the count before it executes. -/
theorem ticBudgetFault : Obligations.TicBudgetFault := by
  intro i s t r c ht h beyond
  obtain ⟨w, f, e, -⟩ := isTic_of_ticTask ht
  exact tic_budget w (fun r => ticUnits r i) f (e s) h beyond

/-- Settles O21: each instruction's own effect is local to its scan, and so is a fault. -/
theorem ticFrame : Obligations.TicFrame := by
  intro i s u t ht hi e
  have h := (isTic_of_ticTask ht).framed hi e
  have of_still {α : Type} (p : Still → α) : p u.still = p s.still := congrArg p h.still
  exact ⟨h.data, h.forces, h.seq, h.runs, h.loop, h.sol, h.stn, of_still (·.fio), of_still (·.mtr), of_still (·.tide),
    of_still (·.ntime), of_still (·.clk), of_still (·.cal), of_still (·.start), h.place, of_still (·.keys),
    of_still (·.hst), of_still (·.ports), of_still (·.flash), of_still (·.fuses), of_still (·.pins), of_still (·.man)⟩

end Sys2Proof.Machine
end

section
/-! SUPPORT. Encoding and decoding of TIC code words agree (09 R241, R242, R253, R255). -/

namespace Sys2Proof.Machine

open Sys2Proof

/-! ## The fields of code words -/

theorem tyOfCode_tyCode (t : Ty) : tyOfCode (tyCode t) = some t := by cases t <;> rfl

theorem tyCode_lt (t : Ty) : tyCode t < 16 := by cases t <;> decide

theorem boolNat_lt (b : Bool) : boolNat b < 16 := by cases b <;> decide

@[simp] theorem boolNat_beq_one (b : Bool) : (boolNat b == 1) = b := by cases b <;> rfl

/-- Fields that fit their places in the code words (09 R241, R242). -/
structure Ins.Fits (f : Ins) : Prop where
  op : f.op < 256
  ty : f.ty < 16
  opnd : f.opnd < 2 ^ 20
  ext : ∀ e ∈ f.ext, e < 2 ^ 32

/-- The words of fields that fit, and that verification admits, decode to them, whatever follows. -/
theorem decodeIns_insCode {f : Ins} (h : f.Fits) (ok : insOk f = true) (pos : Nat) (rest : List Word) :
    decodeIns pos (insCode f ++ rest) = some { f with pos := pos } := by
  obtain ⟨p, op, ty, opnd, ext⟩ := f
  obtain ⟨hop, hty, hopnd, hext⟩ := h
  simp only at hop hty hopnd hext
  simp only [insOk, Bool.and_eq_true, beq_iff_eq] at ok
  obtain ⟨⟨⟨types, operand⟩, count⟩, words⟩ := ok
  have v : (BitVec.ofNat 32 (op * 2 ^ 24 + ty * 2 ^ 20 + opnd)).toNat = op * 2 ^ 24 + ty * 2 ^ 20 + opnd := by
    rw [BitVec.toNat_ofNat, Nat.mod_eq_of_lt (by omega)]
  have hv : (op * 2 ^ 24 + ty * 2 ^ 20 + opnd) / 2 ^ 24 = op ∧ (op * 2 ^ 24 + ty * 2 ^ 20 + opnd) / 2 ^ 20 % 16 = ty
      ∧ (op * 2 ^ 24 + ty * 2 ^ 20 + opnd) % 2 ^ 20 = opnd := by omega
  have exts : ((ext.map (BitVec.ofNat 32) ++ rest).take ext.length).map (·.toNat) = ext := by
    rw [List.take_left' (by simp), List.map_map]
    exact (List.map_congr_left fun e he => by
      rw [Function.comp_apply, BitVec.toNat_ofNat, Nat.mod_eq_of_lt (hext e he), id_eq]).trans (List.map_id ext)
  simp only [insCode, List.cons_append, decodeIns, v, hv, ← count, exts]
  rw [if_pos ⟨types, operand, trivial, words⟩]

theorem insCode_length (f : Ins) : (insCode f).length = f.size := by
  simp [insCode, Ins.size, Nat.add_comm]

/-! ## The fields of instructions -/

/-- The fields of an instruction fit their code words. -/
theorem ticFields_fits {i : Instr} {f : Ins} (h : ticFields i = some f) : f.Fits := by
  have none_ext {p op ty opnd : Nat} (hop : op < 256) (hty : ty < 16) (hx : opnd < 2 ^ 20) :
      Ins.Fits { pos := p, op := op, ty := ty, opnd := opnd, ext := [] } := ⟨hop, hty, hx, by simp⟩
  have one_ext {p op ty opnd e : Nat} (hop : op < 256) (hty : ty < 16) (hx : opnd < 2 ^ 20) (he : e < 2 ^ 32) :
      Ins.Fits { pos := p, op := op, ty := ty, opnd := opnd, ext := [e] } := ⟨hop, hty, hx, by simpa using he⟩
  cases i with
  | ld _ ty x | ldf _ ty x | st _ ty x | stf _ ty x | ldi _ ty x | ldix _ ty x | stix _ ty x | lds _ ty x =>
    cases h
    exact none_ext (by decide) (tyCode_lt ty) x.isLt
  | ldx _ ty v =>
    cases h
    refine ⟨by simp, tyCode_lt ty, by simp, fun e he => ?_⟩
    simp only [ldxExt] at he
    split at he
    · simp only [List.mem_cons, List.not_mem_nil, or_false] at he
      obtain rfl | rfl := he <;> exact BitVec.isLt _
    · simp only [List.mem_singleton] at he
      subst he
      exact BitVec.isLt _
  | dup | drop | swap | ret =>
    cases h
    exact none_ext (by decide) (by decide) (by decide)
  | add _ ty | sub _ ty | mul _ ty | div _ ty | mod _ ty | neg _ ty | abs _ ty | min _ ty | max _ ty | limit _ ty
  | sel _ ty | andB _ ty | orB _ ty | xor _ ty | notB _ ty | shl _ ty | shr _ ty | rol _ ty | ror _ ty | eq _ ty
  | ne _ ty | lt _ ty | le _ ty | gt _ ty | ge _ ty =>
    cases h
    exact none_ext (by decide) (tyCode_lt ty) (by decide)
  | math _ ty x =>
    cases h
    exact none_ext (by decide) (tyCode_lt ty) (Nat.lt_trans x.isLt (by decide))
  | cvt _ ty u =>
    cases h
    exact none_ext (by decide) (tyCode_lt ty) (Nat.lt_trans (tyCode_lt u) (by decide))
  | jmp _ x | jmpc _ x | jmpcn _ x =>
    cases h
    exact none_ext (by decide) (by decide) x.isLt
  | call _ rel x n =>
    cases h
    exact one_ext (by decide) (boolNat_lt rel) x.isLt (Nat.lt_trans n.isLt (by decide))
  | ton _ rel x | tof _ rel x | tp _ rel x | ctu _ rel x | ctd _ rel x | ctud _ rel x | rTrig _ rel x | fTrig _ rel x =>
    cases h
    exact none_ext (by decide) (boolNat_lt rel) x.isLt
  | dfw _ rel x n =>
    cases h
    exact one_ext (by decide) (boolNat_lt rel) x.isLt n.isLt
  | srd _ ty x vec sc =>
    cases h
    exact one_ext (by decide) (tyCode_lt ty) x.isLt (by have := vec.isLt; have := sc.isLt; omega)
  | lpr _ ty n p | lpw _ ty n p =>
    cases h
    exact none_ext (by decide) (tyCode_lt ty) (by have := n.isLt; have := p.isLt; omega)
  | jrn _ src sev code sub =>
    cases h
    exact one_ext (by decide) (by decide) (by have := src.isLt; have := sev.isLt; omega)
      (by have := code.isLt; have := sub.isLt; omega)
  | evr _ src =>
    cases h
    exact none_ext (by decide) (by decide) (Nat.lt_trans src.isLt (by decide))
  | _ => cases h

/-- Verification admits the fields of a well-formed TIC instruction. -/
theorem insOk_of_wf {i : Instr} {t : BitVec 5} {f : Ins} (hw : i.wf = true) (ht : ticTask i = some t)
    (h : ticFields i = some f) : insOk f = true := by
  have admitted : ticOk i = true := by
    cases i with
    | ldx => exact (Bool.and_eq_true_iff.1 hw).1
    | ld | ldf | st | stf | ldi | ldix | stix | dup | drop | swap | add | sub | mul | div | mod | neg | abs | min | max
    | limit | math | sel | andB | orB | xor | notB | shl | shr | rol | ror | eq | ne | lt | le | gt | ge | cvt | jmp
    | jmpc | jmpcn | call | ret | ton | tof | tp | ctu | ctd | ctud | rTrig | fTrig | dfw | srd | lpr | lpw | jrn | evr
    | lds => exact hw
    | _ => cases ht
  simpa [ticOk, h] using admitted

/-- The two extension words of a wide LDX value, or the one of a value that fits one, give it back (09 R242). -/
theorem ldxExt_value {ty : Ty} {v : DWord} (h : ldxFits ty v = true) :
    BitVec.ofNat 64 ((ldxExt ty v).headD 0 + ((ldxExt ty v).drop 1).headD 0 * 2 ^ 32) = v := by
  apply BitVec.eq_of_toNat_eq
  have := v.isLt
  unfold ldxExt
  split
  · simp [BitVec.extractLsb'_toNat, Nat.shiftRight_eq_div_pow]
    omega
  · rename_i narrow
    have small : v.toNat < 2 ^ 32 := by simpa [ldxFits, narrow] using h
    simp [BitVec.extractLsb'_toNat]
    omega

/-- The fields of a well-formed instruction name it. -/
theorem ticInstr_ticFields {i : Instr} {t : BitVec 5} {f : Ins} (hw : i.wf = true) (ht : ticTask i = some t)
    (h : ticFields i = some f) : ticInstr t f = some i := by
  cases i with
  | ld | ldf | st | stf | ldi | ldix | stix | add | sub | mul | div | mod | neg | abs | min | max | limit | math | sel
  | andB | orB | xor | notB | shl | shr | rol | ror | eq | ne | lt | le | gt | ge | lds | cvt =>
    cases h
    cases ht
    simp [ticInstr, tyOfCode_tyCode]
  | dup | drop | swap | ret =>
    cases h
    cases ht
    rfl
  | jmp | jmpc | jmpcn | call | ton | tof | tp | ctu | ctd | ctud | rTrig | fTrig | dfw | evr =>
    cases h
    cases ht
    simp [ticInstr]
  | ldx _ ty v =>
    cases h
    cases ht
    have fits : ldxFits ty v = true := (Bool.and_eq_true_iff.1 hw).2
    simp only [ticInstr, tyOfCode_tyCode, Option.map_some, ldxExt_value fits]
  | srd _ ty x vec sc =>
    cases h
    cases ht
    clear hw
    have low : (sc.toNat * 16 + vec.toNat) % 16 = vec.toNat := by have := vec.isLt; omega
    have high : (sc.toNat * 16 + vec.toNat) / 16 = sc.toNat := by have := vec.isLt; omega
    simp [ticInstr, tyOfCode_tyCode, low, high]
  | lpr _ ty n p | lpw _ ty n p =>
    cases h
    cases ht
    clear hw
    have low : (p.toNat * 4096 + n.toNat) % 512 = n.toNat := by have := n.isLt; omega
    have high : (p.toNat * 4096 + n.toNat) / 4096 = p.toNat := by have := n.isLt; omega
    simp [ticInstr, tyOfCode_tyCode, low, high]
  | jrn _ src sev code sub =>
    cases h
    cases ht
    clear hw
    have s0 : (sev.toNat * 256 + src.toNat) % 32 = src.toNat := by have := src.isLt; omega
    have s1 : (sev.toNat * 256 + src.toNat) / 256 = sev.toNat := by have := src.isLt; omega
    have hc : code.toNat < 65536 := code.isLt
    have c0 : (sub.toNat * 65536 + code.toNat) % 65536 = code.toNat := by
      rw [Nat.mul_add_mod_of_lt hc]
    have c1 : (sub.toNat * 65536 + code.toNat) / 65536 = sub.toNat := by
      rw [Nat.mul_comm, Nat.mul_add_div (by decide), Nat.div_eq_of_lt hc, Nat.add_zero]
    simp [ticInstr, s0, s1, c0, c1]
  | _ => cases h

/-- What a decoded word names does not depend on its place. -/
theorem ticInstr_pos (t : BitVec 5) (f : Ins) (pos : Nat) : ticInstr t { f with pos := pos } = ticInstr t f := rfl

/-- Settles O7: the words decode to the fields, and the fields name the instruction. -/
theorem ticDecodeOfEncode : Obligations.TicDecodeOfEncode := by
  intro i t f pos rest hw ht hf
  rw [decodeIns_insCode (ticFields_fits hf) (insOk_of_wf hw ht hf)]
  refine ⟨?_, ?_⟩
  · rw [Option.bind_some, ticInstr_pos, ticInstr_ticFields hw ht hf]
  · rw [Option.map_some, insCode_length]
    rfl

/-- Settles O8: each word's fields are read off and named. -/
theorem ticWordsDecode : Obligations.TicWordsDecode := by
  unfold Obligations.TicWordsDecode
  decide

end Sys2Proof.Machine
end

section
/-! SUPPORT. What the instructions that move and compute values, and those of control flow, make of their scan (09 R250,
R254 to R259, R268). -/

namespace Sys2Proof.Machine

open Sys2Proof

section

variable {s : State} {t : BitVec 5} {r : Run} {c : TaskCfg} {i : Instr} {ty : Ty} {k : List DWord} {n : Nat}

/-! ## An instruction that succeeds -/

/-- An instruction with room for its units that succeeds takes the scan on, where its own effect leaves the waiting images
and the data memory. -/
theorem Continues.of_effect {w : Nat} {u : Run → Nat} {f : TaskCfg → Run → State → TicRes} {r' : Run} {s' : State}
    (e : exec i s = tic t w u f s) (h : Scanning s t r c n) (hu : u r ≤ n)
    (hf : f c (r.begun w (u r)) (clearSent s) = .ok r' s') (hi : s'.pair.images = (clearSent s).pair.images)
    (hd : s'.scan.data = s.scan.data) : Continues i s t r' := by
  rw [Continues, Gives, e]
  exact tic_ok w u f h (Nat.le_trans (Nat.add_le_add_left hu _) h.room) hf
    (hi.trans ((clearSent_images s).trans h.calm.images)) hd

/-- An instruction that changes its scan alone. -/
theorem Continues.of_words {w : Nat} {u : Run → Nat} {f : TaskCfg → Run → State → TicRes} {r' : Run}
    (e : exec i s = tic t w u f s) (h : Scanning s t r c n) (hu : u r ≤ n)
    (hf : f c (r.begun w (u r)) (clearSent s) = .ok r' (clearSent s)) : Continues i s t r' :=
  .of_effect e h hu hf rfl rfl

/-- A one-word instruction that changes its scan alone. -/
theorem Continues.of_run {u : Nat} {f : Run → Option Run} {r' : Run} (e : exec i s = ticRun t u f s)
    (h : Scanning s t r c n) (hu : u ≤ n) (hf : f (r.begun 1 u) = some r') : Continues i s t r' := by
  rw [Continues, Gives, e]
  exact ticRun_ok u f h (Nat.le_trans (Nat.add_le_add_left hu _) h.room) hf

/-- An instruction that leaves `v` on top of the slots `k`. -/
theorem Run.begun_push (r : Run) (words units : Nat) (k : List DWord) :
    { r.begun words units with stack := k } = r.after words units k := rfl

@[simp] theorem Run.begun_base (r : Run) (words units : Nat) : (r.begun words units).base = r.base := rfl
@[simp] theorem Run.begun_pc (r : Run) (words units : Nat) : (r.begun words units).pc = r.pc + words := rfl
@[simp] theorem Run.begun_calls (r : Run) (words units : Nat) : (r.begun words units).calls = r.calls := rfl
@[simp] theorem Run.begun_entries (r : Run) (words units : Nat) : (r.begun words units).entries = r.entries := rfl
@[simp] theorem Run.begun_lds (r : Run) (words units : Nat) : (r.begun words units).lds = r.lds := rfl
@[simp] theorem Run.begun_loops (r : Run) (words units : Nat) : (r.begun words units).loops = r.loops := rfl
@[simp] theorem Run.begun_events (r : Run) (words units : Nat) : (r.begun words units).events = r.events := rfl
@[simp] theorem Run.begun_now (r : Run) (words units : Nat) : (r.begun words units).now = r.now := rfl

/-! ## Loads, immediates and stack moves (R255) -/

theorem continues_ld (h : Scanning s t r c 1) (x : BitVec 20) :
    Continues (.ld t ty x) s t
      { r.after 1 1 (readVar r ty x.toNat :: r.stack) with loads := (loadVar r ty x.toNat).2.loads } :=
  .of_ticRun (f := fun r => some (pushVar ty x.toNat r)) (by unfold exec; rfl) h
    (congrArg some (pushVar_begun r 1 1 ty x.toNat r.stack))

theorem continues_ldf (h : Scanning s t r c 1) (x : BitVec 20) :
    Continues (.ldf t ty x) s t
      { r.after 1 1 (readVar r ty (r.base + x.toNat) :: r.stack) with
        loads := (loadVar r ty (r.base + x.toNat)).2.loads } :=
  .of_ticRun (f := fun r => some (pushVar ty (operandIndex r true x) r)) (by unfold exec; rfl) h
    (congrArg some (pushVar_begun r 1 1 ty (r.base + x.toNat) r.stack))

theorem continues_ldi (h : Scanning s t r c 1) (x : BitVec 20) :
    Continues (.ldi t ty x) s t
      (r.after 1 1 ((if tyFloat ty then fSlot ty (intF x.toInt) else intSlot ty x.toInt) :: r.stack)) :=
  .of_ticRun (f := fun r =>
    some { r with stack := (if tyFloat ty then fSlot ty (intF x.toInt) else intSlot ty x.toInt) :: r.stack })
    (by unfold exec; rfl) h rfl

theorem continues_lds (h : Scanning s t r c 1) {x : BitVec 20} (hx : ldsType x.toNat = some ty) :
    Continues (.lds t ty x) s t (r.after 1 1 (ldsValue r.lds x.toNat :: r.stack)) :=
  .of_ticRun rfl h (by simp only [given, hx, beq_self_eq_true, if_true]; rfl)

/-- Settles O9: each instruction's effect on the scan that it begins. -/
theorem ticPushesAndStackMoves : Obligations.TicPushesAndStackMoves := by
  intro s t r c h
  refine ⟨fun _ x => continues_ld h x, fun _ x => continues_ldf h x, fun _ x => continues_ldi h x,
    fun ty v => .of_words rfl h (Nat.le_refl 1) rfl, fun _ _ hx => continues_lds h hx, fun a k hs => ⟨?_, ?_⟩,
    fun a b k hs => ?_⟩
  · exact .of_ticRun rfl h (by simp only [Run.begun_stack, hs, Run.begun_push])
  · exact .of_ticRun rfl h (by simp only [Run.begun_stack, hs, Run.begun_push])
  · exact .of_ticRun rfl h (by simp only [Run.begun_stack, hs, Run.begun_push])

/-! ## Comparisons (R255, R257) -/

/-- A comparison of two integers, by what it asks of their order. -/
theorem compareSlot_int (hf : tyFloat ty = false) (a b : DWord) :
    compareSlot 0 ty a b = boolSlot (decide (slotInt ty a = slotInt ty b))
    ∧ compareSlot 1 ty a b = boolSlot (decide (slotInt ty a ≠ slotInt ty b))
    ∧ compareSlot 2 ty a b = boolSlot (decide (slotInt ty a < slotInt ty b))
    ∧ compareSlot 3 ty a b = boolSlot (decide (slotInt ty a ≤ slotInt ty b))
    ∧ compareSlot 4 ty a b = boolSlot (decide (slotInt ty b < slotInt ty a))
    ∧ compareSlot 5 ty a b = boolSlot (decide (slotInt ty b ≤ slotInt ty a)) := by
  have order : cmpSlot ty a b = some (compare (slotInt ty a) (slotInt ty b)) := by simp [cmpSlot, hf]
  simp only [compareSlot, order]
  obtain lt | eq | gt := Int.lt_trichotomy (slotInt ty a) (slotInt ty b)
  · simp [Int.compare_eq_lt.2 lt, lt, Int.ne_of_lt lt, Int.le_of_lt lt, Int.not_lt.2 (Int.le_of_lt lt), Int.not_le.2 lt]
    exact ⟨rfl, rfl⟩
  · simp [eq]
    exact ⟨rfl, rfl⟩
  · simp [Int.compare_eq_gt.2 gt, gt, (Int.ne_of_lt gt).symm, Int.le_of_lt gt, Int.not_lt.2 (Int.le_of_lt gt), Int.not_le.2 gt]
    exact ⟨rfl, rfl⟩

/-- A NaN compares unequal, and in no order (R257). -/
theorem compareSlot_nan (hf : tyFloat ty = true) {a b : DWord} (h : slotF ty a = .nan ∨ slotF ty b = .nan) (op : Nat) :
    compareSlot op ty a b = boolSlot (op == 1) := by
  have unordered : cmpSlot ty a b = none := by
    simp only [cmpSlot, hf, if_true]
    obtain h | h := h
    · rw [h]
      rfl
    · rw [h]
      cases slotF ty a <;> rfl
  simp only [compareSlot, unordered]

/-- A two-operand instruction of every type. -/
theorem Continues.of_two {f : DWord → DWord → DWord} {a b : DWord} (e : exec i s = ticRun t 1 (fun r => mapTwo r f) s)
    (h : Scanning s t r c 1) (hs : r.stack = b :: a :: k) : Continues i s t (r.after 1 1 (f a b :: k)) :=
  .of_ticRun e h (by simp only [mapTwo, Run.begun_stack, hs, Run.begun_push])

/-- Settles O12: each instruction maps the two top slots; a comparison asks for their order. -/
theorem ticTwoOperandResults : Obligations.TicTwoOperandResults := by
  intro s t r c ty a b k h hs gives
  have compares {op : Nat} {i : Instr} (e : exec i s = ticRun t 1 (fun r => mapTwo r (compareSlot op ty)) s) {v : DWord}
      (hv : compareSlot op ty a b = v) : gives i v := hv ▸ .of_two e h hs
  refine ⟨fun hn => ⟨?_, ?_, ?_⟩, .of_two rfl h hs, .of_two rfl h hs, fun hb => ⟨?_, ?_, ?_⟩, fun hb hne => ?_, fun hf => ?_,
    fun hf nan => ?_⟩
  · exact .of_mapTwo rfl h hn hs
  · exact .of_mapTwo rfl h hn hs
  · exact .of_mapTwo rfl h hn hs
  · exact .of_mapTwo (f := fun a b => canon ty a &&& canon ty b) rfl h hb hs
  · exact .of_mapTwo (f := fun a b => canon ty a ||| canon ty b) rfl h hb hs
  · exact .of_mapTwo (f := fun a b => canon ty a ^^^ canon ty b) rfl h hb hs
  · have hg : (tyB ty && ty != .bool) = true := by simp [hb, hne]
    exact ⟨.of_mapTwo rfl h hg hs, .of_mapTwo rfl h hg hs, .of_mapTwo rfl h hg hs, .of_mapTwo rfl h hg hs⟩
  · obtain ⟨eq, ne, lt, le, gt, ge⟩ := compareSlot_int hf a b
    exact ⟨compares rfl eq, compares rfl ne, compares rfl lt, compares rfl le, compares rfl gt, compares rfl ge⟩
  · have v := compareSlot_nan hf nan
    exact ⟨compares rfl (v 0), compares rfl (v 1), compares rfl (v 2), compares rfl (v 3), compares rfl (v 4),
      compares rfl (v 5)⟩

/-! ## One and three operands (R255, R257, R259) -/

theorem continues_cvt (h : Scanning s t r c 1) {a : DWord} (hs : r.stack = a :: k) (u : Ty) :
    Continues (.cvt t ty u) s t (r.after 1 1 ((convertSlot ty u a).1 :: k)) := by
  refine .of_effect (n := 1) (s' := if (convertSlot ty u a).2 then countClamp t.toNat (clearSent s) else clearSent s)
    rfl h (Nat.le_refl 1) (by simp only [Run.begun_stack, hs, Run.begun_push]) ?_ ?_
  · split <;> rfl
  · split <;> rfl

theorem continues_math_one (h : Scanning s t r c 1) {a : DWord} (hs : r.stack = a :: k) {f : BitVec 4}
    (hf : tyFloat ty = true) (hlt : f.toNat < 10) (room : r.units + 24 ≤ c.worst) :
    Continues (.math t ty f) s t
      (r.after 1 24 (fSlot ty (mathF f.toNat (slotF ty a) (slotF ty a)).1 (mathF f.toNat (slotF ty a) (slotF ty a)).2
        :: k)) := by
  have le : ¬11 < f.toNat := by omega
  refine .of_run (n := 24) rfl ⟨h.calm, h.run, h.cfg, h.first, room⟩ (Nat.le_refl 24) ?_
  simp only [hf, le, hlt, mapTop, Run.begun_stack, hs, Bool.not_true, decide_false, Bool.or_false, Bool.false_eq_true,
    if_true, if_false]
  rfl

theorem continues_math_two (h : Scanning s t r c 1) {a b : DWord} (hs : r.stack = b :: a :: k) {f : BitVec 4}
    (hf : tyFloat ty = true) (hge : 10 ≤ f.toNat) (hle : f.toNat ≤ 11) (room : r.units + 24 ≤ c.worst) :
    Continues (.math t ty f) s t
      (r.after 1 24 (fSlot ty (mathF f.toNat (slotF ty a) (slotF ty b)).1 (mathF f.toNat (slotF ty a) (slotF ty b)).2
        :: k)) := by
  have le : ¬11 < f.toNat := by omega
  have ge : ¬f.toNat < 10 := by omega
  refine .of_run (n := 24) rfl ⟨h.calm, h.run, h.cfg, h.first, room⟩ (Nat.le_refl 24) ?_
  simp only [hf, le, ge, mapTwo, Run.begun_stack, hs, Bool.not_true, decide_false, Bool.or_false, Bool.false_eq_true,
    if_false]
  rfl

/-- Settles O14: each instruction maps its operands; a conversion may count a clamp of its task besides. -/
theorem ticOneAndThreeOperandResults : Obligations.TicOneAndThreeOperandResults := by
  intro s t r c ty h
  refine ⟨fun a k hs => ⟨fun hb hne => ?_, ?_, continues_cvt h hs, fun f hf hlt room => continues_math_one h hs hf hlt room⟩,
    fun a b k hs f hf hge hle room => continues_math_two h hs hf hge hle room, fun x y z k hs => ⟨?_, ?_⟩⟩
  · have value : notSlot ty a = canon ty (~~~ canon ty a) := if_neg hne
    exact value ▸ .of_mapTop rfl h hb hs
  · exact .of_mapTop (f := notSlot .bool) rfl h rfl hs
  · exact .of_ticRun rfl h (by simp only [Run.begun_stack, hs, Run.begun_push])
  · exact .of_ticRun rfl h (by simp only [Run.begun_stack, hs, Run.begun_push])

/-! ## Control flow (R254, R255) -/

theorem jumpBy_after (r : Run) (o : BitVec 20) (k : List DWord) :
    jumpBy o (r.after 1 1 k) = { r.after 1 1 k with pc := ((r.pc : Int) + 1 + o.toInt).toNat } := rfl

theorem continues_jmp (h : Scanning s t r c 2) (o : BitVec 20) :
    Continues (.jmp t o) s t { r.after 1 1 r.stack with pc := ((r.pc : Int) + 1 + o.toInt).toNat } :=
  .of_run (f := fun r => some (jumpBy o r)) (by unfold exec; rfl) h (by decide) rfl

theorem continues_jmpc (h : Scanning s t r c 2) {b : DWord} (hs : r.stack = b :: k) (o : BitVec 20) :
    Continues (.jmpc t o) s t (if slotBool b then { r.after 1 1 k with pc := ((r.pc : Int) + 1 + o.toInt).toNat }
      else r.after 1 1 k) :=
  .of_run rfl h (by decide) (by simp only [Run.begun_stack, hs, Run.begun_push, jumpBy_after])

theorem continues_jmpcn (h : Scanning s t r c 2) {b : DWord} (hs : r.stack = b :: k) (o : BitVec 20) :
    Continues (.jmpcn t o) s t (if slotBool b then r.after 1 1 k
      else { r.after 1 1 k with pc := ((r.pc : Int) + 1 + o.toInt).toNat }) := by
  refine .of_run rfl h (by decide) ?_
  simp only [Run.begun_stack, hs, Run.begun_push, jumpBy_after]
  cases slotBool b <;> rfl

theorem continues_call (h : Scanning s t r c 2) {rel : Bool} {o : BitVec 20} {n : BitVec 12} {p : Pou}
    (hp : (s.man.map (·.code.pous)).bind (·[n.toNat]?) = some p) (hk : p.kind ≠ 1) :
    Continues (.call t rel o n) s t
      { r.after 2 2 [] with
        pc := p.first, base := (if rel then r.base + o.toNat else o.toNat)
        calls := { pc := r.pc + 2, base := r.base, stack := r.stack, gives := p.result != 0 } :: r.calls } := by
  have callee : ((clearSent s).man.map (·.code.pous)).bind (·[n.toNat]?) = some p := hp
  refine .of_words rfl h (Nat.le_refl 2) ?_
  simp only [callPou, callee, hk, if_false]
  rfl

theorem continues_ret (h : Scanning s t r c 2) : Continues (.ret t) s t (retPou (r.begun 1 1)) :=
  .of_run (f := fun r => some (retPou r)) (by unfold exec; rfl) h (by decide) rfl

/-- Settles O15: jumps move the word, a call saves the caller's share, RET gives it back or ends the scan. -/
theorem ticControlFlow : Obligations.TicControlFlow := by
  intro s t r c h
  refine ⟨continues_jmp h, fun o b k hs => ⟨continues_jmpc h hs o, continues_jmpcn h hs o⟩,
    fun rel o n p hp hk => continues_call h hp hk, fun v k hc => ?_, fun hc => ⟨_, continues_ret h, ?_⟩⟩
  · have returned : retPou (r.begun 1 1) = { r.after 1 1 ((if v.gives then r.stack.take 1 else []) ++ v.stack) with
        pc := v.pc, base := v.base, calls := k } := by
      simp only [retPou, Run.begun_calls, hc]
      rfl
    exact returned ▸ continues_ret h
  · simp only [retPou, Run.begun_calls, hc]
    exact ⟨trivial, rfl, rfl⟩

end

end Sys2Proof.Machine
end

section
/-! SUPPORT. Stores of a scan and the function blocks' instances on their words (09 R250, R260, R261, R601; 10 R283). -/

namespace Sys2Proof.Machine

open Sys2Proof

/-! ## A store, read back -/

/-- The entries of the other variables are found as before. -/
theorem findSome?_withEntry_other {i m : Nat} (hm : m ≠ i) {t : Ty} {v : DWord} (l : List Landing) :
    (withEntry (fun x => (storedAt i x).isSome) (.store i t v) l).findSome? (storedAt m) = l.findSome? (storedAt m) := by
  have new : storedAt m (.store i t v) = none := if_neg (Ne.symm hm)
  have replaced : ∀ x, (storedAt i x).isSome = true → storedAt m x = none := by
    intro x hx
    cases x with
    | store j u w =>
      by_cases hj : j = i
      · exact if_neg (hj ▸ Ne.symm hm)
      · simp [storedAt, hj] at hx
    | _ => rfl
  have same : storedAt m ∘ (fun x => if (storedAt i x).isSome = true then .store i t v else x) = storedAt m := by
    funext x
    by_cases hx : (storedAt i x).isSome = true
    · rw [Function.comp_apply, if_pos hx, new, replaced x hx]
    · rw [Function.comp_apply, if_neg hx]
  unfold withEntry
  split
  · rw [List.findSome?_map, same]
  · rw [List.findSome?_append, List.findSome?_singleton, new, Option.or_none]

theorem withEntry_length (same : Landing → Bool) (e : Landing) (l : List Landing) :
    (withEntry same e l).length ≤ l.length + 1 := by
  unfold withEntry
  split <;> simp

theorem mem_withEntry (same : Landing → Bool) (e : Landing) (l : List Landing) : e ∈ withEntry same e l := by
  unfold withEntry
  split
  · rename_i h
    obtain ⟨x, hx, hs⟩ := List.any_eq_true.1 h
    exact List.mem_map.2 ⟨x, hx, if_pos hs⟩
  · simp

/-- Scan `r'` is scan `r` after a store of `v` to the variable at `i`. -/
structure Stored (r r' : Run) (t : Ty) (i : Nat) (v : DWord) : Prop where
  rest : r' = { r with entries := r'.entries }
  value : readVar r' t i = canon t v
  others : ∀ m, m ≠ i → ∀ u, readVar r' u m = readVar r u m
  length : r'.entries.length ≤ r.entries.length + 1

/-- A store with room for one entry more is made. -/
theorem storeVar_stored {c : TaskCfg} {r : Run} (room : (r.entries.length + 1) * 16 ≤ c.storeSize) (t : Ty) (i : Nat)
    (v : DWord) : ∃ r', storeVar c r t i v = some r' ∧ Stored r r' t i v := by
  refine ⟨_, (storeVar_eq c r t i v).trans (landEntry_of_room (decide_eq_true room) _ _), rfl, ?_, fun m hm u => ?_,
    withEntry_length ..⟩
  · refine (readVar_of_landed (v := canon t v) ?_ t).trans (canon_canon t v)
    rw [landed_eq, findSome?_withEntry (storedAt_store i t _)]
  · have other : landed { r with entries := withEntry (fun e => (storedAt i e).isSome) (.store i t (canon t v)) r.entries } m
        = landed r m := by
      rw [landed_eq, landed_eq, findSome?_withEntry_other hm]
    simp only [readVar, other]

/-- A store of a word of a function block that is left out where the word stands already (R601). -/
theorem storeChanged_stored {c : TaskCfg} {r : Run} (room : (r.entries.length + 1) * 16 ≤ c.storeSize) (t : Ty) (i : Nat)
    (v : DWord) : ∃ r', storeChanged c t i v (some r) = some r' ∧ Stored r r' t i v := by
  unfold storeChanged
  simp only []
  split
  · rename_i same
    exact ⟨r, rfl, rfl, same, fun _ _ _ => rfl, Nat.le_succ _⟩
  · exact storeVar_stored room t i v

/-- Settles O10: a store lands the canonical slot under its variable's index alone. -/
theorem ticStoresLand : Obligations.TicStoresLand := by
  intro s t r c ty v k h hs room x i n hi
  obtain ⟨r', e, stored⟩ := storeVar_stored (r := { r.begun 1 1 with stack := k }) room ty n v
  have step : Continues i s t r' := by
    obtain ⟨rfl, rfl⟩ | ⟨rfl, rfl⟩ := hi
    · exact .of_tic rfl h (by simp only [popStore, Run.begun_stack, hs, e, okOrFull])
    · refine .of_tic rfl h ?_
      show popStore ty (r.base + x.toNat) c (r.begun 1 1) (clearSent s) = _
      simp only [popStore, Run.begun_stack, hs, e, okOrFull]
  refine ⟨r', step, ?_, ?_, ?_, stored.value, fun m hm u => stored.others m hm u⟩
  · rw [stored.rest]
  · rw [stored.rest]
    rfl
  · rw [stored.rest]
    rfl

/-! ## Loads of words of function blocks -/

theorem loadVar_cases (r : Run) (t : Ty) (i : Nat) : ∃ l, loadVar r t i = (readVar r t i, { r with loads := l }) :=
  ⟨_, loadVar_eq r t i⟩

/-! ## Timers (R260, R261) -/

/-- The word of a function block from its three state bits. -/
theorem instanceWord_bits (i q u : Bool) :
    let w := canon .udint (BitVec.ofNat 64 (boolNat i + 2 * boolNat q + 4 * boolNat u))
    w.getLsbD 0 = i ∧ w.getLsbD 1 = q ∧ w.getLsbD 2 = u ∧ w.toNat < 8 := by
  cases i <;> cases q <;> cases u <;> decide

/-- An integer stored as TIME is read back wrapped (R256). -/
theorem slotInt_canon_intSlot {t : Ty} (hb : t ≠ .bool) (n : Int) : slotInt t (canon t (intSlot t n)) = wrapInt t n := by
  rw [intSlot, canon_canon]
  exact slotInt_intSlot hb n

/-- What a timer instruction makes of a scan with room for its three words. -/
theorem timerInstr_ok {f : Int → Int → Bool → Bool → TimerSt → TimerSt} {c : TaskCfg} {r : Run} {s : State} {b : Nat}
    {p inp : DWord} {k : List DWord} (hs : r.stack = p :: inp :: k) (room : (r.entries.length + 3) * 16 ≤ c.storeSize)
    {y : TimerSt}
    (hy : f r.now (max 0 (slotInt .time p)) (slotBool inp) ((readVar r .udint b).getLsbD 0) (timerAt r b) = y) :
    ∃ r', timerInstr f b c r s = .ok r' s ∧ r'.stack = boolSlot y.q :: k ∧ r'.pc = r.pc
      ∧ (readVar r' .udint b).getLsbD 0 = slotBool inp ∧ (readVar r' .udint b).toNat < 8
      ∧ timerAt r' b = { y with et := wrapInt .time y.et, start := wrapInt .time y.start } := by
  obtain ⟨l1, e1⟩ := loadVar_cases { r with stack := k } .udint b
  obtain ⟨l2, e2⟩ := loadVar_cases { r with stack := k, loads := l1 } .time (b + 2)
  obtain ⟨l3, e3⟩ := loadVar_cases { r with stack := k, loads := l2 } .time (b + 4)
  obtain ⟨r1, s1, st1⟩ := storeChanged_stored (c := c) (r := { r with stack := boolSlot y.q :: k, loads := l3 })
    (by show (r.entries.length + 1) * 16 ≤ c.storeSize; omega) .udint b
    (BitVec.ofNat 64 (boolNat (slotBool inp) + 2 * boolNat y.q + 4 * boolNat y.run))
  have n1 : r1.entries.length ≤ r.entries.length + 1 := st1.length
  obtain ⟨r2, s2, st2⟩ := storeChanged_stored (c := c) (r := r1) (by omega) .time (b + 2) (intSlot .time y.et)
  have n2 := st2.length
  obtain ⟨r3, s3, st3⟩ := storeChanged_stored (c := c) (r := r2) (by omega) .time (b + 4) (intSlot .time y.start)
  have hy' : f r.now (max 0 (slotInt .time p)) (slotBool inp) ((readVar { r with stack := k } .udint b).getLsbD 0)
      { q := (readVar { r with stack := k } .udint b).getLsbD 1, run := (readVar { r with stack := k } .udint b).getLsbD 2
        et := slotInt .time (readVar { r with stack := k, loads := l1 } .time (b + 2))
        start := slotInt .time (readVar { r with stack := k, loads := l2 } .time (b + 4)) } = y := hy
  have word : readVar r3 .udint b
      = canon .udint (BitVec.ofNat 64 (boolNat (slotBool inp) + 2 * boolNat y.q + 4 * boolNat y.run)) := by
    rw [st3.others _ (by omega), st2.others _ (by omega), st1.value]
  have et : readVar r3 .time (b + 2) = canon .time (intSlot .time y.et) := by
    rw [st3.others _ (by omega), st2.value]
  obtain ⟨b0, b1, b2, small⟩ := instanceWord_bits (slotBool inp) y.q y.run
  refine ⟨r3, ?_, ?_, ?_, ?_, ?_, ?_⟩
  · simp only [timerInstr, hs, e1, e2, e3, hy', s1, s2, s3, okOrFull]
  · rw [st3.rest, st2.rest, st1.rest]
  · rw [st3.rest, st2.rest, st1.rest]
  · rw [word]
    exact b0
  · rw [word]
    exact small
  · simp only [timerAt, word, et, st3.value, b1, b2, slotInt_canon_intSlot (t := .time) (by decide)]

/-- An elapsed time that is held at PT is below PT where the time itself is. -/
theorem capped_lt (a p : Int) : min a p < p ↔ a < p := by omega

theorem le_capped (a p : Int) : p ≤ min a p ↔ p ≤ a := by omega

/-- Settles O16: each timer's step on the words that its scan reads, stored back where they change. -/
theorem ticTimerInstances : Obligations.TicTimerInstances := by
  intro s t r c rel o inp p k h hs room b x last pt now gives
  have hb : operandIndex (r.begun 1 2) rel o = b := rfl
  have step {f : Int → Int → Bool → Bool → TimerSt → TimerSt} {i : Instr} {y : TimerSt}
      (e : exec i s = tic t 1 (fun _ => 2) (fun c r => timerInstr f (operandIndex r rel o) c r) s)
      (hy : f now pt (slotBool inp) last x = y) : gives i y := by
    obtain ⟨r', hr, rest⟩ :=
      timerInstr_ok (f := f) (c := c) (r := r.begun 1 2) (s := clearSent s) (b := b) (y := y) hs room hy
    exact ⟨r', .of_words e h (Nat.le_refl 2) (by rw [hb, hr]), rest⟩
  refine ⟨fun hi => step (f := tonStep) rfl ?_, fun hi hl => step (f := tonStep) rfl ?_, fun hi hl => step (f := tonStep) rfl ?_,
    fun hi => step (f := tofStep) rfl ?_, fun hi hl => step (f := tofStep) rfl ?_,
    fun hi hl hr => step (f := tofStep) rfl ?_, fun hi hl hr => step (f := tofStep) rfl ?_,
    fun hi hl hr => step (f := tpStep) rfl ?_, fun hr => step (f := tpStep) rfl ?_,
    fun hr hi => step (f := tpStep) rfl ?_, fun hr hi hl => step (f := tpStep) rfl ?_⟩
  · simp [tonStep, hi]
  · simp [tonStep, hi, hl]
  · simp [tonStep, hi, hl]
  · simp [tofStep, hi]
  · by_cases hp : pt ≤ 0
    · simp [tofStep, hi, hl, hp, Int.not_lt.2 hp, capped_lt, le_capped]
    · simp [tofStep, hi, hl, hp, Int.not_le.1 hp, capped_lt, le_capped]
  · by_cases hp : pt ≤ now - x.start
    · simp [tofStep, hi, hl, hr, hp, Int.not_lt.2 hp, capped_lt, le_capped]
    · simp [tofStep, hi, hl, hr, hp, Int.not_le.1 hp, capped_lt, le_capped]
  · simp [tofStep, hi, hl, hr]
  · simp [tpStep, hi, hl, hr, capped_lt, le_capped]
  · by_cases hp : pt ≤ now - x.start
    · cases hi : slotBool inp <;> simp [tpStep, hr, hp, Int.not_lt.2 hp, capped_lt, le_capped]
    · cases hi : slotBool inp <;> simp [tpStep, hr, hp, Int.not_le.1 hp, capped_lt, le_capped]
  · simp [tpStep, hi, hr]
  · simp [tpStep, hi, hl, hr]

/-! ## Counters and edges (R261) -/

/-- A bit of the word of a function block whose bits under a mask are replaced. -/
theorem getLsbD_canon_withBits (w : DWord) (mask bits : Nat) {n : Nat} (hn : n < 32) :
    (canon .udint (withBits w mask bits)).getLsbD n = ((w.getLsbD n && !mask.testBit n) || bits.testBit n) := by
  have h64 : n < 64 := by omega
  simp only [canon, withBits, BitVec.getLsbD_setWidth, BitVec.getLsbD_or, BitVec.getLsbD_and, BitVec.getLsbD_not,
    BitVec.getLsbD_ofNat, hn, h64, decide_true, Bool.true_and]

/-- A DINT's range is what a slot of it holds. -/
theorem slotInt_dint_range (v : DWord) : -2147483648 ≤ slotInt .dint v ∧ slotInt .dint v ≤ 2147483647 := by
  have value : slotInt .dint v = (v.setWidth 32).toInt := by
    show ((v.setWidth 32).signExtend 64).toInt = _
    exact BitVec.toInt_signExtend_of_le (by decide)
  have lo := BitVec.le_toInt (v.setWidth 32)
  have hi := BitVec.toInt_lt (x := v.setWidth 32)
  rw [value]
  omega

theorem wrapInt_dint {n : Int} (h : -2147483648 ≤ n ∧ n ≤ 2147483647) : wrapInt .dint n = n := by
  show n.bmod (2 ^ 32) = n
  exact Int.bmod_eq_of_le (by omega) (by omega)

theorem countUp_range (e : Bool) {n : Int} (h : -2147483648 ≤ n ∧ n ≤ 2147483647) :
    -2147483648 ≤ countUp e n ∧ countUp e n ≤ 2147483647 := by
  unfold countUp
  split
  · rename_i hn
    simp only [Bool.and_eq_true, decide_eq_true_eq] at hn
    omega
  · exact h

theorem countDown_range (e : Bool) {n : Int} (h : -2147483648 ≤ n ∧ n ≤ 2147483647) :
    -2147483648 ≤ countDown e n ∧ countDown e n ≤ 2147483647 := by
  unfold countDown
  split
  · rename_i hn
    simp only [Bool.and_eq_true, decide_eq_true_eq] at hn
    omega
  · exact h

/-- The end of a counter instruction with room for its two words: its result, its word and its count. -/
theorem counterEnd_ok {c : TaskCfg} {r : Run} {s : State} {b : Nat} {k : List DWord} {w : DWord} {n : Int} {q : Bool}
    (room : (r.entries.length + 2) * 16 ≤ c.storeSize) (hn : -2147483648 ≤ n ∧ n ≤ 2147483647) :
    ∃ r', counterEnd b w n q k c r s = .ok r' s ∧ r'.stack = boolSlot q :: k
      ∧ slotInt .dint (readVar r' .dint (b + 1)) = n ∧ readVar r' .udint b = canon .udint w := by
  obtain ⟨r1, s1, st1⟩ := storeChanged_stored (c := c) (r := { r with stack := boolSlot q :: k })
    (by show (r.entries.length + 1) * 16 ≤ c.storeSize; omega) .udint b w
  have n1 : r1.entries.length ≤ r.entries.length + 1 := st1.length
  obtain ⟨r2, s2, st2⟩ := storeChanged_stored (c := c) (r := r1) (by omega) .dint (b + 1) (intSlot .dint n)
  refine ⟨r2, ?_, ?_, ?_, ?_⟩
  · simp only [counterEnd, s1, s2, okOrFull]
  · rw [st2.rest, st1.rest]
  · rw [st2.value, slotInt_canon_intSlot (t := .dint) (by decide), wrapInt_dint hn]
  · rw [st2.others _ (by omega), st1.value]

/-- What the counters and edges show: a result on the stack, a count, and bits of the function block's word. -/
def CounterShows (b : Nat) (q : Bool) (k : List DWord) (n : Int) (bits : List (Nat × Bool)) (r' : Run) : Prop :=
  r'.stack = boolSlot q :: k ∧ slotInt .dint (readVar r' .dint (b + 1)) = n
    ∧ ∀ e ∈ bits, (readVar r' .udint b).getLsbD e.1 = e.2

section

variable {c : TaskCfg} {r : Run} {s : State} {b : Nat} {k : List DWord}

theorem ctuInstr_ok {pv rs cu : DWord} (hs : r.stack = pv :: rs :: cu :: k)
    (room : (r.entries.length + 2) * 16 ≤ c.storeSize) {w : DWord} (hw : readVar r .udint b = w) {n : Int}
    (hn : (if slotBool rs then 0 else countUp (slotBool cu && !w.getLsbD 0) (slotInt .dint (readVar r .dint (b + 1)))) = n) :
    ∃ r', ctuInstr b c r s = .ok r' s ∧ CounterShows b (decide (slotInt .dint pv ≤ n)) k n
      [(0, slotBool cu), (1, w.getLsbD 1), (2, decide (slotInt .dint pv ≤ n)), (3, w.getLsbD 3)] r' := by
  obtain ⟨l1, e1⟩ := loadVar_cases r .udint b
  obtain ⟨l2, e2⟩ := loadVar_cases { r with loads := l1 } .dint (b + 1)
  have same : readVar { r with loads := l1 } .dint (b + 1) = readVar r .dint (b + 1) := rfl
  have range : -2147483648 ≤ n ∧ n ≤ 2147483647 := by
    subst hn
    split
    · decide
    · exact countUp_range _ (slotInt_dint_range _)
  obtain ⟨r', hr, stack, value, word⟩ := counterEnd_ok (c := c) (r := { r with loads := l2 }) (s := s) (b := b) (k := k)
    (w := withBits w 5 (boolNat (slotBool cu) + 4 * boolNat (decide (slotInt .dint pv ≤ n))))
    (q := decide (slotInt .dint pv ≤ n)) room range
  refine ⟨r', by unfold ctuInstr; rw [hs]; simp only [e1, e2, same, hw, hn, hr], stack, value, ?_⟩
  simp only [List.forall_mem_cons, List.not_mem_nil, false_implies, implies_true, and_true, word]
  simp only [getLsbD_canon_withBits _ _ _ (n := 0) (by decide), getLsbD_canon_withBits _ _ _ (n := 1) (by decide),
    getLsbD_canon_withBits _ _ _ (n := 2) (by decide), getLsbD_canon_withBits _ _ _ (n := 3) (by decide)]
  cases slotBool cu <;> cases decide (slotInt .dint pv ≤ n) <;> simp [boolNat, Nat.testBit, Nat.shiftRight_eq_div_pow]

theorem ctdInstr_ok {pv ld cd : DWord} (hs : r.stack = pv :: ld :: cd :: k)
    (room : (r.entries.length + 2) * 16 ≤ c.storeSize) {w : DWord} (hw : readVar r .udint b = w) {n : Int}
    (hn : (if slotBool ld then slotInt .dint pv
      else countDown (slotBool cd && !w.getLsbD 1) (slotInt .dint (readVar r .dint (b + 1)))) = n) :
    ∃ r', ctdInstr b c r s = .ok r' s ∧ CounterShows b (decide (n ≤ 0)) k n
      [(0, w.getLsbD 0), (1, slotBool cd), (2, decide (n ≤ 0)), (3, w.getLsbD 3)] r' := by
  obtain ⟨l1, e1⟩ := loadVar_cases r .udint b
  obtain ⟨l2, e2⟩ := loadVar_cases { r with loads := l1 } .dint (b + 1)
  have same : readVar { r with loads := l1 } .dint (b + 1) = readVar r .dint (b + 1) := rfl
  have range : -2147483648 ≤ n ∧ n ≤ 2147483647 := by
    subst hn
    split
    · exact slotInt_dint_range _
    · exact countDown_range _ (slotInt_dint_range _)
  obtain ⟨r', hr, stack, value, word⟩ := counterEnd_ok (c := c) (r := { r with loads := l2 }) (s := s) (b := b) (k := k)
    (w := withBits w 6 (2 * boolNat (slotBool cd) + 4 * boolNat (decide (n ≤ 0)))) (q := decide (n ≤ 0)) room range
  refine ⟨r', by unfold ctdInstr; rw [hs]; simp only [e1, e2, same, hw, hn, hr], stack, value, ?_⟩
  simp only [List.forall_mem_cons, List.not_mem_nil, false_implies, implies_true, and_true, word]
  simp only [getLsbD_canon_withBits _ _ _ (n := 0) (by decide), getLsbD_canon_withBits _ _ _ (n := 1) (by decide),
    getLsbD_canon_withBits _ _ _ (n := 2) (by decide), getLsbD_canon_withBits _ _ _ (n := 3) (by decide)]
  cases slotBool cd <;> cases decide (n ≤ 0) <;> simp [boolNat, Nat.testBit, Nat.shiftRight_eq_div_pow]

theorem ctudInstr_ok {pv ld rs cd cu : DWord} (hs : r.stack = pv :: ld :: rs :: cd :: cu :: k)
    (room : (r.entries.length + 2) * 16 ≤ c.storeSize) {w : DWord} (hw : readVar r .udint b = w) {n : Int}
    (hn : (if slotBool rs then 0 else if slotBool ld then slotInt .dint pv
      else countDown (slotBool cd && !w.getLsbD 1)
        (countUp (slotBool cu && !w.getLsbD 0) (slotInt .dint (readVar r .dint (b + 1))))) = n) :
    ∃ r', ctudInstr b c r s = .ok r' s ∧ CounterShows b (decide (slotInt .dint pv ≤ n)) k n
      [(0, slotBool cu), (1, slotBool cd), (2, decide (slotInt .dint pv ≤ n)), (3, decide (n ≤ 0))] r' := by
  obtain ⟨l1, e1⟩ := loadVar_cases r .udint b
  obtain ⟨l2, e2⟩ := loadVar_cases { r with loads := l1 } .dint (b + 1)
  have same : readVar { r with loads := l1 } .dint (b + 1) = readVar r .dint (b + 1) := rfl
  have range : -2147483648 ≤ n ∧ n ≤ 2147483647 := by
    subst hn
    split
    · decide
    · split
      · exact slotInt_dint_range _
      · exact countDown_range _ (countUp_range _ (slotInt_dint_range _))
  obtain ⟨r', hr, stack, value, word⟩ := counterEnd_ok (c := c) (r := { r with loads := l2 }) (s := s) (b := b) (k := k)
    (w := withBits w 15 (boolNat (slotBool cu) + 2 * boolNat (slotBool cd) + 4 * boolNat (decide (slotInt .dint pv ≤ n))
      + 8 * boolNat (decide (n ≤ 0)))) (q := decide (slotInt .dint pv ≤ n)) room range
  refine ⟨r', by unfold ctudInstr; rw [hs]; simp only [e1, e2, same, hw, hn, hr], stack, value, ?_⟩
  simp only [List.forall_mem_cons, List.not_mem_nil, false_implies, implies_true, and_true, word]
  simp only [getLsbD_canon_withBits _ _ _ (n := 0) (by decide), getLsbD_canon_withBits _ _ _ (n := 1) (by decide),
    getLsbD_canon_withBits _ _ _ (n := 2) (by decide), getLsbD_canon_withBits _ _ _ (n := 3) (by decide)]
  cases slotBool cu <;> cases slotBool cd <;> cases decide (slotInt .dint pv ≤ n) <;> cases decide (n ≤ 0) <;>
    simp [boolNat, Nat.testBit, Nat.shiftRight_eq_div_pow]

theorem trigInstr_ok {x : DWord} (hs : r.stack = x :: k) (room : (r.entries.length + 2) * 16 ≤ c.storeSize) (rising : Bool)
    {q : Bool} (hq : (if rising then slotBool x && !(readVar r .udint b).getLsbD 0
      else !slotBool x && (readVar r .udint b).getLsbD 0) = q) :
    ∃ r', trigInstr rising b c r s = .ok r' s
      ∧ CounterShows b q k (slotInt .dint (readVar r .dint (b + 1))) [(0, slotBool x)] r' := by
  obtain ⟨l1, e1⟩ := loadVar_cases r .udint b
  obtain ⟨r', hr, stored⟩ := storeChanged_stored (c := c) (r := { r with stack := boolSlot q :: k, loads := l1 })
    (by show (r.entries.length + 1) * 16 ≤ c.storeSize; omega) .udint b
    (withBits (readVar r .udint b) 1 (boolNat (slotBool x)))
  refine ⟨r', by simp only [trigInstr, hs, e1, hq, hr, okOrFull], ?_, ?_, ?_⟩
  · rw [stored.rest]
  · rw [stored.others _ (by omega)]
    rfl
  · simp only [List.forall_mem_cons, List.not_mem_nil, false_implies, implies_true, and_true, stored.value,
      getLsbD_canon_withBits _ _ _ (n := 0) (by decide)]
    cases slotBool x <;> simp [boolNat]

end

/-- Settles O17: each instruction's step on the word and the count that its scan reads, stored back where they change. -/
theorem ticCounterAndEdgeInstances : Obligations.TicCounterAndEdgeInstances := by
  intro s t r c rel o h room b bit cv up down gives
  have step {u : Nat} {f : TaskCfg → Run → State → TicRes} {i : Instr} {q : Bool} {k : List DWord} {n : Int}
      {bits : List (Nat × Bool)} (e : exec i s = tic t 1 (fun _ => u) f s) (hu : u ≤ 2)
      (hf : ∃ r', f c (r.begun 1 u) (clearSent s) = .ok r' (clearSent s) ∧ CounterShows b q k n bits r') :
      gives i q k n bits := by
    obtain ⟨r', hr, shows⟩ := hf
    exact ⟨r', .of_words e h hu hr, shows⟩
  refine ⟨fun pv rs cu k hs => ?_, fun pv ld cd k hs => ?_, fun pv ld rs cd cu k hs => ?_, fun x k hs => ⟨?_, ?_⟩⟩
  · exact step rfl (Nat.le_refl 2) (ctuInstr_ok (r := r.begun 1 2) hs room rfl rfl)
  · exact step rfl (Nat.le_refl 2) (ctdInstr_ok (r := r.begun 1 2) hs room rfl rfl)
  · exact step rfl (Nat.le_refl 2) (ctudInstr_ok (r := r.begun 1 2) hs room rfl rfl)
  · exact step rfl (by decide) (trigInstr_ok (r := r.begun 1 1) hs room true rfl)
  · exact step rfl (by decide) (trigInstr_ok (r := r.begun 1 1) hs room false rfl)

end Sys2Proof.Machine
end

section
/-! SUPPORT. What the instructions that reach devices and the solver leave in their scan for its commit (06 R170; 07 R210;
09 R264 to R267; 10 R283). -/

namespace Sys2Proof.Machine

open Sys2Proof

section

variable {s : State} {t : BitVec 5} {r : Run} {c : TaskCfg} {ty : Ty} {k : List DWord}

/-! ## Loop parameters, journal writes and events (R266, R267) -/

theorem continues_lpr (h : Scanning s t r c 4) {n : BitVec 9} {p : BitVec 8} (ha : paramAllowed ty p.toNat = true)
    (hl : (loopCfg s n.toNat).isSome = true) {v : Int} (hv : (loopParam (Store.get {} r.loops n.toNat) p.toNat).1 = v) :
    Continues (.lpr t ty n p) s t
      (r.after 1 2 ((if ty = .lreal then fSlot .lreal (.fin (decide (v < 0)) v.natAbs (-24)) else intSlot .dint v)
        :: r.stack)) := by
  have guard : (paramAllowed ty p.toNat && (loopCfg (clearSent s) n.toNat).isSome) = true := Bool.and_eq_true_iff.2 ⟨ha, hl⟩
  refine .of_words rfl h (by decide) ?_
  simp only [lprInstr, guard, if_true, Run.begun_loops, hv, Run.begun_stack]
  rfl

/-- LPW pops its value and has its entry in the landing buffer. -/
theorem lpwInstr_ok (room : storeRoom c r = true) {v : DWord} (hs : r.stack = v :: k) {n code : Nat}
    (ha : (paramAllowed ty code && paramWritable code && (loopCfg s n).isSome) = true) :
    ∃ r', lpwInstr ty n code c r s = .ok r' s ∧ r'.stack = k ∧ Landing.lpw n code ty (canon ty v) ∈ r'.entries := by
  simp only [lpwInstr, ha, if_true, hs, landEntry_of_room (r := { r with stack := k }) room, okOrFull]
  exact ⟨_, rfl, rfl, mem_withEntry ..⟩

theorem continues_lpw (h : Scanning s t r c 4) (room : (r.entries.length + 1) * 16 ≤ c.storeSize) {v : DWord}
    (hs : r.stack = v :: k) {n : BitVec 9} {p : BitVec 8} (ha : paramAllowed ty p.toNat = true)
    (hw : paramWritable p.toNat = true) (hl : (loopCfg s n.toNat).isSome = true) :
    ∃ r', Continues (.lpw t ty n p) s t r' ∧ r'.stack = k ∧ Landing.lpw n.toNat p.toNat ty (canon ty v) ∈ r'.entries := by
  obtain ⟨r', run, rest⟩ := lpwInstr_ok (s := clearSent s) (r := r.begun 1 2) (decide_eq_true room) hs
    (Bool.and_eq_true_iff.2 ⟨Bool.and_eq_true_iff.2 ⟨ha, hw⟩, hl⟩)
  exact ⟨r', .of_words rfl h (by decide) run, rest⟩

/-- A journal write is appended to the landing buffer. -/
theorem continues_jrn (h : Scanning s t r c 4) (room : (r.entries.length + 1) * 16 ≤ c.storeSize) {v : DWord}
    (hs : r.stack = v :: k) (src : BitVec 5) (sev : BitVec 3) (code : BitVec 16) (sub : BitVec 8) (hn : jrnCount r < 256) :
    Continues (.jrn t src sev code sub) s t
      { r.after 2 4 k with entries := r.entries ++ [.jrn src.toNat sev.toNat code.toNat sub.toNat v] } := by
  have few : ¬256 ≤ jrnCount { r.begun 2 4 with stack := k } := Nat.not_le.2 hn
  refine .of_words rfl h (Nat.le_refl 4) ?_
  simp only [jrnInstr, Run.begun_stack, hs, few, if_false]
  rw [landEntry_of_room (r := { r.begun 2 4 with stack := k }) (decide_eq_true room), withEntry,
    if_neg (by simp)]
  rfl

/-- A journal write beyond the 256 of its scan is dropped. -/
theorem continues_jrn_dropped (h : Scanning s t r c 4) {v : DWord} (hs : r.stack = v :: k) (src : BitVec 5)
    (sev : BitVec 3) (code : BitVec 16) (sub : BitVec 8) (hn : 256 ≤ jrnCount r) :
    Continues (.jrn t src sev code sub) s t (r.after 2 4 k) := by
  have many : 256 ≤ jrnCount (r.after 2 4 k) := hn
  refine .of_effect (s' := raise 216 (dropRecs 1 (clearSent s))) rfl h (Nat.le_refl 4) ?_ rfl rfl
  simp only [jrnInstr, Run.begun_stack, hs, Run.begun_push, many, if_true]

theorem continues_evr (h : Scanning s t r c 4) (src : BitVec 5) :
    Continues (.evr t src) s t
      (if r.events.contains src.toNat then r.begun 1 2 else { r.begun 1 2 with events := r.events ++ [src.toNat] }) :=
  .of_run (f := fun r => some (if r.events.contains src.toNat then r else { r with events := r.events ++ [src.toNat] }))
    (by unfold exec; rfl) h (by decide) rfl

/-- Settles O18: each instruction keeps what it does in the scan: on the stack, in the landing buffer, in the events. -/
theorem ticDeviceWritesWait : Obligations.TicDeviceWritesWait := by
  intro s t r c h room
  refine ⟨fun ty n p ha hl => continues_lpr h ha hl rfl, fun v k hs => ⟨fun ty n p ha hw hl =>
    continues_lpw h room hs ha hw hl, fun src sev code sub => ⟨continues_jrn h room hs src sev code sub,
      continues_jrn_dropped h hs src sev code sub⟩⟩, fun src => ⟨_, continues_evr h src, ?_⟩⟩
  by_cases held : r.events.contains src.toNat = true
  · rw [if_pos held]
    exact ⟨by simpa using held, rfl, fun _ hn => hn⟩
  · rw [if_neg held]
    exact ⟨by simp, rfl, fun _ hn => List.mem_append_left _ hn⟩

/-! ## Delta frames (06 R170, 09 R264) -/

/-- The words of a UDINT region as a scan sees them: they do not depend on its count, its place or its loads. -/
theorem loadDelta_words {r r' : Run} (he : r'.entries = r.entries) (hm : r'.image = r.image) (i n : Nat) :
    (loadDelta i n r').1 = (loadDelta i n r).1 := by
  induction n generalizing i r r' with
  | zero => rfl
  | succ n ih =>
    obtain ⟨l, e⟩ := loadVar_cases r .udint i
    obtain ⟨l', e'⟩ := loadVar_cases r' .udint i
    have value : readVar r' .udint i = readVar r .udint i := by simp only [readVar, landed, he, hm]
    simp only [loadDelta, e, e', value]
    exact congrArg _ (ih (r := { r with loads := l }) (r' := { r' with loads := l' }) he hm (i + 1))

/-- Reading a region changes the loads of its scan alone. -/
theorem loadDelta_run (i n : Nat) (r : Run) : ∃ l, (loadDelta i n r).2 = { r with loads := l } := by
  induction n generalizing i r with
  | zero => exact ⟨r.loads, rfl⟩
  | succ n ih =>
    obtain ⟨l, e⟩ := loadVar_cases r .udint i
    obtain ⟨l', e'⟩ := ih (i + 1) { r with loads := l }
    exact ⟨l', by simp only [loadDelta, e, e']⟩

/-- What DFW makes of its scan, by the reason that its frame's check gives and the room in the delta area. -/
theorem dfwInstr_ok (b cap : Nat) (c : TaskCfg) (r : Run) (s : State) :
    let need := 8 + 8 * min (dfwCount r b) 4096
    let bytes := wordsToBytes (loadDelta b (min need cap / 4) r).1
    let reason := deltaReason s bytes cap false
    ∃ r', dfwInstr b cap c r s = .ok r' s
      ∧ (reason ≠ 0 → r'.stack = intSlot .dint reason :: r.stack ∧ r'.delta = r.delta
        ∧ r'.rejects = r.rejects ++ [(fld bytes 0 2, reason)])
      ∧ (reason = 0 → c.deltaSize < deltaUsed c.num r s + need →
        r'.stack = intSlot .dint (-1) :: r.stack ∧ r'.delta = r.delta ∧ r'.rejects = r.rejects)
      ∧ (reason = 0 → deltaUsed c.num r s + need ≤ c.deltaSize →
        r'.stack = 0 :: r.stack ∧ r'.delta = r.delta ++ [frameOf bytes] ∧ r'.rejects = r.rejects) := by
  intro need bytes reason
  obtain ⟨l, e⟩ := loadDelta_run b (min need cap / 4) r
  have used : deltaUsed c.num { r with loads := l } s = deltaUsed c.num r s := rfl
  unfold dfwInstr
  simp only [show 8 + 8 * min (dfwCount r b) 4096 = need from rfl, e, used,
    show wordsToBytes (loadDelta b (min need cap / 4) r).1 = bytes from rfl,
    show deltaReason s bytes cap false = reason from rfl]
  by_cases accepted : reason = 0
  · rw [if_neg (Classical.not_not.2 accepted)]
    by_cases full : c.deltaSize < deltaUsed c.num r s + need
    · rw [if_pos full]
      exact ⟨_, rfl, fun h => absurd accepted h, fun _ _ => ⟨rfl, rfl, rfl⟩, fun _ h => absurd h (by omega)⟩
    · rw [if_neg full]
      exact ⟨_, rfl, fun h => absurd accepted h, fun _ h => absurd h full, fun _ _ => ⟨rfl, rfl, rfl⟩⟩
  · rw [if_pos accepted]
    exact ⟨_, rfl, fun _ => ⟨rfl, rfl, rfl⟩, fun h => absurd h accepted, fun h => absurd h accepted⟩

/-! ## Solution reads (07 R210, 09 R265) -/

/-- TYPE and VEC of an SRD are allowed (09 R265). -/
def srdAllowed (ty : Ty) (vec : Nat) : Bool := (ty == .dint && decide (vec ≤ 3)) || (ty == .lreal && decide (vec ≤ 2))

theorem srdAllowed_of {ty : Ty} {vec : Nat} (h : ty = .dint ∧ vec ≤ 3 ∨ ty = .lreal ∧ vec ≤ 2) :
    srdAllowed ty vec = true := by
  obtain ⟨rfl, h⟩ | ⟨rfl, h⟩ := h <;> simp [srdAllowed, h]

variable {n vec sc : Nat} {i : DWord} {p : ProblemCfg} {tp : Template}

/-- An SRD of a result that is not fixed yet waits at its own word. -/
theorem srdInstr_waits (hs : r.stack = i :: k) (hp : problemDef s n = some (p, tp)) (ha : srdAllowed ty vec = true)
    (hx : resultFor s r n = none) :
    srdInstr ty n vec sc r s = .ok { r with pc := r.pc - 2, units := r.units - 4, waitFix := true } s := by
  unfold srdInstr
  rw [hs, hp]
  simp only [srdAllowed] at ha
  simp only [ha, Bool.not_true, Bool.false_eq_true, if_false, hx]

/-- An SRD of an undefined scenario or element faults with SOLREAD. -/
theorem srdInstr_faults {x : SolResult} (hs : r.stack = i :: k) (hp : problemDef s n = some (p, tp))
    (ha : srdAllowed ty vec = true) (hx : resultFor s r n = some x) (hi : p.scenarios ≤ sc ∨ slotInt .dint i < 0) :
    srdInstr ty n vec sc r s = .fault 3 := by
  unfold srdInstr
  rw [hs, hp]
  simp only [srdAllowed] at ha
  simp only [ha, Bool.not_true, Bool.false_eq_true, if_false, hx, if_pos hi]

/-- An SRD of an element of a vector pushes it, and the status above it. -/
theorem srdInstr_dint {x : SolResult} {j : Nat} {v : Int} (hs : r.stack = i :: k) (hp : problemDef s n = some (p, tp))
    (hx : resultFor s r n = some x) (hsc : sc < p.scenarios) (hvec : vec < 3) (hj : slotInt .dint i = j)
    (hv : (resultVec tp x vec sc).1[j]? = some v) :
    srdInstr .dint n vec sc r s
      = .ok { r with stack := intSlot .dint (wordInt x.status) :: intSlot .dint v :: k } s := by
  have ha : ((Ty.dint == .dint && decide (vec ≤ 3)) || (Ty.dint == .lreal && decide (vec ≤ 2))) = true :=
    srdAllowed_of (.inl ⟨rfl, by omega⟩)
  have inside : ¬(p.scenarios ≤ sc ∨ (j : Int) < 0) := by omega
  have vec3 : vec ≠ 3 := by omega
  unfold srdInstr
  rw [hs, hp]
  simp only [ha, Bool.not_true, Bool.false_eq_true, if_false, hx, hj, inside, vec3, Int.toNat_natCast, hv]
  rfl

end

/-- What a scan reads of a result depends on its marks, not on what the command's beginning sent. -/
theorem resultFor_begun (s : State) (r : Run) (words units n : Nat) :
    resultFor (clearSent s) (r.begun words units) n = resultFor s r n := rfl

/-- Settles O19: DFW decides by its frame's check and its area's room; SRD waits, faults or pushes. -/
theorem ticSolverAccess : Obligations.TicSolverAccess := by
  intro s t r c
  refine ⟨fun rel o cap => ?_, fun ty n vec sc i k p tp h hs hp ha => ⟨fun x hx => ⟨fun hi => ?_, ?_⟩, fun hx => ?_⟩⟩
  · intro b need bytes reason h
    have units : 2 + (dfwCount r (operandIndex r rel o) + 3) / 4 ≤ 2 + (dfwCount r b + 3) / 4 := Nat.le_refl _
    obtain ⟨r', hr, rest⟩ := dfwInstr_ok b cap.toNat c (r.begun 2 (2 + (dfwCount r b + 3) / 4)) (clearSent s)
    have words : (loadDelta b (min need cap.toNat / 4) (r.begun 2 (2 + (dfwCount r b + 3) / 4))).1
        = (loadDelta b (min need cap.toNat / 4) r).1 := loadDelta_words (r := r) (r' := r.begun 2 _) rfl rfl b _
    refine ⟨r', .of_words rfl h units hr, ?_⟩
    rw [show dfwCount (r.begun 2 (2 + (dfwCount r b + 3) / 4)) b = dfwCount r b from rfl] at rest
    rw [words] at rest
    exact rest
  · exact tic_faults 2 (fun _ => 4) _ rfl h h.room
      (srdInstr_faults (r := r.begun 2 4) (s := clearSent s) hs hp (srdAllowed_of ha) hx hi)
  · rintro hsc hvec j v hj hv rfl
    exact .of_words rfl h (Nat.le_refl 4) (srdInstr_dint (r := r.begun 2 4) (s := clearSent s) hs hp hx hsc hvec hj hv)
  · refine ⟨_, .of_words rfl h (Nat.le_refl 4)
      (srdInstr_waits (r := r.begun 2 4) (s := clearSent s) hs hp (srdAllowed_of ha) hx), rfl, rfl, ?_, ?_⟩
    · exact Nat.add_sub_cancel ..
    · exact Nat.add_sub_cancel ..

end Sys2Proof.Machine
end

section
/-! SUPPORT. How a command of the running logic die gives its effect: its beginning changes nothing but what it sends, and a
raise of its edge is pending at its end. -/

namespace Sys2Proof.Machine

open Sys2Proof

/-! ## The beginning of a command -/

@[simp] theorem clearSent_pending (s : State) : (clearSent s).pending = s.pending := rfl
@[simp] theorem clearSent_pins (s : State) : (clearSent s).pins = s.pins := rfl
@[simp] theorem clearSent_mram (s : State) : (clearSent s).mram = s.mram := rfl
@[simp] theorem clearSent_flash (s : State) : (clearSent s).flash = s.flash := rfl
@[simp] theorem clearSent_fuses (s : State) : (clearSent s).fuses = s.fuses := rfl
@[simp] theorem clearSent_cal (s : State) : (clearSent s).cal = s.cal := rfl
@[simp] theorem clearSent_moor (s : State) : (clearSent s).moor = s.moor := rfl
@[simp] theorem clearSent_evt (s : State) : (clearSent s).evt = s.evt := rfl
@[simp] theorem clearSent_jrn (s : State) : (clearSent s).jrn = s.jrn := rfl
@[simp] theorem clearSent_clk (s : State) : (clearSent s).clk = s.clk := rfl
@[simp] theorem clearSent_stg (s : State) : (clearSent s).stg = s.stg := rfl
@[simp] theorem clearSent_tide (s : State) : (clearSent s).tide = s.tide := rfl
@[simp] theorem clearSent_fio (s : State) : (clearSent s).fio = s.fio := rfl
@[simp] theorem clearSent_mtr (s : State) : (clearSent s).mtr = s.mtr := rfl
@[simp] theorem clearSent_hst (s : State) : (clearSent s).hst = s.hst := rfl
@[simp] theorem clearSent_ports (s : State) : (clearSent s).ports = s.ports := rfl
@[simp] theorem clearSent_ntime (s : State) : (clearSent s).ntime = s.ntime := rfl
@[simp] theorem clearSent_keys (s : State) : (clearSent s).keys = s.keys := rfl
@[simp] theorem clearSent_scan (s : State) : (clearSent s).scan = s.scan := rfl
@[simp] theorem clearSent_loop (s : State) : (clearSent s).loop = s.loop := rfl
@[simp] theorem clearSent_place (s : State) : (clearSent s).place = s.place := rfl
@[simp] theorem clearSent_stn (s : State) : (clearSent s).stn = s.stn := rfl
@[simp] theorem clearSent_sol (s : State) : (clearSent s).sol = s.sol := rfl
@[simp] theorem clearSent_draws (s : State) : (clearSent s).draws = s.draws := rfl
@[simp] theorem clearSent_man (s : State) : (clearSent s).man = s.man := rfl

/-- A pair after messages were sent. -/
def Pair.sends (p : Pair) (sent : List LinkMsg) (held : Option (Nat × SolverMsg)) (seq : Word) : Pair :=
  { p with sent := sent, held := held, txSeq := seq }

theorem Pair.sendHeld_sends (p : Pair) : ∃ sent held seq, p.sendHeld = p.sends sent held seq := by
  unfold Pair.sendHeld
  split
  · exact ⟨_, _, _, rfl⟩
  · exact ⟨p.sent, p.held, p.txSeq, rfl⟩

/-- A command's beginning changes the messages sent, and the SOLVER report that gathers. -/
theorem clearSent_pair (s : State) : ∃ sent held seq, (clearSent s).pair = s.pair.sends sent held seq := by
  simp only [clearSent, State.updPair]
  split
  · obtain ⟨sent, held, seq, e⟩ := Pair.sendHeld_sends { s.pair with sent := [] }
    exact ⟨sent, held, seq, e⟩
  · exact ⟨_, _, _, rfl⟩

theorem Calm.clear {s : State} (h : Calm s) : Calm (clearSent s) := ⟨h.on, (clearSent_images s).trans h.images⟩

/-! ## Messages of the crossing link -/

/-- A message sent changes what the pair has sent alone. -/
theorem sendLink_eq (m : LinkMsg) (s : State) :
    ∃ sent held seq, sendLink m s = s.updPair fun p => p.sends sent held seq := by
  unfold sendLink
  split
  · obtain ⟨sent, held, seq, e⟩ := Pair.sendHeld_sends s.pair
    exact ⟨_, held, _, by simp only [State.updPair, e]; rfl⟩
  · exact ⟨s.pair.sent, s.pair.held, s.pair.txSeq, rfl⟩

@[simp] theorem sendLink_pins (m : LinkMsg) (s : State) : (sendLink m s).pins = s.pins := by
  obtain ⟨_, _, _, e⟩ := sendLink_eq m s; rw [e]; rfl
@[simp] theorem sendLink_mram (m : LinkMsg) (s : State) : (sendLink m s).mram = s.mram := by
  obtain ⟨_, _, _, e⟩ := sendLink_eq m s; rw [e]; rfl
@[simp] theorem sendLink_flash (m : LinkMsg) (s : State) : (sendLink m s).flash = s.flash := by
  obtain ⟨_, _, _, e⟩ := sendLink_eq m s; rw [e]; rfl
@[simp] theorem sendLink_fuses (m : LinkMsg) (s : State) : (sendLink m s).fuses = s.fuses := by
  obtain ⟨_, _, _, e⟩ := sendLink_eq m s; rw [e]; rfl
@[simp] theorem sendLink_cal (m : LinkMsg) (s : State) : (sendLink m s).cal = s.cal := by
  obtain ⟨_, _, _, e⟩ := sendLink_eq m s; rw [e]; rfl
@[simp] theorem sendLink_start (m : LinkMsg) (s : State) : (sendLink m s).start = s.start := by
  obtain ⟨_, _, _, e⟩ := sendLink_eq m s; rw [e]; rfl
@[simp] theorem sendLink_moor (m : LinkMsg) (s : State) : (sendLink m s).moor = s.moor := by
  obtain ⟨_, _, _, e⟩ := sendLink_eq m s; rw [e]; rfl
@[simp] theorem sendLink_evt (m : LinkMsg) (s : State) : (sendLink m s).evt = s.evt := by
  obtain ⟨_, _, _, e⟩ := sendLink_eq m s; rw [e]; rfl
@[simp] theorem sendLink_jrn (m : LinkMsg) (s : State) : (sendLink m s).jrn = s.jrn := by
  obtain ⟨_, _, _, e⟩ := sendLink_eq m s; rw [e]; rfl
@[simp] theorem sendLink_clk (m : LinkMsg) (s : State) : (sendLink m s).clk = s.clk := by
  obtain ⟨_, _, _, e⟩ := sendLink_eq m s; rw [e]; rfl
@[simp] theorem sendLink_stg (m : LinkMsg) (s : State) : (sendLink m s).stg = s.stg := by
  obtain ⟨_, _, _, e⟩ := sendLink_eq m s; rw [e]; rfl
@[simp] theorem sendLink_tide (m : LinkMsg) (s : State) : (sendLink m s).tide = s.tide := by
  obtain ⟨_, _, _, e⟩ := sendLink_eq m s; rw [e]; rfl
@[simp] theorem sendLink_fio (m : LinkMsg) (s : State) : (sendLink m s).fio = s.fio := by
  obtain ⟨_, _, _, e⟩ := sendLink_eq m s; rw [e]; rfl
@[simp] theorem sendLink_mtr (m : LinkMsg) (s : State) : (sendLink m s).mtr = s.mtr := by
  obtain ⟨_, _, _, e⟩ := sendLink_eq m s; rw [e]; rfl
@[simp] theorem sendLink_hst (m : LinkMsg) (s : State) : (sendLink m s).hst = s.hst := by
  obtain ⟨_, _, _, e⟩ := sendLink_eq m s; rw [e]; rfl
@[simp] theorem sendLink_ports (m : LinkMsg) (s : State) : (sendLink m s).ports = s.ports := by
  obtain ⟨_, _, _, e⟩ := sendLink_eq m s; rw [e]; rfl
@[simp] theorem sendLink_ntime (m : LinkMsg) (s : State) : (sendLink m s).ntime = s.ntime := by
  obtain ⟨_, _, _, e⟩ := sendLink_eq m s; rw [e]; rfl
@[simp] theorem sendLink_keys (m : LinkMsg) (s : State) : (sendLink m s).keys = s.keys := by
  obtain ⟨_, _, _, e⟩ := sendLink_eq m s; rw [e]; rfl
@[simp] theorem sendLink_scan (m : LinkMsg) (s : State) : (sendLink m s).scan = s.scan := by
  obtain ⟨_, _, _, e⟩ := sendLink_eq m s; rw [e]; rfl
@[simp] theorem sendLink_loop (m : LinkMsg) (s : State) : (sendLink m s).loop = s.loop := by
  obtain ⟨_, _, _, e⟩ := sendLink_eq m s; rw [e]; rfl
@[simp] theorem sendLink_place (m : LinkMsg) (s : State) : (sendLink m s).place = s.place := by
  obtain ⟨_, _, _, e⟩ := sendLink_eq m s; rw [e]; rfl
@[simp] theorem sendLink_stn (m : LinkMsg) (s : State) : (sendLink m s).stn = s.stn := by
  obtain ⟨_, _, _, e⟩ := sendLink_eq m s; rw [e]; rfl
@[simp] theorem sendLink_sol (m : LinkMsg) (s : State) : (sendLink m s).sol = s.sol := by
  obtain ⟨_, _, _, e⟩ := sendLink_eq m s; rw [e]; rfl
@[simp] theorem sendLink_draws (m : LinkMsg) (s : State) : (sendLink m s).draws = s.draws := by
  obtain ⟨_, _, _, e⟩ := sendLink_eq m s; rw [e]; rfl
@[simp] theorem sendLink_man (m : LinkMsg) (s : State) : (sendLink m s).man = s.man := by
  obtain ⟨_, _, _, e⟩ := sendLink_eq m s; rw [e]; rfl

@[simp] theorem sendLink_images (m : LinkMsg) (s : State) : (sendLink m s).pair.images = s.pair.images := by
  obtain ⟨_, _, _, e⟩ := sendLink_eq m s; rw [e]; rfl

/-! ## Raises -/

@[simp] theorem raise_pending (n k : Nat) (s : State) : (raise n s k).pending = s.pending := rfl
@[simp] theorem raise_pins (n k : Nat) (s : State) : (raise n s k).pins = s.pins := rfl
@[simp] theorem raise_mram (n k : Nat) (s : State) : (raise n s k).mram = s.mram := rfl
@[simp] theorem raise_flash (n k : Nat) (s : State) : (raise n s k).flash = s.flash := rfl
@[simp] theorem raise_fuses (n k : Nat) (s : State) : (raise n s k).fuses = s.fuses := rfl
@[simp] theorem raise_cal (n k : Nat) (s : State) : (raise n s k).cal = s.cal := rfl
@[simp] theorem raise_start (n k : Nat) (s : State) : (raise n s k).start = s.start := rfl
@[simp] theorem raise_moor (n k : Nat) (s : State) : (raise n s k).moor = s.moor := rfl
@[simp] theorem raise_jrn (n k : Nat) (s : State) : (raise n s k).jrn = s.jrn := rfl
@[simp] theorem raise_clk (n k : Nat) (s : State) : (raise n s k).clk = s.clk := rfl
@[simp] theorem raise_stg (n k : Nat) (s : State) : (raise n s k).stg = s.stg := rfl
@[simp] theorem raise_tide (n k : Nat) (s : State) : (raise n s k).tide = s.tide := rfl
@[simp] theorem raise_fio (n k : Nat) (s : State) : (raise n s k).fio = s.fio := rfl
@[simp] theorem raise_mtr (n k : Nat) (s : State) : (raise n s k).mtr = s.mtr := rfl
@[simp] theorem raise_hst (n k : Nat) (s : State) : (raise n s k).hst = s.hst := rfl
@[simp] theorem raise_ports (n k : Nat) (s : State) : (raise n s k).ports = s.ports := rfl
@[simp] theorem raise_ntime (n k : Nat) (s : State) : (raise n s k).ntime = s.ntime := rfl
@[simp] theorem raise_pair (n k : Nat) (s : State) : (raise n s k).pair = s.pair := rfl
@[simp] theorem raise_keys (n k : Nat) (s : State) : (raise n s k).keys = s.keys := rfl
@[simp] theorem raise_scan (n k : Nat) (s : State) : (raise n s k).scan = s.scan := rfl
@[simp] theorem raise_loop (n k : Nat) (s : State) : (raise n s k).loop = s.loop := rfl
@[simp] theorem raise_place (n k : Nat) (s : State) : (raise n s k).place = s.place := rfl
@[simp] theorem raise_stn (n k : Nat) (s : State) : (raise n s k).stn = s.stn := rfl
@[simp] theorem raise_sol (n k : Nat) (s : State) : (raise n s k).sol = s.sol := rfl
@[simp] theorem raise_draws (n k : Nat) (s : State) : (raise n s k).draws = s.draws := rfl
@[simp] theorem raise_man (n k : Nat) (s : State) : (raise n s k).man = s.man := rfl

/-! ## What a command gives -/

theorem Gives.of_act {c : Instr} {s : State} {f : State → State} {P : State → Prop} (e : exec c s = act s f)
    (h : P (settle (f (clearSent s)))) : Gives c s P := ⟨_, by rw [e, act], h⟩

theorem Gives.of_key {c : Instr} {s : State} {k : BitVec 16} {f : State → State} {P : State → Prop}
    (e : exec c s = actKey s k k f) (on : s.start.power = .on) (h : P (settle (f (clearSent s)))) : Gives c s P :=
  .of_actOn (e.trans (if_pos rfl)) on h

theorem Calm.of_same {s t : State} (h : Calm s) (start : t.start = s.start) (images : t.pair.images = s.pair.images) :
    Calm t := ⟨(congrArg Start.power start).trans h.on, images.trans h.images⟩

theorem Calm.sendLink {s : State} (h : Calm s) (m : LinkMsg) : Calm (sendLink m s) :=
  h.of_same (sendLink_start m s) (sendLink_images m s)

/-- A raise of the edge is pending at its end. -/
theorem Calm.pend {u : State} (h : Calm u) {n : Nat} (raised : raisedIn u.evt.edge n) (hn : n < 256 := by decide) :
    (settle u).evt.pend.getLsbD n = true :=
  settle_pend u n hn h.on h.images (.inl raised)

end Sys2Proof.Machine
end

section
/-! SUPPORT. The tide: stamps, the start at 0:0, mode changes and conversions (02). -/

namespace Sys2Proof.Machine

open Sys2Proof

/-! ## Stamps (R36, R37, R39) -/

/-- A fold of operations that change the launch marks' conversions alone. -/
theorem foldl_launchAt {α : Type} {f : State → α → State}
    (h : ∀ s a, ∃ l, f s a = s.updTide fun t => { t with launchAt := l }) (as : List α) (s : State) :
    ∃ l, as.foldl f s = s.updTide fun t => { t with launchAt := l } := by
  induction as generalizing s with
  | nil => exact ⟨s.tide.launchAt, rfl⟩
  | cons a as ih =>
    obtain ⟨l, e⟩ := h s a
    obtain ⟨l', e'⟩ := ih (f s a)
    exact ⟨l', by rw [List.foldl_cons, e', e]; rfl⟩

/-- Converting launch marks changes their conversions alone. -/
theorem convertLaunches_eq (c : Nat) (s : State) :
    ∃ l, convertLaunches c s = s.updTide fun t => { t with launchAt := l } := by
  unfold convertLaunches
  split
  · exact ⟨s.tide.launchAt, rfl⟩
  · refine foldl_launchAt (fun s m => ?_) _ s
    simp only []
    split
    · exact ⟨_, rfl⟩
    · exact ⟨s.tide.launchAt, rfl⟩

/-- A stamp is NTIME now, for the cycle that the tide stands in; the estimate and the conversions follow it. -/
theorem stampCycle_eq (s : State) : ∃ lengths p l, stampCycle s = s.updTide fun t =>
    { t with stamp := some (t.cycle, s.ntime.now), lengths := lengths, period := p, launchAt := l } := by
  unfold stampCycle
  extract_lets z s1 s2 s3
  have e2 : ∃ lengths p, s2 = s.updTide fun t =>
      { t with stamp := some (t.cycle, s.ntime.now), lengths := lengths, period := p } := ⟨_, _, rfl⟩
  have e3 : ∃ l, s3 = s2.updTide fun t => { t with launchAt := l } := by
    by_cases h : s2.tide.cycle = 0
    · obtain ⟨l, e⟩ := convertLaunches_eq 0 s2
      exact ⟨l, (if_pos h).trans e⟩
    · exact ⟨s2.tide.launchAt, if_neg h⟩
  obtain ⟨lengths, p, e2⟩ := e2
  obtain ⟨l, e3⟩ := e3
  obtain ⟨l', e4⟩ := convertLaunches_eq (s3.tide.cycle.toNat + 1) s3
  exact ⟨lengths, p, l', by rw [e4, e3, e2]; rfl⟩

/-! ## Mode changes (R42, R43) -/

theorem relock_near {e : Int} (near : e.natAbs ≤ 16) (event : Bool) (s : State) : relock e event s = lockTide event s :=
  if_pos near

theorem relock_far {e : Int} (far : 16 < e.natAbs) (event : Bool) (s : State) : relock e event s = enterSlew e s :=
  if_neg (by omega)

/-- A change of state on the edge of a stamp estimates P again and converts its launch marks again (R37, R39). -/
theorem restamp_tide (s : State) : ∃ p l, (restamp s).tide = { s.tide with period := p, launchAt := l } := ⟨_, _, rfl⟩

@[simp] theorem restamp_start (s : State) : (restamp s).start = s.start := by
  simp only [restamp, refreshPeriod, State.updTide_start]

@[simp] theorem restamp_evt (s : State) : (restamp s).evt = s.evt := by
  simp only [restamp, refreshPeriod, State.updTide_evt]

theorem Calm.restamp {s : State} (h : Calm s) : Calm (restamp s) :=
  h.of_same (restamp_start s) (by simp only [Machine.restamp, refreshPeriod, State.updTide_pair])

/-- A raise before a change of state's restamp is pending at the end of the edge. -/
theorem Calm.pend_restamp {s : State} (h : Calm s) {n : Nat} (raised : raisedIn s.evt.edge n) (hn : n < 256 := by decide) :
    (settle (Machine.restamp s)).evt.pend.getLsbD n = true :=
  h.restamp.pend (by rwa [restamp_evt]) hn

theorem Calm.raise {s : State} (h : Calm s) (n k : Nat) : Calm (raise n s k) := ⟨h.on, h.images⟩

/-- Settles O29: each change of mode updates the tide's mode and rate, and raises its event. -/
theorem tideModeChanges : Obligations.TideModeChanges := by
  intro s a h same e slews locks
  have hc := h.clear
  refine ⟨fun hm hn => .of_actOn rfl h.on ?_, fun hm hn => ⟨fun near => .of_actOn rfl h.on ?_, fun far => .of_actOn rfl h.on ?_⟩,
    fun hm far => .of_actOn rfl h.on ?_, fun hm => .of_actOn rfl h.on ?_⟩
  · have calm := Calm.raise (Calm.restamp (s := (clearSent s).updTide fun t =>
      { t with mode := .coast, rate := nominalRate (clearSent s), coastEntries := satInc t.coastEntries }) ⟨hc.on, hc.images⟩) 13 0
    rw [if_pos ⟨hm, hn⟩, enterCoast]
    obtain ⟨p, l, e⟩ := restamp_tide ((clearSent s).updTide fun t =>
      { t with mode := .coast, rate := nominalRate (clearSent s), coastEntries := satInc t.coastEntries })
    simp only [same, settle_tide, settle_start, raise_tide, raise_start, e, restamp_start]
    exact ⟨rfl, rfl, rfl, calm.pend (raisedIn_raise ..), rfl, rfl, rfl, rfl, rfl⟩
  · obtain ⟨p, l, e⟩ := restamp_tide (lockTide true (clearSent s))
    rw [if_pos ⟨hm, hn⟩, relock_near (e := angleError (clearSent s) a) near]
    simp only [locks, same, settle_tide, settle_start, restamp_start, e]
    exact ⟨rfl, rfl, Calm.pend_restamp (by exact ⟨hc.on, hc.images⟩) (raisedIn_raise ..), rfl, rfl, rfl, rfl, rfl⟩
  · obtain ⟨p, l, e'⟩ := restamp_tide (enterSlew (angleError (clearSent s) a) (clearSent s))
    rw [if_pos ⟨hm, hn⟩, relock_far (e := angleError (clearSent s) a) far]
    simp only [slews, same, settle_tide, settle_start, restamp_start, e']
    exact ⟨rfl, rfl, rfl, Calm.pend_restamp (by exact ⟨hc.on, hc.images⟩) (raisedIn_raise ..), rfl, rfl, rfl, rfl, rfl⟩
  · rw [if_pos ⟨hm, far⟩]
    simp only [slews, same, settle_tide, settle_start]
    exact ⟨rfl, rfl, rfl, Calm.pend (by exact ⟨h.on, hc.images⟩) (raisedIn_raise ..), rfl, rfl, rfl, rfl, rfl⟩
  · rw [if_pos (c := (clearSent s).tide.mode = .slew) hm]
    simp only [locks, same, settle_tide, settle_start]
    exact ⟨rfl, rfl, Calm.pend (by exact ⟨h.on, hc.images⟩) (raisedIn_raise ..), rfl, rfl, rfl, rfl, rfl⟩

/-! ## Conversions (R38, R55) -/

/-- A conversion of a tide time `d` cycles after the latest stamp. -/
theorem convert_after (c0 : Nat) (z0 : Stamp) (p : Word) (d a : Nat) :
    convert c0 z0 p (c0 + d) a = stampOf (stampNanos z0 + convertNs (d * 65536 + a) p.toNat) := by
  rw [convert, Nat.add_sub_cancel_left]

/-- Settles O30: what a conversion starts, and its result by the latest stamp. -/
theorem tideConversions : Obligations.TideConversions := by
  intro s h
  refine ⟨fun path a => .of_actOn rfl h.on (settle_tide _), fun c a hr => .of_actOn rfl h.on ?_⟩
  simp only [settle_tide, finishConv, clearSent_tide, hr, State.updTide_tide]
  refine ⟨?_, ?_, ?_, fun hz => ?_, fun c0 z0 hz => ⟨fun far => ?_, fun near => ?_⟩⟩
  · (repeat' split) <;> rfl
  · (repeat' split) <;> rfl
  · (repeat' split) <;> rfl
  · simp only [hz, and_self]
  · simp only [hz, if_neg (Nat.not_le.2 far), and_self]
  · simp only [hz, if_pos near, convert_after, and_self]

/-! ## The start of the tide (R29) -/

/-- The tide has begun at 0:0 in its mode, at its rate, with its first stamp. -/
structure TideBegins (m : TideMode) (rate : Nat) (s t : State) : Prop where
  mode : t.tide.mode = m ∧ t.tide.rate = rate
  zero : t.tide.cycle = 0 ∧ t.tide.angle = 0 ∧ t.tide.fired = []
  stamp : t.tide.stamp = some (0, s.ntime.now)
  entries : t.tide.coastEntries = s.tide.coastEntries
  start : t.start = s.start
  pair : t.pair = s.pair

theorem beginTide_begins (m : TideMode) (rate : Nat) (s : State) : TideBegins m rate s (beginTide m rate s) := by
  unfold beginTide
  extract_lets u
  obtain ⟨lengths, p, l, e⟩ := stampCycle_eq u
  rw [e]
  exact ⟨⟨rfl, rfl⟩, ⟨rfl, rfl, rfl⟩, rfl, rfl, rfl, rfl⟩

end Sys2Proof.Machine
end

section
/-! SUPPORT. An update of the I/O dies changes the field channels and the variables of the input regions alone (15 R425, R427). -/

namespace Sys2Proof.Machine

open Sys2Proof

/-! ## Updates of the I/O dies -/

theorem noteInput_eq (t : Ty) (i : Nat) (v : DWord) (s : State) :
    ∃ d, noteInput t i v s = s.updScan fun x => { x with data := d } := by
  unfold noteInput
  split
  · exact ⟨s.scan.data, rfl⟩
  · exact ⟨_, rfl⟩

/-- A fold of operations that write the data memory alone. -/
theorem foldl_data {α : Type} {f : State → α → State} (h : ∀ s a, ∃ d, f s a = s.updScan fun x => { x with data := d })
    (as : List α) (s : State) : ∃ d, as.foldl f s = s.updScan fun x => { x with data := d } := by
  induction as generalizing s with
  | nil => exact ⟨s.scan.data, rfl⟩
  | cons a as ih =>
    obtain ⟨d, e⟩ := h s a
    obtain ⟨d', e'⟩ := ih (f s a)
    exact ⟨d', by rw [List.foldl_cons, e', e]; rfl⟩

/-- The status variables of the outputs and the fault variable are variables of the data memory (15 R427, R438). -/
theorem reportField_eq (s : State) : ∃ d, reportField s = s.updScan fun x => { x with data := d } := by
  unfold reportField
  split
  · exact ⟨s.scan.data, rfl⟩
  · rename_i f _
    extract_lets u
    have hu : ∃ d, u = s.updScan fun x => { x with data := d } := by
      refine foldl_data (fun s c => ?_) _ s
      obtain ⟨c, n⟩ := c
      cases hb : c.sbind with
      | none => exact ⟨s.scan.data, by simp only [hb]; rfl⟩
      | some i =>
        obtain ⟨d, e⟩ := noteInput_eq .usint i ((statusBits s n).setWidth 64) s
        exact ⟨d, by simp only [hb]; exact e⟩
    obtain ⟨d, e⟩ := hu
    split
    · rename_i i _
      obtain ⟨d', e'⟩ := noteInput_eq .bool i (if u.fio.fault then 1 else 0) u
      exact ⟨d', by rw [e', e]; rfl⟩
    · exact ⟨d, e⟩

/-- The dies' commands before they apply them (15 R425, R441). -/
def commanded (s : State) : State :=
  s.updFio fun f => { f with cmd := bits32 (wantOut s), await := f.await &&& bits32 (wantOut s) }

/-- What an update changes: commands, what awaits an off command, applied outputs, mismatches that stand; and the data memory. -/
theorem applyOutputs_eq (s : State) : ∃ m d, applyOutputs s = (((commanded s).updFio fun f =>
    { f with applied := bits32 fun n => dieApplies (commanded s) n ((bits32 (wantOut s)).getLsbD n) }).updFio fun f =>
    { f with mismatch := m }).updScan fun x => { x with data := d } := by
  unfold applyOutputs
  extract_lets want u v
  obtain ⟨d, e⟩ := reportField_eq (v.updFio fun f => { f with mismatch := bits32 (standing v) })
  exact ⟨_, d, e⟩

@[simp] theorem applyOutputs_pending (s : State) : (applyOutputs s).pending = s.pending := by
  obtain ⟨_, _, e⟩ := applyOutputs_eq s; rw [e]; rfl
@[simp] theorem applyOutputs_pins (s : State) : (applyOutputs s).pins = s.pins := by
  obtain ⟨_, _, e⟩ := applyOutputs_eq s; rw [e]; rfl
@[simp] theorem applyOutputs_mram (s : State) : (applyOutputs s).mram = s.mram := by
  obtain ⟨_, _, e⟩ := applyOutputs_eq s; rw [e]; rfl
@[simp] theorem applyOutputs_flash (s : State) : (applyOutputs s).flash = s.flash := by
  obtain ⟨_, _, e⟩ := applyOutputs_eq s; rw [e]; rfl
@[simp] theorem applyOutputs_fuses (s : State) : (applyOutputs s).fuses = s.fuses := by
  obtain ⟨_, _, e⟩ := applyOutputs_eq s; rw [e]; rfl
@[simp] theorem applyOutputs_cal (s : State) : (applyOutputs s).cal = s.cal := by
  obtain ⟨_, _, e⟩ := applyOutputs_eq s; rw [e]; rfl
@[simp] theorem applyOutputs_start (s : State) : (applyOutputs s).start = s.start := by
  obtain ⟨_, _, e⟩ := applyOutputs_eq s; rw [e]; rfl
@[simp] theorem applyOutputs_moor (s : State) : (applyOutputs s).moor = s.moor := by
  obtain ⟨_, _, e⟩ := applyOutputs_eq s; rw [e]; rfl
@[simp] theorem applyOutputs_evt (s : State) : (applyOutputs s).evt = s.evt := by
  obtain ⟨_, _, e⟩ := applyOutputs_eq s; rw [e]; rfl
@[simp] theorem applyOutputs_jrn (s : State) : (applyOutputs s).jrn = s.jrn := by
  obtain ⟨_, _, e⟩ := applyOutputs_eq s; rw [e]; rfl
@[simp] theorem applyOutputs_clk (s : State) : (applyOutputs s).clk = s.clk := by
  obtain ⟨_, _, e⟩ := applyOutputs_eq s; rw [e]; rfl
@[simp] theorem applyOutputs_stg (s : State) : (applyOutputs s).stg = s.stg := by
  obtain ⟨_, _, e⟩ := applyOutputs_eq s; rw [e]; rfl
@[simp] theorem applyOutputs_tide (s : State) : (applyOutputs s).tide = s.tide := by
  obtain ⟨_, _, e⟩ := applyOutputs_eq s; rw [e]; rfl
@[simp] theorem applyOutputs_mtr (s : State) : (applyOutputs s).mtr = s.mtr := by
  obtain ⟨_, _, e⟩ := applyOutputs_eq s; rw [e]; rfl
@[simp] theorem applyOutputs_hst (s : State) : (applyOutputs s).hst = s.hst := by
  obtain ⟨_, _, e⟩ := applyOutputs_eq s; rw [e]; rfl
@[simp] theorem applyOutputs_ports (s : State) : (applyOutputs s).ports = s.ports := by
  obtain ⟨_, _, e⟩ := applyOutputs_eq s; rw [e]; rfl
@[simp] theorem applyOutputs_ntime (s : State) : (applyOutputs s).ntime = s.ntime := by
  obtain ⟨_, _, e⟩ := applyOutputs_eq s; rw [e]; rfl
@[simp] theorem applyOutputs_pair (s : State) : (applyOutputs s).pair = s.pair := by
  obtain ⟨_, _, e⟩ := applyOutputs_eq s; rw [e]; rfl
@[simp] theorem applyOutputs_keys (s : State) : (applyOutputs s).keys = s.keys := by
  obtain ⟨_, _, e⟩ := applyOutputs_eq s; rw [e]; rfl
@[simp] theorem applyOutputs_loop (s : State) : (applyOutputs s).loop = s.loop := by
  obtain ⟨_, _, e⟩ := applyOutputs_eq s; rw [e]; rfl
@[simp] theorem applyOutputs_place (s : State) : (applyOutputs s).place = s.place := by
  obtain ⟨_, _, e⟩ := applyOutputs_eq s; rw [e]; rfl
@[simp] theorem applyOutputs_stn (s : State) : (applyOutputs s).stn = s.stn := by
  obtain ⟨_, _, e⟩ := applyOutputs_eq s; rw [e]; rfl
@[simp] theorem applyOutputs_sol (s : State) : (applyOutputs s).sol = s.sol := by
  obtain ⟨_, _, e⟩ := applyOutputs_eq s; rw [e]; rfl
@[simp] theorem applyOutputs_draws (s : State) : (applyOutputs s).draws = s.draws := by
  obtain ⟨_, _, e⟩ := applyOutputs_eq s; rw [e]; rfl
@[simp] theorem applyOutputs_man (s : State) : (applyOutputs s).man = s.man := by
  obtain ⟨_, _, e⟩ := applyOutputs_eq s; rw [e]; rfl

theorem Calm.applyOutputs {s : State} (h : Calm s) : Calm (applyOutputs s) :=
  h.of_same (applyOutputs_start s) (by rw [applyOutputs_pair])

/-! ## What the dies apply -/

/-- At stages 0 and 1, and under the safe pattern, what a channel is wanted to do does not depend on the data memory. -/
theorem wantOut_early {s t : State} (early : s.start.stage < 2) (fio : t.fio.loaded = s.fio.loaded ∧ t.fio.safe = s.fio.safe)
    (start : t.start = s.start) (moor : t.moor = s.moor) (man : t.man = s.man) (n : Nat) : wantOut t n = wantOut s n := by
  obtain ⟨loaded, safe⟩ := fio
  have hc : channelsOf t = channelsOf s := by simp only [channelsOf, start, man, moor, loaded]
  simp only [wantOut, loaded, patternHeld, start, early, if_true, mooringCommand, safeOn, safe, switchable, isOutput, channelOf, hc, moor,
    interlockOn, liveInterlocks, mooringOn]

/-- The parts of a unit by which its dies take a command: conditions of the groups and channels, the channel table in force, the
release of the outputs. -/
structure SameDies (s t : State) : Prop where
  groups : t.fio.supply = s.fio.supply ∧ t.fio.expired = s.fio.expired
  kept : t.fio.kept = s.fio.kept ∧ t.fio.given = s.fio.given ∧ t.fio.loaded = s.fio.loaded
  wdog : t.fio.wdog = s.fio.wdog ∧ t.fio.wdogOut = s.fio.wdogOut
  off : t.fio.thermal = s.fio.thermal ∧ t.fio.await = s.fio.await
  start : t.start = s.start
  moor : t.moor = s.moor
  man : t.man = s.man
  pins : t.pins = s.pins
  pair : t.pair.fenced = s.pair.fenced ∧ t.pair.role = s.pair.role

/-- What a die applies for a wanted command, but for an output that it keeps. -/
theorem SameDies.dieApplies {s t : State} (h : SameDies s t) {n : Nat}
    (applied : s.fio.kept = true → groupOff s n = false → t.fio.applied.getLsbD n = s.fio.applied.getLsbD n) (w : Bool) :
    dieApplies t n w = dieApplies s n w := by
  obtain ⟨supply, expired⟩ := h.groups
  obtain ⟨kept, given, loaded⟩ := h.kept
  obtain ⟨wdog, wdogOut⟩ := h.wdog
  obtain ⟨thermal, await⟩ := h.off
  obtain ⟨fenced, role⟩ := h.pair
  have hc : channelsOf t = channelsOf s := by simp only [channelsOf, h.start, h.man, h.moor, loaded]
  have hr : t.released = s.released := by simp only [State.released, fenced, h.pins, given, role, h.start]
  have hg : groupOff t n = groupOff s n := by simp only [groupOff, supply, expired]
  simp only [Machine.dieApplies, hg, kept, hr, wdog, wdogOut, thermalOff, thermal, channelOf, hc, h.start, await]
  cases off : groupOff s n with
  | true => rfl
  | false =>
    cases hk : s.fio.kept with
    | true => simp only [applied hk off]
    | false => rfl

theorem SameDies.of_applyOutputs (s : State) : SameDies (commanded s) (applyOutputs s) := by
  obtain ⟨m, d, e⟩ := applyOutputs_eq s
  rw [e]
  exact ⟨⟨rfl, rfl⟩, ⟨rfl, rfl, rfl⟩, ⟨rfl, rfl⟩, ⟨rfl, rfl⟩, rfl, rfl, rfl, rfl, rfl, rfl⟩

theorem SameDies.of_settle {s : State} (h : s.pair.images = []) : SameDies s (settle s) := by
  refine ⟨?_, ?_, ?_, ?_, settle_start s, settle_moor s, settle_man s, settle_pins s, settle_pair_fenced s h, settle_pair_role s h⟩
  all_goals simp only [settle_fio, and_self]

/-- A die keeps what it has applied for a command, however often it is told (14 R413). -/
theorem dieApplies_kept {s : State} {n : Nat} (kept : s.fio.kept = true) (w : Bool) :
    dieApplies s n w = (!groupOff s n && s.fio.applied.getLsbD n) := by
  simp only [dieApplies, kept, if_true]
  cases groupOff s n <;> rfl

theorem applyOutputs_cmd (s : State) {n : Nat} (hn : n < 32) : (applyOutputs s).fio.cmd.getLsbD n = wantOut s n := by
  obtain ⟨m, d, e⟩ := applyOutputs_eq s
  rw [e]
  simp only [commanded, State.updScan_fio, State.updFio_fio, getLsbD_bits32, hn, decide_true, Bool.true_and]

theorem applyOutputs_await (s : State) : (applyOutputs s).fio.await = s.fio.await &&& (applyOutputs s).fio.cmd := by
  obtain ⟨m, d, e⟩ := applyOutputs_eq s
  rw [e]
  rfl

/-- After an update every output stands as its die applies its command. -/
theorem applyOutputs_applied (s : State) {n : Nat} (hn : n < 32) :
    (applyOutputs s).fio.applied.getLsbD n = dieApplies (applyOutputs s) n (wantOut s n) := by
  have applied : (applyOutputs s).fio.applied.getLsbD n = dieApplies (commanded s) n (wantOut s n) := by
    obtain ⟨m, d, e⟩ := applyOutputs_eq s
    rw [e]
    simp only [State.updScan_fio, State.updFio_fio, getLsbD_bits32, hn, decide_true, Bool.true_and]
  rw [applied, (SameDies.of_applyOutputs s).dieApplies]
  intro kept off
  rw [applied, dieApplies_kept kept, off]
  rfl

/-- At stages 0 and 1, and under the safe pattern, every output stands after an update as its die applies what the program in
command wants, also at the end of the edge. -/
theorem settle_applyOutputs_applied {s : State} (early : s.start.stage < 2) (images : s.pair.images = []) {n : Nat} (hn : n < 32) :
    (settle (applyOutputs s)).fio.applied.getLsbD n
      = dieApplies (settle (applyOutputs s)) n (wantOut (settle (applyOutputs s)) n) := by
  have dies := SameDies.of_settle (s := applyOutputs s) (by rw [applyOutputs_pair]; exact images)
  have same := SameDies.of_applyOutputs s
  obtain ⟨m, d, e⟩ := applyOutputs_eq s
  have want : wantOut (settle (applyOutputs s)) n = wantOut s n := by
    refine wantOut_early early ?_ ?_ ?_ ?_ n
    · rw [settle_fio, e]
      exact ⟨rfl, rfl⟩
    · rw [settle_start, applyOutputs_start]
    · rw [settle_moor, applyOutputs_moor]
    · rw [settle_man, applyOutputs_man]
  rw [want, dies.dieApplies (fun _ _ => by rw [settle_fio]), settle_fio, applyOutputs_applied s hn]

end Sys2Proof.Machine
end

section
/-! SUPPORT. HOLD, the start of the tide, and its cycle boundaries (02 R26, R29, R36, R43; 04 R99, R100). -/

namespace Sys2Proof.Machine

open Sys2Proof

/-! ## The pair's role at step 0x08 (14 R397) -/

/-- An operation of the pair changes its roles, lines and outputs; tide, start and raises stand. -/
structure RoleOnly (s t : State) : Prop where
  tide : t.tide = s.tide
  start : t.start = s.start
  evt : t.evt = s.evt
  images : s.pair.images = [] → t.pair.images = []

theorem RoleOnly.refl (s : State) : RoleOnly s s := ⟨rfl, rfl, rfl, id⟩

theorem RoleOnly.trans {s t u : State} (h : RoleOnly s t) (g : RoleOnly t u) : RoleOnly s u :=
  ⟨g.tide.trans h.tide, g.start.trans h.start, g.evt.trans h.evt, g.images ∘ h.images⟩

theorem RoleOnly.calm {s t : State} (h : RoleOnly s t) (c : Calm s) : Calm t :=
  ⟨(congrArg Start.power h.start).trans c.on, h.images c.images⟩

theorem applyOutputs_roleOnly (s : State) : RoleOnly s (applyOutputs s) :=
  ⟨applyOutputs_tide s, applyOutputs_start s, applyOutputs_evt s, by rw [applyOutputs_pair]; exact id⟩

theorem updPair_roleOnly (s : State) {f : Pair → Pair} (h : (f s.pair).images = s.pair.images) : RoleOnly s (s.updPair f) :=
  ⟨rfl, rfl, rfl, h.trans⟩

theorem takeActive_roleOnly (s : State) : RoleOnly s (takeActive s) := by
  unfold takeActive
  exact .trans (t := (s.updPins _).updPair _) ⟨rfl, rfl, rfl, id⟩ (applyOutputs_roleOnly _)

/-- A joining standby has no image of the active unit. -/
theorem joinStandby_roleOnly (s : State) : RoleOnly s (joinStandby s) := by
  unfold joinStandby
  extract_lets u a v w
  have hw : RoleOnly s w := ⟨rfl, rfl, rfl, fun _ => rfl⟩
  refine (hw.trans ?_).trans (applyOutputs_roleOnly _)
  split
  · exact updPair_roleOnly w rfl
  · exact .refl w

theorem decideRole_roleOnly (s : State) : RoleOnly s (decideRole s) := by
  have waits : RoleOnly s (applyOutputs (s.updPair fun p => { p with role := .waiting })) :=
    (updPair_roleOnly s rfl).trans (applyOutputs_roleOnly _)
  unfold decideRole
  (repeat' split)
  · exact joinStandby_roleOnly s
  · exact waits
  · exact takeActive_roleOnly s
  · exact waits
  · exact takeActive_roleOnly s
  · exact .refl s

theorem enterTasks_roleOnly (s : State) : RoleOnly (s.updStart fun x => { x with step := 8 }) (enterTasks s) :=
  decideRole_roleOnly _

/-! ## HOLD and the tide's start -/

/-- What the tide's start makes of the start sequence: HOLD is awaited, or tasks start. -/
theorem tideBegun_spec (s : State) :
    (tideBegun s).tide = s.tide ∧ (tideBegun s).evt = s.evt ∧ (s.pair.images = [] → (tideBegun s).pair.images = [])
      ∧ (s.start.step = 6 → (tideBegun s).start = { s.start with step := if s.start.holdOk then 8 else 7 })
      ∧ (s.start.step ≠ 6 → (tideBegun s).start = s.start) := by
  unfold tideBegun
  by_cases h6 : s.start.step = 6
  · rw [if_pos h6]
    cases hold : s.start.holdOk with
    | true =>
      have e := enterTasks_roleOnly s
      rw [if_pos rfl]
      exact ⟨e.tide, e.evt, e.images, fun _ => by rw [e.start]; rfl, fun h => absurd h6 h⟩
    | false => exact ⟨rfl, rfl, id, fun _ => rfl, fun h => absurd h6 h⟩
  · rw [if_neg h6]
    exact ⟨rfl, rfl, id, fun h => absurd h h6, fun _ => rfl⟩

/-- A tide that begins raises its event, and the start goes on. -/
theorem tideBegun_raised {s : State} (h : Calm s) (n : Nat) (hn : n < 256) :
    (settle (tideBegun (raise n s))).tide = s.tide ∧ (settle (tideBegun (raise n s))).evt.pend.getLsbD n = true
      ∧ (s.start.step = 6 → (settle (tideBegun (raise n s))).start.step = if s.start.holdOk then 8 else 7)
      ∧ (s.start.step ≠ 6 → (settle (tideBegun (raise n s))).start = s.start) := by
  obtain ⟨tide, evt, images, six, other⟩ := tideBegun_spec (raise n s)
  have on : (tideBegun (raise n s)).start.power = .on := by
    by_cases h6 : s.start.step = 6
    · rw [six h6]
      exact h.on
    · rw [other h6]
      exact h.on
  rw [settle_tide, settle_start]
  refine ⟨tide, Calm.pend ⟨on, images h.images⟩ (evt ▸ raisedIn_raise ..) hn, fun h6 => by rw [six h6]; rfl, other⟩

/-- HOLD that rises lets tasks start, where the start awaits it (04 R99, R100). -/
theorem holdRises_start (s : State) : (holdRises s).start = { s.start with
    holdOk := true, step := if s.start.stage = 1 ∧ s.start.step = 7 then 8 else s.start.step } := by
  unfold holdRises
  extract_lets u
  by_cases wait : s.start.stage = 1 ∧ s.start.step = 7
  · rw [if_pos (show u.start.stage = 1 ∧ u.start.step = 7 from wait), (enterTasks_roleOnly u).start, if_pos wait]
    rfl
  · rw [if_neg (show ¬(u.start.stage = 1 ∧ u.start.step = 7) from wait), if_neg wait]
    rfl

/-- Settles O26: HOLD's pin and the tide's start each move the start sequence on. -/
theorem holdAndTideStart : Obligations.HoldAndTideStart := by
  intro s h
  have hc := h.clear
  refine ⟨.of_actOn rfl h.on ?_, .of_actOn rfl h.on (settle_start _), fun hm => ?_⟩
  · rw [settle_start, holdRises_start, clearSent_start]
    refine ⟨rfl, fun h1 h7 => if_pos ⟨h1, h7⟩, fun n => ?_⟩
    rw [if_neg n]
  intro began
  refine ⟨fun hv => .of_actOn rfl h.on ?_, fun hv => .of_actOn rfl h.on ?_⟩
  · have run : tideLock (clearSent s) = tideBegun (raise 12 (beginTide .locked s.tide.meas (clearSent s))) := if_pos ⟨hm, hv⟩
    have begins := beginTide_begins .locked s.tide.meas (clearSent s)
    rw [run]
    generalize beginTide .locked s.tide.meas (clearSent s) = u at begins
    obtain ⟨⟨mode, rate⟩, ⟨cycle, angle, fired⟩, stamp, -, start, pair⟩ := begins
    obtain ⟨tide, raised, six, other⟩ := tideBegun_raised (hc.of_same start (by rw [pair])) 12 (by decide)
    rw [start] at six other
    simp only [began, tide]
    exact ⟨mode, rate, ⟨cycle, angle, fired, stamp, six, other⟩, raised⟩
  · have run : acquisitionTimeout (clearSent s) = tideBegun (raise 13 ((beginTide .coast (nominalRate s) (clearSent s)).updTide
      fun t => { t with coastEntries := satInc t.coastEntries })) := if_pos ⟨hm, hv⟩
    have begins := beginTide_begins .coast (nominalRate s) (clearSent s)
    rw [run]
    generalize beginTide .coast (nominalRate s) (clearSent s) = u at begins
    obtain ⟨⟨mode, rate⟩, ⟨cycle, angle, fired⟩, stamp, entries, start, pair⟩ := begins
    have calm : Calm (u.updTide fun t => { t with coastEntries := satInc t.coastEntries }) :=
      hc.of_same start (congrArg Pair.images pair)
    obtain ⟨tide, raised, six, other⟩ := tideBegun_raised calm 13 (by decide)
    rw [State.updTide_start, start] at six other
    simp only [began, tide]
    exact ⟨mode, rate, ⟨cycle, angle, fired, stamp, six, other⟩, congrArg satInc entries, raised⟩

end Sys2Proof.Machine
end

section
/-! SUPPORT. Cycle boundaries of the tide (02 R26, R36, R42 to R46). -/

namespace Sys2Proof.Machine

open Sys2Proof

/-! ## The measures of a cycle -/

/-- The registers that follow the tracker, with the solver's voltage and the raise of TIDE_PHASE (R45, R50, R53). -/
theorem measureCycle_eq (k : Tracker) (s : State) : ∃ pherr ph rot a b c ps e l, measureCycle k s = { s with
    tide := { s.tide with freq := if validCycle s.tideSetup k then k.freq * 1000 else 0, pherr := pherr, phases := ph, rotErr := rot
                          vrmsA := a, vrmsB := b, vrmsC := c, vrmsPs := ps }
    evt := e, loop := l } := by
  unfold measureCycle
  extract_lets c three ph rot lost ev u v
  have hv : ∃ l, v = { u with loop := l } := by
    unfold v
    split
    · exact ⟨_, rfl⟩
    · exact ⟨s.loop, rfl⟩
  obtain ⟨l, hv⟩ := hv
  rw [hv]
  split
  · exact ⟨_, _, _, _, _, _, _, _, l, rfl⟩
  · exact ⟨_, _, _, _, _, _, _, s.evt, l, rfl⟩

/-! ## From one cycle to the next -/

/-- A state whose tide has come to angle 0 of the next cycle, measured by its tracker. -/
structure NextCycle (k : Tracker) (s v : State) : Prop where
  cycle : v.tide.cycle = s.tide.cycle + 1 ∧ v.tide.angle = 0
  mode : v.tide.mode = s.tide.mode ∧ v.tide.rate = s.tide.rate
  source : v.tide.peerSrc = s.tide.peerSrc ∧ v.tide.peerTracker = s.tide.peerTracker
  counts : v.tide.validRun = s.tide.validRun ∧ v.tide.invalidRun = s.tide.invalidRun ∧ v.tide.fired = s.tide.fired
  coast : s.tide.mode = .coast → v.tide.coastCycles = satInc s.tide.coastCycles
  freq : v.tide.freq = if validCycle s.tideSetup k then k.freq * 1000 else 0
  man : v.man = s.man
  calm : Calm s → Calm v

/-- What a source makes of the tide's mode; a following standby keeps its own (R42 to R46). -/
def followSource (k : Tracker) (v : State) : State :=
  if v.tide.mode = .follow then v
  else match chooseSource v k with
    | some (peer, src) => validBoundary peer src v
    | none => invalidBoundary v

theorem elapse_tide (n : Nat) (s : State) : ∃ a b, (elapse n s).tide = { s.tide with angle := a, sub := b } := by
  unfold elapse
  extract_lets u us w v
  split
  · have ht : ∃ a b, (s.tide.elapse (tideWeight u) n) = { s.tide with angle := a, sub := b } := by
      unfold Tide.elapse
      split
      · exact ⟨_, _, rfl⟩
      · exact ⟨s.tide.angle, s.tide.sub, rfl⟩
    obtain ⟨a, b, ht⟩ := ht
    refine ⟨a, b, ?_⟩
    split <;> exact ht
  · exact ⟨s.tide.angle, s.tide.sub, rfl⟩

theorem elapse_rest (n : Nat) (s : State) : (elapse n s).start = s.start ∧ (elapse n s).pair = s.pair ∧ (elapse n s).man = s.man := by
  unfold elapse
  simp only []
  (repeat' split) <;> simp only [State.updNtime_start, State.updTide_start, State.updJrn_start, State.updClk_start, State.updCal_start,
    State.updNtime_pair, State.updTide_pair, State.updJrn_pair, State.updClk_pair, State.updCal_pair, State.updNtime_man,
    State.updTide_man, State.updJrn_man, State.updClk_man, State.updCal_man, and_self]

/-- In acquisition a cycle boundary counts the valid cycles in a row (R29). -/
theorem cycleBoundary_acquire {k : Tracker} {s : State} (h : s.tide.mode = .acquire) :
    let good := validCycle s.tideSetup k
    (cycleBoundary k s).tide.mode = .acquire ∧ (cycleBoundary k s).tide.freq = (if good then k.freq * 1000 else 0)
      ∧ (cycleBoundary k s).tide.validRun = (if good then s.tide.validRun + 1 else 0)
      ∧ (good = true → (cycleBoundary k s).tide.meas = k.freq * 1000) := by
  intro good
  obtain ⟨_, _, _, _, _, _, _, _, _, hy⟩ := measureCycle_eq k s
  have same : validCycle (measureCycle k s).tideSetup k = good := by rw [hy]; rfl
  have measured : (measureCycle k s).tide.mode = .acquire ∧ (measureCycle k s).tide.freq = (if good then k.freq * 1000 else 0)
      ∧ (measureCycle k s).tide.validRun = s.tide.validRun := by rw [hy]; exact ⟨h, rfl, rfl⟩
  obtain ⟨mode, freq, valid⟩ := measured
  unfold cycleBoundary
  simp only [h, same]
  cases hg : good with
  | true => exact ⟨mode, freq.trans (by rw [hg]), congrArg (· + 1) valid, fun _ => rfl⟩
  | false => exact ⟨mode, freq.trans (by rw [hg]), rfl, fun h => nomatch h⟩

/-- A running tide comes to the next cycle, takes its source's mode, and is stamped (R26, R36). -/
theorem cycleBoundary_runs (k : Tracker) {s : State} (h : s.tide.runs = true) : ∃ v, NextCycle k s v
    ∧ cycleBoundary k s = stampCycle ((followSource k v).updTide fun x => { x with peerTracker := none }) := by
  obtain ⟨a, b, ht⟩ := elapse_tide (ticksTo s 65536) s
  obtain ⟨start, pair, man⟩ := elapse_rest (ticksTo s 65536) s
  unfold cycleBoundary
  split
  · rename_i off
    rw [Tide.runs, off] at h
    cases h
  · rename_i acquire
    rw [Tide.runs, acquire] at h
    cases h
  · extract_lets u w x y z
    refine ⟨y, ?_, rfl⟩
    have hw : w.tide = { s.tide with cycle := s.tide.cycle + 1, angle := 0, sub := 0 } := by
      simp only [w, State.updTide_tide, u, ht]
    have hx : ∃ n, x.tide = { s.tide with cycle := s.tide.cycle + 1, angle := 0, sub := 0, coastCycles := n }
        ∧ (s.tide.mode = .coast → n = satInc s.tide.coastCycles) ∧ x.start = s.start ∧ x.pair = s.pair ∧ x.man = s.man := by
      by_cases coast : w.tide.mode = .coast
      · have e : x = w.updTide fun x => { x with coastCycles := satInc x.coastCycles } := if_pos coast
        rw [e, State.updTide_tide, hw]
        exact ⟨_, rfl, fun _ => rfl, start, pair, man⟩
      · have e : x = w := if_neg coast
        rw [e, hw]
        exact ⟨_, rfl, fun h => absurd (by rw [hw]; exact h) coast, start, pair, man⟩
    obtain ⟨n, tide', hn, start', pair', man'⟩ := hx
    have setup : x.tideSetup = s.tideSetup := by rw [State.tideSetup, man']; rfl
    obtain ⟨_, _, _, _, _, _, _, _, _, hy⟩ := measureCycle_eq k x
    rw [show y = measureCycle k x from rfl, hy, tide', setup]
    exact ⟨⟨rfl, rfl⟩, ⟨rfl, rfl⟩, ⟨rfl, rfl⟩, ⟨rfl, rfl, rfl⟩, hn, rfl, man', fun h => h.of_same start' (congrArg Pair.images pair')⟩

/-! ## What a source makes of the mode -/

/-- The tide's source changes mode, rate, source and runs; the rest of the tide stands. -/
structure KeepsCycle (s t : State) : Prop where
  cycle : t.tide.cycle = s.tide.cycle ∧ t.tide.angle = s.tide.angle
  rest : t.tide.fired = s.tide.fired ∧ t.tide.freq = s.tide.freq ∧ t.tide.coastCycles = s.tide.coastCycles
  calm : Calm s → Calm t

theorem KeepsCycle.refl (s : State) : KeepsCycle s s := ⟨⟨rfl, rfl⟩, ⟨rfl, rfl, rfl⟩, id⟩

theorem KeepsCycle.trans {s t u : State} (h : KeepsCycle s t) (g : KeepsCycle t u) : KeepsCycle s u := by
  obtain ⟨⟨cycle, angle⟩, ⟨fired, freq, coast⟩, calm⟩ := h
  obtain ⟨⟨cycle', angle'⟩, ⟨fired', freq', coast'⟩, calm'⟩ := g
  exact ⟨⟨cycle'.trans cycle, angle'.trans angle⟩, ⟨fired'.trans fired, freq'.trans freq, coast'.trans coast⟩, calm' ∘ calm⟩

theorem lockTide_keeps (event : Bool) (s : State) : KeepsCycle s (lockTide event s) := by
  cases event <;> exact ⟨⟨rfl, rfl⟩, ⟨rfl, rfl, rfl⟩, fun h => ⟨h.on, h.images⟩⟩

theorem enterSlew_keeps (e : Int) (s : State) : KeepsCycle s (enterSlew e s) :=
  ⟨⟨rfl, rfl⟩, ⟨rfl, rfl, rfl⟩, fun h => ⟨h.on, h.images⟩⟩

theorem relock_keeps (e : Int) (event : Bool) (s : State) : KeepsCycle s (relock e event s) := by
  unfold relock
  split
  · exact lockTide_keeps event s
  · exact enterSlew_keeps e s

/-- The runs that a valid source counts, before the mode follows it. -/
def validRuns (peer : Bool) (k : Tracker) (s : State) : State :=
  s.updTide fun x => { x with peerSrc := peer, meas := k.freq * 1000, validRun := x.validRun + 1, invalidRun := 0 }

theorem validRuns_keeps (peer : Bool) (k : Tracker) (s : State) : KeepsCycle s (validRuns peer k s) :=
  ⟨⟨rfl, rfl⟩, ⟨rfl, rfl, rfl⟩, fun h => ⟨h.on, h.images⟩⟩

theorem validBoundary_keeps (peer : Bool) (k : Tracker) (s : State) : KeepsCycle s (validBoundary peer k s) := by
  unfold validBoundary
  extract_lets changed u e
  refine (validRuns_keeps peer k s).trans ?_
  have rated : ∀ f : Tide → Nat, KeepsCycle u (u.updTide fun x => { x with rate := f x }) := fun f =>
    ⟨⟨rfl, rfl⟩, ⟨rfl, rfl, rfl⟩, fun h => ⟨h.on, h.images⟩⟩
  split
  · split
    · exact relock_keeps e true u
    · exact rated Tide.meas
  · exact relock_keeps e false u
  · split
    · exact rated fun x => slewRate x.ahead x.meas
    · split
      · exact lockTide_keeps true u
      · exact ⟨⟨rfl, rfl⟩, ⟨rfl, rfl, rfl⟩, fun h => ⟨h.on, h.images⟩⟩
  · exact .refl u

theorem invalidBoundary_keeps (s : State) : KeepsCycle s (invalidBoundary s) := by
  unfold invalidBoundary
  extract_lets u
  split <;> exact ⟨⟨rfl, rfl⟩, ⟨rfl, rfl, rfl⟩, fun h => ⟨h.on, h.images⟩⟩

theorem followSource_keeps (k : Tracker) (v : State) : KeepsCycle v (followSource k v) := by
  unfold followSource
  split
  · exact .refl v
  · split
    · exact validBoundary_keeps ..
    · exact invalidBoundary_keeps v

section

variable {k : Tracker} {v : State}

theorem followSource_valid (good : validCycle v.tideSetup k = true) (h : v.tide.mode ≠ .follow) :
    followSource k v = validBoundary false k v := by
  have own : chooseSource v k = some (false, k) := if_pos good
  simp only [followSource, if_neg h, own]

/-- A tide locked to its own tracker goes on at the rate of its valid cycle (R43). -/
theorem validBoundary_locked (h : v.tide.mode = .locked) (own : v.tide.peerSrc = false) :
    (validBoundary false k v).tide.mode = .locked ∧ (validBoundary false k v).tide.rate = k.freq * 1000 := by
  unfold validBoundary
  simp only [State.updTide_tide, h, own, ne_eq, not_true_eq_false, if_false, and_self]

/-- A valid cycle ends a holdover: the tide locks at once, or slews (R43, R599). -/
theorem validBoundary_holdover (h : v.tide.mode = .holdover) :
    validBoundary false k v = relock (angleError v k.angle) false (validRuns false k v) := by
  unfold validBoundary
  simp only [State.updTide_tide, h]
  rfl

theorem validBoundary_coast (h : v.tide.mode = .coast) (peer : Bool) : validBoundary peer k v = validRuns peer k v := by
  unfold validBoundary
  simp only [State.updTide_tide, h]
  rfl

theorem invalidBoundary_locked (h : v.tide.mode = .locked) : (invalidBoundary v).tide.mode = .holdover
    ∧ (invalidBoundary v).tide.rate = v.tide.rate ∧ (invalidBoundary v).tide.invalidRun = v.tide.invalidRun + 1 := by
  unfold invalidBoundary
  simp only [State.updTide_tide, h, and_self]

theorem invalidBoundary_coast (h : v.tide.mode = .coast) :
    invalidBoundary v = v.updTide fun x => { x with validRun := 0, invalidRun := x.invalidRun + 1 } := by
  unfold invalidBoundary
  simp only [State.updTide_tide, h]

/-- A coasting tide stays so, whatever its source (R42). -/
theorem followSource_coast (h : v.tide.mode = .coast) :
    (followSource k v).tide.mode = .coast ∧ (followSource k v).tide.rate = v.tide.rate := by
  unfold followSource
  rw [if_neg (by rw [h]; decide)]
  split
  · rw [validBoundary_coast h]
    exact ⟨h, rfl⟩
  · rw [invalidBoundary_coast h]
    exact ⟨h, rfl⟩

end

/-- A unit of a pair tells its partner its tracker (14 R398). -/
def reportTide (k : Tracker) (u : State) : State := if u.inPair then sendLink (.tide k) u else u

theorem exec_tideCycleBoundary (k : Tracker) (s : State) :
    exec (.tideCycleBoundary k) s = actOn s fun s => reportTide k (cycleBoundary k s) := rfl

/-- What the end of the boundary's edge leaves of its tide. -/
theorem settle_reportTide (k : Tracker) (u : State) : (settle (reportTide k u)).tide = u.tide
    ∧ (settle (reportTide k u)).ntime = u.ntime
    ∧ (Calm u → raisedIn u.evt.edge 14 → (settle (reportTide k u)).evt.pend.getLsbD 14 = true) := by
  rw [settle_tide, settle_ntime]
  unfold reportTide
  split
  · exact ⟨sendLink_tide .., sendLink_ntime .., fun h r => (h.sendLink _).pend (by rwa [sendLink_evt])⟩
  · exact ⟨rfl, rfl, fun h r => h.pend r⟩

/-- Settles O28: in acquisition the valid cycles count; a running tide takes the next cycle, the mode that its source makes, and
its stamp. -/
theorem tideCycleBoundaries : Obligations.TideCycleBoundaries := by
  intro s k h good e hz
  refine ⟨fun hm => .of_actOn (exec_tideCycleBoundary k s) h.on ?_, fun hr => .of_actOn (exec_tideCycleBoundary k s) h.on ?_⟩
  · obtain ⟨tide, -, -⟩ := settle_reportTide k (cycleBoundary k (clearSent s))
    rw [tide]
    exact cycleBoundary_acquire (s := clearSent s) hm
  · obtain ⟨v, hv, run⟩ := cycleBoundary_runs k (s := clearSent s) hr
    obtain ⟨tide, ntime, pend⟩ := settle_reportTide k (cycleBoundary k (clearSent s))
    obtain ⟨lengths, p, l, stamped⟩ := stampCycle_eq ((followSource k v).updTide fun x => { x with peerTracker := none })
    obtain ⟨⟨cycle', angle'⟩, ⟨fired', freq', coast'⟩, calm'⟩ := followSource_keeps k v
    obtain ⟨⟨cycle, angle⟩, ⟨mode, rate⟩, ⟨own, partner⟩, ⟨valid, invalid, fired⟩, coast, freq, man, calm⟩ := hv
    have setup : validCycle v.tideSetup k = good := by rw [State.tideSetup, man]; rfl
    have error : angleError v k.angle = e := by rw [angleError, angle]
    rw [tide, ntime, run, stamped] 
    rw [run, stamped] at pend
    simp only [State.updTide_tide, State.updTide_ntime]
    refine ⟨cycle'.trans cycle, angle'.trans angle, by rw [cycle', cycle]; rfl, freq'.trans freq, fired'.trans fired,
      fun hm hs hg => ?_, fun hm hp hg => ?_, fun hm hg near => ?_, fun hm hg far => ?_, fun hm => ⟨?_, ?_, ?_, fun hg => ?_⟩⟩
    · rw [followSource_valid (setup.trans hg) (by rw [mode, clearSent_tide, hm]; decide)]
      exact validBoundary_locked (mode.trans hm) (own.trans hs)
    · have none : followSource k v = invalidBoundary v := by
        have lost : chooseSource v k = none := by simp only [chooseSource, setup, hg, partner.trans hp]; rfl
        rw [followSource, if_neg (by rw [mode, clearSent_tide, hm]; decide), lost]
      obtain ⟨hold, kept, more⟩ := invalidBoundary_locked (mode.trans hm)
      rw [none]
      exact ⟨hold, kept.trans rate, more.trans (congrArg (· + 1) invalid)⟩
    · rw [followSource_valid (setup.trans hg) (by rw [mode, clearSent_tide, hm]; decide), validBoundary_holdover (mode.trans hm), error,
        relock_near near]
      exact ⟨rfl, rfl⟩
    · have slews : followSource k v = enterSlew e (validRuns false k v) := by
        rw [followSource_valid (setup.trans hg) (by rw [mode, clearSent_tide, hm]; decide), validBoundary_holdover (mode.trans hm),
          error, relock_far far]
      rw [slews] at calm' pend ⊢
      exact ⟨rfl, rfl, pend ((calm' (calm h.clear)).of_same rfl rfl) (raisedIn_raise ..)⟩
    · exact (followSource_coast (mode.trans hm)).1
    · exact (followSource_coast (mode.trans hm)).2.trans rate
    · exact coast'.trans (coast hm)
    · rw [followSource_valid (setup.trans hg) (by rw [mode, clearSent_tide, hm]; decide), validBoundary_coast (mode.trans hm)]
      exact congrArg (· + 1) valid

end Sys2Proof.Machine
end

section
/-! SUPPORT. Reads of a register, and the snapshots of register groups (02 R51, R54; 13 R392; 16 R471; 17 R495; 19 R543). -/

namespace Sys2Proof.Machine

open Sys2Proof

/-! ## The registers of an access path -/

theorem updPath_path (s : State) (p : Path) (f : PathSt → PathSt) : (s.updPath p f).path p = f (s.path p) := by
  cases p <;> rfl

theorem updPath_path_other (s : State) {p q : Path} (h : q ≠ p) (f : PathSt → PathSt) : (s.updPath p f).path q = s.path q := by
  cases p <;> cases q <;> first | rfl | exact absurd rfl h

theorem updPath_updPath (s : State) (p : Path) (f g : PathSt → PathSt) :
    (s.updPath p f).updPath p g = s.updPath p fun x => g (f x) := by
  cases p <;> rfl

/-- The registers of a path are of the host block alone. -/
theorem updPath_eq (s : State) (p : Path) (f : PathSt → PathSt) : ∃ h, s.updPath p f = s.updHst fun _ => h := by
  cases p <;> exact ⟨_, rfl⟩

theorem settle_path (s : State) (p : Path) : (settle s).path p = s.path p := by
  cases p <;> simp only [State.path, settle_hst]

theorem clearSent_path (s : State) (p : Path) : (clearSent s).path p = s.path p := by cases p <;> rfl

/-- The registers of a path stand as `x`, and the blocks that no read of a register changes as they were. -/
def PathOnly (s : State) (p : Path) (x : PathSt) (t : State) : Prop :=
  t.path p = x ∧ (∀ q, q ≠ p → t.path q = s.path q) ∧ t.tide = s.tide ∧ t.ntime = s.ntime
    ∧ t.mtr = s.mtr ∧ t.cal = s.cal ∧ t.start = s.start ∧ t.scan.data = s.scan.data ∧ t.flash = s.flash

/-- What a command that changes a path's registers alone leaves. -/
theorem gives_updPath {i : Instr} {s : State} (h : Calm s) {p : Path} {f : PathSt → PathSt} {g : State → State} {x : PathSt}
    (e : exec i s = actOn s g) (hg : g (clearSent s) = (clearSent s).updPath p f) (hx : f (s.path p) = x) :
    Gives i s (PathOnly s p x) := by
  refine .of_actOn e h.on ?_
  rw [hg]
  refine ⟨?_, fun q hq => ?_, ?_⟩
  · rw [settle_path, updPath_path, clearSent_path, hx]
  · rw [settle_path, updPath_path_other _ hq, clearSent_path]
  · rw [settle_tide, settle_ntime, settle_mtr, settle_cal, settle_start, settle_flash,
      settle_scan_data _ (by rw [State.updPath_pair]; exact h.clear.images)]
    simp only [State.updPath_tide, State.updPath_ntime, State.updPath_mtr, State.updPath_cal, State.updPath_start,
      State.updPath_scan, State.updPath_flash]
    exact ⟨rfl, rfl, rfl, rfl, rfl, rfl, rfl⟩

/-- A read of a register that shows a word, and changes its path's registers. -/
theorem gives_readRegister {i : Instr} {s : State} (h : Calm s) {p : Path} {a w : Word} (f : PathSt → PathSt) {x : PathSt}
    (e : exec i s = actOn s (readRegister p a)) (effect : readEffect p a (clearSent s) = (clearSent s).updPath p f)
    (value : regValue p a (clearSent s) = w) (hx : { f (s.path p) with out := [w] } = x) : Gives i s (PathOnly s p x) := by
  refine gives_updPath h (f := fun x => { f x with out := [w] }) e ?_ hx
  rw [readRegister, readWord, effect, value]
  exact updPath_updPath ..

/-! ## Snapshots -/

/-- A field of a number, from bit 0. -/
theorem regWord_ofNat (w n : Nat) : regWord [(0, w, n)] = BitVec.ofNat 32 (n % 2 ^ w) := by
  simp [regWord]

/-- A path's registers without its snapshot of a kind. -/
def dropSnap (k : SnapKind) (q : PathSt) : PathSt :=
  match k with
  | .tide => { q with snTide := none }
  | .stamp => { q with snStamp := none }
  | .ntime => { q with snNtime := none }
  | .meter => { q with snMeter := none }
  | .optime => { q with snOptime := none }
  | .calendar => { q with snCal := none }

/-- The read of a group's last word ends its snapshot. -/
theorem readEffect_snapEnd (p : Path) (k : SnapKind) (s : State) : readEffect p (snapEnd k) s = s.updPath p (dropSnap k) := by
  cases k <;> rfl

theorem gives_snapshotEnd {s : State} (h : Calm s) {p : Path} (k : SnapKind) {w : Word} {x : PathSt}
    (value : regValue p (snapEnd k) (clearSent s) = w) (hx : { dropSnap k (s.path p) with out := [w] } = x) :
    Gives (.snapshotEndRead p k) s (PathOnly s p x) :=
  gives_readRegister h (dropSnap k) rfl (readEffect_snapEnd p k _) value hx

theorem gives_snapshotTimeout {s : State} (h : Calm s) (p : Path) (k : SnapKind) :
    Gives (.snapshotTimeout p k) s (PathOnly s p (dropSnap k (s.path p))) :=
  gives_updPath h rfl (by cases k <;> rfl) rfl

/-- The latest stamp as a path shows it, by the words of its snapshot or of the tide. -/
theorem stampRegs_eq (s : State) (p : PathSt) : stampRegs s p = p.snStamp.getD (s.tide.stamp.getD (0, {})) := by
  unfold stampRegs
  cases p.snStamp <;> rfl

theorem regValue_tideLast (s : State) (p : Path) : regValue p 0x4003000C s =
    ((s.path p).snTide.getD s.tideNow).cycle.extractLsb' 32 16 ++ ((s.path p).snTide.getD s.tideNow).angle := rfl

/-- JRN_DATA7 shows the last word of the selected slot (17 R495). -/
theorem regValue_jrnLast (s : State) (p : Path) :
    regValue p 0x4005004C s = BitVec.ofNat 32 (fld (slotBytes s (jrnSlotOf (s.path p))) 28 4) := rfl

/-- With AUTO set a read of JRN_DATA7 selects the next slot. -/
theorem jrnStep_eq (p : Path) (s : State) : jrnStep p s = s.updPath p fun q =>
    { q with jrnSlot := if q.jrnSlot.getLsbD 31 then 0x80000000 ||| BitVec.ofNat 32 ((jrnSlotOf q + 1) % 2 ^ 20) else q.jrnSlot } := by
  unfold jrnStep
  congr 1
  funext q
  split <;> rfl

theorem regValue_meterLast (s : State) (p : Path) : regValue p 0x400D003C s =
    if (s.meter (s.path p).mtr.toNat).known then
      meterValReg ((s.path p).snMeter.getD (s.meter (s.path p).mtr.toNat).vals) 12 else 0 := rfl

theorem regValue_meterFirst {s : State} {p : Path} (known : (s.meter (s.path p).mtr.toNat).known = true) :
    regValue p 0x400D000C s = (s.meter (s.path p).mtr.toNat).vals.total.setWidth 32 := by
  show (if (s.meter (s.path p).mtr.toNat).known then halfWord (s.meter (s.path p).mtr.toNat).vals.total 0 else 0) = _
  rw [if_pos known, halfWord, Nat.mul_zero, BitVec.ushiftRight_zero]

/-- Settles O31: each read shows its register's word and takes, shows or drops its path's snapshot. -/
theorem snapshotReads : Obligations.SnapshotReads := by
  intro s path h p keeps reads old stamp
  have hp : (clearSent s).path path = p := clearSent_path s path
  refine ⟨gives_readRegister h (fun q => { q with snTide := some s.tideNow }) rfl rfl rfl rfl,
    gives_snapshotEnd h .tide ?_ rfl,
    gives_readRegister h (fun q => { q with snStamp := some (s.tide.stamp.getD (0, {})) }) rfl rfl rfl rfl,
    gives_snapshotEnd h .stamp ?_ rfl,
    gives_readRegister h (fun q => { q with snNtime := some (s.ntime.now, s.ntime.frac) }) rfl rfl rfl rfl,
    gives_snapshotEnd h .ntime ?_ rfl,
    gives_readRegister h (fun q => { q with snOptime := some (s.jrn.optime.extractLsb' 32 16) }) rfl rfl rfl rfl,
    gives_snapshotEnd h .optime ?_ rfl,
    gives_readRegister h (fun q => { q with snCal := some s.cal.now }) rfl rfl (regWord_ofNat 15 _) rfl,
    gives_snapshotEnd h .calendar ?_ rfl,
    fun known => gives_readRegister h (fun q => { q with snMeter := some (s.meter q.mtr.toNat).vals }) rfl rfl
      (regValue_meterFirst (s := clearSent s) known) rfl,
    gives_snapshotEnd h .meter (regValue_meterLast (clearSent s) path) rfl,
    gives_snapshotTimeout h path .tide, gives_snapshotTimeout h path .stamp, gives_snapshotTimeout h path .ntime,
    gives_snapshotTimeout h path .meter, gives_snapshotTimeout h path .optime, gives_snapshotTimeout h path .calendar,
    gives_readRegister h _ rfl (jrnStep_eq path _) (regValue_jrnLast (clearSent s) path) (by rw [hp]; rfl)⟩
  · rw [show snapEnd .tide = 0x4003000C from rfl, regValue_tideLast, hp]
    rfl
  · show regWord [(0, 16, ((stampRegs (clearSent s) ((clearSent s).path path)).2.sec.extractLsb' 32 16).toNat)] = _
    rw [regWord_lowest, stampRegs_eq, hp]
    rfl
  · show (((clearSent s).path path).snNtime.getD _).2 = _
    rw [hp]
    rfl
  · show regWord [(0, 16, (((clearSent s).path path).snOptime.getD _).toNat)] = _
    rw [regWord_lowest, hp]
    rfl
  · show regWord [(0, 12, (((clearSent s).path path).snCal.getD _).year)] = _
    rw [regWord_ofNat, hp]
    rfl

end Sys2Proof.Machine
end

section
/-! SUPPORT. Writes of registers: a command register's word is its command, and a plain register takes its word (20 R562 to
R564). -/

namespace Sys2Proof.Machine

open Sys2Proof

/-! ## Command registers -/

section

variable {p : Path} {a v : Word} {i : Instr} {s : State}

/-- A write of a keyed command register's word with its key is the command that the word names. -/
theorem registerWrite_keyed {k : Nat} {f : State → State} (hk : keyedCommand p a v = some (k, f)) (hv : keyed v k = true)
    (e : exec i s = actOn s f) (ha : aligned a = true) (hp : ∀ u, plainCommand p a v u = none) :
    exec (.registerWrite p a v) s = exec i s := by
  have write : registerWrite p a v = f := by
    funext u
    simp only [registerWrite, ha, if_true, writeWord, hp, hk, hv]
  rw [exec_registerWrite, write, e]

/-- A write of a command register without a key of 16 bits. -/
theorem registerWrite_plain {f : State → State} (hp : ∀ u, plainCommand p a v u = some (f u)) (e : exec i s = actOn s f)
    (ha : aligned a = true) : exec (.registerWrite p a v) s = exec i s := by
  have write : registerWrite p a v = f := by
    funext u
    simp only [registerWrite, ha, if_true, writeWord, hp]
  rw [exec_registerWrite, write, e]

/-- A write of a register that is no command register, but whose write is a command. -/
theorem registerWrite_data {f : State → State} (hf : ∀ u, dataWrite p a v u = f u) (e : exec i s = actOn s f)
    (ha : aligned a = true) (hp : ∀ u, plainCommand p a v u = none) (hk : keyedCommand p a v = none) :
    exec (.registerWrite p a v) s = exec i s := by
  have write : registerWrite p a v = f := by
    funext u
    rw [registerWrite_eq_dataWrite ha (hp u) hk, hf]
  rw [exec_registerWrite, write, e]

end

theorem calControl_set {v : Word} (hk : keyed v 0xCA1D = true) (hb : soleBit v 3 = some 0) : calControl v = calendarSet := by
  funext s
  simp only [calControl, hk, if_true, hb]

theorem plainCommand_calendar (p : Path) (v : Word) (s : State) : plainCommand p 0x40020020 v s = some (calControl v s) := rfl

/-- A field from bit 0 of a word that holds a value there. -/
theorem ofNat_fieldOf_zero {w : Nat} {v : Word} {x : BitVec w} (h : v.setWidth w = x) : BitVec.ofNat w (fieldOf v 0 w) = x := by
  rw [fieldOf_zero, BitVec.ofNat_toNat, BitVec.setWidth_eq, h]

theorem setWidth_setWidth_32 {w : Nat} (x : BitVec w) (h : w ≤ 32) : (x.setWidth 32).setWidth w = x := by
  rw [BitVec.setWidth_setWidth_of_le x h, BitVec.setWidth_eq]

/-- TIDE_CONV_CTRL with GO set starts a conversion at the angle in its lower half (02 R55). -/
theorem tideWrite_go (p : Path) (a : BitVec 16) (s : State) : tideWrite p 0x44 (0x00010000 ||| a.setWidth 32) s = startConv a s := by
  have go : (0x00010000 ||| a.setWidth 32 : Word).getLsbD 16 = true := by
    rw [BitVec.getLsbD_or]
    rfl
  have angle : (0x00010000 ||| a.setWidth 32 : Word).setWidth 16 = a := by
    rw [BitVec.setWidth_or, setWidth_setWidth_32 a (by decide)]
    exact BitVec.zero_or
  simp only [tideWrite, go, ofNat_fieldOf_zero angle]
  rfl

/-- The words of NET_MS_CTRL and MTR_CTRL that carry a number (13 R390, 16 R472). -/
theorem associationWord (n : BitVec 2) : keyed (0x5A170000 ||| n.setWidth 32) 0x5A17 = true
    ∧ BitVec.ofNat 2 (fieldOf (0x5A170000 ||| n.setWidth 32) 0 2) = n := by
  revert n
  decide

theorem presetWord (n : BitVec 3) : keyed (0x3E7A0002#32 ||| n.setWidth 32 <<< 4) 0x3E7A = true
    ∧ soleBit (0x3E7A0002#32 ||| n.setWidth 32 <<< 4) 2 = some 1 ∧ fieldOf (0x3E7A0002#32 ||| n.setWidth 32 <<< 4) 4 3 = n.toNat := by
  revert n
  decide

/-- Settles O32: each word's key and fields name its command. -/
theorem commandWordsAreTheirCommands : Obligations.CommandWordsAreTheirCommands := by
  intro s p word
  have key : ∀ {a v k f i}, keyedCommand p a v = some (k, f) → keyed v k = true → exec i s = actOn s f →
      aligned a = true → (∀ u, plainCommand p a v u = none) → word a v i := registerWrite_keyed
  have set : word 0x40020020 0xCA1D0001 (.calSet p 0xCA1D) :=
    registerWrite_plain (f := calendarSet) (fun u => by rw [plainCommand_calendar, calControl_set rfl rfl]) rfl rfl
  refine ⟨key rfl rfl rfl rfl fun _ => rfl, key rfl rfl rfl rfl fun _ => rfl, key rfl rfl rfl rfl fun _ => rfl,
    key rfl rfl rfl rfl fun _ => rfl, key rfl rfl rfl rfl fun _ => rfl, key rfl rfl rfl rfl fun _ => rfl,
    fun hf => key rfl rfl ((if_neg fun h => hf h.1).trans rfl) rfl fun _ => rfl, key rfl rfl rfl rfl fun _ => rfl, key rfl rfl rfl rfl fun _ => rfl,
    registerWrite_plain (fun _ => rfl) rfl rfl, set,
    registerWrite_plain (fun _ => rfl) rfl rfl, registerWrite_plain (fun _ => rfl) rfl rfl, key rfl rfl rfl rfl fun _ => rfl,
    key rfl rfl rfl rfl fun _ => rfl, key rfl rfl rfl rfl fun _ => rfl, key rfl rfl rfl rfl fun _ => rfl,
    key rfl rfl rfl rfl fun _ => rfl, key rfl rfl rfl rfl fun _ => rfl, key rfl rfl rfl rfl fun _ => rfl,
    key rfl rfl rfl rfl fun _ => rfl, key rfl rfl rfl rfl fun _ => rfl, key rfl rfl rfl rfl fun _ => rfl,
    key rfl rfl rfl rfl fun _ => rfl, key rfl rfl rfl rfl fun _ => rfl, key rfl rfl rfl rfl fun _ => rfl,
    key rfl rfl rfl rfl fun _ => rfl, key rfl rfl rfl rfl fun _ => rfl, key rfl rfl rfl rfl fun _ => rfl,
    key rfl rfl rfl rfl fun _ => rfl, key rfl rfl rfl rfl fun _ => rfl, key rfl rfl rfl rfl fun _ => rfl,
    key rfl rfl rfl rfl fun _ => rfl, key rfl rfl rfl rfl fun _ => rfl, key rfl rfl rfl rfl fun _ => rfl,
    key rfl rfl rfl rfl fun _ => rfl, fun n => ?_, fun n => ?_, fun n => ?_, fun n => ?_, fun n => ?_, fun n => ?_⟩
  · obtain ⟨hk, hn⟩ := associationWord n
    exact registerWrite_plain (f := fun u => selectAn (u.path p).net.toNat true n u) (fun u => by
      show some (selectAn (u.path p).net.toNat (keyed _ _) (BitVec.ofNat 2 (fieldOf _ 0 2)) u) = _
      rw [hk, hn]) rfl rfl
  · obtain ⟨hk, hb, hn⟩ := presetWord n
    have command : keyedCommand p 0x400D0054 (0x3E7A0002#32 ||| n.setWidth 32 <<< 4)
        = some (0x3E7A, fun u => presetMeter (u.path p).mtr.toNat n.toNat u) := by
      simp only [keyedCommand]
      refine congrArg (fun f => some (_, f)) (funext fun u => ?_)
      simp only [hb, hn]
    exact key command hk rfl rfl fun _ => rfl
  · exact registerWrite_data (f := startConv n) (tideWrite_go p n) rfl rfl (fun _ => rfl) rfl
  · exact registerWrite_data (f := hostIncr n) (fun _ => rfl) rfl rfl (fun _ => rfl) rfl
  · refine registerWrite_data (f := fun u => u.updClk fun c => { c with runEn := n ||| blocksInUse u }) (fun u => ?_) rfl rfl
      (fun _ => rfl) rfl
    show clkWrite 0x08 (n.setWidth 32) u = _
    have low : BitVec.ofNat 12 (fieldOf (n.setWidth 32) 0 12) = n := ofNat_fieldOf_zero (setWidth_setWidth_32 n (by decide))
    simp only [clkWrite, low]
    rfl
  · refine registerWrite_data (f := selectForce n) (fun u => ?_) rfl rfl (fun _ => rfl) rfl
    show scanWrite p 0x80 (n.setWidth 32) u = _
    have low : BitVec.ofNat 8 (fieldOf (n.setWidth 32) 0 8) = n := ofNat_fieldOf_zero (setWidth_setWidth_32 n (by decide))
    simp only [scanWrite, low]
    rfl

end Sys2Proof.Machine
end

section
/-! SUPPORT. Writes of plain registers (20 R562). -/

namespace Sys2Proof.Machine

open Sys2Proof

/-- What the end of an edge leaves of MRAM beside the tally of dropped records. -/
theorem settle_mram_parts (s : State) : (settle s).mram.journal = s.mram.journal ∧ (settle s).mram.saves = s.mram.saves
    ∧ (settle s).mram.blobs = s.mram.blobs :=
  ⟨congrArg (fun q : Still => q.mram.journal) (settle_still s), congrArg (fun q : Still => q.mram.saves) (settle_still s),
    congrArg (fun q : Still => q.mram.blobs) (settle_still s)⟩

/-- A write that makes its state into `t`, but for what the command's beginning sent. -/
theorem gives_registerWrite {s t : State} (h : Calm s) {p : Path} {a v : Word}
    (hw : registerWrite p a v (clearSent s) = { t with pair := (clearSent s).pair }) :
    Gives (.registerWrite p a v) s fun u =>
      u.start = t.start ∧ u.hst = t.hst ∧ u.clk = t.clk ∧ u.cal = t.cal ∧ u.stg = t.stg ∧ u.tide = t.tide ∧ u.ntime = t.ntime
      ∧ u.ports = t.ports ∧ u.fio = t.fio ∧ u.mtr = t.mtr ∧ u.keys = t.keys ∧ u.loop = t.loop ∧ u.sol = t.sol ∧ u.stn = t.stn
      ∧ u.place = t.place ∧ u.scan.data = t.scan.data ∧ u.scan.frcLo = t.scan.frcLo ∧ u.flash = t.flash ∧ u.fuses = t.fuses
      ∧ u.pins = t.pins ∧ u.man = t.man ∧ u.mram.journal = t.mram.journal ∧ u.mram.saves = t.mram.saves
      ∧ u.mram.blobs = t.mram.blobs := by
  refine .of_actOn (exec_registerWrite p a v s) h.on ?_
  have images : ({ t with pair := (clearSent s).pair } : State).pair.images = [] := h.clear.images
  obtain ⟨journal, saves, blobs⟩ := settle_mram_parts { t with pair := (clearSent s).pair }
  rw [hw, settle_start, settle_hst, settle_clk, settle_cal, settle_stg, settle_tide, settle_ntime, settle_ports, settle_fio, settle_mtr,
    settle_keys, settle_loop _ images, settle_sol _ images, settle_stn _ images, settle_place _ images, settle_scan_data _ images,
    settle_scan_frcLo _ images, settle_flash, settle_fuses, settle_pins, settle_man, journal, saves, blobs]
  exact ⟨rfl, rfl, rfl, rfl, rfl, rfl, rfl, rfl, rfl, rfl, rfl, rfl, rfl, rfl, rfl, rfl, rfl, rfl, rfl, rfl, rfl, rfl, rfl, rfl⟩

/-- Addresses outside the blocks of the register map, and of the two blocks without a write (20 R562). -/
def outsideBlocks (a : Word) : Prop :=
  a.toNat / 65536 < 0x4000 ∨ 0x4013 < a.toNat / 65536 ∨ a.toNat / 65536 = 0x4007 ∨ a.toNat / 65536 = 0x400E ∨ a.toNat / 65536 = 0x400F

theorem dataWrite_outside {a : Word} (h : outsideBlocks a) (p : Path) (v : Word) (s : State) : dataWrite p a v s = s := by
  have hb : ∀ n, 0x4000 ≤ n → n ≤ 0x4013 → n ≠ 0x4007 → n ≠ 0x400E → n ≠ 0x400F → a.toNat / 65536 ≠ n := by
    unfold outsideBlocks at h
    omega
  simp [dataWrite, hb]

theorem regValue_outside {a : Word} (h : outsideBlocks a) (p : Path) (s : State) : regValue p a s = 0 := by
  have hb : ∀ n, 0x4000 ≤ n → n ≤ 0x4013 → n ≠ 0x4007 → n ≠ 0x400E → n ≠ 0x400F → a.toNat / 65536 ≠ n := by
    unfold outsideBlocks at h
    omega
  simp [regValue, hb]

/-- No command register lies outside the blocks. -/
theorem noCommand_outside {a : Word} (h : outsideBlocks a) (p : Path) (v : Word) (s : State) :
    plainCommand p a v s = none ∧ keyedCommand p a v = none := by
  have hb : ∀ n, 0x4000 ≤ n / 65536 → n / 65536 ≤ 0x4013 → n / 65536 ≠ 0x4007 → n / 65536 ≠ 0x400E → n / 65536 ≠ 0x400F →
      a.toNat ≠ n := by
    unfold outsideBlocks at h
    rintro n h1 h2 h3 h4 h5 rfl
    omega
  simp [plainCommand, keyedCommand, hb]

/-- Settles O33: each write reaches its register's block, and changes that register alone. -/
theorem registerWrites : Obligations.RegisterWrites := by
  intro s p v h writes
  have data : ∀ {a t}, dataWrite p a v (clearSent s) = { t with pair := (clearSent s).pair } → aligned a = true →
      plainCommand p a v (clearSent s) = none → keyedCommand p a v = none → writes a t := fun hw ha hp hk =>
    gives_registerWrite h ((registerWrite_eq_dataWrite ha hp hk).trans hw)
  refine ⟨data rfl rfl rfl rfl, data rfl rfl rfl rfl, data ?_ rfl rfl rfl, data rfl rfl rfl rfl, data rfl rfl rfl rfl, data ?_ rfl rfl rfl, 
    data rfl rfl rfl rfl, data rfl rfl rfl rfl, data ?_ rfl rfl rfl, data rfl rfl rfl rfl, fun a ha outside => ⟨?_, ?_⟩, fun a ha => ?_⟩
  · show tideWrite p 0x00 v (clearSent s) = _
    simp only [tideWrite, ofNat_fieldOf_zero]
    cases p <;> rfl
  · show clkWrite 0x0C v (clearSent s) = _
    simp only [clkWrite, ofNat_fieldOf_zero]
    rfl
  · show scanWrite p 0x00 v (clearSent s) = _
    simp only [scanWrite, ofNat_fieldOf_zero]
    cases p <;> rfl
  · obtain ⟨plain, keyed⟩ := noCommand_outside outside p v (clearSent s)
    exact data (dataWrite_outside outside p v _) (beq_iff_eq.2 ha) plain keyed
  · exact regValue_outside outside p s
  · have misaligned : aligned a = false := beq_false_of_ne ha
    refine gives_registerWrite h ?_
    simp only [registerWrite, misaligned]
    cases p <;> rfl

end Sys2Proof.Machine
end

section
/-! SUPPORT. Force commands, and commands with a wrong key (10 R296, R301, R302). -/

namespace Sys2Proof.Machine

open Sys2Proof

/-! ## The pair at the beginning of a command -/

/-- What does not depend on the messages sent is as before at a command's beginning. -/
theorem clearSent_pair_of {α : Type} (g : Pair → α) (h : ∀ p sent held seq, g (p.sends sent held seq) = g p) (s : State) :
    g (clearSent s).pair = g s.pair := by
  obtain ⟨sent, held, seq, e⟩ := clearSent_pair s
  rw [e, h]

theorem sendLink_pair_of {α : Type} (g : Pair → α) (h : ∀ p sent held seq, g (p.sends sent held seq) = g p) (m : LinkMsg) (s : State) :
    g (sendLink m s).pair = g s.pair := by
  obtain ⟨sent, held, seq, e⟩ := sendLink_eq m s
  rw [e]
  exact h ..

@[simp] theorem clearSent_role (s : State) : (clearSent s).pair.role = s.pair.role :=
  clearSent_pair_of Pair.role (fun _ _ _ _ => rfl) s

@[simp] theorem clearSent_isStandby (s : State) : (clearSent s).isStandby = s.isStandby := by
  simp only [State.isStandby, clearSent_role]

/-! ## Forces -/

theorem forceSetReason_clearSent (s : State) (p : Path) (n : Nat) : forceSetReason (clearSent s) p n = forceSetReason s p n := by
  unfold forceSetReason
  rw [clearSent_isStandby]
  rfl

theorem forceClearReason_clearSent (s : State) (p : Path) (n : Option Nat) :
    forceClearReason (clearSent s) p n = forceClearReason s p n := by
  unfold forceClearReason
  rw [clearSent_isStandby]
  rfl

/-- A force command: accepted it is pending alone, else it leaves its reason. -/
theorem gives_forceCommand {i : Instr} {s : State} (h : Calm s) {g : State → State} {reason : Byte} {c : ForceChange}
    (e : exec i s = actOn s g) (hg : g (clearSent s) = forceCommand reason c (clearSent s)) : Gives i s fun t =>
      t.scan.frcReason = reason ∧ t.scan.frcPending = (if reason = 0 then [c] else s.scan.frcPending)
      ∧ t.scan.frcBusy = (decide (reason = 0) || s.scan.frcBusy) ∧ t.scan.forces = s.scan.forces ∧ t.scan.data = s.scan.data
      ∧ t.start = s.start ∧ t.mram.saves = s.mram.saves := by
  refine .of_actOn e h.on ?_
  rw [hg]
  have images : (forceCommand reason c (clearSent s)).pair.images = [] := by
    unfold forceCommand
    split <;> exact h.clear.images
  obtain ⟨-, saves, -⟩ := settle_mram_parts (forceCommand reason c (clearSent s))
  rw [settle_scan_frcReason _ images, settle_scan_frcPending _ images, settle_scan_frcBusy _ images, settle_scan_forces _ images,
    settle_scan_data _ images, settle_start, saves]
  by_cases accepted : reason = 0
  · simp only [forceCommand, accepted, if_true, decide_true, Bool.true_or]
    exact ⟨rfl, rfl, rfl, rfl, rfl, rfl, rfl⟩
  · simp only [forceCommand, accepted, if_false, decide_false, Bool.false_or]
    exact ⟨rfl, rfl, rfl, rfl, rfl, rfl, rfl⟩

theorem selectForce_scan (k : BitVec 8) (s : State) : (selectForce k s).scan.frcSel = k ∧ (selectForce k s).scan.forces = s.scan.forces
    ∧ (selectForce k s).scan.data = s.scan.data
    ∧ ((selectForce k s).scan.frcIndex, (selectForce k s).scan.frcLo, (selectForce k s).scan.frcHi)
      = (Store.get none s.scan.forces k.toNat).getD (0, 0, 0) := by
  simp only [selectForce, State.updScan_scan]
  cases Store.get none s.scan.forces k.toNat <;> exact ⟨rfl, rfl, rfl, rfl⟩

/-- A read of SCAN_T_EXECMAX shows the selected task's longest time and clears it (R301). -/
theorem readExecMax_spec (p : Path) (s : State) :
    ((readExecMax p s).path p).out = [(s.task (s.path p).scan.toNat).execMax]
    ∧ ((readExecMax p s).task (s.path p).scan.toNat).execMax = 0
    ∧ (∀ m, m ≠ (s.path p).scan.toNat → ((readExecMax p s).task m).execMax = (s.task m).execMax)
    ∧ (readExecMax p s).scan.data = s.scan.data ∧ (readExecMax p s).start = s.start ∧ (readExecMax p s).pair = s.pair := by
  unfold readExecMax
  extract_lets t v
  have scan : (s.updPath p fun q => { q with out := [v] }).scan = s.scan := State.updPath_scan ..
  refine ⟨?_, ?_, fun m hm => ?_, (updTask_data ..).trans (congrArg Scan.data scan), State.updPath_start .., State.updPath_pair ..⟩
  · exact congrArg PathSt.out (updPath_path s p fun q => { q with out := [v] })
  · rw [updTask_task]
  · rw [updTask_task_other hm]
    exact congrArg (fun x : Scan => (Store.get {} x.tasks m).execMax) scan

/-! ## Wrong keys -/

theorem actKey_wrong {k want : BitVec 16} (h : k ≠ want) (s : State) (f : State → State) : actKey s k want f = .next s := if_neg h

/-- Settles O60: a force command is judged by its reason; a slot's selection and a read of the longest time change what they name;
a wrong key leaves the state. -/
theorem forcesAndKeys : Obligations.ForcesAndKeys := by
  intro s p
  refine ⟨fun h => ?_, fun k => ⟨fun hk => ⟨actKey_wrong hk .., actKey_wrong hk .., actKey_wrong hk ..⟩,
    fun hk => ⟨actKey_wrong hk .., actKey_wrong hk ..⟩, fun hk => actKey_wrong hk .., fun hk => actKey_wrong hk ..,
    fun hk => actKey_wrong hk .., fun hk => ⟨actKey_wrong hk .., actKey_wrong hk ..⟩,
    fun hk => ⟨actKey_wrong hk .., actKey_wrong hk ..⟩, fun hk => ⟨actKey_wrong hk .., fun n => actKey_wrong hk ..⟩⟩⟩
  intro x n verdict
  have images := h.clear.images
  refine ⟨gives_forceCommand h rfl ?_, gives_forceCommand h rfl ?_, gives_forceCommand h rfl ?_, fun k => .of_actOn rfl h.on ?_,
    .of_actOn rfl h.on ?_⟩
  · rw [forceSet, forceSetReason_clearSent]
    rfl
  · rw [forceClear, forceClearReason_clearSent]
    rfl
  · rw [forceClearAll, forceClearReason_clearSent]
  · obtain ⟨sel, forces, data, words⟩ := selectForce_scan k (clearSent s)
    have hi : (selectForce k (clearSent s)).pair.images = [] := images
    rw [settle_scan_frcSel _ hi, settle_scan_forces _ hi, settle_scan_data _ hi, settle_start, settle_scan_frcIndex _ hi,
      settle_scan_frcLo _ hi, settle_scan_frcHi _ hi]
    exact ⟨sel, forces, data, rfl, words⟩
  · obtain ⟨out, cleared, others, data, start, pair⟩ := readExecMax_spec p (clearSent s)
    have hi : (readExecMax p (clearSent s)).pair.images = [] := (congrArg Pair.images pair).trans images
    rw [clearSent_path] at out cleared others
    rw [settle_path, settle_task_execMax _ _ hi, settle_scan_data _ hi, settle_start]
    exact ⟨out, cleared, fun m hm => (settle_task_execMax _ _ hi).trans (others m hm), data, start⟩

end Sys2Proof.Machine
end

section
/-! SUPPORT. Ends of on-times, tests and captures of the loop engine (11 R319, R324, R328, R329). -/

namespace Sys2Proof.Machine

open Sys2Proof

/-! ## Tests (R324, R328) -/

/-- What a command that makes the loop engine into `x` leaves. -/
theorem gives_updLoop {i : Instr} {s : State} (h : Calm s) {g : State → State} {x : LoopEng}
    (e : exec i s = actOn s g) (hg : g (clearSent s) = (clearSent s).updLoop fun _ => x) :
    Gives i s fun t => t.loop = x ∧ t.start = s.start ∧ t.tide = s.tide ∧ t.mtr = s.mtr := by
  refine .of_actOn e h.on ?_
  rw [hg, settle_loop _ (by exact h.clear.images), settle_start, settle_tide, settle_mtr]
  exact ⟨rfl, rfl, rfl, rfl⟩

section

variable {s : State} {n : Nat}

theorem testStart_unknown (h : loopCfg s n = none) : testStart n s = testReason 1 s := by
  simp only [testStart, h, Option.isNone_none, if_true]

theorem testStop_unknown (h : loopCfg s n = none) : testStop n s = testReason 1 s := by
  simp only [testStop, h, Option.isNone_none, if_true]

theorem testStart_invalid (h : (loopCfg s n).isSome = true) (hv : testValid (stagedTest s.loop) = false) :
    testStart n s = testReason 2 s := by
  simp only [testStart, Option.isNone_eq_false_iff.2 h, Bool.false_eq_true, if_false, hv, Bool.not_false, if_true]

/-- A valid test of a loop is judged by the tests that run, where none waits (R324). -/
theorem testStart_valid (h : (loopCfg s n).isSome = true) (hv : testValid (stagedTest s.loop) = true) (hb : s.isStandby = false)
    (hp : s.loop.tstPending = none) : testStart n s = if 4 ≤ s.loop.tests.length then testReason 5 s
      else s.updLoop fun e => { e with tstReason := 0, tstPending := some (.start (BitVec.ofNat 9 n) (stagedTest s.loop)) } := by
  simp only [testStart, Option.isNone_eq_false_iff.2 h, Bool.false_eq_true, if_false, hv, Bool.not_true, hb, hp, Option.isSome_none]

theorem testStop_known (h : (loopCfg s n).isSome = true) (hb : s.isStandby = false) (hp : s.loop.tstPending = none) :
    testStop n s = if (testOn s n).isNone then testReason 6 s
      else s.updLoop fun e => { e with tstReason := 0, tstPending := some (.stop (BitVec.ofNat 9 n)) } := by
  simp only [testStop, Option.isNone_eq_false_iff.2 h, Bool.false_eq_true, if_false, hb, hp, Option.isSome_none]

end

/-! ## Captures (R329) -/

theorem captureIdle (k : Capture) (idle : k.state = .idle) : { k with state := .idle } = k := by rw [← idle]

theorem gives_updCapture {i : Instr} {s : State} (h : Calm s) {n : Nat} {f : Capture → Capture} {g : State → State} {x : Capture}
    (e : exec i s = actOn s g) (hg : g (clearSent s) = (clearSent s).updCapture n f) (hx : f (Store.get {} s.loop.caps n) = x) :
    Gives i s fun t => Store.get {} t.loop.caps n = x
      ∧ (∀ r, r ≠ n → Store.get {} t.loop.caps r = Store.get {} s.loop.caps r) ∧ t.loop.loops = s.loop.loops := by
  refine .of_actOn e h.on ?_
  rw [hg, settle_loop _ (by exact h.clear.images)]
  exact ⟨(Store.get_upd_same ..).trans hx, fun r hr => Store.get_upd_other _ _ _ _ _ hr.symm, rfl⟩

/-- The number of the record that a path's LOOP_CAP_IDX selects. -/
theorem capIndex_eq (p : PathSt) : capIndex p = p.capIdx.toNat % 16384 := by
  rw [capIndex, BitVec.extractLsb'_toNat, Nat.shiftRight_zero]

/-- A read of LOOP_CAP_TAG shows the selected record's tide time and, with AUTO set, selects the next. -/
theorem readCapTag_eq (p : Path) (s : State) : capTagStep p (s.updPath p fun q => { q with out := [capTag s p] }) =
    s.updPath p fun q => { q with
      out := [capTag s p]
      capIdx := if q.capIdx.getLsbD 31 then 0x80000000 ||| BitVec.ofNat 32 ((q.capIdx.toNat % 16384 + 1) % 16384) else q.capIdx } := by
  unfold capTagStep
  rw [updPath_updPath]
  congr 1
  funext q
  simp only [capIndex_eq]
  split <;> rfl

/-! ## On-times (R319) -/

theorem pulseEnd_eq {s : State} {n : Nat} {c : LoopCfg} (h : loopCfg s n = some c) :
    pulseEnd n s = s.updLoopSt n fun x => if x.onUs < c.cycleTime * 1000 then { x with drive := false } else x := by
  simp only [pulseEnd, h]

/-- Settles O46: a test command is judged or waits; a capture command changes its channel; an on-time's end turns its loop off. -/
theorem loopTestsAndCaptures : Obligations.LoopTestsAndCaptures := by
  intro s p h n e set loops
  have images := h.clear.images
  have hb' : s.isStandby = false → (clearSent s).isStandby = false := (clearSent_isStandby s).trans
  refine ⟨fun q c hc => .of_actOn rfl h.on ?_, fun hl hb hp => ⟨fun hv few => gives_updLoop h rfl ?_,
    fun hv many => gives_updLoop h rfl ?_, fun hv => gives_updLoop h rfl ?_, fun ht => gives_updLoop h rfl ?_,
    fun ht => gives_updLoop h rfl ?_⟩, fun hl => ⟨gives_updLoop h rfl ?_, gives_updLoop h rfl ?_⟩, ?_⟩
  · rw [pulseEnd_eq (s := clearSent s) hc, settle_start, settle_tide, applyOutputs_start, applyOutputs_tide]
    have loop : (settle (applyOutputs ((clearSent s).updLoopSt q.toNat fun x =>
        if x.onUs < c.cycleTime * 1000 then { x with drive := false } else x))).loop = _ :=
      (settle_loop _ (by rw [applyOutputs_pair]; exact images)).trans (applyOutputs_loop _)
    simp only [State.loopSt, loop]
    exact ⟨Store.get_upd_same .., fun r hr => Store.get_upd_other _ _ _ _ _ hr.symm, rfl, rfl⟩
  · exact (testStart_valid (s := clearSent s) hl hv (hb' hb) hp).trans (if_neg (Nat.not_le.2 few))
  · exact (testStart_valid (s := clearSent s) hl hv (hb' hb) hp).trans (if_pos many)
  · exact testStart_invalid (s := clearSent s) hl hv
  · exact (testStop_known (s := clearSent s) hl (hb' hb) hp).trans (if_neg fun none => Option.isSome_iff_ne_none.1 ht (Option.isNone_iff_eq_none.1 none))
  · exact (testStop_known (s := clearSent s) hl (hb' hb) hp).trans (if_pos (Option.isNone_iff_eq_none.2 ht))
  · exact testStart_unknown (s := clearSent s) hl
  · exact testStop_unknown (s := clearSent s) hl
  · refine ⟨gives_updCapture h rfl rfl rfl, gives_updCapture h rfl rfl ?_, .of_actOn rfl h.on ?_⟩
    · split
      · rename_i idle
        exact (captureIdle _ idle).symm
      · rfl
    · rw [readCapTag_eq, settle_path, updPath_path, clearSent_path, settle_loop _ (by rw [State.updPath_pair]; exact images),
        State.updPath_loop]
      simp only [capTag, capRecord, clearSent_path, capIndex_eq, clearSent_loop]
      exact ⟨rfl, rfl⟩

end Sys2Proof.Machine
end

section
/-! SUPPORT. Field inputs and outputs: the common fault, thermal shutdown, and the dies' own conditions (15 R431 to R443). -/

namespace Sys2Proof.Machine

open Sys2Proof

/-! ## The common fault (R437) -/

theorem faulted_fio (f : Fio) (h : f.fault = true) : { f with fault := true } = f := by rw [← h]

/-- The common fault is set, with its count and its raise where it was clear. -/
theorem setFault_eq (s : State) : ∃ k e, setFault s = (s.updFio fun f => { f with fault := true, faults := k }).updEvt (fun _ => e) := by
  unfold setFault
  split
  · rename_i h
    exact ⟨s.fio.faults, s.evt, (congrArg (fun f : Fio => { s with fio := f }) (faulted_fio s.fio h)).symm⟩
  · exact ⟨_, _, rfl⟩

theorem setFault_raised {s : State} (h : s.fio.fault = false) : raisedIn (setFault s).evt.edge 32 := by
  rw [setFault, if_neg (by rw [h]; decide)]
  exact raisedIn_raise ..

theorem Calm.setFault {s : State} (h : Calm s) : Calm (setFault s) := by
  obtain ⟨k, e, hf⟩ := setFault_eq s
  rw [hf]
  exact ⟨h.on, h.images⟩

theorem reportField_fio (s : State) : (reportField s).fio = s.fio ∧ (reportField s).evt = s.evt ∧ (reportField s).start = s.start
    ∧ (reportField s).pair = s.pair ∧ (reportField s).loop = s.loop ∧ (reportField s).mtr = s.mtr := by
  obtain ⟨d, e⟩ := reportField_eq s
  rw [e]
  exact ⟨rfl, rfl, rfl, rfl, rfl, rfl⟩

theorem Calm.reportField {s : State} (h : Calm s) : Calm (reportField s) := by
  obtain ⟨-, -, start, pair, -, -⟩ := reportField_fio s
  exact h.of_same start (congrArg Pair.images pair)

/-! ## Groups of channels (R440, R441) -/

/-- A group whose watchdog has tripped while its field supply was out of range, its watchdog state of channel 0 being on. -/
def tripped : State := { fio := { supply := 1, wdog := 1, wdogOut := 1 } }

/-- The return of the supply commands channel 0 off, so nothing is awaited, and the die goes back to its watchdog state, on. -/
theorem tripped_returns : (supplyBack 0 (clearSent tripped)).fio.applied.getLsbD 0 = true := by decide

/-- Refutes O48: when the field supply of a group returns after its die watchdog has tripped, a channel commanded off awaits nothing,
and its die applies the watchdog state, which can be on. -/
theorem not_fieldGroups : ¬ Obligations.FieldGroups := by
  intro h
  obtain ⟨-, -, -, back⟩ := h tripped 0
  obtain ⟨t, run, -, -, -, off⟩ := back rfl
  have returned : exec (.vfldReturn 0) tripped = .next (settle (supplyBack 0 (clearSent tripped))) := rfl
  have final : settle (supplyBack 0 (clearSent tripped)) = t := Host.Outcome.next.inj (returned.symm.trans run)
  have bit := off 0 (by decide) rfl (by decide) rfl
  rw [← final, settle_fio, tripped_returns] at bit
  cases bit

/-! ## Channels (R431 to R438, R443) -/

theorem applyOutputs_conditions (s : State) : (applyOutputs s).fio.thermal = s.fio.thermal ∧ (applyOutputs s).fio.wdog = s.fio.wdog
    ∧ (applyOutputs s).fio.fault = s.fio.fault ∧ (applyOutputs s).fio.kept = s.fio.kept := by
  obtain ⟨m, d, e⟩ := applyOutputs_eq s
  rw [e]
  exact ⟨rfl, rfl, rfl, rfl⟩

/-- A channel in thermal shutdown applies nothing that it does not keep (R434, R438). -/
theorem dieApplies_thermal {s : State} {n : Nat} (kept : s.fio.kept = false) (h : s.fio.thermal.getLsbD n = true) (w : Bool) :
    dieApplies s n w = false := by
  have off : thermalOff s n = true := by simp only [thermalOff, h, Bool.true_or]
  simp only [dieApplies, kept, off, Bool.not_true, Bool.and_false, Bool.false_eq_true, if_false]
  (repeat' split) <;> rfl

/-- A channel is one of its set (R434, R435). -/
theorem mem_setOf (s : State) (n : Nat) : n ∈ setOf s n := by
  unfold setOf
  extract_lets c
  split
  · exact List.mem_singleton.2 rfl
  · refine List.mem_filter.2 ⟨List.mem_map.2 ⟨n % 8, List.mem_range.2 (Nat.mod_lt _ (by decide)), ?_⟩, beq_self_eq_true _⟩
    rw [groupOf]
    omega

theorem foldl_putBit_false {w : Nat} (l : List Nat) (x : BitVec w) {n : Nat} (h : n ∈ l ∨ x.getLsbD n = false) :
    (l.foldl (fun w m => putBit w m false) x).getLsbD n = false := by
  induction l generalizing x with
  | nil => simpa using h
  | cons m l ih =>
    refine ih _ ?_
    rw [getLsbD_putBit_all]
    by_cases hm : n = m
    · refine .inr ?_
      by_cases hw : n < w
      · rw [if_pos ⟨hm, hw⟩]
      · exact (if_neg fun hn => hw hn.2).trans (BitVec.getLsbD_of_ge _ _ (by omega))
    · rw [if_neg fun hn => hm hn.1]
      obtain h | h := h
      · exact .inl ((List.mem_cons.1 h).resolve_left hm)
      · exact .inr h

/-- An update ends with the common fault set where a condition of it stands (R437). -/
theorem ioUpdate_eq (s : State) : ∃ k e d, ioUpdate s = (((applyOutputs s).updFio fun f =>
    { f with fault := f.fault || faultConditions (applyOutputs s), faults := k }).updEvt fun _ => e).updScan fun x => { x with data := d } := by
  unfold ioUpdate
  extract_lets u
  obtain ⟨d', e'⟩ := reportField_eq (if faultConditions u then setFault u else u)
  cases hf : faultConditions u with
  | true =>
    obtain ⟨k, e, h⟩ := setFault_eq u
    refine ⟨k, e, d', ?_⟩
    rw [hf] at e'
    simp only [if_true] at e' ⊢
    rw [e', h]
    exact congrArg (fun b => ((u.updFio fun f => { f with fault := b, faults := k }).updEvt fun _ => e).updScan fun x => { x with data := d' })
      (Bool.or_true _).symm
  | false =>
    refine ⟨u.fio.faults, u.evt, d', ?_⟩
    rw [hf] at e'
    simp only [Bool.false_eq_true, if_false] at e' ⊢
    rw [e']
    exact congrArg (fun b => (u.updFio fun f => { f with fault := b }).updScan fun x => { x with data := d' }) (Bool.or_false _).symm

theorem foldl_commute {α β : Type} {f : α → β → α} {g : α → α} (h : ∀ s b, f (g s) b = g (f s b)) (l : List β) (s : α) :
    l.foldl f (g s) = g (l.foldl f s) := by
  induction l generalizing s with
  | nil => rfl
  | cons b l ih => rw [List.foldl_cons, h, ih, List.foldl_cons]

/-- The cycles of the mooring loops do not depend on the pair. -/
theorem moorCycles_updPair (f : Pair → Pair) (s : State) : moorCycles (s.updPair f) = (moorCycles s).updPair f := by
  by_cases run : s.moor.running = true
  · exact (if_pos run).trans ((foldl_commute (g := fun s => s.updPair f) (fun _ _ => rfl) _ s).trans
      (congrArg (State.updPair · f) (if_pos run).symm))
  · exact (if_neg run).trans (congrArg (State.updPair · f) (if_neg run).symm)

theorem foldl_moorLoops {α : Type} {f : State → α → State} (h : ∀ s a, ∃ l, f s a = s.updMoor fun m => { m with loops := l })
    (as : List α) (s : State) : ∃ l, as.foldl f s = s.updMoor fun m => { m with loops := l } := by
  induction as generalizing s with
  | nil => exact ⟨s.moor.loops, rfl⟩
  | cons a as ih =>
    obtain ⟨l, e⟩ := h s a
    obtain ⟨l', e'⟩ := ih (f s a)
    exact ⟨l', by rw [List.foldl_cons, e', e]; rfl⟩

theorem moorCycles_eq (s : State) : ∃ l, moorCycles s = s.updMoor fun m => { m with loops := l } := by
  unfold moorCycles
  split
  · exact foldl_moorLoops (fun _ _ => ⟨_, rfl⟩) _ s
  · exact ⟨s.moor.loops, rfl⟩

/-- A command's beginning changes the messages of the pair alone. -/
theorem clearSent_eq (s : State) : ∃ sent held seq, clearSent s = s.updPair fun p => p.sends sent held seq := by
  obtain ⟨sent, held, seq, e⟩ := clearSent_pair s
  exact ⟨sent, held, seq, by rw [State.updPair, ← e]; rfl⟩

theorem wantOut_moorCycles_clearSent (s : State) (n : Nat) : wantOut (moorCycles (clearSent s)) n = wantOut (moorCycles s) n := by
  obtain ⟨sent, held, seq, e⟩ := clearSent_eq s
  rw [e, moorCycles_updPair]
  rfl

/-- The conditions of the common fault depend on the channel table and on what the dies and the readback report. -/
theorem faultConditions_of_same {s t : State} (fio : (t.fio.mismatch, t.fio.thermal, t.fio.wdog, t.fio.supply, t.fio.expired)
    = (s.fio.mismatch, s.fio.thermal, s.fio.wdog, s.fio.supply, s.fio.expired)) (table : channelsOf t = channelsOf s) :
    faultConditions t = faultConditions s := by
  simp only [Prod.mk.injEq] at fio
  obtain ⟨mismatch, thermal, wdog, supply, expired⟩ := fio
  simp only [faultConditions, channelOf, table, mismatch, thermal, wdog, supply, expired]

theorem SameDies.channelsOf {s t : State} (h : SameDies s t) : channelsOf t = channelsOf s := by
  simp only [Machine.channelsOf, h.start, h.man, h.moor, h.kept.2.2]

/-- A state whose common fault, events and data memory have changed. -/
def faultNoted (b : Bool) (k : BitVec 16) (e : Evt) (d : Store Word) (s : State) : State :=
  ((s.updFio fun f => { f with fault := f.fault || b, faults := k }).updEvt fun _ => e).updScan fun x => { x with data := d }

theorem SameDies.of_faultNoted (b : Bool) (k : BitVec 16) (e : Evt) (d : Store Word) (s : State) : SameDies s (faultNoted b k e d s) :=
  ⟨⟨rfl, rfl⟩, ⟨rfl, rfl, rfl⟩, ⟨rfl, rfl⟩, ⟨rfl, rfl⟩, rfl, rfl, rfl, rfl, rfl, rfl⟩

/-- After an update of the dies every output stands as its die applies its command, and the common fault as its conditions do
(R425, R426, R437). -/
theorem settle_faultNoted {s : State} (h : Calm s) (k : BitVec 16) (e : Evt) (d : Store Word)
    (applied : ∀ n, n < 32 → s.fio.applied.getLsbD n = dieApplies s n (s.fio.cmd.getLsbD n)) :
    let t := settle (faultNoted (faultConditions s) k e d s)
    (∀ n, n < 32 → t.fio.applied.getLsbD n = dieApplies t n (t.fio.cmd.getLsbD n)) ∧ t.fio.fault = (s.fio.fault || faultConditions t)
    ∧ t.fio.cmd = s.fio.cmd ∧ t.fio.await = s.fio.await ∧ t.fio.thermal = s.fio.thermal ∧ t.fio.wdog = s.fio.wdog
    ∧ t.start = s.start ∧ t.loop = s.loop ∧ t.mtr = s.mtr := by
  intro t
  have noted := SameDies.of_faultNoted (faultConditions s) k e d s
  have images : (faultNoted (faultConditions s) k e d s).pair.images = [] := h.images
  have settled := SameDies.of_settle images
  have fio : t.fio = { s.fio with fault := s.fio.fault || faultConditions s, faults := k } := settle_fio _
  have conditions : faultConditions t = faultConditions s := by
    refine faultConditions_of_same ?_ (settled.channelsOf.trans noted.channelsOf)
    rw [fio]
  refine ⟨fun n hn => ?_, ?_, ?_, ?_, ?_, ?_, settle_start _, settle_loop _ images, settle_mtr _⟩
  · rw [settled.dieApplies fun _ _ => by rw [settle_fio], noted.dieApplies fun _ _ => rfl, fio]
    exact applied n hn
  · rw [conditions, fio]
  all_goals rw [fio]

/-- An update of the dies (R425, R426, R437). -/
theorem gives_ioDieUpdate {s : State} (h : Calm s) : Gives .ioDieUpdate s fun t =>
    (∀ n, n < 32 → t.fio.cmd.getLsbD n = wantOut (moorCycles s) n
      ∧ t.fio.await.getLsbD n = (s.fio.await.getLsbD n && t.fio.cmd.getLsbD n)
      ∧ (s.fio.kept = false → t.fio.applied.getLsbD n = dieApplies t n (t.fio.cmd.getLsbD n)))
    ∧ t.fio.fault = (s.fio.fault || faultConditions t) ∧ t.fio.thermal = s.fio.thermal ∧ t.fio.wdog = s.fio.wdog
    ∧ t.start = s.start ∧ t.loop = s.loop ∧ t.mtr = s.mtr := by
  refine .of_actOn rfl h.on ?_
  obtain ⟨l, moor⟩ := moorCycles_eq (clearSent s)
  have want := wantOut_moorCycles_clearSent s
  generalize moorCycles (clearSent s) = u at moor want
  have hu : Calm u := ⟨by rw [moor]; exact h.clear.on, by rw [moor]; exact h.clear.images⟩
  obtain ⟨fio, start, loop, mtr⟩ : u.fio = s.fio ∧ u.start = s.start ∧ u.loop = s.loop ∧ u.mtr = s.mtr := by
    rw [moor]
    exact ⟨rfl, rfl, rfl, rfl⟩
  obtain ⟨thermal, wdog, fault, -⟩ := applyOutputs_conditions u
  obtain ⟨k, e, d, eq⟩ := ioUpdate_eq u
  obtain ⟨tApplied, tFault, tCmd, tAwait, tThermal, tWdog, tStart, tLoop, tMtr⟩ := settle_faultNoted hu.applyOutputs k e d fun n hn => by
    rw [applyOutputs_applied u hn, applyOutputs_cmd u hn]
  rw [show ioUpdate u = faultNoted (faultConditions (applyOutputs u)) k e d (applyOutputs u) from eq]
  refine ⟨fun n hn => ⟨?_, ?_, fun _ => tApplied n hn⟩, ?_, ?_, ?_, ?_, ?_, ?_⟩
  · rw [tCmd, applyOutputs_cmd u hn, want]
  · rw [tAwait, tCmd, applyOutputs_await, BitVec.getLsbD_and, fio]
  · rw [tFault, fault, fio]
  · rw [tThermal, thermal, fio]
  · rw [tWdog, wdog, fio]
  · rw [tStart, applyOutputs_start, start]
  · rw [tLoop, applyOutputs_loop, loop]
  · rw [tMtr, applyOutputs_mtr, mtr]

/-- A change of a filtered state is a change of its channel's history, and a rising one counts (R431, R436, R446). -/
theorem filterChange_eq {s : State} {n : Nat} {v : Bool} (used : (channelOf s n).mode ≠ .unused) (change : s.fio.filtered.getLsbD n ≠ v) :
    ∃ m d, filterChange n v s = (s.updFio fun f => { f with
        filtered := putBit f.filtered n v
        hist := Store.upd [] f.hist n fun l => (s.clk.hfNs, v) :: keepHist s.clk.hfNs l
        edges := if v then Store.upd 0 f.edges n (· + 1) else f.edges
        mismatch := m }).updScan fun x => { x with data := d } := by
  have stays : ¬((channelOf s n).mode = .unused ∨ s.fio.filtered.getLsbD n = v) := fun h => h.elim used change
  simp only [filterChange, if_neg stays]
  generalize (if s.start.adopted = true then (channelOf s n).bind else none) = b
  split
  · exact (reportField_eq _).elim fun d e => ⟨_, d, e⟩
  · exact (reportField_eq _).elim fun d e => ⟨_, d, e⟩

theorem clearSent_released (s : State) : (clearSent s).released = s.released := by
  obtain ⟨sent, held, seq, e⟩ := clearSent_eq s
  rw [e]
  rfl

theorem releasedOut_clearSent (s : State) (n : Nat) : releasedOut (clearSent s) n = releasedOut s n := by
  simp only [releasedOut, clearSent_released, groupOff, clearSent_fio]

/-- A readback that differs from the command is a mismatch, and a fault (R437). -/
theorem gives_readbackMismatch {s : State} (h : Calm s) {n : BitVec 5} (out : isOutput s n.toNat = true)
    (held : releasedOut s n.toNat = false) (differs : s.fio.filtered.getLsbD n.toNat ≠ s.fio.cmd.getLsbD n.toNat) :
    Gives (.readbackMismatch n) s fun t =>
      t.fio.mismatch = putBit s.fio.mismatch n.toNat true ∧ t.fio.fault = true ∧ t.fio.applied = s.fio.applied
      ∧ (s.fio.fault = false → t.evt.pend.getLsbD 32 = true) ∧ t.start = s.start := by
  refine .of_actOn rfl h.on ?_
  have mismatched : (isOutput s n.toNat && !releasedOut (clearSent s) n.toNat
      && s.fio.filtered.getLsbD n.toNat != s.fio.cmd.getLsbD n.toNat) = true := by
    rw [out, releasedOut_clearSent, held]
    exact bne_iff_ne.2 differs
  have run : readbackDiffers n.toNat (clearSent s) = reportField (setFault ((clearSent s).updFio fun f =>
      { f with mismatch := putBit f.mismatch n.toNat true })) := if_pos mismatched
  rw [run]
  generalize hu : ((clearSent s).updFio fun f => { f with mismatch := putBit f.mismatch n.toNat true }) = u
  have cu : Calm u := by
    rw [← hu]
    exact ⟨h.clear.on, h.clear.images⟩
  have calm := cu.setFault.reportField
  obtain ⟨fio, evt, start, -, -, -⟩ := reportField_fio (setFault u)
  obtain ⟨k, e, fault⟩ := setFault_eq u
  refine ⟨?_, ?_, ?_, fun clear => calm.pend ?_, ?_⟩
  · rw [settle_fio, fio, fault, ← hu]
    rfl
  · rw [settle_fio, fio, fault]
    rfl
  · rw [settle_fio, fio, fault, ← hu]
    rfl
  · rw [evt]
    refine setFault_raised ?_
    rw [← hu]
    exact clear
  · rw [settle_start, start, fault, ← hu]
    rfl

/-- A thermal shutdown turns its channel off, and is a fault (R434, R437). -/
theorem gives_thermalShutdown {s : State} (h : Calm s) {n : BitVec 5} (out : isOutput s n.toNat = true) :
    Gives (.thermalShutdown n) s fun t =>
      t.fio.thermal = putBit s.fio.thermal n.toNat true ∧ t.fio.fault = true
      ∧ (s.fio.kept = false → t.fio.applied.getLsbD n.toNat = false) ∧ (s.fio.fault = false → t.evt.pend.getLsbD 32 = true)
      ∧ t.start = s.start := by
  refine .of_actOn rfl h.on ?_
  have run : thermalTrip n.toNat (clearSent s) = applyOutputs (setFault ((clearSent s).updFio fun f =>
      { f with thermal := putBit f.thermal n.toNat true })) := if_pos out
  rw [run]
  generalize hu : ((clearSent s).updFio fun f => { f with thermal := putBit f.thermal n.toNat true }) = u
  have cu : Calm u := by
    rw [← hu]
    exact ⟨h.clear.on, h.clear.images⟩
  obtain ⟨thermal, -, fault', kept⟩ := applyOutputs_conditions (setFault u)
  obtain ⟨k, e, fault⟩ := setFault_eq u
  have tripped : (applyOutputs (setFault u)).fio.thermal = putBit s.fio.thermal n.toNat true := by
    rw [thermal, fault, ← hu]
    rfl
  refine ⟨?_, ?_, fun free => ?_, fun clear => cu.setFault.applyOutputs.pend ?_, ?_⟩
  · rw [settle_fio, tripped]
  · rw [settle_fio, fault', fault]
    rfl
  · rw [settle_fio, applyOutputs_applied _ n.isLt, dieApplies_thermal]
    · rw [kept, fault, ← hu]
      exact free
    · rw [tripped, getLsbD_putBit_all, if_pos ⟨rfl, n.isLt⟩]
  · rw [applyOutputs_evt]
    refine setFault_raised ?_
    rw [← hu]
    exact clear
  · rw [settle_start, applyOutputs_start, fault, ← hu]
    rfl

/-- Settles O47: what the dies, the filters and the readback report reaches the channels and the common fault. -/
theorem fieldChannels : Obligations.FieldChannels := by
  intro s h
  have hc := h.clear
  refine ⟨gives_ioDieUpdate h, fun n v used change => .of_actOn rfl h.on ?_, fun n out => ⟨gives_readbackMismatch h out,
    gives_thermalShutdown h out, .of_actOn rfl h.on ?_, fun b standby differs => .of_actOn rfl h.on ?_⟩⟩
  · obtain ⟨m, d, eq⟩ := filterChange_eq (s := clearSent s) (n := n.toNat) used change
    rw [eq]
    refine ⟨?_, ?_, ?_, ?_, ?_, ?_, ?_, ?_⟩
    · rw [settle_fio]
      rfl
    · rw [settle_fio]
      rfl
    · rw [settle_fio]
      cases v with
      | true => simp only [State.updScan_fio, State.updFio_fio, clearSent_fio, if_true, Store.get_upd_same]
      | false =>
        simp only [State.updScan_fio, State.updFio_fio, clearSent_fio, Bool.false_eq_true, if_false]
        exact (BitVec.add_zero _).symm
    · rw [settle_fio]
      simp only [State.updScan_fio, State.updFio_fio, clearSent_clk, Store.get_upd_same, List.head?_cons]
    · rw [settle_fio]
      rfl
    · rw [settle_start]
      rfl
    · exact settle_loop _ hc.images
    · exact settle_mtr _
  · unfold thermalCooled
    refine ⟨?_, ?_, ?_⟩
    · rw [settle_fio, (applyOutputs_conditions _).1]
      exact foldl_putBit_false _ _ (.inl (mem_setOf _ _))
    · rw [settle_fio, (applyOutputs_conditions _).2.2.1]
      rfl
    · rw [settle_start, applyOutputs_start]
      rfl
  · have run : stageTest n.toNat b (clearSent s) = raise 198 ((clearSent s).updPair fun p => { p with outFail := true }) := by
      refine if_pos ?_
      have want : wantOut (clearSent s) n.toNat = wantOut s n.toNat := rfl
      have out' : isOutput (clearSent s) n.toNat = true := out
      rw [clearSent_isStandby, standby, out', want]
      exact bne_iff_ne.2 differs
    rw [run]
    have calm : Calm (raise 198 ((clearSent s).updPair fun p => { p with outFail := true })) := ⟨hc.on, hc.images⟩
    refine ⟨?_, calm.pend (raisedIn_raise ..), ?_, ?_⟩
    · rw [settle_pair_outFail _ calm.images]
      rfl
    · rw [settle_fio]
      rfl
    · rw [settle_start]
      rfl

end Sys2Proof.Machine
end

section
/-! SUPPORT. The start instant t0 (04 R83, R101, R107; 17 R492): what a start finds of the reset die it begins on, and its anchor. -/

namespace Sys2Proof.Machine

open Sys2Proof

/-! ## The anchor as the first record -/

/-- What an anchor says of itself, which merging and further records leave alone. -/
def JRec.says (r : JRec) : Byte × Byte × BitVec 16 × DWord := (r.source, r.sub, r.code, r.payload)

/-- The rebuild has not ended, so no flush takes the buffer's records, the first of which says this. -/
def Anchored (a : Byte × Byte × BitVec 16 × DWord) (s : State) : Prop :=
  s.jrn.rebuilt = false ∧ (s.jrn.buffer[0]?).map JRec.says = some a

theorem mergeLast_says (now : BitVec 48) (r : NewRec) {l l' : List JRec} (h : mergeLast now r l = some l') :
    l'.map JRec.says = l.map JRec.says := by
  induction l generalizing l' with
  | nil => exact absurd h (by simp only [mergeLast, reduceCtorEq, not_false_eq_true])
  | cons q l ih =>
    rw [mergeLast] at h
    split at h
    · rename_i m hm
      cases h
      rw [List.map_cons, ih hm, List.map_cons]
    · split at h
      · cases h
        rfl
      · cases h

theorem Anchored.of_jrn {a : Byte × Byte × BitVec 16 × DWord} {s t : State} (h : Anchored a s) (rebuilt : t.jrn.rebuilt = s.jrn.rebuilt)
    (buffer : t.jrn.buffer = s.jrn.buffer) : Anchored a t := ⟨rebuilt.trans h.1, by rw [buffer, h.2]⟩

theorem Anchored.createRec {a : Byte × Byte × BitVec 16 × DWord} {s : State} (h : Anchored a s) (r : NewRec) :
    Anchored a (createRec s r).1 := by
  obtain ⟨rebuilt, first⟩ := h
  unfold Machine.createRec
  split
  · rename_i l hl
    refine ⟨rebuilt, ?_⟩
    rw [← List.getElem?_map] at first ⊢
    rw [State.updJrn_jrn, mergeLast_says _ _ hl, first]
  · extract_lets k q
    split
    · exact ⟨rebuilt, first⟩
    · refine ⟨rebuilt, ?_⟩
      cases hb : s.jrn.buffer with
      | nil =>
        rw [hb] at first
        cases first
      | cons q l =>
        rw [hb] at first
        simp only [State.updJrn_jrn, hb]
        exact first

theorem Anchored.startFlush {a : Byte × Byte × BitVec 16 × DWord} {s : State} (h : Anchored a s) : Anchored a (startFlush s) := by
  have run : Machine.startFlush s = s.updJrn fun j => { j with again := true } := if_pos (by rw [h.1, Bool.not_false, Bool.or_true])
  rw [run]
  exact h.of_jrn rfl rfl

/-! ## What the end of an edge makes of the journal -/

theorem performRaise_jrn (s : State) (x : Nat × Nat) : ∃ e, (performRaise s x).jrn = { s.jrn with edge := e } := by
  unfold performRaise
  extract_lets r now s1 s2
  have h2 : ∃ e, s2.jrn = { s.jrn with edge := e } := by
    by_cases hr : (r.journal && !recordless x.1) = true
    · exact ⟨_, (congrArg State.jrn (if_pos hr)).trans rfl⟩
    · exact ⟨s.jrn.edge, (congrArg State.jrn (if_neg hr)).trans rfl⟩
  clear_value s2
  split
  · split
    · exact h2
    · exact h2
  · exact h2

theorem performPeer_jrn (s : State) (x : Nat × Nat) : ∃ e, (performPeer s x).jrn = { s.jrn with edge := e } := by
  unfold performPeer
  extract_lets r s1
  split
  · exact ⟨_, rfl⟩
  · exact ⟨s.jrn.edge, rfl⟩

theorem foldl_jrn {f : State → Nat × Nat → State} (h : ∀ s x, ∃ e, (f s x).jrn = { s.jrn with edge := e }) (l : List (Nat × Nat))
    (s : State) : ∃ e, (l.foldl f s).jrn = { s.jrn with edge := e } := by
  induction l generalizing s with
  | nil => exact ⟨s.jrn.edge, rfl⟩
  | cons x l ih =>
    obtain ⟨e, he⟩ := h s x
    obtain ⟨e', he'⟩ := ih (f s x)
    exact ⟨e', by rw [List.foldl_cons, he', he]⟩

/-- The end of an edge changes the journal by the records of the edge, created in order, and by a flush that begins. -/
theorem settleEvents_jrn {P : State → Prop} (same : ∀ s t e, t.jrn = { s.jrn with edge := e } → P s → P t)
    (create : ∀ s r, P s → P (createRec s r).1) (flush : ∀ s, P s → P (startFlush s)) {s : State} (h : P s) : P (settleEvents s) := by
  have all : ∀ l s, P s → P (createAll l s).1 := by
    intro l
    induction l with
    | nil => exact fun _ h => h
    | cons r l ih => exact fun s h => ih _ (create s r h)
  unfold settleEvents
  split
  · exact h
  · extract_lets own peer s1 s2 s3 recs s4 before urgent
    have h4 : P s4 := by
      obtain ⟨e, he⟩ := foldl_jrn performRaise_jrn own s1
      obtain ⟨e', he'⟩ := foldl_jrn performPeer_jrn peer s2
      refine same s s4 [] ?_ h
      show { s3.jrn with edge := [] } = _
      rw [he', he]
      rfl
    have h5 : P (createAll recs s4).1 := all _ _ h4
    clear_value s4 recs
    split
    rename_i s5 d hs5
    rw [hs5] at h5
    extract_lets s6
    have h6 : P s6 := by
      show P (if (d && !own.any (·.1 == 216)) = true then performRaise s5 (216, 0) else s5)
      split
      · obtain ⟨e, he⟩ := performRaise_jrn s5 (216, 0)
        exact same s5 _ e he h5
      · exact h5
    clear_value s6
    split
    · exact flush _ h6
    · exact h6

theorem Anchored.settleEvents {a : Byte × Byte × BitVec 16 × DWord} {s : State} (h : Anchored a s) : Anchored a (settleEvents s) :=
  settleEvents_jrn (fun s t e he h => h.of_jrn (by rw [he]) (by rw [he])) (fun _ r h => h.createRec r) (fun _ h => h.startFlush) h

theorem createRec_optime (s : State) (r : NewRec) : (createRec s r).1.jrn.optime = s.jrn.optime := by
  unfold createRec
  split
  · rfl
  · extract_lets k q
    split <;> rfl

theorem startFlush_optime (s : State) : (startFlush s).jrn.optime = s.jrn.optime := by
  unfold startFlush
  split <;> rfl

@[simp] theorem settleEvents_optime (s : State) : (settleEvents s).jrn.optime = s.jrn.optime :=
  settleEvents_jrn (P := fun t => t.jrn.optime = s.jrn.optime) (fun s t e he h => (by rw [he] : t.jrn.optime = s.jrn.optime).trans h)
    (fun _ r h => (createRec_optime _ r).trans h) (fun _ h => (startFlush_optime _).trans h) rfl

theorem forwardEvents_jrn (s : State) : (forwardEvents s).jrn = s.jrn := by
  unfold forwardEvents
  split
  · rfl
  · extract_lets l u
    split
    · rw [sendLink_jrn]
      rfl
    · rfl

/-- With no image waiting, the end of an edge under power makes of the journal what its events make of it. -/
theorem settle_jrn {s : State} (on : s.start.power = .on) (images : s.pair.images = []) : (settle s).jrn = (settleEvents s).jrn := by
  rw [settle, if_pos (.inl on), forwardEvents_jrn, tryImages_none s images]

end Sys2Proof.Machine
end

section
/-! SUPPORT. Starts (04 R83, R101 to R107): what the start instant keeps of the reset die, and what every start finds. -/

namespace Sys2Proof.Machine

open Sys2Proof

/-! ## What a start instant keeps -/

/-- The state but for the start's own marks, the device records, the health map, the forces and the routing of events. -/
structure Trunk where
  still : Still
  loop : LoopEng
  sol : Sol
  stn : StnEng
  scan : Scan
  images : List ImageMsg
  runs : Nat → Option Run

def Quiet.trunk (q : Quiet) : Trunk :=
  ⟨{ q.still with start := { q.still.start with limited := false }, place := {}, mram := { q.still.mram with dev := {} } },
    q.loop, q.sol, q.stn, { q.scan with forces := [] }, q.pair.images, fun n => (q.task n).run⟩

def State.trunk (s : State) : Trunk := s.quiet.trunk

@[simp] theorem settleEvents_trunk (s : State) : (settleEvents s).trunk = s.trunk := congrArg Quiet.trunk (settleEvents_quiet s)

theorem settle_trunk {s : State} (images : s.pair.images = []) : (settle s).trunk = s.trunk := congrArg Quiet.trunk (settle_quiet s images)

theorem releaseForce_trunk (n : Nat) (s : State) : (releaseForce n s).trunk = s.trunk := by
  unfold releaseForce
  split <;> rfl

theorem foldl_trunk {α : Type} {f : State → α → State} (h : ∀ s a, (f s a).trunk = s.trunk) (l : List α) (s : State) :
    (l.foldl f s).trunk = s.trunk := by
  induction l generalizing s with
  | nil => rfl
  | cons a l ih => exact (ih _).trans (h s a)

theorem clearForces_trunk (s : State) : (applyForce .clearAll s).trunk = s.trunk := foldl_trunk (fun s n => releaseForce_trunk n s) _ s

theorem journalIncomplete_trunk (s : State) : (journalIncomplete s).trunk = s.trunk := by
  unfold journalIncomplete
  extract_lets d age s1 s2
  split <;> rfl

theorem limitRestarts_trunk (s : State) : (limitRestarts s).trunk = s.trunk := by
  unfold limitRestarts
  split <;> rfl

/-- Restarts are counted in the device records alone. -/
theorem countRestart_eq (c : Cause) (s : State) : ∃ f, countRestart c s = s.updDev f := by
  cases c
  case watchdog => exact ⟨fun d => { d with wdog := d.wdog ++ [s.jrn.optime] }, rfl⟩
  case hostWarm | hostCold | hostDefault => exact ⟨fun d => { d with wdog := [] }, rfl⟩
  all_goals exact ⟨id, rfl⟩

theorem countRestart_trunk (c : Cause) (s : State) : (countRestart c s).trunk = s.trunk := by
  obtain ⟨f, hf⟩ := countRestart_eq c s
  rw [hf]
  rfl

/-- The start block at the start instant (04 R83, R107). -/
def begun (cause : Cause) (s : State) : Start :=
  { s.start with
    power := .on
    cause := if s.mram.dev.flushBegan then .powerFail else cause
    incomplete := s.mram.dev.flushBegan && !s.mram.dev.flushDone
    incompleteAtStart := s.mram.dev.flushBegan && !s.mram.dev.flushDone
    holdLow := s.mram.dev.holdLow }

/-- The part of a start instant up to its anchor. -/
def anchored (cause : Cause) (s : State) : State := anchor 0 (startRecords (s.updStart fun _ => begun cause s))

/-- The part of a start instant after its anchor's edge: CAL_OSF, the age of the copy, the forces, the count of restarts. -/
def afterAnchor (cause : Cause) (incomplete : Bool) (s : State) : State :=
  let s := settleEvents (if s.cal.osf then raise 18 s else s)
  let s := if incomplete then journalIncomplete s else s
  let s := s.updDev fun d => { d with flushBegan := false, flushDone := false, unwritten := 0 }
  limitRestarts (countRestart cause (applyForce .clearAll s))

theorem startInstant_eq (cause : Cause) (s : State) : startInstant cause s
    = afterAnchor cause (s.mram.dev.flushBegan && !s.mram.dev.flushDone) (settleEvents (anchored cause s)) := rfl

/-- What holds of a state also after a start's steps behind the anchor. -/
theorem afterAnchor_keeps {P : State → Prop} (cause : Cause) (incomplete : Bool)
    (events : ∀ s, P s → P (settleEvents s)) (raised : ∀ s n, P s → P (raise n s)) (age : ∀ s, P s → P (journalIncomplete s))
    (cleared : ∀ s, P s → P (s.updDev fun d => { d with flushBegan := false, flushDone := false, unwritten := 0 }))
    (count : ∀ s, P s → P (countRestart cause s)) (force : ∀ s n, P s → P (releaseForce n s)) (limit : ∀ s, P s → P (limitRestarts s))
    {s : State} (h : P s) : P (afterAnchor cause incomplete s) := by
  unfold afterAnchor
  extract_lets s1 s2 s3
  have h1 : P s1 := by
    refine events _ ?_
    split
    · exact raised _ _ h
    · exact h
  have h2 : P s2 := by
    show P (if incomplete = true then journalIncomplete s1 else s1)
    split
    · exact age _ h1
    · exact h1
  have h3 : P s3 := cleared _ h2
  have folds : ∀ (l : List Nat) s, P s → P (l.foldl (fun s n => releaseForce n s) s) := by
    intro l
    induction l with
    | nil => exact fun _ h => h
    | cons n l ih => exact fun s h => ih _ (force s n h)
  exact limit _ (count _ (folds _ _ h3))

theorem startInstant_trunk (cause : Cause) (s : State) : (startInstant cause s).trunk = (s.updStart fun _ => begun cause s).trunk := by
  rw [startInstant_eq]
  refine afterAnchor_keeps (P := fun t => t.trunk = (s.updStart fun _ => begun cause s).trunk) cause _
    (fun s h => (settleEvents_trunk s).trans h) (fun _ _ h => h) (fun s h => (journalIncomplete_trunk s).trans h) (fun _ h => h)
    (fun s h => (countRestart_trunk cause s).trans h)
    (fun s n h => (releaseForce_trunk n s).trans h) (fun s h => (limitRestarts_trunk s).trans h) ?_
  rw [settleEvents_trunk]
  rfl

/-! ## The device records and the anchor of a start -/

theorem settleEvents_pcyc (s : State) : (settleEvents s).mram.dev.pcyc = s.mram.dev.pcyc :=
  congrArg (fun t : Still => t.mram.dev.pcyc) (settleEvents_still s)

theorem limitRestarts_mram (s : State) : (limitRestarts s).mram = s.mram := by
  unfold limitRestarts
  split <;> rfl

/-- A start counts one power cycle (17 R483). -/
theorem startInstant_pcyc (cause : Cause) (s : State) : (startInstant cause s).mram.dev.pcyc = s.mram.dev.pcyc + 1 := by
  rw [startInstant_eq]
  refine afterAnchor_keeps (P := fun t => t.mram.dev.pcyc = s.mram.dev.pcyc + 1) cause _ (fun s h => (settleEvents_pcyc s).trans h)
    (fun _ _ h => h) (fun s h => ?_) (fun _ h => h) (fun s h => ?_) (fun s n h => ?_)
    (fun s h => (congrArg (fun m : Mram => m.dev.pcyc) (limitRestarts_mram s)).trans h) ((settleEvents_pcyc _).trans rfl)
  · unfold journalIncomplete
    extract_lets d age s1 s2
    split <;> exact h
  · cases cause <;> exact h
  · unfold releaseForce
    split <;> exact h

/-- A host restart clears the count of watchdog restarts (04 R102). -/
theorem startInstant_wdog {cause : Cause} (host : cause = .hostWarm ∨ cause = .hostCold ∨ cause = .hostDefault) (s : State) :
    (startInstant cause s).mram.dev.wdog = [] := by
  rw [startInstant_eq, afterAnchor, limitRestarts_mram]
  obtain rfl | rfl | rfl := host <;> rfl

/-- The anchor's order key is one that the records in MRAM leave room for (17 R486). -/
theorem nextKey_room {j : Jrn} {top : Option Nat} (optime : j.keyOptime = top.elim 0 fun k => BitVec.ofNat 48 (k / 16))
    (order : j.keyOrder = top.elim 0 fun k => k % 16 + 1) (room : ∀ k, top = some k → k / 16 < j.optime.toNat + 1000) :
    (nextKey j).1 ≤ j.optime.toNat + 1000 := by
  have bound : j.keyOptime.toNat < j.optime.toNat + 1000 := by
    cases top with
    | none =>
      rw [optime]
      exact Nat.lt_of_lt_of_le (by decide : 0 < 1000) (Nat.le_add_left ..)
    | some k =>
      rw [optime]
      exact Nat.lt_of_le_of_lt (Nat.le_trans (by simp only [Option.elim_some, BitVec.toNat_ofNat]; exact Nat.mod_le ..) (Nat.le_refl _))
        (room k rfl)
  unfold nextKey
  split
  · exact Nat.le_add_right ..
  · split
    · exact Nat.le_of_lt bound
    · exact bound

/-- The record of an anchor made at the start instant (17 R492). -/
def anchorRec (s : State) : NewRec := { source := 220, sev := 7, sub := 0, code := 1, payload := anchorPayload s }

/-- Before adoption JRN_ANCHOR has no journal route and no task (17 R479). -/
theorem performRaise_anchor {s : State} (routes : s.evt.routes = none) : (performRaise s (220, 0)).jrn = s.jrn := by
  have route : routeOf s 220 = { journal := false, pair := false, irq := 1, severity := 4, task := none } := by
    rw [routeOf, routes]
    rfl
  simp only [performRaise, route]
  rfl

/-- The edge of a start's anchor, on a blank journal, puts it first (17 R492). -/
theorem settleEvents_anchor {s : State} (evt : s.evt = {}) (jrn : s.jrn.edge = [] ∧ s.jrn.buffer = [] ∧ s.jrn.taken = [])
    (rebuilt : s.jrn.rebuilt = false) (room : (nextKey s.jrn).1 ≤ s.jrn.optime.toNat + 1000) :
    Anchored (220, 0, 1, anchorPayload s) (settleEvents (anchor 0 s)) := by
  obtain ⟨edge, buffer, taken⟩ := jrn
  have raised : (anchor 0 s).evt = { edge := [(220, 0)] } := by
    show { s.evt with edge := s.evt.edge ++ [(220, 0)] } = _
    rw [evt]
    rfl
  have recorded : (anchor 0 s).jrn = { s.jrn with edge := [anchorRec s] } := by
    show { s.jrn with edge := s.jrn.edge ++ [anchorRec s] } = _
    rw [edge, List.nil_append]
  unfold settleEvents
  rw [if_neg (by rw [raised]; exact Bool.false_ne_true), raised]
  extract_lets own peer s1 s2 s3 recs s4 before urgent
  have h3 : s3.jrn = { s.jrn with edge := [anchorRec s] } := (performRaise_anchor (s := s1) (congrArg Evt.routes raised)).trans recorded
  have h4 : s4.jrn = { s.jrn with edge := [] } := congrArg (fun j : Jrn => { j with edge := [] }) h3
  have hrecs : recs = [anchorRec s] := by
    show (s3.jrn.edge.filter (!·.prog)).foldl placeRec [] ++ s3.jrn.edge.filter (·.prog) = _
    rw [h3]
    rfl
  have created : Anchored (220, 0, 1, anchorPayload s) (createAll recs s4).1 := by
    have unmerged : mergeLast s4.jrn.optime (anchorRec s) s4.jrn.buffer = none := by
      rw [h4]
      exact congrArg (mergeLast _ _) buffer
    have count : bufferCount s4 = 0 := by
      rw [bufferCount, h4]
      exact congr (congrArg (fun a b : List JRec => a.length + b.length) buffer) taken
    have key : nextKey s4.jrn = nextKey s.jrn := by
      rw [h4]
      rfl
    have keyed : ¬(s4.jrn.optime.toNat + 1000 < (nextKey s4.jrn).1 ∨ 2048 ≤ bufferCount s4) := by
      rw [count, key]
      have optime : s4.jrn.optime = s.jrn.optime := by rw [h4]
      rw [optime]
      omega
    rw [hrecs]
    show Anchored _ (createRec s4 (anchorRec s)).1
    simp only [createRec, unmerged, if_neg keyed]
    refine ⟨?_, ?_⟩
    · show s4.jrn.rebuilt = false
      rw [h4]
      exact rebuilt
    · rw [State.updJrn_jrn, h4]
      simp only [buffer]
      rfl
  clear_value recs s4 before urgent
  split
  rename_i s5 d hs5
  rw [hs5] at created
  extract_lets s6
  have h6 : Anchored (220, 0, 1, anchorPayload s) s6 := by
    show Anchored _ (if (d && !own.any (·.1 == 216)) = true then performRaise s5 (216, 0) else s5)
    split
    · obtain ⟨e, he⟩ := performRaise_jrn s5 (216, 0)
      exact created.of_jrn (by rw [he]) (by rw [he])
    · exact created
  split
  · exact h6.startFlush
  · exact h6

end Sys2Proof.Machine
end

section
/-! SUPPORT. Every start begins on a reset die (04 R83, R101, R104; 14 R413). -/

namespace Sys2Proof.Machine

open Sys2Proof

/-! ## Work that a reset cuts off -/

/-- What the cutting off of work in MRAM, flash and fuses leaves alone. -/
structure Uncut where
  dev : DevRec
  journal : Store Bytes
  draft : Option Retained
  safe : Option (BitVec 32)
  pins : Pins
  cal : Cal
  start : Start
  moor : Moor
  jrn : Jrn
  clk : Clk
  tide : Tide
  fio : Fio
  ports : Store Port
  pair : Pair
  scan : Scan
  sol : Sol
  man : Option Manifest

def State.uncut (s : State) : Uncut :=
  ⟨s.mram.dev, s.mram.journal, s.mram.retDraft, s.mram.safe, s.pins, s.cal, s.start, s.moor, s.jrn, s.clk, s.tide, s.fio, s.ports, s.pair, s.scan,
    s.sol, s.man⟩

theorem abandonSave_uncut (s : State) : (abandonSave s).uncut = s.uncut := by
  unfold abandonSave
  split <;> rfl

theorem tearCheckpoint_uncut (s : State) : (tearCheckpoint s).uncut = s.uncut := by
  unfold tearCheckpoint
  split
  · rfl
  · extract_lets one
    cases one <;> rfl

theorem tearFlash_uncut (s : State) : (tearFlash s).uncut = s.uncut := by
  unfold tearFlash
  split <;> rfl

theorem tearFuses_uncut (s : State) : (tearFuses s).uncut = s.uncut := by
  unfold tearFuses
  split <;> rfl

@[simp] theorem cutOff_uncut (s : State) : (cutOff s).uncut = s.uncut := by
  unfold cutOff
  extract_lets s1
  have h1 : s1.uncut = s.uncut := by
    show (if s.mtr.saving.isEmpty = true then s else abandonSave s).uncut = _
    split
    · rfl
    · exact abandonSave_uncut s
  rw [tearFuses_uncut, tearFlash_uncut, tearCheckpoint_uncut, h1]

/-! ## What a reset keeps for the start -/

/-- What a start takes over from before its reset: the marks of a flush, the power cycle, the calendar and the coast counts. -/
def State.persist (s : State) : Bool × BitVec 24 × Cal × BitVec 16 × BitVec 16 :=
  (s.mram.dev.flushBegan, s.mram.dev.pcyc, s.cal, s.tide.coastCycles, s.tide.coastEntries)

theorem persist_of_still {s t : State} (h : t.still = s.still) : t.persist = s.persist :=
  congrArg (fun q : Still => (q.mram.dev.flushBegan, q.mram.dev.pcyc, q.cal, q.tide.coastCycles, q.tide.coastEntries)) h

theorem persist_of_uncut {s t : State} (h : t.uncut = s.uncut) : t.persist = s.persist :=
  congrArg (fun q : Uncut => (q.dev.flushBegan, q.dev.pcyc, q.cal, q.tide.coastCycles, q.tide.coastEntries)) h

/-- A die reset since `s`: nothing volatile stands but the forces, which the start clears. -/
structure BareDie (s u : State) : Prop where
  start : u.start = {}
  jrn : u.jrn = {}
  evt : u.evt = {}
  images : u.pair.images = []
  scan : u.scan = { forces := u.scan.forces }
  loaded : u.fio.loaded = false
  tide : u.tide = { coastCycles := u.tide.coastCycles, coastEntries := u.tide.coastEntries }
  blank : u.loop = {} ∧ u.sol = {} ∧ u.stn = {} ∧ u.clk = {} ∧ u.mtr = {} ∧ u.ntime = {} ∧ u.keys = {} ∧ u.hst = {} ∧ u.ports = []
    ∧ u.moor = {} ∧ u.man = none
  persist : u.persist = s.persist

theorem bareDie_bare {s v : State} (h : v.persist = s.persist) : BareDie s (bare v) :=
  ⟨rfl, rfl, rfl, rfl, rfl, rfl, rfl, ⟨rfl, rfl, rfl, rfl, rfl, rfl, rfl, rfl, rfl, rfl, rfl⟩, h⟩

theorem bareDie_resetDie (s : State) : BareDie s (resetDie s) := bareDie_bare (persist_of_uncut (cutOff_uncut s))

/-! ## The forces are cleared (04 R103) -/

theorem releaseForce_forces (n : Nat) (s : State) (m : Nat) : Store.get none (releaseForce n s).scan.forces m
    = if n = m then none else Store.get none s.scan.forces m := by
  unfold releaseForce
  split
  · rename_i h
    split
    · rename_i hm
      rw [← hm, h]
    · rfl
  · show Store.get none (Store.set none s.scan.forces n none) m = _
    rw [Store.get_set]

theorem clearForces_forces (s : State) {m : Nat} (hm : m < 256) : Store.get none (applyForce .clearAll s).scan.forces m = none := by
  have clears : ∀ (l : List Nat) (s : State), m ∈ l ∨ Store.get none s.scan.forces m = none →
      Store.get none (l.foldl (fun s n => releaseForce n s) s).scan.forces m = none := by
    intro l
    induction l with
    | nil => exact fun s h => h.resolve_left (List.not_mem_nil)
    | cons n l ih =>
      intro s h
      refine ih _ ?_
      rw [releaseForce_forces]
      by_cases hn : n = m
      · exact .inr (if_pos hn)
      · exact h.imp (fun h => (List.mem_cons.1 h).resolve_left (Ne.symm hn)) fun h => (if_neg hn).trans h
  rw [applyForce]
  exact clears (List.range 256) s (.inl (List.mem_range.2 hm))

theorem limitRestarts_scan (s : State) : (limitRestarts s).scan = s.scan := by
  unfold limitRestarts
  split <;> rfl

theorem countRestart_scan (c : Cause) (s : State) : (countRestart c s).scan = s.scan := by
  obtain ⟨f, hf⟩ := countRestart_eq c s
  rw [hf]
  rfl

theorem startInstant_forces (cause : Cause) (s : State) {m : Nat} (hm : m < 256) :
    Store.get none (startInstant cause s).scan.forces m = none := by
  rw [startInstant_eq, afterAnchor, limitRestarts_scan, countRestart_scan, clearForces_forces _ hm]

/-! ## A start on a reset die -/

theorem startInstant_optime (cause : Cause) (s : State) :
    (startInstant cause s).jrn.optime = (startRecords (s.updStart fun _ => begun cause s)).jrn.optime := by
  rw [startInstant_eq]
  refine afterAnchor_keeps (P := fun t => t.jrn.optime = (startRecords (s.updStart fun _ => begun cause s)).jrn.optime) cause _
    (fun s h => (settleEvents_optime s).trans h) (fun _ _ h => h) (fun s h => ?_) (fun _ h => h) (fun s h => ?_) (fun s n h => ?_)
    (fun s h => ?_) (settleEvents_optime _)
  · unfold journalIncomplete
    extract_lets d age s1 s2
    split <;> exact h
  · obtain ⟨f, hf⟩ := countRestart_eq cause s
    rw [hf]
    exact h
  · unfold releaseForce
    split <;> exact h
  · unfold limitRestarts
    split <;> exact h

/-- A start's anchor is the first record of the buffer, where the records in MRAM leave its order key room (17 R486, R492). -/
theorem BareDie.anchored {v u : State} (h : BareDie v u) (cause : Cause)
    (room : ∀ k, topKey u.mram.journal = some k → k / 16 < (startInstant cause u).jrn.optime.toNat + 1000) :
    Anchored (220, 0, 1, anchorPayload v) (startInstant cause u) := by
  have cal : u.cal = v.cal := congrArg (·.2.2.1) h.persist
  have payload : anchorPayload (startRecords (u.updStart fun _ => begun cause u)) = anchorPayload v :=
    congrArg (fun c : Cal => if c.osf then (0 : DWord) else BitVec.ofNat 64 (c.now.secs * 32768 + c.now.sub)) cal
  rw [startInstant_optime] at room
  rw [startInstant_eq, ← payload]
  refine afterAnchor_keeps cause _ (fun _ h => h.settleEvents) (fun _ _ h => h) (fun s h => ?_) (fun _ h => h) (fun s h => ?_)
    (fun s n h => ?_) (fun s h => ?_) (settleEvents_anchor h.evt ?_ ?_ (nextKey_room (top := topKey u.mram.journal) rfl rfl room))
  · unfold journalIncomplete
    extract_lets d age s1 s2
    split <;> exact h
  · obtain ⟨f, hf⟩ := countRestart_eq cause s
    rw [hf]
    exact h
  · unfold releaseForce
    split <;> exact h
  · unfold limitRestarts
    split <;> exact h
  · exact ⟨congrArg Jrn.edge h.jrn, congrArg Jrn.buffer h.jrn, congrArg Jrn.taken h.jrn⟩
  · exact congrArg Jrn.rebuilt h.jrn

/-- A start on a reset die has begun at t0 (04 R83, R101, R103). -/
theorem BareDie.restarted {s v u : State} (h : BareDie v u) {why : Cause} (base : v.mram.dev = s.mram.dev ∧ v.cal = s.cal)
    (coast : v.tide.coastCycles = (if why = .powerOn ∧ s.pins.vin = false then 0 else s.tide.coastCycles)
      ∧ v.tide.coastEntries = if why = .powerOn ∧ s.pins.vin = false then 0 else s.tide.coastEntries) :
    Restarted why s (settle (startInstant why u)) := by
  obtain ⟨dev, cal⟩ := base
  have trunk := startInstant_trunk why u
  have images : (startInstant why u).pair.images = [] := (congrArg Trunk.images trunk).trans h.images
  have settled := (settle_trunk images).trans trunk
  have still : ∀ {α : Type} (f : Still → α), f (settle (startInstant why u)).trunk.still = f (u.updStart fun _ => begun why u).trunk.still :=
    fun f => congrArg (fun k : Trunk => f k.still) settled
  have marks : u.mram.dev.flushBegan = s.mram.dev.flushBegan := (congrArg (·.1) h.persist).trans (congrArg DevRec.flushBegan dev)
  have pcyc : u.mram.dev.pcyc = s.mram.dev.pcyc := (congrArg (·.2.1) h.persist).trans (congrArg DevRec.pcyc dev)
  have on : (startInstant why u).start.power = .on := congrArg (fun k : Trunk => k.still.start.power) trunk
  have journal : (startInstant why u).mram.journal = u.mram.journal := congrArg (fun k : Trunk => k.still.mram.journal) trunk
  obtain ⟨loop, sol, stn, clk, mtr, ntime, keys, hst, ports, moor, man⟩ := h.blank
  refine ⟨⟨still (·.start.power), (still (·.start.stage)).trans (congrArg Start.stage h.start),
      (still (·.start.step)).trans (congrArg Start.step h.start), (still (·.start.adopted)).trans (congrArg Start.adopted h.start),
      (still (·.start.warn)).trans (congrArg Start.warn h.start)⟩, ?_, ?_, fun room => ?_, fun n hn => ?_, ⟨?_, fun n => ?_⟩, ?_, ?_, ?_, ?_⟩
  · exact (still (·.start.cause)).trans (congrArg (fun b : Bool => if b = true then Cause.powerFail else why) marks)
  · exact (congrArg (fun q : Still => q.mram.dev.pcyc) (settle_still _)).trans ((startInstant_pcyc why u).trans (by rw [pcyc]))
  · have optime : (settle (startInstant why u)).jrn.optime = (startInstant why u).jrn.optime := by
      rw [settle_jrn on images, settleEvents_optime]
    have room' : ∀ k, topKey u.mram.journal = some k → k / 16 < (startInstant why u).jrn.optime.toNat + 1000 := by
      intro k hk
      rw [← optime]
      exact room k ((congrArg topKey (still (·.mram.journal))).trans hk)
    have anchored := (h.anchored why room').settleEvents
    have payload : anchorPayload v = anchorPayload s :=
      congrArg (fun c : Cal => if c.osf then (0 : DWord) else BitVec.ofNat 64 (c.now.secs * 32768 + c.now.sub)) cal
    rw [settle_jrn on images, ← payload]
    exact anchored.2
  · rw [settle_scan_forces _ images]
    exact startInstant_forces why u hn
  · exact (congrArg (fun k : Trunk => k.scan.data) settled).trans (congrArg Scan.data h.scan)
  · refine (congrArg (fun k : Trunk => k.runs n) settled).trans ?_
    show (Store.get ({} : Task) u.scan.tasks n).run = none
    rw [h.scan]
    rfl
  · exact (still (·.fio.loaded)).trans h.loaded
  · refine (still (·.tide)).trans (h.tide.trans ?_)
    rw [show u.tide.coastCycles = v.tide.coastCycles from congrArg (·.2.2.2.1) h.persist,
      show u.tide.coastEntries = v.tide.coastEntries from congrArg (·.2.2.2.2) h.persist, coast.1, coast.2]
  · exact ⟨(congrArg Trunk.loop settled).trans loop, (congrArg Trunk.sol settled).trans sol, (congrArg Trunk.stn settled).trans stn,
      (still (·.clk)).trans clk, (still (·.mtr)).trans mtr, (still (·.ntime)).trans ntime, (still (·.keys)).trans keys,
      (still (·.hst)).trans hst, (still (·.ports)).trans ports, (still (·.moor)).trans moor, (still (·.man)).trans man⟩
  · exact (still (·.cal)).trans ((congrArg (·.2.2.1) h.persist).trans cal)

end Sys2Proof.Machine
end

section
/-! SUPPORT. Host restarts, and the starts of power-up, RESET_N and the watchdog (04 R83, R102, R104). -/

namespace Sys2Proof.Machine

open Sys2Proof

/-! ## The flush before a host restart (04 R106) -/

theorem writeRec_persist (s : State) (r : JRec) : (writeRec s r).1.persist = s.persist := by
  unfold writeRec
  extract_lets put
  split
  · rfl
  · split <;> rfl

theorem writeAll_persist (l : List JRec) (s : State) : (writeAll l s).1.persist = s.persist := by
  induction l generalizing s with
  | nil => rfl
  | cons r l ih => exact (ih _).trans (writeRec_persist s r)

theorem flushJournal_persist (s : State) : (flushJournal s).persist = s.persist := by
  unfold flushJournal
  extract_lets l u
  split
  · exact writeAll_persist l u
  · rfl

/-- A sealed retained copy is the one of its place; the draft ends (10 R294). -/
theorem endRetained_eq (s : State) : ∃ a b n d, endRetained s = s.updMram fun m =>
    { m with ret0 := a, ret1 := b, retNew := n, retDraft := d } := by
  unfold endRetained
  split
  · exact ⟨s.mram.ret0, s.mram.ret1, s.mram.retNew, s.mram.retDraft, rfl⟩
  · rename_i r _
    cases h : s.mram.retNew with
    | true =>
      refine ⟨some { r with optime := s.jrn.optime }, s.mram.ret1, false, none, ?_⟩
      simp only [sealRetained, State.updMram, h, if_true]
    | false =>
      refine ⟨s.mram.ret0, some { r with optime := s.jrn.optime }, true, none, ?_⟩
      simp only [sealRetained, State.updMram, h, Bool.false_eq_true, if_false]

theorem beginRetained_eq (s : State) : ∃ a b d, beginRetained s = s.updMram fun m => { m with ret0 := a, ret1 := b, retDraft := d } := by
  cases h : s.mram.retNew with
  | true =>
    refine ⟨none, s.mram.ret1, some (retainedNow s), ?_⟩
    simp only [beginRetained, State.updMram, h, if_true]
  | false =>
    refine ⟨s.mram.ret0, none, some (retainedNow s), ?_⟩
    simp only [beginRetained, State.updMram, h, Bool.false_eq_true, if_false]

theorem endRetained_persist (s : State) : (endRetained s).persist = s.persist := by
  obtain ⟨a, b, n, d, e⟩ := endRetained_eq s
  rw [e]
  rfl

theorem completeFlush_persist (time : Nat) (s : State) : (completeFlush time s).persist = s.persist :=
  (endRetained_persist (flushJournal s)).trans (flushJournal_persist s)

theorem beginRetained_persist (s : State) : (beginRetained s).persist = s.persist := by
  obtain ⟨a, b, d, e⟩ := beginRetained_eq s
  rw [e]
  rfl

theorem beginFlush_persist (s : State) : (beginFlush s).persist = s.persist := by
  unfold beginFlush
  extract_lets a b
  have cut : b.persist = s.persist := (persist_of_uncut (cutOff_uncut (abandonScans a))).trans rfl
  split
  · exact (beginRetained_persist b).trans cut
  · exact cut

theorem takeFirst_still (s : State) : (takeFirst s).still = s.still := by
  unfold takeFirst
  split
  · exact sendLink_still ..
  · rfl

/-- A host restart begins, behind its flush, on a reset die (04 R104). -/
theorem hostRestart_starts (why : Cause) (s : State) : ∃ u, BareDie s u ∧ u.fio.applied = 0 ∧ hostRestart why s = startInstant why u := by
  have persist : (settleEvents (takeFirst s)).persist = s.persist := persist_of_still ((settleEvents_still _).trans (takeFirst_still s))
  refine ⟨_, bareDie_bare ?_, rfl, rfl⟩
  rw [completeFlush_persist, beginFlush_persist]
  exact persist

theorem startInstant_fio (cause : Cause) (s : State) : (startInstant cause s).fio = s.fio :=
  congrArg (fun k : Trunk => k.still.fio) (startInstant_trunk cause s)

/-- A host restart has begun at t0, its watchdog restarts uncounted and its outputs off (04 R83, R102). -/
theorem restarted_hostRestart {why : Cause} (host : why = .hostWarm ∨ why = .hostCold ∨ why = .hostDefault) {s v : State}
    (base : v.mram.dev = s.mram.dev ∧ v.cal = s.cal)
    (coast : v.tide.coastCycles = s.tide.coastCycles ∧ v.tide.coastEntries = s.tide.coastEntries) :
    Restarted why s (settle (hostRestart why v)) ∧ (settle (hostRestart why v)).mram.dev.wdog = []
      ∧ (settle (hostRestart why v)).fio.applied = 0 := by
  obtain ⟨u, bare, off, eq⟩ := hostRestart_starts why v
  have cold : ¬(why = .powerOn ∧ s.pins.vin = false) := by
    rintro ⟨rfl, -⟩
    simp only [reduceCtorEq, or_self] at host
  rw [eq]
  refine ⟨bare.restarted base ⟨?_, ?_⟩, ?_, ?_⟩
  · rw [if_neg cold, coast.1]
  · rw [if_neg cold, coast.2]
  · exact (congrArg (fun q : Still => q.mram.dev.wdog) (settle_still _)).trans (startInstant_wdog host u)
  · rw [settle_fio, startInstant_fio, off]

/-! ## Starts (04 R83) -/

theorem givesOver_clearSent (s : State) : givesOver (clearSent s) = givesOver s := by
  obtain ⟨sent, held, seq, e⟩ := clearSent_eq s
  rw [e]
  rfl

/-- A reset that gives over leaves a reset die, whose I/O dies keep every output as it stands (14 R413). -/
theorem resetGiving_bare (s : State) : BareDie s (resetGiving s) ∧ (resetGiving s).fio.kept = givesOver s
    ∧ (resetGiving s).fio.applied = if givesOver s then s.fio.applied else 0 := by
  have bare : BareDie s (resetDie (takeFirst s)) :=
    bareDie_bare ((persist_of_uncut (cutOff_uncut _)).trans (persist_of_still (takeFirst_still s)))
  unfold resetGiving
  extract_lets t
  cases givesOver s with
  | true => exact ⟨{ bare with }, rfl, rfl⟩
  | false => exact ⟨bare, rfl, rfl⟩

theorem powerUp_tide (s : State) : (powerUp s).tide.coastCycles = (if s.pins.vin = false then 0 else s.tide.coastCycles)
    ∧ (powerUp s).tide.coastEntries = if s.pins.vin = false then 0 else s.tide.coastEntries := by
  unfold powerUp
  cases s.pins.vin <;> exact ⟨rfl, rfl⟩

theorem powerUp_uncut (s : State) : (powerUp s).mram = s.mram ∧ (powerUp s).cal = s.cal ∧ (powerUp s).pins = s.pins := by
  unfold powerUp
  split <;> exact ⟨rfl, rfl, rfl⟩

theorem resetDie_pins (s : State) : (resetDie s).pins = s.pins := congrArg Uncut.pins (cutOff_uncut s)

/-- Power-up with RESET_N released is a start; with RESET_N low the reset is held (02 R56; 04 R83). -/
theorem restarted_startOrHold (s : State) :
    (s.pins.resetN = true → Restarted .powerOn s (settle (startOrHold (clearSent s))) ∧ (settle (startOrHold (clearSent s))).fio.applied = 0)
    ∧ (s.pins.resetN = false → (settle (startOrHold (clearSent s))).start.power = .held
      ∧ (settle (startOrHold (clearSent s))).fio.applied = 0) := by
  obtain ⟨mram, cal, pins⟩ := powerUp_uncut (clearSent s)
  have resetN : (resetDie (powerUp (clearSent s))).pins.resetN = s.pins.resetN :=
    congrArg Pins.resetN ((resetDie_pins _).trans (pins.trans (clearSent_pins s)))
  refine ⟨fun high => ?_, fun low => ?_⟩
  · have run : startOrHold (clearSent s)
        = startInstant .powerOn ((resetDie (powerUp (clearSent s))).updPins fun p => { p with vin := true }) :=
      if_pos (resetN.trans high)
    have bare : BareDie (powerUp (clearSent s)) ((resetDie (powerUp (clearSent s))).updPins fun p => { p with vin := true }) :=
      { bareDie_resetDie (powerUp (clearSent s)) with }
    obtain ⟨cycles, entries⟩ := powerUp_tide (clearSent s)
    rw [run]
    refine ⟨bare.restarted ⟨by rw [mram]; rfl, by rw [cal]; rfl⟩ ⟨?_, ?_⟩, ?_⟩
    · rw [cycles]
      exact ite_congr (propext ⟨fun h => ⟨rfl, h⟩, And.right⟩) (fun _ => rfl) fun _ => rfl
    · rw [entries]
      exact ite_congr (propext ⟨fun h => ⟨rfl, h⟩, And.right⟩) (fun _ => rfl) fun _ => rfl
    · rw [settle_fio, startInstant_fio]
      rfl
  · have run : startOrHold (clearSent s)
        = ((resetDie (powerUp (clearSent s))).updPins fun p => { p with vin := true }).updStart fun x => { x with power := .held } :=
      if_neg (by rw [resetN, low]; exact Bool.false_ne_true)
    rw [run, settle_start, settle_fio]
    exact ⟨rfl, rfl⟩

/-- Settles O22: every start begins on a reset die. -/
theorem startsBeginAtT0 : Obligations.StartsBeginAtT0 := by
  intro s
  refine ⟨fun off => ?_, fun held vin => ?_, fun on => ?_⟩
  · have run : vinValid (clearSent s) = startOrHold (clearSent s) := by
      have same : (clearSent s).start.power = s.start.power := rfl
      obtain h | h := off
      all_goals rw [vinValid, same, h]
    obtain ⟨high, low⟩ := restarted_startOrHold s
    exact ⟨fun h => .of_act rfl (run ▸ high h), fun h => .of_act rfl (run ▸ low h)⟩
  · have run : resetRelease (clearSent s) = startInstant s.start.cause ((clearSent s).updPins fun p => { p with resetN := true }) :=
      if_pos ⟨held, vin⟩
    refine .of_act rfl ?_
    rw [run]
    have trunk := startInstant_trunk s.start.cause ((clearSent s).updPins fun p => { p with resetN := true })
    refine ⟨?_, ?_, ?_⟩
    · rw [settle_start]
      exact congrArg (fun k : Trunk => k.still.start.power) trunk
    · rw [settle_start]
      exact congrArg (fun k : Trunk => k.still.start.cause) trunk
    · exact (congrArg (fun q : Still => q.mram.dev.pcyc) (settle_still _)).trans (startInstant_pcyc ..)
  · obtain ⟨bare, kept, applied⟩ := resetGiving_bare (clearSent s)
    rw [givesOver_clearSent] at kept applied
    refine ⟨.of_actOn rfl on ?_, fun path => ⟨.of_key (k := 0xB0A7) (f := hostRestart .hostWarm) rfl on ?_,
      .of_key (k := 0xB0A7) (f := hostRestart .hostCold) rfl on ?_, .of_key (k := 0xB0A7) (f := hostRestart .hostDefault) rfl on ?_⟩⟩
    · refine ⟨bare.restarted ⟨rfl, rfl⟩ ⟨rfl, rfl⟩, ?_, ?_⟩
      · rw [settle_fio, watchdogExpiry, startInstant_fio, kept]
      · rw [settle_fio, watchdogExpiry, startInstant_fio, applied]
        rfl
    · exact restarted_hostRestart (.inl rfl) ⟨rfl, rfl⟩ ⟨rfl, rfl⟩
    · exact restarted_hostRestart (.inr (.inl rfl)) ⟨rfl, rfl⟩ ⟨rfl, rfl⟩
    · exact restarted_hostRestart (.inr (.inr rfl)) ⟨rfl, rfl⟩ ⟨rfl, rfl⟩

end Sys2Proof.Machine
end

section
/-! SUPPORT. Clocks: monitors, the switch of references, power modes and the frequency measurement (19 R532 to R536). -/

namespace Sys2Proof.Machine

open Sys2Proof

/-- A command that changes the clock block alone. -/
theorem gives_clk {i : Instr} {s : State} (h : Calm s) {g : State → State} {k : Clk} (e : exec i s = actOn s g)
    (run : g (clearSent s) = (clearSent s).updClk fun _ => k) :
    Gives i s fun t => t.clk = k ∧ t.start = s.start ∧ t.cal = s.cal ∧ t.tide = s.tide ∧ t.ntime = s.ntime ∧ t.fio = s.fio
      ∧ t.flash = s.flash := by
  refine .of_actOn e h.on ?_
  rw [run, settle_clk, settle_start, settle_cal, settle_tide, settle_ntime, settle_fio, settle_flash]
  exact ⟨rfl, rfl, rfl, rfl, rfl, rfl, rfl⟩

/-- An armed monitor that trips opens its loops (R532). -/
theorem gives_clkMonTrip {s : State} (h : Calm s) (c : MonClock) (armed : s.clk.armed = true) :
    Gives (.clkMonTrip c) s fun t =>
      t.clk.opened = s.clk.opened ||| tripLoops c ∧ t.clk.lock = s.clk.lock &&& ~~~ tripLoops c ∧ t.clk.trips = satInc s.clk.trips
      ∧ t.clk.trip = putBit s.clk.trip (tripBit c) true ∧ t.clk.us = s.clk.us ∧ t.evt.pend.getLsbD 9 = true := by
  refine .of_actOn rfl h.on ?_
  have run : monitorTrip c (clearSent s) = raise 9 ((clearSent s).updClk fun k =>
      { k with trip := putBit k.trip (tripBit c) true, tripHeld := putBit k.tripHeld (tripBit c) true
               trips := satInc k.trips, opened := k.opened ||| tripLoops c, lock := k.lock &&& ~~~ tripLoops c
               qual := if c = .xtal1 then putBit k.qual 2 false else k.qual }) := if_pos armed
  rw [run, settle_clk]
  exact ⟨rfl, rfl, rfl, rfl, rfl, Calm.pend (by exact ⟨h.clear.on, h.clear.images⟩) (raisedIn_raise ..)⟩

/-- SLEEP and DEEP hold at stage 1 alone (R534). -/
theorem gives_powerMode_outside {s : State} (h : Calm s) (p : Path) (stage : s.start.stage ≠ 1) :
    (Gives (.sleep p 0xD7E5) s fun t => t.clk = s.clk ∧ t.start = s.start ∧ t.cal = s.cal ∧ t.tide = s.tide ∧ t.ntime = s.ntime
      ∧ t.fio = s.fio ∧ t.flash = s.flash)
    ∧ Gives (.deep p 0xD7E5) s fun t => t.clk = s.clk ∧ t.start = s.start ∧ t.cal = s.cal ∧ t.tide = s.tide ∧ t.ntime = s.ntime
      ∧ t.fio = s.fio ∧ t.flash = s.flash := by
  refine ⟨gives_clk h rfl (if_neg stage), gives_clk h rfl (if_neg ?_)⟩
  rw [Bool.and_eq_true, decide_eq_true_eq]
  exact fun both => stage both.1

/-- Settles O43: each command of the clocks changes its part of their block, and a loop that fails restarts the device. -/
theorem clockCommands : Obligations.ClockCommands := by
  intro s p h clk k
  refine ⟨fun c armed => ?_, fun opened qual => gives_clk h rfl (if_pos ?_), fun c i hi relocking => ?_,
    fun qual => gives_clk h rfl (if_pos qual), fun stage => gives_clk h rfl (if_pos stage),
    fun stage empty off => gives_clk h rfl (if_pos ?_), gives_powerMode_outside h p, fun w mode => ⟨fun en => ?_, fun dis => ?_⟩,
    fun e => gives_clk h rfl rfl, fun idle gate => gives_clk h rfl (if_neg ?_),
    fun busy => ⟨fun n => gives_clk h rfl (if_pos busy), gives_clk h rfl (if_pos busy)⟩⟩
  · intro hit
    have loops : hit = tripLoops c := rfl
    clear_value hit
    subst loops
    exact gives_clkMonTrip h c armed
  · exact Bool.and_eq_true_iff.2 ⟨decide_eq_true opened, qual⟩
  · refine .of_actOn rfl h.on ?_
    have run : loopFails c (clearSent s) = hostRestart .hostWarm (raise 10 ((clearSent s).updClk fun k =>
        { k with fail := putBit k.fail i true, lock := putBit k.lock i false })) := by
      rw [loopFails, hi]
      exact if_pos relocking
    rw [run]
    refine (restarted_hostRestart (why := .hostWarm) (.inl rfl) ?_ ?_).1
    · exact ⟨rfl, rfl⟩
    · exact ⟨rfl, rfl⟩
  · exact Bool.and_eq_true_iff.2 ⟨decide_eq_true stage, Bool.and_eq_true_iff.2 ⟨Option.isNone_iff_eq_none.2 empty, beq_iff_eq.2 off⟩⟩
  · exact gives_clk h rfl (if_pos (Bool.and_eq_true_iff.2 ⟨decide_eq_true mode, en⟩))
  · refine gives_clk h rfl (if_neg ?_)
    rw [Bool.and_eq_true_iff]
    exact fun both => Bool.false_ne_true (dis.symm.trans both.2)
  · rw [Bool.or_eq_true_iff, beq_iff_eq]
    exact fun either => either.elim (fun b => Bool.false_ne_true (idle.symm.trans b)) gate

end Sys2Proof.Machine
end

section
/-! SUPPORT. The calendar: its second, alarms, settings and shifts (19 R539 to R548). -/

namespace Sys2Proof.Machine

open Sys2Proof

theorem enterSecond_eq (s : State) : ∃ m, enterSecond s = s.updMtr fun _ => m := by
  have saves : ∀ (b : Nat) (s : State), ∃ m, beginSave b s = s.updMtr fun _ => m := by
    intro b s
    unfold beginSave
    split
    · exact ⟨s.mtr, rfl⟩
    · split
      · exact ⟨_, rfl⟩
      · exact ⟨s.mtr, rfl⟩
  unfold enterSecond
  split
  · extract_lets b u
    split
    · obtain ⟨m, e⟩ := saves b u
      exact ⟨m, e.trans rfl⟩
    · exact ⟨_, rfl⟩
  · exact ⟨s.mtr, rfl⟩

/-- A calendar that takes an instant may begin a second, which concerns the meters alone (16 R457). -/
theorem putCalendar_eq (c : CalTime) (s : State) :
    ∃ m, putCalendar c s = (s.updCal fun k => { k with now := c }).updMtr fun _ => m := by
  unfold putCalendar
  extract_lets old u
  split
  · exact ⟨s.mtr, rfl⟩
  · exact enterSecond_eq u

/-- The calendar block with an accumulator, and an instant that may have wrapped (19 R540, R541). -/
def Cal.moves (c : Cal) (acc : BitVec 20) (x : CalTime × Bool) : Cal :=
  { c with acc := acc, now := x.1, osf := c.osf || x.2, cause := if x.2 then putBit c.cause 1 true else c.cause }

@[simp] theorem Cal.moves_now (c : Cal) (acc : BitVec 20) (x : CalTime × Bool) : (c.moves acc x).now = x.1 := rfl
@[simp] theorem Cal.moves_acc (c : Cal) (acc : BitVec 20) (x : CalTime × Bool) : (c.moves acc x).acc = acc := rfl
@[simp] theorem Cal.moves_osf (c : Cal) (acc : BitVec 20) (x : CalTime × Bool) : (c.moves acc x).osf = (c.osf || x.2) := rfl
@[simp] theorem Cal.moves_trim (c : Cal) (acc : BitVec 20) (x : CalTime × Bool) : (c.moves acc x).trim = c.trim := rfl
@[simp] theorem Cal.moves_bkpSecs (c : Cal) (acc : BitVec 20) (x : CalTime × Bool) : (c.moves acc x).bkpSecs = c.bkpSecs := rfl

/-- The calendar block after so many XTAL2 cycles and a shift (19 R541, R542). -/
def Cal.cycled (c : Cal) (k : Nat) (shift : Int) : Cal :=
  c.moves (c.trimmed k).2 (c.now.moved (((c.trimmed k).1 : Int) + shift))

/-- The trim of the calendar depends on its register and its accumulator alone. -/
theorem Cal.trimmed_of_same {c d : Cal} (acc : d.acc = c.acc) (trim : d.trim = c.trim) :
    (∀ k, d.trimmed k = c.trimmed k) ∧ ∀ left, d.cyclesTo left = c.cyclesTo left := by
  have same : ∀ k, d.trimmed k = c.trimmed k := fun k => by
    show ({ c with acc := d.acc, trim := d.trim } : Cal).trimmed k = _
    rw [acc, trim]
  exact ⟨same, fun left => by simp only [Cal.cyclesTo, same]⟩

theorem setOsf_eq (bit : Nat) (s : State) :
    ∃ e, setOsf bit s = (s.updCal fun c => { c with osf := true, cause := putBit c.cause bit true }).updEvt fun _ => e := by
  unfold setOsf
  extract_lets was u
  split
  · exact ⟨s.evt, rfl⟩
  · exact ⟨_, rfl⟩

theorem calendarCycles_eq (k : Nat) (shift : Int) (s : State) :
    ∃ m e, calendarCycles k shift s = ((s.updCal fun _ => s.cal.cycled k shift).updMtr fun _ => m).updEvt fun _ => e := by
  unfold calendarCycles
  rcases hn : s.cal.trimmed k with ⟨n, acc⟩
  rcases hc : s.cal.now.moved ((n : Int) + shift) with ⟨c, wrapped⟩
  obtain ⟨m, hm⟩ := putCalendar_eq c (s.updCal fun k => { k with acc := acc })
  have cycled : s.cal.cycled k shift = { s.cal with
      acc := acc, now := c, osf := s.cal.osf || wrapped, cause := if wrapped then putBit s.cal.cause 1 true else s.cal.cause } := by
    simp only [Cal.cycled, hn, hc, Cal.moves]
  have put : ∀ x e, s.cal.cycled k shift = x → ((s.updCal fun _ => x).updMtr fun _ => m).updEvt (fun _ => e)
      = ((s.updCal fun _ => s.cal.cycled k shift).updMtr fun _ => m).updEvt fun _ => e := fun x e h =>
    congrArg (fun x => ((s.updCal fun _ => x).updMtr fun _ => m).updEvt fun _ => e) h.symm
  simp only [hc, hm]
  cases wrapped with
  | true =>
    obtain ⟨e, he⟩ := setOsf_eq 1 (((s.updCal fun k => { k with acc := acc }).updCal fun k => { k with now := c }).updMtr fun _ => m)
    refine ⟨m, e, ?_⟩
    rw [if_pos rfl, he, ← put _ e (cycled.trans (by rw [Bool.or_true, if_pos rfl]))]
    rfl
  | false =>
    refine ⟨m, s.evt, ?_⟩
    rw [if_neg Bool.false_ne_true, ← put _ s.evt (cycled.trans (by rw [Bool.or_false, if_neg Bool.false_ne_true]))]
    rfl

@[simp] theorem anchor_start (sub : Nat) (s : State) : (anchor sub s).start = s.start := rfl
@[simp] theorem anchor_pair (sub : Nat) (s : State) : (anchor sub s).pair = s.pair := rfl
@[simp] theorem anchor_cal (sub : Nat) (s : State) : (anchor sub s).cal = s.cal := rfl

/-- A setting takes exactly its values, with its anchor and CAL_SET (19 R544). -/
theorem applySet_eq (c : CalTime) (sub : Nat) (s : State) : ∃ m, applySet c sub s = raise 19 (anchor sub
    ((s.updCal fun k => { k with osf := false, cause := 0, now := c, acc := 0, alm0Met := [], alm1Met := [] }).updMtr fun _ => m)) := by
  unfold applySet
  obtain ⟨m, hm⟩ := putCalendar_eq c (s.updCal fun k => { k with osf := false, cause := 0 })
  exact ⟨m, by rw [hm]; rfl⟩

theorem settle_applySet {s : State} (h : Calm s) (c : CalTime) (sub : Nat) : let t := settle (applySet c sub s)
    t.cal.now = c ∧ t.cal.acc = 0 ∧ t.cal.osf = false ∧ t.cal.cause = 0 ∧ t.cal.trim = s.cal.trim
      ∧ t.evt.pend.getLsbD 19 = true ∧ t.stg = s.stg ∧ t.start = s.start := by
  obtain ⟨m, e⟩ := applySet_eq c sub s
  rw [e]
  dsimp only
  rw [settle_cal, settle_stg, settle_start]
  exact ⟨rfl, rfl, rfl, rfl, rfl, Calm.pend (by exact ⟨h.on, h.images⟩) (raisedIn_raise ..), rfl, rfl⟩

theorem keepUtcOffset_eq (s : State) : ∃ o v, keepUtcOffset s = s.updCal fun c => { c with utcOff := o, utcValid := v } := by
  unfold keepUtcOffset
  split
  · split
    · exact ⟨s.cal.utcOff, s.cal.utcValid, rfl⟩
    · exact ⟨_, _, rfl⟩
  · exact ⟨s.cal.utcOff, s.cal.utcValid, rfl⟩

/-! ## The commands of the calendar -/

/-- The calendar enters a new second (R537, R540, R541). -/
theorem gives_calendarSecond (s : State) : Gives .calendarSecond s fun t =>
    t.cal.now = (s.cal.now.moved ((s.cal.trimmed (s.cal.cyclesTo (32768 - s.cal.now.sub))).1 : Int)).1
    ∧ t.cal.acc = (s.cal.trimmed (s.cal.cyclesTo (32768 - s.cal.now.sub))).2
    ∧ t.clk = s.clk ∧ t.start = s.start ∧ t.cal.trim = s.cal.trim
    ∧ t.cal.bkpSecs = (if s.cal.onVbat then satInc s.cal.bkpSecs else s.cal.bkpSecs)
    ∧ t.cal.osf = (s.cal.osf || (s.cal.now.moved ((s.cal.trimmed (s.cal.cyclesTo (32768 - s.cal.now.sub))).1 : Int)).2) := by
  refine .of_act rfl ?_
  obtain ⟨b, hb, counted⟩ : ∃ b, b = (if s.cal.onVbat then satInc s.cal.bkpSecs else s.cal.bkpSecs)
      ∧ (clearSent s).updCal (fun k : Cal => if k.onVbat then { k with bkpSecs := satInc k.bkpSecs } else k)
        = (clearSent s).updCal fun k => { k with bkpSecs := b } := by
    refine ⟨_, rfl, congrArg (fun c => { clearSent s with cal := c }) ?_⟩
    rw [clearSent_cal]
    dsimp only
    split <;> rfl
  unfold calendarSecond
  rw [counted]
  generalize hu : (clearSent s).updCal (fun k => { k with bkpSecs := b }) = u
  have cal : u.cal = { s.cal with bkpSecs := b } := by rw [← hu]; rfl
  obtain ⟨m, e, eq⟩ := calendarCycles_eq (u.cal.cyclesTo (32768 - u.cal.now.sub)) 0 u
  have start : u.clk = s.clk ∧ u.start = s.start := by
    rw [← hu]
    exact ⟨rfl, rfl⟩
  obtain ⟨trimmed, cycles⟩ := Cal.trimmed_of_same (c := s.cal) (d := u.cal) (by rw [cal]) (by rw [cal])
  have same : u.cal.now = s.cal.now ∧ u.cal.osf = s.cal.osf ∧ u.cal.trim = s.cal.trim ∧ u.cal.bkpSecs = b := by
    rw [cal]
    exact ⟨rfl, rfl, rfl, rfl⟩
  obtain ⟨clk, start⟩ := start
  obtain ⟨now, osf, trim, secs⟩ := same
  rw [eq]
  rw [settle_cal, settle_clk, settle_start, State.updEvt_cal, State.updMtr_cal, State.updCal_cal, State.updEvt_clk, State.updMtr_clk,
    State.updCal_clk, State.updEvt_start, State.updMtr_start, State.updCal_start, Cal.cycled, Cal.moves_now, Cal.moves_acc, Cal.moves_osf,
    Cal.moves_trim, Cal.moves_bkpSecs, now, cycles, trimmed, Int.add_zero, osf, trim, secs, clk, start, hb]
  exact ⟨rfl, rfl, rfl, rfl, rfl, rfl, rfl⟩

/-- An alarm's instant sets its flag and raises its event, once for a second (R547). -/
theorem gives_calAlarm {s : State} (h : Calm s) (b : Bool) (matched : alarmMatches s.cal b = true)
    (fresh : (alarmMet s.cal b).contains s.cal.now.secs = false) :
    Gives (.calAlarm b) s fun t => t.cal.alm = putBit s.cal.alm (if b then 1 else 0) true ∧ t.cal.now = s.cal.now
      ∧ t.evt.pend.getLsbD (if b then 17 else 16) = true := by
  refine .of_act rfl ?_
  have wakes : ∀ (w : WakeSource) (u : State), ∃ k, wakeUp w u = u.updClk fun _ => k := by
    intro w u
    unfold wakeUp
    split
    · exact ⟨_, rfl⟩
    · exact ⟨u.clk, rfl⟩
  have meets : (alarmMatches (clearSent s).cal b && !(alarmMet (clearSent s).cal b).contains (clearSent s).cal.now.secs) = true :=
    Bool.and_eq_true_iff.2 ⟨matched, congrArg (!·) fresh⟩
  unfold calendarAlarm
  rw [if_pos meets]
  extract_lets i u
  obtain ⟨k, e⟩ := wakes (if b then .alarm1 else .alarm0) (raise (16 + i) u)
  have raised : 16 + i = if b then 17 else 16 := by cases b <;> rfl
  have flag : i = if b then 1 else 0 := rfl
  rw [e, raised, settle_cal]
  have calm : Calm ((raise (if b then 17 else 16) u).updClk fun _ => k) := ⟨h.clear.on, h.clear.images⟩
  refine ⟨rfl, rfl, calm.pend (raisedIn_raise ..) (by cases b <;> decide)⟩

/-- A rejected calendar command (R546). -/
theorem gives_rejectCal {i : Instr} {s : State} (h : Calm s) {g : State → State} (e : exec i s = actOn s g)
    (run : g (clearSent s) = rejectCal (clearSent s)) :
    Gives i s fun t => t.cal = { s.cal with cmdRej := true } ∧ t.start = s.start := by
  refine .of_actOn e h.on ?_
  rw [run, settle_cal, settle_start]
  exact ⟨rfl, rfl⟩

/-- A setting that is applied (R544). -/
theorem gives_applySet {i : Instr} {s u : State} (h : Calm s) {g : State → State} (e : exec i s = actOn s g) {x : CalTime} {sub : Nat}
    (run : g (clearSent s) = applySet x sub u) (calm : Calm u)
    (same : u.cal.trim = s.cal.trim ∧ u.stg = s.stg ∧ u.start = s.start) :
    Gives i s fun t => t.cal.now = x ∧ t.cal.acc = 0 ∧ t.cal.osf = false ∧ t.cal.cause = 0 ∧ t.cal.trim = s.cal.trim
      ∧ t.evt.pend.getLsbD 19 = true ∧ t.stg = s.stg ∧ t.start = s.start := by
  refine .of_actOn e h.on ?_
  obtain ⟨trim, stg, start⟩ := same
  rw [run, ← trim, ← stg, ← start]
  exact settle_applySet calm x sub

/-- A shift of at most one second moves the calendar by it, in place of a step (R542). -/
theorem gives_shift {s : State} (h : Calm s) (p : Path) (near : s.cal.shift.toInt.natAbs ≤ 32768) :
    Gives (.shift p 0xCA1D) s fun t =>
      t.cal.now = (s.cal.now.moved (((s.cal.trimmed 1).1 : Int) + s.cal.shift.toInt)).1 ∧ t.cal.trim = s.cal.trim
      ∧ t.evt.pend.getLsbD 19 = true
      ∧ t.cal.osf = (s.cal.osf || (s.cal.now.moved (((s.cal.trimmed 1).1 : Int) + s.cal.shift.toInt)).2) := by
  have run : calendarShift (clearSent s) = raise 19 (anchor 2 (calendarCycles 1 s.cal.shift.toInt (clearSent s))) :=
    if_pos (by rw [clearSent_cal]; omega)
  refine .of_actOn (f := calendarShift) rfl h.on ?_
  obtain ⟨m, e, eq⟩ := calendarCycles_eq 1 s.cal.shift.toInt (clearSent s)
  have cal : (raise 19 (anchor 2 (calendarCycles 1 s.cal.shift.toInt (clearSent s)))).cal = s.cal.cycled 1 s.cal.shift.toInt := by
    rw [raise_cal, anchor_cal, eq, State.updEvt_cal, State.updMtr_cal, State.updCal_cal, clearSent_cal]
  have pend := Calm.pend (u := raise 19 (anchor 2 (calendarCycles 1 s.cal.shift.toInt (clearSent s))))
    (h.clear.of_same (by rw [raise_start, anchor_start, eq, State.updEvt_start, State.updMtr_start, State.updCal_start])
      (by rw [raise_pair, anchor_pair, eq, State.updEvt_pair, State.updMtr_pair, State.updCal_pair])) (raisedIn_raise ..)
  rw [run]
  refine ⟨?_, ?_, pend, ?_⟩
  · rw [settle_cal, cal, Cal.cycled, Cal.moves_now]
  · rw [settle_cal, cal, Cal.cycled, Cal.moves_trim]
  · rw [settle_cal, cal, Cal.cycled, Cal.moves_osf]

/-- An automatic setting applies to a calendar that has stopped (R548). -/
theorem automaticSet_stopped {s : State} {x : CalTime} {r : ClockSetup} (ptp : ptpCalendar s = some x) (stopped : s.cal.osf = true)
    (clock : s.man.bind (·.clock) = some r) (auto : r.auto = true) : automaticSet s = applySet x 3 (keepUtcOffset s) := by
  obtain ⟨o, v, e⟩ := keepUtcOffset_eq s
  have osf : (keepUtcOffset s).cal.osf = true := by
    rw [e]
    exact stopped
  simp only [automaticSet, clock, auto, ptp, osf, if_true, Bool.not_true, Bool.false_and, Bool.false_eq_true, if_false]

/-- Settles O44: each command of the calendar changes it as its settings, its shifts and its trim say. -/
theorem calendarCommands : Obligations.CalendarCommands := by
  intro s p
  refine ⟨gives_calendarSecond s, .of_act (f := fun s => setOsf 1 (s.updClk fun c => { c with qual := putBit c.qual 3 false })) rfl ?_,
    .of_act (f := setOsf 2) rfl ?_,
    .of_act (f := fun s => if s.cal.osf then { s with cal := {} } else raise 18 { s with cal := {} }) rfl ?_, fun b => .of_act (c := .vbatSwitch b) (f := fun s => s.updCal fun c =>
      { c with onVbat := b, bkpSwitch := if b && !c.onVbat then satInc c.bkpSwitch else c.bkpSwitch }) rfl ?_,
    fun b => .of_act (c := .vbatCheck b) (f := fun s => s.updCal fun c => { c with vbatLow := b }) rfl ?_,
       fun b h matched fresh => gives_calAlarm h b matched fresh, fun h => ?_⟩
  · obtain ⟨e, eq⟩ := setOsf_eq 1 ((clearSent s).updClk fun c => { c with qual := putBit c.qual 3 false })
    rw [eq, settle_cal, settle_clk, settle_start]
    exact ⟨rfl, rfl, rfl⟩
  · obtain ⟨e, eq⟩ := setOsf_eq 2 (clearSent s)
    rw [eq, settle_cal, settle_clk]
    exact ⟨rfl, rfl⟩
  · rw [settle_cal, settle_clk, settle_start]
    split <;> exact ⟨rfl, rfl, rfl⟩
  · exact settle_cal _
  · exact settle_cal _
  · obtain ⟨o, v, keep⟩ := keepUtcOffset_eq (clearSent s)
    have kept : Calm (keepUtcOffset (clearSent s)) := by
      rw [keep]
      exact ⟨h.clear.on, h.clear.images⟩
    have same : (keepUtcOffset (clearSent s)).cal.trim = s.cal.trim ∧ (keepUtcOffset (clearSent s)).stg = s.stg
        ∧ (keepUtcOffset (clearSent s)).start = s.start := by
      rw [keep]
      exact ⟨rfl, rfl, rfl⟩
    refine ⟨fun valid => gives_applySet h (g := calendarSet) rfl (if_pos valid) h.clear ⟨rfl, rfl, rfl⟩,
      fun invalid => gives_rejectCal h (g := calendarSet) rfl (if_neg (by rw [clearSent_stg, invalid]; exact Bool.false_ne_true)),
      gives_shift h p, fun far => gives_rejectCal h (g := calendarShift) rfl (if_neg (by rw [clearSent_cal]; omega)),
      fun x ptp => ⟨gives_applySet h (g := calendarPtpSet) (sub := 3) rfl ?_ kept same, fun adopted stopped r clock auto =>
        gives_applySet h rfl ((if_pos adopted).trans (automaticSet_stopped (s := clearSent s) ptp stopped clock auto)) kept same⟩,
      fun none => gives_rejectCal h (g := calendarPtpSet) rfl ?_, fun key wrong => ?_⟩
    · have ptp' : ptpCalendar (clearSent s) = some x := ptp
      rw [calendarPtpSet, ptp']
    · have none' : ptpCalendar (clearSent s) = .none := none
      rw [calendarPtpSet, none']
    · exact ⟨gives_rejectCal h rfl (congrFun (if_neg wrong) _), gives_rejectCal h rfl (congrFun (if_neg wrong) _),
        gives_rejectCal h rfl (congrFun (if_neg wrong) _)⟩

end Sys2Proof.Machine
end

section
/-! SUPPORT. Stages 0 and 1: HFIO, the safe pattern, the mooring record and the crystals (04 R83, R90, R99; 19 R529, R530). -/

namespace Sys2Proof.Machine

open Sys2Proof

/-- An update of the dies at stages 0 and 1 stands as the program in command wants it, whatever else follows that leaves the dies,
their channel table and the safe pattern alone. -/
theorem applied_early {u t : State} (early : u.start.stage < 2) (same : SameDies (applyOutputs u) t)
    (fio : t.fio.applied = (applyOutputs u).fio.applied ∧ t.fio.safe = (applyOutputs u).fio.safe) {n : Nat} (hn : n < 32) :
    t.fio.applied.getLsbD n = dieApplies t n (wantOut t n) := by
  obtain ⟨applied, safe⟩ := fio
  obtain ⟨m, d, e⟩ := applyOutputs_eq u
  have parts : (applyOutputs u).fio.loaded = u.fio.loaded ∧ (applyOutputs u).fio.safe = u.fio.safe := by
    rw [e]
    exact ⟨rfl, rfl⟩
  have want : wantOut t n = wantOut u n := wantOut_early early ⟨same.kept.2.2.trans parts.1, safe.trans parts.2⟩
    (same.start.trans (applyOutputs_start u)) (same.moor.trans (applyOutputs_moor u)) (same.man.trans (applyOutputs_man u)) n
  rw [want, same.dieApplies (fun _ _ => by rw [applied]), applied, applyOutputs_applied u hn]

theorem SameDies.trans {a b c : State} (h : SameDies a b) (k : SameDies b c) : SameDies a c := by
  constructor
  · exact ⟨k.groups.1.trans h.groups.1, k.groups.2.trans h.groups.2⟩
  · exact ⟨k.kept.1.trans h.kept.1, k.kept.2.1.trans h.kept.2.1, k.kept.2.2.trans h.kept.2.2⟩
  · exact ⟨k.wdog.1.trans h.wdog.1, k.wdog.2.trans h.wdog.2⟩
  · exact ⟨k.off.1.trans h.off.1, k.off.2.trans h.off.2⟩
  · exact k.start.trans h.start
  · exact k.moor.trans h.moor
  · exact k.man.trans h.man
  · exact k.pins.trans h.pins
  · exact ⟨k.pair.1.trans h.pair.1, k.pair.2.trans h.pair.2⟩

/-! ## The mooring record (04 R90) -/

/-- What the selection of a mooring record may change of a unit: its pointer and record, the safe pattern, MRAM, keys and raises. -/
structure Selects (s t : State) : Prop where
  start : t.start.stage = s.start.stage ∧ t.start.limited = s.start.limited ∧ t.start.power = s.start.power
  pair : t.pair = s.pair
  record : t.moor.record = s.moor.record ∧ t.start.mooring = s.start.mooring ∨ t.moor.record ≠ none

theorem Selects.of_same {s t : State} (start : t.start = s.start) (pair : t.pair = s.pair) (moor : t.moor = s.moor) : Selects s t :=
  ⟨by rw [start]; exact ⟨rfl, rfl, rfl⟩, pair, .inl ⟨congrArg Moor.record moor, congrArg Start.mooring start⟩⟩

theorem Selects.trans {a b c : State} (h : Selects a b) (k : Selects b c) : Selects a c := by
  refine ⟨⟨k.start.1.trans h.start.1, k.start.2.1.trans h.start.2.1, k.start.2.2.trans h.start.2.2⟩, k.pair.trans h.pair, ?_⟩
  obtain ⟨record, mooring⟩ | accepted := k.record
  · exact h.record.imp (fun h => ⟨record.trans h.1, mooring.trans h.2⟩) fun some => by rwa [record]
  · exact .inr accepted

theorem bootPointer_selects (fail : Option Nat) (s : State) : Selects s (bootPointer fail s) := by
  unfold bootPointer
  split
  · split
    · extract_lets u
      split <;> exact ⟨⟨rfl, rfl, rfl⟩, rfl, .inl ⟨rfl, rfl⟩⟩
    · exact ⟨⟨rfl, rfl, rfl⟩, rfl, .inl ⟨rfl, rfl⟩⟩
  · exact ⟨⟨rfl, rfl, rfl⟩, rfl, .inl ⟨rfl, rfl⟩⟩

theorem noteMoorSig_selects (g : Option (Bool × Bool)) (s : State) : Selects s (noteMoorSig g s) := by
  cases g <;> exact .of_same rfl rfl rfl

/-- An accepted record is in force. -/
theorem acceptMooring_selects (m : Mooring) (enrolled : Bool) (code : BitVec 2) (s : State) :
    Selects s (acceptMooring m enrolled code s) := by
  cases enrolled <;> exact ⟨⟨rfl, rfl, rfl⟩, rfl, .inr (Option.some_ne_none m)⟩

theorem takeFlashRecord_selects (m : Mooring) (enrolled : Bool) (s : State) : Selects s (takeFlashRecord m enrolled s) := by
  unfold takeFlashRecord
  extract_lets p u
  have cached : Selects s u := by
    show Selects s (if s.mram.moorCache = some m then s else s.updMram fun r => { r with moorCache := some m, safe := some p })
    split <;> exact .of_same rfl rfl rfl
  have safe : Selects u (u.updFio fun f => { f with safe := p }) := .of_same rfl rfl rfl
  exact (cached.trans safe).trans (acceptMooring_selects m enrolled 1 _)

theorem takeCache_selects (s : State) : Selects s (takeCache s) := by
  unfold takeCache
  split
  rename_i c g _
  extract_lets u
  split
  · exact (noteMoorSig_selects g s).trans (acceptMooring_selects _ _ 2 _)
  · exact noteMoorSig_selects g s

theorem selectMooring_selects (fail : Option Nat) (s : State) : Selects s (selectMooring fail s) := by
  have raised : ∀ u : State, Selects u (raise 2 u) := fun u => .of_same rfl rfl rfl
  have refused : ∀ u : State, Selects u (takeCache (raise 2 u)) := fun u => (raised u).trans (takeCache_selects _)
  unfold selectMooring
  split
  · exact takeCache_selects s
  · split
    rename_i f g _
    extract_lets u
    have noted : Selects s u := noteMoorSig_selects g s
    split
    · split
      · exact noted.trans (takeFlashRecord_selects ..)
      · exact noted.trans (refused _)
    · exact noted.trans (refused _)

/-- The state at which the mooring function has started, before its outputs are applied. -/
def moored (s : State) : State :=
  (setStage 1 ((startMooring s).updStart fun x => { x with step := if x.limited then 9 else 1 })).updPair fun p => { p with peerOkOut := true }

theorem enterMooring_eq (s : State) : enterMooring s = applyOutputs (moored s) := rfl

theorem moored_start {s : State} (stage : s.start.stage = 0) :
    (moored s).start = { s.start with stage := 1, step := if s.start.limited then 9 else 1 } := by
  have enters : ((startMooring s).updStart fun x => { x with step := if x.limited then 9 else 1 }).start.stage ≠ 1 := by
    show s.start.stage ≠ 1
    rw [stage]
    decide
  unfold moored
  rw [setStage, if_neg enters]
  rfl

theorem moored_pair (s : State) : (moored s).pair = { s.pair with peerOkOut := true } := by
  unfold moored setStage
  split <;> rfl

theorem moored_record (s : State) : (moored s).moor.record = s.moor.record := by
  unfold moored setStage
  split <;> rfl

theorem loadHostChannel_eq (s : State) : ∃ k, loadHostChannel s = s.updKeys fun _ => k := by
  unfold loadHostChannel
  split
  · split
    · exact ⟨_, rfl⟩
    · exact ⟨s.keys, rfl⟩
  · exact ⟨s.keys, rfl⟩

/-- MOORING_EVALUATE enters stage 1 under the mooring function (R83, R90, R99). -/
theorem gives_mooringEvaluate {s : State} (h : Calm s) (fail : Option Nat) (stage : s.start.stage = 0) :
    Gives (.mooringEvaluate fail) s fun t =>
      t.start.stage = 1 ∧ t.start.step = (if s.start.limited then 9 else 1) ∧ t.pair.peerOkOut = true
      ∧ (t.moor.record = none → t.start.mooring = s.start.mooring)
      ∧ ∀ n, n < 32 → t.fio.applied.getLsbD n = dieApplies t n (wantOut t n) := by
  refine .of_actOn rfl h.on ?_
  have run : mooringStage fail (clearSent s) = loadHostChannel (enterMooring (selectMooring fail (bootPointer fail
      ((clearSent s).updHst fun h => { h with flSize := BitVec.ofNat 12 Config.flashMiB })))) :=
    (if_pos stage).trans (congrArg loadHostChannel (if_pos stage))
  have selects := (bootPointer_selects fail ((clearSent s).updHst fun h => { h with flSize := BitVec.ofNat 12 Config.flashMiB })).trans
    (selectMooring_selects fail _)
  rw [run]
  generalize selectMooring fail (bootPointer fail ((clearSent s).updHst fun h => { h with flSize := BitVec.ofNat 12 Config.flashMiB })) = u
    at selects
  obtain ⟨⟨hStage, limited, power⟩, pair, record⟩ := selects
  have start := moored_start (s := u) (hStage.trans stage)
  obtain ⟨k, eq⟩ := loadHostChannel_eq (enterMooring u)
  rw [eq, enterMooring_eq]
  have images : ((applyOutputs (moored u)).updKeys fun _ => k).pair.images = [] := by
    rw [State.updKeys_pair, applyOutputs_pair, moored_pair, pair]
    exact h.clear.images
  have keyed : ∀ v : State, SameDies v (v.updKeys fun _ => k) := fun v =>
    ⟨⟨rfl, rfl⟩, ⟨rfl, rfl, rfl⟩, ⟨rfl, rfl⟩, ⟨rfl, rfl⟩, rfl, rfl, rfl, rfl, rfl, rfl⟩
  have same := (keyed (applyOutputs (moored u))).trans (.of_settle images)
  refine ⟨?_, ?_, ?_, fun none => ?_, fun n hn => applied_early ?_ same ?_ hn⟩
  · rw [settle_start, State.updKeys_start, applyOutputs_start, start]
  · rw [settle_start, State.updKeys_start, applyOutputs_start, start, limited]
    rfl
  · rw [settle_pair_peerOkOut _ images, State.updKeys_pair, applyOutputs_pair, moored_pair]
  · rw [settle_moor, State.updKeys_moor, applyOutputs_moor, moored_record] at none
    rw [settle_start, State.updKeys_start, applyOutputs_start, start]
    exact (record.resolve_right fun some => some none).2
  · rw [start]
    exact (by decide : (1 : BitVec 2) < 2)
  · rw [settle_fio]
    exact ⟨rfl, rfl⟩

/-! ## HFIO, the safe pattern and the crystals -/

/-- The safe pattern takes effect (R83, R90). -/
theorem gives_safePatternLoaded {s : State} (h : Calm s) (stage : s.start.stage = 0) (unloaded : s.fio.loaded = false) :
    Gives .safePatternLoaded s fun t => t.fio.loaded = true ∧ t.fio.safe = s.mram.safe.getD 0 ∧ t.start = s.start
      ∧ ∀ n, n < 32 → t.fio.applied.getLsbD n = dieApplies t n (wantOut t n) := by
  refine .of_actOn rfl h.on ?_
  have run : loadSafe (clearSent s) = applyOutputs ((endKept (clearSent s)).updFio fun f =>
      { f with loaded := true, safe := s.mram.safe.getD 0 }) :=
    if_pos ⟨stage, by rw [clearSent_fio, unloaded]; rfl⟩
  rw [run]
  generalize hu : ((endKept (clearSent s)).updFio fun f => { f with loaded := true, safe := s.mram.safe.getD 0 }) = u
  obtain ⟨start, images, loaded, safe⟩ : u.start = s.start ∧ u.pair.images = [] ∧ u.fio.loaded = true
      ∧ u.fio.safe = s.mram.safe.getD 0 := by
    rw [← hu]
    exact ⟨rfl, h.clear.images, rfl, rfl⟩
  obtain ⟨m, d, e⟩ := applyOutputs_eq u
  have settled : (applyOutputs u).pair.images = [] := by rw [applyOutputs_pair, images]
  refine ⟨?_, ?_, ?_, fun n hn => applied_early (by rw [start, stage]; decide) (.of_settle settled) ?_ hn⟩
  · rw [settle_fio, e, ← loaded]
    rfl
  · rw [settle_fio, e, ← safe]
    rfl
  · rw [settle_start, applyOutputs_start, start]
  · rw [settle_fio]
    exact ⟨rfl, rfl⟩

/-- XTAL2 is judged: it is qualified, or the calendar stands with CAL_OSF set (19 R530, R539). -/
theorem judgeXtal2_eq (ok : Bool) (s : State) : ∃ c e, judgeXtal2 ok s
    = ((s.updClk fun k => { k with qual := putBit k.qual 3 ok }).updCal fun _ => c).updEvt (fun _ => e)
      ∧ (ok = false → c.osf = true) ∧ (ok = true → c = s.cal) := by
  cases ok with
  | true => exact ⟨s.cal, s.evt, rfl, nofun, fun _ => rfl⟩
  | false =>
    obtain ⟨e, he⟩ := setOsf_eq 1 (s.updClk fun c => { c with qual := putBit c.qual 3 false })
    exact ⟨{ s.cal with osf := true, cause := putBit s.cal.cause 1 true }, _, by rw [judgeXtal2, if_neg Bool.false_ne_true, he]; rfl,
      fun _ => rfl, nofun⟩

theorem startNtime_eq (s : State) : ∃ n, n.started = true ∧ startNtime s = s.updNtime fun _ => n := by
  unfold startNtime
  split
  · exact ⟨{ s.ntime with started := true, sec := 0, ns := 0, frac := 0, utcValid := false }, rfl, rfl⟩
  · exact ⟨{ s.ntime with
      started := true, sec := BitVec.ofInt 48 ((s.cal.now.secs : Int) + s.cal.utcOff.toInt), ns := 0, frac := 0
      set := true, utcValid := s.cal.utcValid, utcOff := if s.cal.utcValid then s.cal.utcOff else 0 }, rfl, rfl⟩

/-- XTAL_QUALIFIED at the crystals' step or in the hold of a restart limit: the loops lock and NTIME starts (R99). -/
theorem gives_xtalQualified {s : State} (h : Calm s) (ok : Bool) (at_ : atCrystals s = true) : Gives (.xtalQualified ok) s fun t =>
    t.start = { s.start with step := if s.start.step = 9 then 9 else 2 }
    ∧ t.clk = { s.clk with qual := putBit (putBit s.clk.qual 3 ok) 2 true, lock := 7, armed := true } ∧ t.ntime.started = true
    ∧ (ok = false → t.cal.osf = true) ∧ (ok = true → t.cal = s.cal) := by
  refine .of_actOn rfl h.on ?_
  obtain ⟨c, e, judged, stopped, stands⟩ := judgeXtal2_eq ok (clearSent s)
  obtain ⟨n, j, started, run⟩ : ∃ (n : Ntime) (j : Jrn), n.started = true ∧ xtalQualified ok (clearSent s)
      = ((((judgeXtal2 ok (clearSent s)).updClk fun c => { c with qual := putBit c.qual 2 true, lock := 7, armed := true }).updJrn
        fun _ => j).updStart fun x => { x with step := if x.step = 9 then 9 else 2 }).updNtime fun _ => n := by
    obtain ⟨n, started, hn⟩ := startNtime_eq ((((judgeXtal2 ok (clearSent s)).updClk fun c =>
      { c with qual := putBit c.qual 2 true, lock := 7, armed := true }).updJrn fun j => { j with sub := j.sub / 1000 }).updStart fun x =>
      { x with step := if x.step = 9 then 9 else 2 })
    exact ⟨n, _, started, (if_pos at_).trans hn⟩
  rw [run, judged, settle_start, settle_clk, settle_ntime, settle_cal]
  exact ⟨rfl, rfl, started, stopped, stands⟩

theorem atCrystals_one {s : State} (stage : s.start.stage = 1) (step : s.start.step = 1) : atCrystals s = true := by
  rw [atCrystals, stage, step]
  rfl

/-- Settles O24: each event up to the boot of the firmware takes the start its step. -/
theorem stagesZeroAndOne : Obligations.StagesZeroAndOne := by
  intro s h
  refine ⟨.of_actOn rfl h.on ?_, gives_safePatternLoaded h, fun fail stage => gives_mooringEvaluate h fail stage,
    fun ok stage step unqualified => ?_, fun ok stage step => ⟨?_, ?_⟩⟩
  · exact settle_clk _
  · have at_ : atCrystals s = true := by
      simp only [atCrystals, stage, step, unqualified, BEq.rfl, Bool.not_false, Bool.and_self, Bool.or_true]
    obtain ⟨t, run, start, clk, ntime, -, -⟩ := gives_xtalQualified h ok at_
    refine ⟨t, run, ?_, ?_, ?_, ntime⟩
    · rw [start, step, if_pos rfl, ← step]
    · rw [clk]
    · rw [clk, getLsbD_putBit_all, if_pos ⟨rfl, by decide⟩]
  · obtain ⟨t, run, start, clk, ntime, stopped, stands⟩ := gives_xtalQualified h ok (atCrystals_one stage step)
    refine ⟨t, run, ?_, ?_, ?_, ?_, ntime, stopped, stands⟩
    · rw [start, step]
      rfl
    all_goals rw [clk]
  · refine .of_actOn rfl h.on ?_
    have run : xtalRetry ok (clearSent s) = judgeXtal2 ok (clearSent s) := if_pos (atCrystals_one stage step)
    obtain ⟨c, e, judged, stopped, stands⟩ := judgeXtal2_eq ok (clearSent s)
    rw [run, judged, settle_start, settle_clk, settle_cal]
    exact ⟨rfl, rfl, stopped, stands⟩

end Sys2Proof.Machine
end

section
/-! SUPPORT. A warning that is none (04 R105), on an edge with a raise left undone. -/

namespace Sys2Proof.Machine

open Sys2Proof

/-- A running unit with a raise of source 0 (STAGE) left undone, which the routing makes a trigger of task 1. -/
def undone : State :=
  { start := { power := .on }
    evt := { edge := [(0, 0)], routes := some [{ journal := false, pair := false, irq := 0, severity := 0, task := some 1 }] } }

/-- The end of the warning's edge performs the raise, and triggers the task. -/
theorem undone_triggers : ((settle (clearSent undone)).task 1).trig = true := by decide

/-- Refutes O23: a supply at or above the threshold is no warning, but the end of its edge performs a raise that the state had left
undone, and the trigger of its task changes the scan block. -/
theorem not_supplyLossAndFlush : ¬ Obligations.SupplyLossAndFlush := by
  intro h
  obtain ⟨-, -, -, -, above, -, -⟩ := h undone
  obtain ⟨t, run, -, -, scan, -⟩ := above 0x1FFF false ⟨rfl, rfl⟩ (by decide)
  have final : settle (clearSent undone) = t := Host.Outcome.next.inj ((show exec (.pfailWarn 0x1FFF false) undone
    = .next (settle (clearSent undone)) from rfl).symm.trans run)
  have trig := undone_triggers
  rw [final, State.task, scan] at trig
  cases trig

end Sys2Proof.Machine
end

section
/-! SUPPORT. A refused reply, and a task whose interval is not over, on an edge with a raise left undone. -/

namespace Sys2Proof.Machine

open Sys2Proof

/-- Refutes O53: a ferry reply that no station's port takes leaves the scan block only where no raise of the edge is left undone. -/
theorem not_stationExchange : ¬ Obligations.StationExchange := by
  intro h
  obtain ⟨-, untaken, -⟩ := h undone ⟨rfl, rfl⟩
  obtain ⟨⟨t, run, -, scan⟩, -⟩ := untaken 0 [] rfl
  have final : settle (clearSent undone) = t := Host.Outcome.next.inj ((show exec (.ferryReply 0 []) undone
    = .next (settle (clearSent undone)) from rfl).symm.trans run)
  have trig := undone_triggers
  rw [final, State.task, scan] at trig
  cases trig

/-- An event task whose latest freeze was less than its minimum interval ago. -/
def early : TaskCfg :=
  { num := 1, prio := 1, trigger := 2, spec := false, entry := 0, await := none, frameBase := 0, worst := 1, minInterval := 1000,
    imageSize := 1, storeSize := 1, deltaSize := 1 }

/-- The undone raise beside that task. -/
def undoneEarly : State :=
  { undone with
    man := some { tasks := { tasks := [early] } }
    scan := { tasks := [(1, { frozen := some 0 })] } }

theorem undoneEarly_triggers : ((settle (clearSent undoneEarly)).task 1).trig = true := by decide

/-- Refutes O59: a dispatch before the minimum interval is over leaves the scan block only where no raise of the edge is left undone. -/
theorem not_scansStartAndEnd : ¬ Obligations.ScansStartAndEnd := by
  intro h
  obtain ⟨-, tasks, -⟩ := h undoneEarly ⟨rfl, rfl⟩
  obtain ⟨-, waits, -⟩ := tasks 1 early rfl rfl
  obtain ⟨t, run, scan, -⟩ := waits (by decide)
  have final : settle (clearSent undoneEarly) = t := Host.Outcome.next.inj ((show exec (.eventTaskDispatch 1) undoneEarly
    = .next (settle (clearSent undoneEarly)) from rfl).symm.trans run)
  have trig := undoneEarly_triggers
  rw [final, State.task, scan] at trig
  cases trig

end Sys2Proof.Machine
end

section
/-! SUPPORT. The flash commands (03 R78; 20 R569, R570). -/

namespace Sys2Proof.Machine

open Sys2Proof

/-! ## Reading ranges of a canonical store -/

theorem Store.walk_length {α : Type} (d : α) (a n : Nat) (m : Store α) : (Store.walk d a n m).length = n := by
  induction n generalizing a m with
  | zero => cases m <;> rfl
  | succ n ih =>
    cases m with
    | nil => exact congrArg (· + 1) (ih _ _)
    | cons e r =>
      rw [Store.walk]
      split <;> exact congrArg (· + 1) (ih _ _)

/-- A read of an address below every entry. -/
theorem Store.get_below {α : Type} {d : α} {m : Store α} {a : Nat} (h : ∀ e ∈ m, a < e.1) : Store.get d m a = d := by
  induction m with
  | nil => rfl
  | cons e r ih =>
    rw [Store.get, if_neg (Nat.ne_of_gt (h e (List.mem_cons_self ..)))]
    exact ih fun e he => h e (List.mem_cons_of_mem _ he)

/-- A walk over rising entries reads the store. -/
theorem Store.walk_get {α : Type} (d : α) (n : Nat) {m : Store α} {a i : Nat} (rising : Store.rising none m = true)
    (low : ∀ e ∈ m, a ≤ e.1) (hi : i < n) : (Store.walk d a n m)[i]? = some (Store.get d m (a + i)) := by
  induction n generalizing a i m with
  | zero => exact absurd hi (Nat.not_lt_zero _)
  | succ n ih =>
    cases m with
    | nil =>
      cases i with
      | zero => rfl
      | succ i =>
        rw [Store.walk, List.getElem?_cons_succ, ih rising nofun (Nat.lt_of_succ_lt_succ hi)]
        rfl
    | cons e r =>
      obtain ⟨rising', above⟩ := (Store.rising_cons e.1 e.2 r).1 rising
      rw [Store.walk]
      split
      · rename_i here
        cases i with
        | zero => rw [List.getElem?_cons_zero, Nat.add_zero, Store.get, if_pos here]
        | succ i =>
          rw [List.getElem?_cons_succ, ih rising' (fun e he => here ▸ above e he) (Nat.lt_of_succ_lt_succ hi), Store.get,
            if_neg (by omega), Nat.add_right_comm, Nat.add_assoc]
      · rename_i later
        have lower : ∀ e' ∈ e :: r, a < e'.1 := by
          intro e' he
          have first : a < e.1 := Nat.lt_of_le_of_ne (low e (List.mem_cons_self ..)) (Ne.symm later)
          obtain rfl | he := List.mem_cons.1 he
          · exact first
          · exact Nat.lt_trans first (above e' he)
        cases i with
        | zero => rw [List.getElem?_cons_zero, Nat.add_zero, Store.get_below lower]
        | succ i =>
          rw [List.getElem?_cons_succ, ih rising lower (Nat.lt_of_succ_lt_succ hi), Nat.succ_add, Nat.add_succ]

/-- Dropping the entries below an address drops nothing that reads from there on see. -/
theorem Store.get_dropWhile {α : Type} (d : α) (m : Store α) {a b : Nat} (h : a ≤ b) :
    Store.get d (m.dropWhile fun e => decide (e.1 < a)) b = Store.get d m b := by
  induction m with
  | nil => rfl
  | cons e r ih =>
    by_cases below : e.1 < a
    · rw [List.dropWhile_cons, if_pos (decide_eq_true below), ih, Store.get, if_neg (by omega)]
    · rw [List.dropWhile_cons, if_neg (by simpa using below)]

theorem Store.rising_dropWhile {α : Type} (m : Store α) (a : Nat) (rising : Store.rising none m = true) :
    Store.rising none (m.dropWhile fun e => decide (e.1 < a)) = true
      ∧ ∀ e ∈ m.dropWhile fun e => decide (e.1 < a), a ≤ e.1 := by
  induction m with
  | nil => exact ⟨rising, nofun⟩
  | cons e r ih =>
    obtain ⟨rising', above⟩ := (Store.rising_cons e.1 e.2 r).1 rising
    by_cases below : e.1 < a
    · rw [List.dropWhile_cons, if_pos (decide_eq_true below)]
      exact ih rising'
    · rw [List.dropWhile_cons, if_neg (by simpa using below)]
      refine ⟨rising, fun e' he => ?_⟩
      obtain rfl | he := List.mem_cons.1 he
      · omega
      · have := above e' he
        omega

/-- The bytes that a flash read gives are those of its addresses (03 R58). -/
theorem flashRead_get {s : State} (wf : Memory.wf 0xFF s.flash = true) (a n : Nat) {i : Nat} (hi : i < n) :
    (flashRead s a n)[i]? = some (Store.get 0xFF s.flash (a + i)) := by
  obtain ⟨rising, low⟩ := Store.rising_dropWhile s.flash a (Bool.and_eq_true_iff.1 wf).1
  rw [flashRead, Store.walk_get 0xFF n rising low hi, Store.get_dropWhile 0xFF s.flash (Nat.le_add_right a i)]

theorem flashRead_length (s : State) (a n : Nat) : (flashRead s a n).length = n := Store.walk_length ..

theorem leBytes_length (n v : Nat) : (leBytes n v).length = n := by
  induction n generalizing v with
  | zero => rfl
  | succ n ih => exact congrArg (· + 1) (ih _)

/-! ## Effects of the commands -/

/-- A programming takes every erased byte to its value (R570). -/
theorem programmed_get (o n : Bytes) (s : State) (h : o.length = n.length) :
    (programmed o n s).1.length = n.length ∧ ∀ i : Nat, o[i]? = some 0xFF → (programmed o n s).1[i]? = n[i]? := by
  induction o generalizing n s with
  | nil =>
    rw [List.length_eq_zero_iff.1 h.symm]
    exact ⟨rfl, fun i hi => by cases hi⟩
  | cons x o ih =>
    cases n with
    | nil => exact absurd h (Nat.succ_ne_zero _)
    | cons y n =>
      rw [programmed]
      split
      rename_i b s' hb
      obtain ⟨len, get⟩ := ih n s' (Nat.succ.inj h)
      refine ⟨congrArg (· + 1) len, fun i hi => ?_⟩
      cases i with
      | zero =>
        rw [if_pos (Option.some.inj hi)] at hb
        cases hb
        rfl
      | succ i => exact get i hi

/-- A command that does not touch flash, its buffer or the start changes the flash registers alone. -/
theorem flashCommand_accepts {op : FlashOp} {m : Nat} {r : Byte} {s : State} (idle : s.hst.flBusy = false) (valid : r = 0) :
    flashCommand op m r s = s.updHst fun h =>
      { h with flReason := 0, flDone := false, flBusy := true, flOp := some op, flAt := h.flAddr.toNat, flCount := m } := by
  rw [flashCommand, if_neg (by rw [idle]; exact Bool.false_ne_true), if_pos valid]

theorem flashCommand_refuses {op : FlashOp} {m : Nat} {r : Byte} {s : State} (idle : s.hst.flBusy = false) (invalid : r ≠ 0) :
    flashCommand op m r s = s.updHst fun h => { h with flReason := r } := by
  rw [flashCommand, if_neg (by rw [idle]; exact Bool.false_ne_true), if_neg invalid]

theorem flashCommand_busy {op : FlashOp} {m : Nat} {r : Byte} {s : State} (busy : s.hst.flBusy = true) :
    flashCommand op m r s = s.updHst fun h => { h with flReason := 7 } := if_pos busy

/-- What a flash command shows of the registers, and leaves alone, from what it makes of their block. -/
theorem gives_flashCommand {i : Instr} {s : State} (h : Calm s) {g : State → State} (e : exec i s = actKey s 0xF1A5 0xF1A5 g)
    {f : Hst → Hst} (run : g (clearSent s) = (clearSent s).updHst f) {P : Hst → Prop} (shows : P (f s.hst))
    (keeps : (f s.hst).flBuf = s.hst.flBuf ∧ (f s.hst).spi = s.hst.spi) :
    Gives i s fun t => P t.hst ∧ t.flash = s.flash ∧ t.start = s.start ∧ t.hst.flBuf = s.hst.flBuf ∧ t.hst.spi = s.hst.spi := by
  refine .of_key e h.on ?_
  rw [run, settle_hst, settle_flash, settle_start]
  exact ⟨shows, rfl, rfl, keeps⟩

section Commands

variable {s : State} (h : Calm s) {i : Instr} {g : State → State} {op : FlashOp} {m : Nat} {r : Byte}
include h

theorem gives_flashAccepted (e : exec i s = actKey s 0xF1A5 0xF1A5 g) (run : g (clearSent s) = flashCommand op m r (clearSent s))
    (idle : s.hst.flBusy = false) (valid : r = 0) : Gives i s fun t =>
      t.hst.flBusy = true ∧ t.hst.flDone = false ∧ t.hst.flReason = 0 ∧ t.hst.flOp = some op ∧ t.hst.flAt = s.hst.flAddr.toNat
      ∧ t.hst.flCount = m ∧ t.flash = s.flash ∧ t.start = s.start ∧ t.hst.flBuf = s.hst.flBuf ∧ t.hst.spi = s.hst.spi := by
  obtain ⟨t, run', shows, keeps⟩ := gives_flashCommand h e (run.trans (flashCommand_accepts idle valid))
    (P := fun x => x.flBusy = true ∧ x.flDone = false ∧ x.flReason = 0 ∧ x.flOp = some op ∧ x.flAt = s.hst.flAddr.toNat ∧ x.flCount = m)
    ⟨rfl, rfl, rfl, rfl, rfl, rfl⟩ ⟨rfl, rfl⟩
  obtain ⟨busy, done, reason, hop, hat, count⟩ := shows
  exact ⟨t, run', busy, done, reason, hop, hat, count, keeps⟩

theorem gives_flashRefused (e : exec i s = actKey s 0xF1A5 0xF1A5 g) {r' : Byte} (run : g (clearSent s) = flashCommand op m r (clearSent s))
    (reason : s.hst.flBusy = false ∧ r = r' ∧ r' ≠ 0 ∨ s.hst.flBusy = true ∧ r' = 7) : Gives i s fun t =>
      t.hst.flReason = r' ∧ t.hst.flBusy = s.hst.flBusy ∧ t.hst.flOp = s.hst.flOp ∧ t.flash = s.flash ∧ t.start = s.start
      ∧ t.hst.flBuf = s.hst.flBuf ∧ t.hst.spi = s.hst.spi := by
  have refuses : flashCommand op m r (clearSent s) = (clearSent s).updHst fun x => { x with flReason := r' } := by
    obtain ⟨idle, rfl, bad⟩ | ⟨busy, rfl⟩ := reason
    · exact flashCommand_refuses idle bad
    · exact flashCommand_busy busy
  obtain ⟨t, run', shows, keeps⟩ := gives_flashCommand h e (run.trans refuses)
    (P := fun x => x.flReason = r' ∧ x.flBusy = s.hst.flBusy ∧ x.flOp = s.hst.flOp) ⟨rfl, rfl, rfl⟩ ⟨rfl, rfl⟩
  obtain ⟨why, busy, hop⟩ := shows
  exact ⟨t, run', why, busy, hop, keeps⟩

end Commands

/-- The reason of a READ or PROGRAM: 3 outside the ranges of R570, else what the change itself answers. -/
theorem rangeReason {a n : Nat} (r : Byte) :
    (a % 4 = 0 ∧ n % 4 = 0 ∧ 4 ≤ n ∧ n ≤ 4096 ∧ a + n ≤ Config.flashMiB * 2 ^ 20 → (if rangeInvalid a n then 3 else r) = r)
    ∧ (¬(a % 4 = 0 ∧ n % 4 = 0 ∧ 4 ≤ n ∧ n ≤ 4096 ∧ a + n ≤ Config.flashMiB * 2 ^ 20) → (if rangeInvalid a n then 3 else r) = 3) := by
  unfold rangeInvalid flashSize
  constructor
  · intro range
    exact if_neg (by rw [decide_eq_true_eq]; omega)
  · intro range
    exact if_pos (by rw [decide_eq_true_eq]; omega)

/-- The reason of an ERASE: 3 outside the sectors of R570, else what the change itself answers. -/
theorem sectorReason {a : Nat} {len : BitVec 13} (r : Byte) :
    let bad := decide (a % 65536 ≠ 0 ∨ len ≠ 0 ∨ flashSize < a + 65536)
    (a % 65536 = 0 ∧ len.toNat = 0 ∧ a + 65536 ≤ Config.flashMiB * 2 ^ 20 → (if bad then 3 else r) = r)
    ∧ (¬(a % 65536 = 0 ∧ len.toNat = 0 ∧ a + 65536 ≤ Config.flashMiB * 2 ^ 20) → (if bad then 3 else r) = 3) := by
  have zero : len ≠ 0 ↔ len.toNat ≠ 0 := not_congr BitVec.toNat_inj.symm
  simp only [zero]
  unfold flashSize
  constructor
  · intro sector
    exact if_neg (by rw [decide_eq_true_eq]; omega)
  · intro sector
    exact if_pos (by rw [decide_eq_true_eq]; omega)

/-! ## FLASH_DONE -/

theorem programmed_still (o n : Bytes) (s : State) : ∃ k, (programmed o n s).2 = { s with draws := k } := by
  induction o generalizing n s with
  | nil => exact ⟨s.draws, rfl⟩
  | cons x o ih =>
    cases n with
    | nil => exact ⟨s.draws, rfl⟩
    | cons y n =>
      rw [programmed]
      split
      rename_i b s' hb
      obtain ⟨k, e⟩ := ih n s'
      refine ⟨k, ?_⟩
      split at hb
      · cases hb
        exact e
      · cases hb
        exact e

/-- What a completed flash command changes: the flash in its range, the buffer, and the draws (R570). -/
theorem flashEffect_spec {s : State} (wf : Memory.wf 0xFF s.flash = true) (op : FlashOp) : let t := flashEffect op s
    t.start = s.start ∧ t.pair = s.pair
      ∧ (∀ x, x < s.hst.flAt ∨ s.hst.flAt + s.hst.flCount ≤ x → Store.get 0xFF t.flash x = Store.get 0xFF s.flash x)
      ∧ (op = .read → t.flash = s.flash
        ∧ ∀ i, i < s.hst.flCount → Store.get 0 t.hst.flBuf i = Store.get 0xFF s.flash (s.hst.flAt + i))
      ∧ (op = .erase → ∀ i, i < s.hst.flCount → Store.get 0xFF t.flash (s.hst.flAt + i) = 0xFF)
      ∧ (op = .program → ∀ i, i < s.hst.flCount → Store.get 0xFF s.flash (s.hst.flAt + i) = 0xFF →
        Store.get 0xFF t.flash (s.hst.flAt + i) = Store.get 0 s.hst.flBuf i) := by
  have length := flashRead_length s s.hst.flAt s.hst.flCount
  have read := fun (i : Nat) hi => flashRead_get wf s.hst.flAt s.hst.flCount (i := i) hi
  cases op with
  | read =>
    refine ⟨rfl, rfl, fun x _ => rfl, fun _ => ⟨rfl, fun i hi => ?_⟩, nofun, nofun⟩
    have inside := Store.get_setMany_inside 0 s.hst.flBuf 0 i (flashRead s s.hst.flAt s.hst.flCount) (length.symm ▸ hi)
    rw [Nat.zero_add] at inside
    exact inside.trans (Option.some.inj ((List.getElem?_eq_getElem (length.symm ▸ hi)).symm.trans (read i hi)))
  | erase =>
    refine ⟨rfl, rfl, fun x out => ?_, nofun, fun _ i hi => ?_, nofun⟩
    · exact (flashErase_get ..).trans (if_neg (by omega))
    · exact (flashErase_get ..).trans (if_pos (by omega))
  | program =>
    obtain ⟨k, e⟩ := programmed_still (flashRead s s.hst.flAt s.hst.flCount) (Store.getMany 0 s.hst.flBuf 0 s.hst.flCount) s
    have many : (Store.getMany 0 s.hst.flBuf 0 s.hst.flCount).length = s.hst.flCount := by
      rw [Store.getMany, List.length_map, List.length_range]
    obtain ⟨len, get⟩ := programmed_get (flashRead s s.hst.flAt s.hst.flCount) (Store.getMany 0 s.hst.flBuf 0 s.hst.flCount) s
      (length.trans many.symm)
    have run : flashEffect .program s = flashWrite s.hst.flAt
        (programmed (flashRead s s.hst.flAt s.hst.flCount) (Store.getMany 0 s.hst.flBuf 0 s.hst.flCount) s).1 { s with draws := k } := by
      rw [← e]
      rfl
    rw [run]
    refine ⟨rfl, rfl, fun x out => ?_, nofun, nofun, fun _ i hi erased => ?_⟩
    · exact Store.get_setMany_outside _ _ _ _ _ (by rw [len, many]; exact out)
    · refine (Store.get_setMany_inside _ _ _ _ _ (by rw [len, many]; exact hi)).trans ?_
      refine Option.some.inj ((List.getElem?_eq_getElem _).symm.trans ((get i ((read i hi).trans (congrArg some erased))).trans ?_))
      rw [Store.getMany, List.getElem?_map, List.getElem?_range hi, Option.map_some, Nat.zero_add]

/-- A flash command that fails leaves the flash outside its range (R570). -/
theorem flashTorn_spec (op : FlashOp) (s : State) : (flashTorn op s).start = s.start ∧ (flashTorn op s).pair = s.pair
    ∧ ∀ x, x < s.hst.flAt ∨ s.hst.flAt + s.hst.flCount ≤ x → Store.get 0xFF (flashTorn op s).flash x = Store.get 0xFF s.flash x := by
  have torn : ∀ k x, x < s.hst.flAt ∨ s.hst.flAt + s.hst.flCount ≤ x →
      Store.get 0xFF (Store.setMany 0xFF s.flash s.hst.flAt (leBytes s.hst.flCount k)) x = Store.get 0xFF s.flash x := fun k x out =>
    Store.get_setMany_outside _ _ _ _ _ (by rw [leBytes_length]; exact out)
  cases op with
  | read => exact ⟨rfl, rfl, fun _ _ => rfl⟩
  | program => exact ⟨rfl, rfl, torn _⟩
  | erase => exact ⟨rfl, rfl, torn _⟩

/-- The end of a flash command (R569). -/
theorem settle_flashEnds {u : State} (h : Calm u) (r : Byte) : let t := settle (flashEnds r u)
    t.hst = { u.hst with flOp := none, flBusy := false, flDone := true, flReason := r } ∧ t.evt.pend.getLsbD 22 = true
      ∧ t.start = u.start ∧ t.flash = u.flash := by
  dsimp only
  rw [settle_hst, settle_start, settle_flash]
  exact ⟨rfl, Calm.pend (by exact ⟨h.on, h.images⟩) (raisedIn_raise ..), rfl, rfl⟩

/-- Settles O37: a flash command is accepted in its ranges, and has its effect when it completes. -/
theorem flashCommands : Obligations.FlashCommands := by
  intro s p h wf a n keeps starts refuses range sector
  refine ⟨fun idle => ⟨fun hr => ?_, fun hr free => ?_, fun hr taken => ?_, fun hr free => ?_, fun hr => ⟨?_, ?_⟩, fun hr => ?_⟩,
    fun busy => ⟨?_, ?_, ?_⟩, fun op hop => ⟨.of_actOn rfl h.on ?_, .of_actOn rfl h.on ?_⟩⟩
  · exact gives_flashAccepted h rfl (g := flashReadCommand) rfl idle ((rangeReason 0).1 hr)
  · exact gives_flashAccepted h rfl (g := flashProgramCommand) rfl idle (((rangeReason _).1 hr).trans free)
  · exact gives_flashRefused h rfl (g := flashProgramCommand) rfl (.inl ⟨idle, (rangeReason _).1 hr, taken⟩)
  · exact gives_flashAccepted h rfl (g := flashEraseCommand) rfl idle (((sectorReason _).1 hr).trans free)
  · exact gives_flashRefused h rfl (g := flashReadCommand) rfl (.inl ⟨idle, (rangeReason 0).2 hr, by decide⟩)
  · exact gives_flashRefused h rfl (g := flashProgramCommand) rfl (.inl ⟨idle, (rangeReason _).2 hr, by decide⟩)
  · exact gives_flashRefused h rfl (g := flashEraseCommand) rfl (.inl ⟨idle, (sectorReason _).2 hr, by decide⟩)
  · exact gives_flashRefused h rfl (g := flashReadCommand) rfl (.inr ⟨busy, rfl⟩)
  · exact gives_flashRefused h rfl (g := flashProgramCommand) rfl (.inr ⟨busy, rfl⟩)
  · exact gives_flashRefused h rfl (g := flashEraseCommand) rfl (.inr ⟨busy, rfl⟩)
  · have run : flashDone true (clearSent s) = flashEnds 0 (flashEffect op (clearSent s)) := by
      rw [flashDone, clearSent_hst, hop]
      rfl
    obtain ⟨start, pair, effect⟩ := flashEffect_spec (s := clearSent s) wf op
    obtain ⟨hst, pend, start', flash⟩ := settle_flashEnds (h.clear.of_same start (congrArg Pair.images pair)) 0
    rw [run, hst]
    refine ⟨rfl, rfl, rfl, rfl, pend, start'.trans start, ?_⟩
    dsimp only
    rw [flash]
    exact effect
  · have run : flashDone false (clearSent s) = flashEnds 4 (flashTorn op (clearSent s)) := by
      rw [flashDone, clearSent_hst, hop]
      rfl
    obtain ⟨start, pair, outside⟩ := flashTorn_spec op (clearSent s)
    obtain ⟨hst, pend, start', flash⟩ := settle_flashEnds (h.clear.of_same start (congrArg Pair.images pair)) 4
    rw [run, hst]
    refine ⟨rfl, rfl, rfl, pend, ?_⟩
    dsimp only
    rw [flash]
    exact outside

end Sys2Proof.Machine
end

section
/-! SUPPORT. The end of an edge on which one source is raised (17 R475 to R490). -/

namespace Sys2Proof.Machine

open Sys2Proof

/-! ## One raise -/

theorem performRaise_evt (s : State) (x : Nat × Nat) : (performRaise s x).evt =
    { s.evt with
      pend := putBit s.evt.pend x.1 true
      count := Store.upd 0 s.evt.count x.1 (· + 1)
      last := Store.set 0 s.evt.last x.1 (s.jrn.optime.setWidth 32)
      forward := if (routeOf s x.1).pair && s.isActive then s.evt.forward ++ [x] else s.evt.forward } := by
  unfold performRaise
  simp only []
  (repeat' split) <;> rfl

theorem updEvt_isActive (s : State) (f : Evt → Evt) : (s.updEvt f).isActive = s.isActive := rfl

theorem addRec_isActive (s : State) (r : NewRec) : (addRec r s).isActive = s.isActive := rfl

/-- What a trigger makes of its task (10 R277). -/
def Task.triggered (k : Task) : Task := if k.trig then { k with merged := satInc k.merged } else { k with trig := true }

theorem Task.triggered_trig (k : Task) : k.triggered.trig = true := by
  unfold Task.triggered
  split
  · assumption
  · rfl

/-- A raise triggers the task that its route names, on the active unit (17 R481). -/
theorem performRaise_task (s : State) (x : Nat × Nat) (k : Nat) : (performRaise s x).task k =
    if (routeOf s x.1).task = some k ∧ s.isActive = true then (s.task k).triggered else s.task k := by
  unfold performRaise
  extract_lets r now s1 s2
  have hs2 : s2.scan = s.scan ∧ s2.isActive = s.isActive := by
    show (if (r.journal && !recordless x.1) = true then _ else s1).scan = _ ∧ State.isActive (if _ then _ else s1) = _
    split <;> exact ⟨rfl, rfl⟩
  obtain ⟨scan, active⟩ := hs2
  have task : ∀ j, s2.task j = s.task j := fun j => congrArg (fun c : Scan => Store.get ({} : Task) c.tasks j) scan
  have route : routeOf s x.1 = r := rfl
  rw [route, ← active, ← task k]
  clear_value s2 r
  split
  · rename_i j hj
    by_cases on : s2.isActive = true
    · rw [if_pos on]
      by_cases here : j = k
      · subst here
        rw [if_pos ⟨hj, on⟩]
        exact updTask_task ..
      · rw [if_neg fun e => here (Option.some.inj (hj.symm.trans e.1))]
        exact updTask_task_other (fun e => here e.symm) s2 _
    · rw [if_neg on, if_neg fun e => on e.2]
  · rename_i hj
    rw [hj]
    exact (if_neg fun e => nomatch e.1).symm

/-- The journal route adds its record to the edge (17 R484). -/
theorem performRaise_jrn_edge (s : State) (x : Nat × Nat) : (performRaise s x).jrn.edge =
    if (routeOf s x.1).journal && !recordless x.1 then s.jrn.edge ++ [routedRec (routeOf s x.1) x.1 x.2 false] else s.jrn.edge := by
  unfold performRaise
  simp only []
  (repeat' split) <;> rfl

/-! ## The end of the edge -/

/-- The end of an edge after the raise of one source: its records, the raise of JRN_OVERRUN where one was dropped, and the flush. -/
def closeRaise (n : Nat) (s : State) : State :=
  let recs := (s.jrn.edge.filter (!·.prog)).foldl placeRec [] ++ s.jrn.edge.filter (·.prog)
  let s := s.updJrn fun j => { j with edge := [] }
  let before := bufferCount s
  let urgent := urgentRecs s
  let (s, dropped) := createAll recs s
  let s := if dropped && !(n == 216 || false) then performRaise s (216, 0) else s
  if decide (urgent < urgentRecs s) || (decide (before < 1536) && decide (1536 ≤ bufferCount s)) then
    startFlush s
  else s

theorem Evt.eq_of_edges {e : Evt} (own : e.edge = []) (peer : e.edgePeer = []) : { e with edge := [], edgePeer := [] } = e := by
  cases e
  cases own
  cases peer
  rfl

theorem Jrn.eq_of_edge {j : Jrn} (h : j.edge = []) : { j with edge := [] } = j := by
  cases j
  cases h
  rfl

/-- The end of an edge with one raise, whatever records the edge has. -/
theorem settleEvents_raise_alone {s : State} (own : s.evt.edge = []) (peer : s.evt.edgePeer = []) (n sub : Nat) :
    settleEvents (raise n s sub) = closeRaise n (performRaise s (n, sub)) := by
  have edge : (raise n s sub).evt.edge = [(n, sub)] := by
    show s.evt.edge ++ [(n, sub)] = _
    rw [own, List.nil_append]
  have emptied : (raise n s sub).updEvt (fun e => { e with edge := [], edgePeer := [] }) = s :=
    congrArg (fun e => { s with evt := e }) (Evt.eq_of_edges own peer)
  have peer' : (raise n s sub).evt.edgePeer = [] := peer
  unfold settleEvents
  rw [emptied, edge, peer', if_neg (by simp only [List.isEmpty_cons, Bool.false_and, Bool.false_eq_true, not_false_eq_true])]
  rfl

theorem settleEvents_raise {s : State} (h : Settled s) (n sub : Nat) :
    settleEvents (raise n s sub) = closeRaise n (performRaise s (n, sub)) := settleEvents_raise_alone h.1 h.2.1 n sub

theorem closeRaise_of_none {s : State} (n : Nat) (h : s.jrn.edge = []) : closeRaise n s = s := by
  have emptied : (s.updJrn fun j => { j with edge := [] }) = s := congrArg (fun j => { s with jrn := j }) (Jrn.eq_of_edge h)
  have full : ¬(decide (bufferCount s < 1536) && decide (1536 ≤ bufferCount s)) = true := by
    rw [Bool.and_eq_true, decide_eq_true_eq, decide_eq_true_eq]
    omega
  have urgent : ¬decide (urgentRecs s < urgentRecs s) = true := by
    rw [decide_eq_true_eq]
    exact Nat.lt_irrefl _
  unfold closeRaise
  rw [emptied, h]
  exact if_neg (by rw [Bool.or_eq_true]; exact not_or.2 ⟨urgent, full⟩)

/-- The state that the edge leaves after its one record. -/
theorem createRec_scan (s : State) (r : NewRec) : (createRec s r).1.scan = s.scan := by
  unfold createRec
  split
  · rfl
  · extract_lets k q
    split <;> rfl

theorem startFlush_scan (s : State) : (startFlush s).scan = s.scan := by
  unfold startFlush
  split <;> rfl

theorem closeRaise_of_one {s : State} {n : Nat} {r : NewRec} (h : s.jrn.edge = [r]) (hr : r.prog = false) : closeRaise n s =
    let u := createRec (s.updJrn fun j => { j with edge := [] }) r
    let v := if u.2 && !(n == 216) then performRaise u.1 (216, 0) else u.1
    if decide (urgentRecs s < urgentRecs v) || (decide (bufferCount s < 1536) && decide (1536 ≤ bufferCount v)) then startFlush v
    else v := by
  have recs : ((s.jrn.edge.filter (!·.prog)).foldl placeRec [] ++ s.jrn.edge.filter (·.prog)) = [r] := by
    rw [h, List.filter_cons_of_pos (by rw [hr]; rfl), List.filter_cons_of_neg (by rw [hr]; exact Bool.false_ne_true)]
    rfl
  unfold closeRaise
  rw [recs]
  simp only [createAll, Bool.or_false]
  rfl

/-- After a raise, the router and the tasks stand as its routing leaves them, but for the raise of JRN_OVERRUN where its record
was dropped (17 R475, R490). -/
theorem settleEvents_raise_spec {s : State} (h : Settled s) (n sub : Nat) : ∃ u : State,
    u.evt = (performRaise s (n, sub)).evt ∧ u.scan = (performRaise s (n, sub)).scan
      ∧ ∃ v, (v = u ∨ n ≠ 216 ∧ v = performRaise u (216, 0))
        ∧ (settleEvents (raise n s sub)).evt = v.evt ∧ (settleEvents (raise n s sub)).scan = v.scan := by
  rw [settleEvents_raise h]
  have edge := performRaise_jrn_edge s (n, sub)
  rw [h.2.2, List.nil_append] at edge
  by_cases recorded : ((routeOf s n).journal && !recordless n) = true
  · rw [if_pos recorded] at edge
    rw [closeRaise_of_one edge rfl]
    have flushed : ∀ (c : Bool) v, (if c then startFlush v else v).evt = v.evt ∧ (if c then startFlush v else v).scan = v.scan := by
      intro c v
      split
      · exact ⟨startFlush_evt v, startFlush_scan v⟩
      · exact ⟨rfl, rfl⟩
    generalize performRaise s (n, sub) = w
    refine ⟨(createRec (w.updJrn fun j => { j with edge := [] }) (routedRec (routeOf s n) n sub false)).1, createRec_evt _ _,
      createRec_scan _ _, _, ?_, (flushed _ _).1, (flushed _ _).2⟩
    split
    · rename_i dropped
      exact .inr ⟨by simpa using (Bool.and_eq_true_iff.1 dropped).2, rfl⟩
    · exact .inl rfl
  · rw [if_neg recorded] at edge
    rw [closeRaise_of_none n edge]
    exact ⟨_, rfl, rfl, _, .inl rfl, rfl, rfl⟩

/-- A raise leaves the counts, times and pending bits of the other sources, and shows its own. -/
theorem performRaise_spec (s : State) (x : Nat × Nat) : let t := performRaise s x
    Store.get 0 t.evt.count x.1 = Store.get 0 s.evt.count x.1 + 1
      ∧ Store.get 0 t.evt.last x.1 = s.jrn.optime.setWidth 32
      ∧ (∀ m, m ≠ x.1 → Store.get 0 t.evt.count m = Store.get 0 s.evt.count m
        ∧ Store.get 0 t.evt.last m = Store.get 0 s.evt.last m ∧ t.evt.pend.getLsbD m = s.evt.pend.getLsbD m)
      ∧ (∀ y ∈ s.evt.forward, y ∈ t.evt.forward) := by
  dsimp only
  rw [performRaise_evt]
  refine ⟨Store.get_upd_same (0 : Word) s.evt.count x.1 (· + 1), Store.get_set_same (0 : Word) s.evt.last x.1 _, fun m hm => ⟨?_, ?_, ?_⟩, fun y hy => ?_⟩
  · exact Store.get_upd_other (0 : Word) s.evt.count x.1 m (· + 1) (Ne.symm hm)
  · exact Store.get_set_other (0 : Word) s.evt.last x.1 m _ (Ne.symm hm)
  · rw [getLsbD_putBit, decide_eq_false (fun e => hm e.2), Bool.or_false]
  · dsimp only
    split
    · exact List.mem_append_left _ hy
    · exact hy

theorem performRaise_jrn_rest (s : State) (x : Nat × Nat) : (performRaise s x).jrn = { s.jrn with edge := (performRaise s x).jrn.edge } := by
  obtain ⟨e, he⟩ := performRaise_jrn s x
  rw [he]

/-- A record that no other takes in, with room in the buffer, is appended to it (17 R486 to R488). -/
theorem createRec_appends {s : State} {r : NewRec} (fresh : mergeLast s.jrn.optime r s.jrn.buffer = none) (room : bufferCount s < 2048)
    (key : (nextKey s.jrn).1 ≤ s.jrn.optime.toNat + 1000) : (createRec s r).2 = false
      ∧ (createRec s r).1.jrn.taken = s.jrn.taken ∧ (createRec s r).1.jrn.buffer = s.jrn.buffer ++ [{
          optime := BitVec.ofNat 48 (nextKey s.jrn).1, pcyc := s.jrn.pcyc, sev := BitVec.ofNat 3 r.sev, peer := r.peer
          order := BitVec.ofNat 4 (nextKey s.jrn).2, source := BitVec.ofNat 8 r.source, sub := BitVec.ofNat 8 r.sub
          code := BitVec.ofNat 16 r.code, payload := r.payload }] := by
  unfold createRec
  rw [fresh]
  dsimp only
  rw [if_neg (show ¬(s.jrn.optime.toNat + 1000 < (nextKey s.jrn).1 ∨ 2048 ≤ bufferCount s) by omega)]
  exact ⟨rfl, rfl, rfl⟩

/-- The buffer after one record of a severity below 6 that does not fill it to a flush (17 R488). -/
theorem closeRaise_buffer {s : State} {n : Nat} {r : NewRec} (edge : s.jrn.edge = [r]) (prog : r.prog = false) (sev : r.sev < 6)
    (fresh : mergeLast s.jrn.optime r s.jrn.buffer = none) (room : bufferCount s < 2048) (calm : bufferCount s ≠ 1535)
    (key : (nextKey s.jrn).1 ≤ s.jrn.optime.toNat + 1000) : (closeRaise n s).jrn.buffer = s.jrn.buffer ++ [{
      optime := BitVec.ofNat 48 (nextKey s.jrn).1, pcyc := s.jrn.pcyc, sev := BitVec.ofNat 3 r.sev, peer := r.peer
      order := BitVec.ofNat 4 (nextKey s.jrn).2, source := BitVec.ofNat 8 r.source, sub := BitVec.ofNat 8 r.sub
      code := BitVec.ofNat 16 r.code, payload := r.payload }] := by
  obtain ⟨kept, taken, buffer⟩ := createRec_appends (s := s.updJrn fun j => { j with edge := [] }) (r := r) fresh room key
  rw [closeRaise_of_one edge prog]
  generalize createRec (s.updJrn fun j => { j with edge := [] }) r = u at kept taken buffer
  have urgent : urgentRecs u.1 = urgentRecs s := by
    unfold urgentRecs
    rw [buffer, List.filter_append, List.filter_cons_of_neg (by
      rw [decide_eq_true_eq, BitVec.toNat_ofNat, Nat.mod_eq_of_lt (by omega)]
      omega), List.filter_nil, List.append_nil]
    rfl
  have count : bufferCount u.1 = bufferCount s + 1 := by
    unfold bufferCount
    rw [buffer, taken, List.length_append]
    exact Nat.add_right_comm ..
  have quiet : ¬(decide (urgentRecs s < urgentRecs u.1) || (decide (bufferCount s < 1536) && decide (1536 ≤ bufferCount u.1))) = true := by
    rw [urgent, count, Bool.or_eq_true, Bool.and_eq_true, decide_eq_true_eq, decide_eq_true_eq, decide_eq_true_eq]
    omega
  dsimp only
  rw [kept, if_neg (c := (false && !n == 216) = true) Bool.false_ne_true, if_neg quiet]
  exact buffer

/-- Settles O39: a raise is counted, pends, and is routed. -/
theorem raisesAreRouted : Obligations.RaisesAreRouted := by
  intro s n sub settled hn r t
  obtain ⟨u, evt, scan, v, overrun, evt', scan'⟩ := settleEvents_raise_spec settled n sub
  obtain ⟨count, last, others, forwards⟩ := performRaise_spec s (n, sub)
  have routes : (performRaise s (n, sub)).evt.routes = s.evt.routes := by rw [performRaise_evt]
  have later : ∀ m, m ≠ 216 → Store.get 0 v.evt.count m = Store.get 0 u.evt.count m
      ∧ Store.get 0 v.evt.last m = Store.get 0 u.evt.last m ∧ v.evt.pend.getLsbD m = u.evt.pend.getLsbD m := by
    intro m hm
    obtain rfl | ⟨_, rfl⟩ := overrun
    · exact ⟨rfl, rfl, rfl⟩
    · exact (performRaise_spec u (216, 0)).2.2.1 m hm
  have own : Store.get 0 v.evt.count n = Store.get 0 u.evt.count n ∧ Store.get 0 v.evt.last n = Store.get 0 u.evt.last n := by
    obtain rfl | ⟨other, -⟩ := overrun
    · exact ⟨rfl, rfl⟩
    · exact ⟨(later n other).1, (later n other).2.1⟩
  refine ⟨settleEvents_pend _ n hn (.inl (raisedIn_raise ..)), settleEvents_settled _, ?_, ?_, fun m hm overrun' => ?_, fun pair on => ?_,
    fun k hk on => ?_, fun quiet => ?_, fun journal records sev fresh room calm key => ?_⟩
  · show Store.get 0 (settleEvents (raise n s sub)).evt.count n = _
    rw [evt', own.1, evt]
    exact count
  · show Store.get 0 (settleEvents (raise n s sub)).evt.last n = _
    rw [evt', own.2, evt]
    exact last
  · show Store.get 0 (settleEvents (raise n s sub)).evt.count m = _ ∧ BitVec.getLsbD (settleEvents (raise n s sub)).evt.pend m = _
    rw [evt', (later m overrun').1, (later m overrun').2.2, evt]
    exact ⟨(others m hm).1, (others m hm).2.2⟩
  · show _ ∈ (settleEvents (raise n s sub)).evt.forward
    have here : (n, sub) ∈ u.evt.forward := by
      rw [evt, performRaise_evt]
      dsimp only
      rw [if_pos (Bool.and_eq_true_iff.2 ⟨pair, on⟩)]
      exact List.mem_append_right _ (List.mem_singleton_self _)
    rw [evt']
    obtain rfl | ⟨_, rfl⟩ := overrun
    · exact here
    · exact (performRaise_spec u (216, 0)).2.2.2 _ here
  · have task : t.task k = v.task k := congrArg (fun c : Scan => Store.get ({} : Task) c.tasks k) scan'
    have before : u.task k = (s.task k).triggered :=
      (congrArg (fun c : Scan => Store.get ({} : Task) c.tasks k) scan).trans ((performRaise_task ..).trans (if_pos ⟨hk, on⟩))
    have route : routeOf u 216 = routeOf s 216 := by
      unfold routeOf
      rw [evt, routes]
    rw [task]
    constructor
    · obtain rfl | ⟨_, rfl⟩ := overrun
      · rw [before]
        exact Task.triggered_trig _
      · rw [performRaise_task]
        split
        · exact Task.triggered_trig _
        · rw [before]
          exact Task.triggered_trig _
    · intro trig untasked
      have once : v.task k = u.task k := by
        obtain rfl | ⟨_, rfl⟩ := overrun
        · rfl
        · rw [performRaise_task, route, untasked]
          exact if_neg fun e => nomatch e.1
      rw [once, before, Task.triggered, if_pos trig]
  · show (settleEvents (raise n s sub)).jrn.buffer = _
    have edge : (performRaise s (n, sub)).jrn.edge = [] := by
      rw [performRaise_jrn_edge, settled.2.2]
      refine if_neg ?_
      obtain no | no := quiet
      · simp only [show (routeOf s n).journal = false from no, Bool.false_and, Bool.false_eq_true, not_false_eq_true]
      · simp only [no, Bool.not_true, Bool.and_false, Bool.false_eq_true, not_false_eq_true]
    rw [settleEvents_raise settled, closeRaise_of_none n edge, performRaise_jrn_rest]
  · show (settleEvents (raise n s sub)).jrn.buffer = _
    have edge : (performRaise s (n, sub)).jrn.edge = [routedRec r n sub false] := by
      rw [performRaise_jrn_edge, settled.2.2, List.nil_append]
      exact if_pos (by simp only [show (routeOf s n).journal = true from journal, records, Bool.not_false, Bool.and_true])
    have rest := performRaise_jrn_rest s (n, sub)
    have bufferCount' : bufferCount (performRaise s (n, sub)) = bufferCount s := by
      unfold bufferCount
      rw [rest]
    have nextKey' : nextKey (performRaise s (n, sub)).jrn = nextKey s.jrn := by rw [rest]; rfl
    rw [settleEvents_raise settled, closeRaise_buffer edge rfl sev (by rw [rest]; exact fresh) (Nat.lt_of_le_of_lt (Nat.le_of_eq bufferCount') room)
      (by rw [bufferCount']; exact calm) (by rw [nextKey', rest]; exact key), nextKey', rest]
    rfl

end Sys2Proof.Machine
end

section
/-! SUPPORT. The completion of a key command (18 R508, R512, R516, R518, R523, R526). -/

namespace Sys2Proof.Machine

open Sys2Proof

/-! ## What the end of an edge leaves of the device records -/

theorem settle_owner (s : State) : (settle s).mram.dev.owner = s.mram.dev.owner := congrArg (fun q : Still => q.mram.dev.owner) (settle_still s)
theorem settle_armed (s : State) : (settle s).mram.dev.armed = s.mram.dev.armed := congrArg (fun q : Still => q.mram.dev.armed) (settle_still s)
theorem settle_sealBlob (s : State) : (settle s).mram.dev.sealBlob = s.mram.dev.sealBlob := congrArg (fun q : Still => q.mram.dev.sealBlob) (settle_still s)
theorem settle_blobs (s : State) : (settle s).mram.blobs = s.mram.blobs := (settle_mram_parts s).2.2

theorem updPort_port (s : State) (n : Nat) (f : Port → Port) : (s.updPort n f).port n = f (s.port n) :=
  Store.get_upd_same ({} : Port) s.ports n f

theorem updPort_port_other {m n : Nat} (h : m ≠ n) (s : State) (f : Port → Port) : (s.updPort n f).port m = s.port m :=
  Store.get_upd_other ({} : Port) s.ports n m f (Ne.symm h)

/-- The events of a completed command raise on its edge alone. -/
theorem keyEvents_eq (e : KeyEffect) (s : State) : ∃ l, keyEvents e s = s.updEvt fun v => { v with edge := v.edge ++ l } := by
  have none : s = s.updEvt fun v => { v with edge := v.edge ++ [] } :=
    congrArg (fun l => { s with evt := { s.evt with edge := l } }) (List.append_nil s.evt.edge).symm
  cases e with
  | none => exact ⟨[], none⟩
  | blob => exact ⟨[(204, 0)], rfl⟩
  | install => exact ⟨[(204, 0)], rfl⟩
  | load => exact ⟨[(204, 0)], rfl⟩
  | arm => exact ⟨[], none⟩
  | fuse => exact ⟨[(205, 0)], rfl⟩

/-- What no effect of a key command changes. -/
theorem keyEffect_keeps (e : KeyEffect) (s : State) : let t := keyEffect e s
    t.start = s.start ∧ t.pair = s.pair ∧ t.flash = s.flash ∧ t.mram.journal = s.mram.journal ∧ t.keys.args = s.keys.args
      ∧ t.keys.out = s.keys.out := by
  cases e with
  | load b key =>
    dsimp only
    rw [keyEffect]
    split <;> exact ⟨rfl, rfl, rfl, rfl, rfl, rfl⟩
  | _ => exact ⟨rfl, rfl, rfl, rfl, rfl, rfl⟩

/-- KEY_COMMAND_DONE: what its job's effect leaves, the output, and the events. -/
theorem settle_keyDone {s : State} (h : Calm s) {j : KeyJob} (hj : s.keys.job = some j) : let u := keyEffect j.effect (clearSent s)
    let t := settle (keyDone (clearSent s))
    t.keys = { u.keys with job := none, done := true, keyIn := [], length := satNat 16 j.out.length
                           out := if j.out.isEmpty then s.keys.out else j.out }
      ∧ t.start = s.start ∧ t.flash = s.flash ∧ t.mram.journal = s.mram.journal ∧ t.fuses = u.fuses ∧ t.mram.blobs = u.mram.blobs
      ∧ t.ports = u.ports ∧ t.mram.dev.owner = u.mram.dev.owner ∧ t.mram.dev.armed = u.mram.dev.armed
      ∧ t.mram.dev.sealBlob = u.mram.dev.sealBlob
      ∧ ∀ n, n < 256 → raisedIn (keyEvents j.effect u).evt.edge n → t.evt.pend.getLsbD n = true := by
  intro u t
  obtain ⟨start, pair, flash, journal, args, out⟩ := keyEffect_keeps j.effect (clearSent s)
  obtain ⟨l, events⟩ := keyEvents_eq j.effect u
  have run : keyDone (clearSent s) = (keyEvents j.effect u).updKeys fun k =>
      { k with job := none, done := true, keyIn := [], length := satNat 16 j.out.length
               out := if j.out.isEmpty then k.out else j.out } := by
    rw [keyDone, clearSent_keys, hj]
  have calm : Calm ((keyEvents j.effect u).updKeys fun k =>
      { k with job := none, done := true, keyIn := [], length := satNat 16 j.out.length
               out := if j.out.isEmpty then k.out else j.out }) := by
    rw [events]
    exact h.clear.of_same start (congrArg Pair.images pair)
  have pends := fun n hn (raised : raisedIn (keyEvents j.effect u).evt.edge n) => calm.pend (n := n) raised hn
  subst t
  rw [run]
  refine ⟨?_, ?_, ?_, ?_, ?_, ?_, ?_, ?_, ?_, ?_, pends⟩
  · rw [settle_keys, events, State.updKeys_keys, State.updEvt_keys, out]
    rfl
  · rw [settle_start, events]
    exact start
  · rw [settle_flash, events]
    exact flash
  · rw [(settle_mram_parts _).1, events]
    exact journal
  · rw [settle_fuses, events]
    rfl
  · rw [settle_blobs, events]
    rfl
  · rw [settle_ports, events]
    rfl
  · rw [settle_owner, events]
    rfl
  · rw [settle_armed, events]
    rfl
  · rw [settle_sealBlob, events]
    rfl

/-- Settles O42: the output stands in KEY_OUT, KEY_IN is cleared, and the effect has happened. -/
theorem keyCommandDone : Obligations.KeyCommandDone := by
  intro s j h hj
  obtain ⟨keys, start, flash, journal, fuses, blobs, ports, owner, armed, sealBlob, pends⟩ := settle_keyDone h hj
  refine .of_actOn rfl h.on ?_
  obtain ⟨out, effect⟩ := j
  obtain ⟨-, -, -, -, args, -⟩ := keyEffect_keeps effect (clearSent s)
  dsimp only at keys fuses blobs ports owner armed sealBlob pends
  have port : ∀ n, (settle (keyDone (clearSent s))).port n = (keyEffect effect (clearSent s)).port n := fun n =>
    congrArg (fun p => Store.get ({} : Port) p n) ports
  generalize settle (keyDone (clearSent s)) = t at keys start flash journal fuses blobs ports owner armed sealBlob pends port
  rw [keys, start, flash, journal, fuses, blobs, ports, owner, armed, sealBlob]
  refine ⟨rfl, rfl, rfl, rfl, fun some => if_neg (by rwa [List.isEmpty_iff]), fun none => if_pos (List.isEmpty_iff.2 none), args, rfl, rfl, rfl,
    fun other => ?_, fun e => ?_, fun e => ?_, ?_, fun e => ?_, fun b e => ?_, fun n sc an key e => ?_, fun n sc an key e => ?_,
    fun b key e => ?_, fun hash e => ?_⟩
  · cases effect with
    | fuse => exact absurd rfl other
    | load b key =>
      rw [keyEffect]
      split <;> rfl
    | _ => rfl
  · cases e
    exact ⟨rfl, rfl⟩
  · cases e
    exact ⟨rfl, rfl⟩
  · rintro (⟨b, e⟩ | ⟨n, rx, sc, an, key, e⟩ | ⟨b, key, e⟩) <;> cases e <;> exact pends 204 (by decide) (raisedIn_raise ..)
  · cases e
    exact pends 205 (by decide) (raisedIn_raise ..)
  · cases e
    exact ⟨Store.get_set_same none s.mram.blobs b.num (some b), rfl, fun n hn => Store.get_set_other none s.mram.blobs b.num n (some b) (Ne.symm hn)⟩
  · cases e
    refine ⟨?_, ?_, rfl, fun m hm => (port m).trans (updPort_port_other hm ..)⟩
    · rw [port, keyEffect, updPort_port]
      exact Store.get_set_same none (s.port n).txSa an (some (assocOf key))
    · rw [port, keyEffect, updPort_port]
      rfl
  · cases e
    refine ⟨?_, ?_, rfl, fun m hm => (port m).trans (updPort_port_other hm ..)⟩
    · rw [port, keyEffect, updPort_port]
      exact Store.get_set_same none (s.port n).rxSa (4 * sc + an) (some (assocOf key))
    · rw [port, keyEffect, updPort_port]
      rfl
  · cases e
    constructor
    · intro sealing
      rw [keyEffect, if_pos sealing]
      exact ⟨rfl, rfl, rfl⟩
    · intro other
      rw [keyEffect, if_neg other]
      exact ⟨rfl, rfl⟩
  · cases e
    exact ⟨rfl, rfl⟩

end Sys2Proof.Machine
end

section
/-! SUPPORT. Key commands as they are accepted (18 R508 to R526). -/

namespace Sys2Proof.Machine

open Sys2Proof

section Commands

variable {s : State} (h : Calm s) {i : Instr} {f : State → KeyAnswer} (e : exec i s = actKey s 0xC3E9 0xC3E9 (keyCommand f))
include h e

/-- A key command that its checks accept is pending. -/
theorem gives_keyPending (idle : s.keys.job = none) {j : KeyJob} (answer : f (clearSent s) = .inr j) : Gives i s fun t =>
    t.keys = { s.keys with reason := 0, done := false, job := some j } ∧ t.fuses = s.fuses ∧ t.mram.blobs = s.mram.blobs
      ∧ t.mram.dev.owner = s.mram.dev.owner ∧ t.mram.dev.armed = s.mram.dev.armed ∧ t.ports = s.ports := by
  refine .of_key e h.on ?_
  have run : keyCommand f (clearSent s) = { (clearSent s).updKeys fun k => { k with reason := 0, done := false, job := some j } with
      draws := s.draws + 1 } := by
    rw [keyCommand, clearSent_keys, idle, answer]
    rfl
  rw [run, settle_keys, settle_fuses, settle_blobs, settle_owner, settle_armed, settle_ports]
  exact ⟨rfl, rfl, rfl, rfl, rfl, rfl⟩

/-- A key command that its checks refuse, or that meets a pending one, leaves its reason. -/
theorem gives_keyRefused {r : Byte} (answer : s.keys.job = none ∧ f (clearSent s) = .inl r ∨ s.keys.job.isSome = true ∧ r = 9) :
    Gives i s fun t =>
      t.keys = { s.keys with reason := r } ∧ t.fuses = s.fuses ∧ t.mram.blobs = s.mram.blobs ∧ t.ports = s.ports := by
  refine .of_key e h.on ?_
  have run : keyCommand f (clearSent s) = (clearSent s).updKeys fun k => { k with reason := r } := by
    obtain ⟨idle, answer⟩ | ⟨pending, rfl⟩ := answer
    · rw [keyCommand, clearSent_keys, idle, answer]
      rfl
    · exact if_pos pending
  rw [run, settle_keys, settle_fuses, settle_blobs, settle_ports]
  exact ⟨rfl, rfl, rfl, rfl⟩

end Commands

theorem clearSent_attestation (s : State) : attestation (clearSent s) = attestation s := by
  obtain ⟨sent, held, seq, e⟩ := clearSent_eq s
  rw [e]
  rfl

theorem clearSent_endorsement (s : State) : endorsement (clearSent s) = endorsement s := rfl

/-- What GENERATE answers where its checks pass: a new blob of the slot. -/
theorem generateCommand_answers {s : State} (unheld : s.keys.held.getLsbD (argSlot s.keys) = false)
    (fits : purposeFits (argUsage s.keys) (argPurpose s.keys) = true) (unprovable : argProvable s.keys = false) :
    ∃ b : Blob, generateCommand s = .inr { out := b.raw, effect := .blob b } ∧ b.num = argSlot s.keys ∧ b.generated = true
      ∧ b.usage = argUsage s.keys ∧ b.purpose = argPurpose s.keys := by
  have passes : lowestReason [(argProvable s.keys && decide (7 < argSlot s.keys), 1), (s.keys.held.getLsbD (argSlot s.keys), 3)
      , (!purposeFits (argUsage s.keys) (argPurpose s.keys), 4)] = none := by
    rw [unprovable, unheld, fits]
    rfl
  unfold generateCommand
  dsimp only
  rw [passes]
  exact ⟨_, rfl, rfl, rfl, rfl, rfl⟩

/-- What IMPORT of a plain key answers where its checks pass. -/
theorem importCommand_answers {s : State} (unheld : s.keys.held.getLsbD (argSlot s.keys) = false)
    (fits : purposeFits (argUsage s.keys) (argPurpose s.keys) = true) (unprovable : argProvable s.keys = false)
    (plain : argWrapped s.keys = false) (length : s.keys.inLen.toNat = purposeLength (argPurpose s.keys)) :
    ∃ b : Blob, importCommand s = .inr { out := b.raw, effect := .blob b } ∧ b.num = argSlot s.keys ∧ b.generated = false
      ∧ b.provable = false ∧ b.usage = argUsage s.keys ∧ b.purpose = argPurpose s.keys := by
  have bytes : importLength s.keys = s.keys.inLen.toNat := by
    rw [importLength, length, plain]
    rfl
  unfold importCommand
  dsimp only
  rw [unprovable, bytes, plain, unheld, fits, bne_self_eq_false]
  exact ⟨_, rfl, rfl, rfl, rfl, rfl, rfl⟩

/-- Settles O41: an accepted key command is pending; while one is, any further one is rejected. -/
theorem keyCommandsBecomePending : Obligations.KeyCommandsBecomePending := by
  intro s p h k pends rejects
  constructor
  · intro pending i hi
    simp only [List.mem_cons, List.not_mem_nil, or_false] at hi
    obtain rfl | rfl | rfl | rfl | rfl | rfl | rfl | rfl | rfl | rfl | rfl := hi <;>
      exact gives_keyRefused h rfl (.inr ⟨pending, rfl⟩)
  intro idle
  refine ⟨gives_keyPending h rfl idle (congrArg (fun b => Sum.inr (KeyJob.mk b .none)) (clearSent_attestation s)),
    gives_keyPending h rfl idle rfl, gives_keyPending h rfl idle rfl, fun b x hb => ⟨fun provable low => ?_, fun bad => ?_, ?_, fun purpose => ?_,
    fun n2 n3 => ?_, fun tx purpose usage free => ?_, fun tx purpose usage taken => ?_⟩, fun none => ⟨?_, ?_, ?_⟩,
    fun unheld fits unprovable => ⟨?_, fun plain length => ?_⟩, fun provable => ?_, fun none => ?_, fun some => ?_, fun run new => ?_, fun old => ?_,
    fun early new => ?_⟩
  · refine gives_keyPending h rfl idle ?_
    show keyOriginCommand s = _
    rw [keyOriginCommand, hb]
    exact if_pos (Bool.and_eq_true_iff.2 ⟨provable, decide_eq_true low⟩)
  · refine gives_keyRefused h rfl (.inl ⟨idle, ?_⟩)
    show keyOriginCommand s = _
    rw [keyOriginCommand, hb]
    refine if_neg fun fits => ?_
    obtain ⟨provable, low⟩ := Bool.and_eq_true_iff.1 fits
    obtain no | high := bad
    · exact absurd provable (by rw [no]; exact Bool.false_ne_true)
    · exact absurd (of_decide_eq_true low) (Nat.not_le.2 high)
  · refine gives_keyPending h rfl idle ?_
    show blobCommand s = _
    rw [blobCommand, hb]
  · refine gives_keyPending h rfl idle ?_
    show loadCommand s = _
    rw [loadCommand, hb]
    exact if_pos purpose
  · refine gives_keyRefused h rfl (.inl ⟨idle, ?_⟩)
    show loadCommand s = _
    rw [loadCommand, hb]
    exact if_neg (not_or.2 ⟨n2, n3⟩)
  · refine gives_keyPending h rfl idle ?_
    show installCommand s = _
    rw [installCommand, if_neg (by rw [tx, Bool.false_and]; exact Bool.false_ne_true), hb]
    dsimp only
    rw [if_neg (by rw [tx]; exact not_or.2 ⟨Classical.not_not.2 purpose, Classical.not_not.2 usage⟩), if_neg (by
      rw [tx, Bool.not_false, Bool.true_and, decide_eq_true_eq]; exact free), tx]
  · refine gives_keyRefused h rfl (.inl ⟨idle, ?_⟩)
    show installCommand s = _
    rw [installCommand, if_neg (by rw [tx, Bool.false_and]; exact Bool.false_ne_true), hb]
    dsimp only
    rw [if_neg (by rw [tx]; exact not_or.2 ⟨Classical.not_not.2 purpose, Classical.not_not.2 usage⟩), if_pos (by
      rw [tx, Bool.not_false, Bool.true_and, decide_eq_true_eq]; exact taken)]
  · refine gives_keyRefused h rfl (.inl ⟨idle, ?_⟩)
    show keyOriginCommand s = _
    rw [keyOriginCommand, none]
  · refine gives_keyRefused h rfl (.inl ⟨idle, ?_⟩)
    show blobCommand s = _
    rw [blobCommand, none]
  · refine gives_keyRefused h rfl (.inl ⟨idle, ?_⟩)
    show loadCommand s = _
    rw [loadCommand, none]
  · obtain ⟨b, answer, shows⟩ := generateCommand_answers (s := s) unheld fits unprovable
    exact ⟨b, gives_keyPending h rfl idle (show generateCommand s = _ from answer), shows⟩
  · obtain ⟨b, answer, shows⟩ := importCommand_answers (s := s) unheld fits unprovable plain length
    exact ⟨b, gives_keyPending h rfl idle (show importCommand s = _ from answer), shows⟩
  · refine gives_keyRefused h rfl (.inl ⟨idle, ?_⟩)
    show importCommand s = _
    unfold importCommand
    dsimp only
    rw [show argProvable s.keys = true from provable]
    rfl
  · refine gives_keyPending h rfl idle (if_neg ?_)
    show ¬s.mram.dev.owner.isSome = true
    rw [none]
    exact Bool.false_ne_true
  · exact gives_keyRefused h rfl (.inl ⟨idle, if_pos some⟩)
  · refine gives_keyPending h rfl idle ?_
    show fuseCommand s = _
    rw [fuseCommand, if_neg (Nat.not_le.2 new), if_neg (BitVec.not_lt.2 run)]
  · exact gives_keyRefused h rfl (.inl ⟨idle, if_pos old⟩)
  · refine gives_keyRefused h rfl (.inl ⟨idle, ?_⟩)
    show fuseCommand s = _
    rw [fuseCommand, if_neg (Nat.not_le.2 new), if_pos early]

end Sys2Proof.Machine
end

section
/-! SUPPORT. Meter channels (16): what an operation over the defined channels makes of each. -/

namespace Sys2Proof.Machine

open Sys2Proof

theorem updMeter_meter (s : State) (n : Nat) (f : Meter → Meter) : (s.updMeter n f).meter n = f (s.meter n) :=
  Store.get_upd_same ({} : Meter) s.mtr.ch n f

theorem updMeter_meter_other {m n : Nat} (h : m ≠ n) (s : State) (f : Meter → Meter) : (s.updMeter n f).meter m = s.meter m :=
  Store.get_upd_other ({} : Meter) s.mtr.ch n m f (Ne.symm h)

/-- The end of an edge leaves the meter channels. -/
theorem settle_meter (s : State) (n : Nat) : (settle s).meter n = s.meter n := congrArg (fun m : Mtr => Store.get ({} : Meter) m.ch n) (settle_mtr s)

/-- A state but for its meter channels. -/
def State.setMeters (s : State) (ch : Store Meter) : State := s.updMtr fun m => { m with ch := ch }

section Fold

variable {g : State → MeterCfg → Meter → Meter} (same : ∀ s ch, g (s.setMeters ch) = g s)
include same

/-- An operation on each of some channels, each once, that reads of the state nothing of its channels. -/
theorem foldl_updMeter (l : List MeterCfg) (s : State) : let t := l.foldl (fun s c => s.updMeter c.chan (g s c)) s
    (∃ ch, t = s.setMeters ch) ∧ (∀ n, (∀ d ∈ l, d.chan ≠ n) → t.meter n = s.meter n)
      ∧ ((l.map (·.chan)).Nodup → ∀ c ∈ l, t.meter c.chan = g s c (s.meter c.chan)) := by
  induction l generalizing s with
  | nil => exact ⟨⟨s.mtr.ch, rfl⟩, fun _ _ => rfl, fun _ _ => nofun⟩
  | cons d l ih =>
    obtain ⟨⟨ch, eq⟩, others, each⟩ := ih (s.updMeter d.chan (g s d))
    have reads : g (s.updMeter d.chan (g s d)) = g s := same s _
    refine ⟨⟨ch, eq⟩, fun n hn => ?_, fun nodup c hc => ?_⟩
    · rw [List.foldl_cons, others n fun d hd => hn d (List.mem_cons_of_mem _ hd)]
      exact updMeter_meter_other (Ne.symm (hn d (List.mem_cons_self ..))) ..
    · rw [List.map_cons, List.nodup_cons] at nodup
      obtain ⟨fresh, nodup⟩ := nodup
      rw [List.foldl_cons]
      obtain rfl | hc := List.mem_cons.1 hc
      · rw [others _ fun d hd e => fresh (List.mem_map.2 ⟨d, hd, e⟩), updMeter_meter]
      · rw [each nodup c hc, reads, updMeter_meter_other]
        exact fun e => fresh (List.mem_map.2 ⟨c, hc, e⟩)

end Fold

/-! ## Host commands -/

theorem meterCommand_eq (n code : Nat) (old : DWord) (f : Meter → Meter) (s : State) : ∃ j e,
    meterCommand n code old f s = { s with jrn := j, evt := e
                                           mtr := { (s.updMeter n fun x => { f x with vals := { (f x).vals with cmds := x.vals.cmds + 1 } }).mtr with
                                             done := true } } ∧ raisedIn e.edge 36 :=
  ⟨_, _, rfl, raisedIn_raise 36 n s⟩

/-- A host command on a meter channel (16 R463). -/
theorem gives_meterCommand {s : State} (h : Calm s) {i : Instr} {n code : Nat} {old : DWord} {f : Meter → Meter} {g : State → State}
    (e : exec i s = actKey s 0x3E7A 0x3E7A g) (run : g (clearSent s) = meterCommand n code old f (clearSent s)) : Gives i s fun t =>
      ((∀ m, m ≠ n → t.meter m = s.meter m) ∧ t.mtr.done = true ∧ t.evt.pend.getLsbD 36 = true
        ∧ t.mram.saves = s.mram.saves ∧ t.start = s.start ∧ t.fio = s.fio)
      ∧ t.meter n = { f (s.meter n) with vals := { (f (s.meter n)).vals with cmds := (s.meter n).vals.cmds + 1 } } := by
  obtain ⟨j, ev, eq, raised⟩ := meterCommand_eq n code old f (clearSent s)
  refine .of_key e h.on ?_
  have calm : Calm (g (clearSent s)) := by
    rw [run, eq]
    exact h.clear.of_same rfl rfl
  have pends := calm.pend (n := 36) (by rw [run, eq]; exact raised)
  have meter : ∀ m, (settle (g (clearSent s))).meter m =
      (s.updMeter n fun x => { f x with vals := { (f x).vals with cmds := x.vals.cmds + 1 } }).meter m := fun m => by
    rw [settle_meter, run, eq]
    rfl
  refine ⟨⟨fun m hm => (meter m).trans (updMeter_meter_other hm ..), ?_, pends, ?_, ?_, ?_⟩, (meter n).trans (updMeter_meter ..)⟩
  · rw [settle_mtr, run, eq]
  · rw [(settle_mram_parts _).2.1, run, eq]
    rfl
  · rw [settle_start, run, eq]
    rfl
  · rw [settle_fio, run, eq]
    rfl

/-! ## The rate's decay -/

/-- What a second without a pulse makes of a channel (16 R461). -/
def Meter.decayed (us : DWord) (c : MeterCfg) (m : Meter) : Meter :=
  match m.tp with
  | none => m
  | some tp =>
    let e := us.toNat - tp.toNat
    if m.interval = 0 then m
    else if rateLimit < e then { m with rate := 0, interval := 0 }
    else if m.interval < e then { m with rate := BitVec.ofNat 64 (c.weight * 360000000000000 / e) }
    else m

theorem decayRate_eq (s : State) (c : MeterCfg) : decayRate s c = s.updMeter c.chan (Meter.decayed s.clk.us c) := rfl

theorem Meter.decayed_spec (us : DWord) (c : MeterCfg) (m : Meter) : let x := m.decayed us c
    x.vals = m.vals ∧ (m.tp = none ∨ m.interval = 0 → x.rate = m.rate)
      ∧ ∀ tp, m.tp = some tp → m.interval ≠ 0 →
        let e := us.toNat - tp.toNat
        (65535000000 < e → x.rate = 0 ∧ x.interval = 0)
        ∧ (e ≤ 65535000000 → m.interval < e → x.rate = BitVec.ofNat 64 (c.weight * 360000000000000 / e))
        ∧ (e ≤ 65535000000 → e ≤ m.interval → x.rate = m.rate) := by
  have limit : rateLimit = 65535000000 := rfl
  unfold Meter.decayed
  cases ht : m.tp with
  | none => exact ⟨rfl, fun _ => rfl, nofun⟩
  | some tp =>
    dsimp only
    rw [limit]
    by_cases none : m.interval = 0
    · rw [if_pos none]
      exact ⟨rfl, fun _ => rfl, fun _ _ some => absurd none some⟩
    · rw [if_neg none]
      have vals : ∀ {a b : Prop} [Decidable a] [Decidable b] {x y : Meter}, x.vals = m.vals → y.vals = m.vals →
          (if a then x else if b then y else m).vals = m.vals := by
        intro a b _ _ x y hx hy
        split
        · exact hx
        · split
          · exact hy
          · rfl
      refine ⟨vals rfl rfl, fun no => ?_, ?_⟩
      · obtain no | no := no
        · cases no
        · exact absurd no none
      · intro tp' ht' _
        cases ht'
        refine ⟨fun long => ?_, fun short longer => ?_, fun short within => ?_⟩
        · rw [if_pos long]
          exact ⟨rfl, rfl⟩
        · rw [if_neg (Nat.not_lt.2 short), if_pos longer]
        · rw [if_neg (Nat.not_lt.2 short), if_neg (Nat.not_lt.2 within)]

/-! ## The tariff check -/

theorem writeMeterVar_eq (ty : Ty) (i : Option Nat) (v : DWord) (s : State) : ∃ x, writeMeterVar ty i v s = { s with scan := x } := by
  cases i with
  | none => exact ⟨s.scan, rfl⟩
  | some i => exact ⟨_, rfl⟩

/-- A tariff check on a channel: its tariff, its bindings and its event (16 R464). -/
theorem checkMeter_eq (s : State) (c : MeterCfg) : ∃ x e, checkMeter s c =
    { s.updMeter c.chan fun m => { m with tariff := some (meterTariff s c s.cal.now.secs) } with scan := x, evt := e } := by
  unfold checkMeter
  extract_lets x k s1 s2 s3 s4 s5 s6 s7
  obtain ⟨_, e1⟩ := writeMeterVar_eq .ulint c.totalVar x.vals.total s
  obtain ⟨_, e2⟩ := writeMeterVar_eq .ulint c.accVar x.vals.acc0 s1
  obtain ⟨_, e3⟩ := writeMeterVar_eq .ulint (c.accVar.map (· + 2)) x.vals.acc1 s2
  obtain ⟨_, e4⟩ := writeMeterVar_eq .ulint (c.accVar.map (· + 4)) x.vals.acc2 s3
  obtain ⟨_, e5⟩ := writeMeterVar_eq .ulint (c.accVar.map (· + 6)) x.vals.acc3 s4
  obtain ⟨y, e6⟩ := writeMeterVar_eq .usint c.tariffVar (BitVec.ofNat 64 k) s5
  have h6 : s6 = { s with scan := y } := by
    show writeMeterVar _ _ _ s5 = _
    rw [e6, show s5 = _ from e5, show s4 = _ from e4, show s3 = _ from e3, show s2 = _ from e2, show s1 = _ from e1]
  have h7 : s7 = { s.updMeter c.chan fun m => { m with tariff := some k } with scan := y } := by
    show s6.updMeter _ _ = _
    rw [h6]
    rfl
  rw [h7]
  split
  · split
    · exact ⟨y, s.evt, rfl⟩
    · exact ⟨y, _, rfl⟩
  · exact ⟨y, s.evt, rfl⟩

theorem foldl_checkMeter (l : List MeterCfg) (s : State) : let t := l.foldl checkMeter s
    t.start = s.start ∧ t.mram = s.mram ∧ (∀ n, (t.meter n).vals = (s.meter n).vals)
      ∧ (∀ n, (∀ d ∈ l, d.chan ≠ n) → t.meter n = s.meter n)
      ∧ ((l.map (·.chan)).Nodup → ∀ c ∈ l, (t.meter c.chan).tariff = some (meterTariff s c s.cal.now.secs)) := by
  induction l generalizing s with
  | nil => exact ⟨rfl, rfl, fun _ => rfl, fun _ _ => rfl, fun _ _ => nofun⟩
  | cons d l ih =>
    obtain ⟨x, e, eq⟩ := checkMeter_eq s d
    obtain ⟨start, mram, vals, others, each⟩ := ih (checkMeter s d)
    have meter : ∀ n, (checkMeter s d).meter n =
        (s.updMeter d.chan fun m => { m with tariff := some (meterTariff s d s.cal.now.secs) }).meter n := fun n => by rw [eq]; rfl
    have tariff : ∀ c, meterTariff (checkMeter s d) c (checkMeter s d).cal.now.secs = meterTariff s c s.cal.now.secs := fun c => by
      rw [eq]; rfl
    rw [List.foldl_cons]
    refine ⟨?_, ?_, fun n => ?_, fun n hn => ?_, fun nodup c hc => ?_⟩
    · rw [start, eq]
      rfl
    · rw [mram, eq]
      rfl
    · rw [vals, meter]
      by_cases here : n = d.chan
      · rw [here, updMeter_meter]
      · rw [updMeter_meter_other here]
    · rw [others n fun d hd => hn d (List.mem_cons_of_mem _ hd), meter, updMeter_meter_other (Ne.symm (hn d (List.mem_cons_self ..)))]
    · rw [List.map_cons, List.nodup_cons] at nodup
      obtain ⟨fresh, nodup⟩ := nodup
      obtain rfl | hc := List.mem_cons.1 hc
      · rw [others _ fun d hd e => fresh (List.mem_map.2 ⟨d, hd, e⟩), meter, updMeter_meter]
      · rw [each nodup c hc, tariff]

theorem elapse_meter (n : Nat) (s : State) : (elapse n s).mtr = s.mtr ∧ (elapse n s).mram = s.mram := by
  unfold elapse
  simp only []
  (repeat' split) <;> simp only [State.updNtime_mtr, State.updTide_mtr, State.updJrn_mtr, State.updClk_mtr, State.updCal_mtr,
    State.updNtime_mram, State.updTide_mram, State.updJrn_mram, State.updClk_mram, State.updCal_mram, and_self]

/-- A mark that fires leaves the start, the setup, the meters and MRAM. -/
theorem fireMark_keeps {m a : Nat} {s u : State} {k : TideMark} (h : fireMark m a s = some (k, u)) :
    u.start = s.start ∧ u.man = s.man ∧ u.mtr = s.mtr ∧ u.mram = s.mram := by
  have reached : ∀ x, (reach x s).start = s.start ∧ (reach x s).man = s.man ∧ (reach x s).mtr = s.mtr ∧ (reach x s).mram = s.mram := by
    intro x
    unfold reach
    split
    · obtain ⟨start, -, man⟩ := elapse_rest (ticksTo s x.toNat) s
      obtain ⟨mtr, mram⟩ := elapse_meter (ticksTo s x.toNat) s
      exact ⟨start, man, mtr, mram⟩
    · exact ⟨rfl, rfl, rfl, rfl⟩
  unfold fireMark at h
  split at h
  · cases h
  · dsimp only at h
    split at h
    · cases h
      exact reached _
    · cases h

/-! ## Saves -/

/-- What a completed save takes off the counts leaves the totals. -/
theorem foldl_sinceAfter (x : Saving) (l : List Nat) (s : State) :
    let t := l.foldl (fun s j => if (Store.get {} x.vals j).since = 0 then s
      else s.updMeter j fun m => { m with vals := sinceAfter x j m.vals }) s
    (∃ ch, t = s.setMeters ch) ∧ ∀ n, (t.meter n).vals.total = (s.meter n).vals.total := by
  induction l generalizing s with
  | nil => exact ⟨⟨s.mtr.ch, rfl⟩, fun _ => rfl⟩
  | cons j l ih =>
    have one : let u := if (Store.get {} x.vals j).since = 0 then s else s.updMeter j fun m => { m with vals := sinceAfter x j m.vals }
        (∃ ch, u = s.setMeters ch) ∧ ∀ n, (u.meter n).vals.total = (s.meter n).vals.total := by
      dsimp only
      split
      · exact ⟨⟨s.mtr.ch, rfl⟩, fun _ => rfl⟩
      · refine ⟨⟨_, rfl⟩, fun n => ?_⟩
        by_cases here : n = j
        · rw [here, updMeter_meter]
          rfl
        · rw [updMeter_meter_other here]
    obtain ⟨⟨ch, eq⟩, total⟩ := one
    obtain ⟨⟨ch', eq'⟩, total'⟩ := ih (if (Store.get {} x.vals j).since = 0 then s else s.updMeter j fun m => { m with vals := sinceAfter x j m.vals })
    dsimp only
    rw [List.foldl_cons]
    refine ⟨⟨ch', ?_⟩, fun n => (total' n).trans (total n)⟩
    rw [eq', eq]
    rfl

/-- A save that completes is the newest in its slot, and its channels keep their totals (16 R465, R466). -/
theorem endSave_eq {s : State} {x : Saving} {l : List Saving} {k : Bytes} (saving : s.mtr.saving = x :: l) (sealing : s.keys.sealKey = some k) :
    let q := (newestSave s).elim 1 (fun e => e.1 + 1)
    ∃ ch l', endSave s = { s with
        mram := { s.mram with saves := Store.set [] s.mram.saves (q % 16) (saveBody s x q ++ saveSeal k (saveBody s x q)) }
        mtr := { s.mtr with ch := ch, saving := l', savedOnce := true, saveSeq := BitVec.ofNat 32 q, saveB := BitVec.ofNat 64 x.b
                            saveSlot := BitVec.ofNat 4 q } }
      ∧ l'.map (·.b) = l.map (·.b) ∧ ∀ j, (Store.get ({} : Meter) ch j).vals.total = (s.meter j).vals.total := by
  intro q
  obtain ⟨⟨ch, eq⟩, total⟩ := foldl_sinceAfter x (List.range 16)
    (s.updMram fun m => { m with saves := Store.set [] m.saves (q % 16) (saveBody s x q ++ saveSeal k (saveBody s x q)) })
  refine ⟨ch, l.map fun y => { y with vals := y.vals.map fun (j, v) => (j, sinceAfter x j v) }, ?_, ?_, fun j => ?_⟩
  · unfold endSave
    rw [saving, sealing]
    dsimp only
    rw [eq]
    rfl
  · rw [List.map_map]
    rfl
  · have kept := total j
    rw [eq] at kept
    exact kept

/-- Settles O50: the decay, the tariff check, clear, preset, and a save that completes. -/
theorem meterCommands : Obligations.MeterCommands := by
  intro s p h n v others
  refine ⟨?_, fun k hk => ?_, fun nodup => .of_actOn rfl h.on fun c hc => ?_, fun m k u nodup fires => .of_actOn rfl h.on ?_, fun x l k saving sealing => .of_actOn rfl h.on ?_⟩
  · obtain ⟨t, run, rest, meter⟩ := gives_meterCommand h (i := .meterClear p 0x3E7A) rfl (n := n) rfl
    refine ⟨t, run, rest, ?_⟩
    rw [meter]
    exact ⟨rfl, rfl, rfl, rfl, rfl⟩
  · have target : ¬4 < k.toNat := Nat.not_lt.2 hk
    obtain ⟨t, run, rest, meter⟩ := gives_meterCommand h (i := .meterPreset p 0x3E7A k) (n := n) rfl (if_neg target)
    refine ⟨t, run, rest, ?_⟩
    rw [meter]
    exact ⟨rfl, rfl, rfl⟩
  · obtain ⟨-, -, each⟩ := foldl_updMeter (g := fun s => Meter.decayed s.clk.us) (fun _ _ => rfl) (definedMeters (clearSent s)) (clearSent s)
    have decayed : (settle ((definedMeters (clearSent s)).foldl decayRate (clearSent s))).meter c.chan =
        (s.meter c.chan).decayed s.clk.us c := (settle_meter ..).trans (each nodup c hc)
    dsimp only
    rw [decayed]
    exact Meter.decayed_spec ..
  · obtain ⟨start, man, mtr, mram⟩ := fireMark_keeps fires
    have run : atMark m.toNat 7 (clearSent s) (fun _ s => (definedMeters s).foldl checkMeter s) = (definedMeters u).foldl checkMeter u := by
      rw [atMark, fires]
    have defined : definedMeters u = definedMeters s := congrArg (fun m => ((m.bind (·.meters)).map (·.meters)).getD []) man
    obtain ⟨start', mram', vals, -, tariff⟩ := foldl_checkMeter (definedMeters u) u
    rw [run, defined]
    rw [defined] at start' mram' vals tariff
    refine ⟨(settle_start _).trans (start'.trans start), ?_, fun c hc => ⟨?_, ?_⟩⟩
    · rw [(settle_mram_parts _).2.1, mram', mram]
      rfl
    · rw [settle_meter]
      exact tariff nodup c hc
    · rw [settle_meter, vals, State.meter, mtr]
      rfl
  · obtain ⟨ch, l', eq, pending, total⟩ := endSave_eq (s := clearSent s) saving sealing
    have newest : newestSave (clearSent s) = newestSave s := rfl
    have body : saveBody (clearSent s) x = saveBody s x := rfl
    rw [newest, body] at eq
    have run : (if (clearSent s).mtr.saving.isEmpty then clearSent s else endSave (clearSent s)) = endSave (clearSent s) :=
      if_neg (by rw [clearSent_mtr, saving]; exact Bool.false_ne_true)
    rw [run, eq, settle_mtr, settle_start, settle_fio, (settle_mram_parts _).2.1]
    refine ⟨pending, rfl, rfl, rfl, ?_, fun j hj => ?_, fun j => ?_, rfl, rfl⟩
    · dsimp only
      rw [Store.get_set_same]
    · dsimp only
      rw [Store.get_set_other _ _ _ _ _ (Ne.symm hj)]
      rfl
    · rw [settle_meter]
      exact total j

end Sys2Proof.Machine
end

section
/-! SUPPORT. From a pulse to the totals (16 R449 to R461). -/

namespace Sys2Proof.Machine

open Sys2Proof

/-! ## The channels of a pulse input -/

theorem meterCfg_of_mem {s : State} (nodup : ((definedMeters s).map (·.chan)).Nodup) {c : MeterCfg} (hc : c ∈ definedMeters s) :
    meterCfg s c.chan = some c := by
  have found : ∀ {l : List MeterCfg}, (l.map (·.chan)).Nodup → c ∈ l → l.find? (·.chan == c.chan) = some c := by
    intro l
    induction l with
    | nil => exact fun _ => nofun
    | cons d l ih =>
      intro nodup hc
      rw [List.map_cons, List.nodup_cons] at nodup
      obtain ⟨fresh, nodup⟩ := nodup
      obtain rfl | hc := List.mem_cons.1 hc
      · exact List.find?_cons_of_pos (beq_self_eq_true _)
      · have other : d.chan ≠ c.chan := fun e => fresh (List.mem_map.2 ⟨c, hc, e.symm⟩)
        rw [List.find?_cons_of_neg (by rwa [beq_iff_eq]), ih nodup hc]
  unfold definedMeters at hc nodup
  unfold meterCfg
  cases hs : s.meterSetup with
  | none =>
    rw [hs] at hc
    cases hc
  | some r =>
    rw [hs] at hc nodup
    exact found nodup hc

/-- What the end of a merge window makes of a channel (16 R449). -/
def Meter.mergeEnded (us at' : DWord) (raw : Bool) (m : Meter) : Meter :=
  if m.merging && !merges us m then
    if raw ≠ m.fwd then { m with merging := false, fwd := raw, fwdAt := at', fwdTime := m.fwdTime.map (· + 200) }
    else { m with merging := false }
  else m

/-- What a raw change makes of a channel (16 R449). -/
def Meter.changed (us : DWord) (v : Bool) (m : Meter) : Meter :=
  if merges us m then { m with merging := true, merged := satInc m.merged } else { m with fwd := v, fwdAt := us, fwdTime := some us }

theorem mergeEnd_eq (ch : Nat) (s : State) : mergeEnd ch s =
    (metersOf s ch).foldl (fun s' c => s'.updMeter c.chan (Meter.mergeEnded s'.clk.us (Store.get 0 s'.fio.rawAt ch) (s.fio.raw.getLsbD ch))) s := rfl

theorem pulseChange_eq (ch : Nat) (v : Bool) (s : State) : pulseChange ch v s =
    (metersOf s ch).foldl (fun s' c => s'.updMeter c.chan (Meter.changed s'.clk.us v)) s := rfl

theorem metersOf_nodup {s : State} (nodup : ((definedMeters s).map (·.chan)).Nodup) (ch : Nat) : ((metersOf s ch).map (·.chan)).Nodup :=
  nodup.sublist (List.filter_sublist.map _)

theorem mem_metersOf {s : State} {ch : Nat} {c : MeterCfg} : c ∈ metersOf s ch ↔ c ∈ definedMeters s ∧ c.input = ch := by
  rw [metersOf, List.mem_filter, beq_iff_eq]

theorem mergeEnd_spec {s : State} (nodup : ((definedMeters s).map (·.chan)).Nodup) (ch : Nat) :
    (∃ x, mergeEnd ch s = s.setMeters x) ∧ (∀ n, (∀ d ∈ definedMeters s, d.input = ch → d.chan ≠ n) → (mergeEnd ch s).meter n = s.meter n)
      ∧ ∀ c ∈ definedMeters s, c.input = ch →
        (mergeEnd ch s).meter c.chan = (s.meter c.chan).mergeEnded s.clk.us (Store.get 0 s.fio.rawAt ch) (s.fio.raw.getLsbD ch) := by
  obtain ⟨eq, others, each⟩ := foldl_updMeter
    (g := fun s' _ => Meter.mergeEnded s'.clk.us (Store.get 0 s'.fio.rawAt ch) (s.fio.raw.getLsbD ch)) (fun _ _ => rfl) (metersOf s ch) s
  exact ⟨eq, fun n hn => others n fun d hd => hn d (mem_metersOf.1 hd).1 (mem_metersOf.1 hd).2,
    fun c hc input => each (metersOf_nodup nodup ch) c (mem_metersOf.2 ⟨hc, input⟩)⟩

theorem pulseChange_spec {s : State} (nodup : ((definedMeters s).map (·.chan)).Nodup) (ch : Nat) (v : Bool) :
    (∃ x, pulseChange ch v s = s.setMeters x) ∧ (∀ n, (∀ d ∈ definedMeters s, d.input = ch → d.chan ≠ n) → (pulseChange ch v s).meter n = s.meter n)
      ∧ ∀ c ∈ definedMeters s, c.input = ch → (pulseChange ch v s).meter c.chan = (s.meter c.chan).changed s.clk.us v := by
  obtain ⟨eq, others, each⟩ := foldl_updMeter (g := fun s' _ => Meter.changed s'.clk.us v) (fun _ _ => rfl) (metersOf s ch) s
  exact ⟨eq, fun n hn => others n fun d hd => hn d (mem_metersOf.1 hd).1 (mem_metersOf.1 hd).2,
    fun c hc input => each (metersOf_nodup nodup ch) c (mem_metersOf.2 ⟨hc, input⟩)⟩

/-! ## A counted pulse -/

theorem addPulse_spec (w : Nat) (a : DWord) (k : BitVec 16) : (addPulse w a k).1 = a + BitVec.ofNat 64 w
    ∧ (w < 2 ^ 64 → a.toNat + w < 2 ^ 64 → (addPulse w a k).2 = (k, false))
    ∧ (w < 2 ^ 64 → 2 ^ 64 ≤ a.toNat + w → (addPulse w a k).2 = (k + 1, true)) := by
  have sum : w < 2 ^ 64 → (a + BitVec.ofNat 64 w).toNat = (a.toNat + w) % 2 ^ 64 := fun hw => by
    rw [BitVec.toNat_add, BitVec.toNat_ofNat, Nat.mod_eq_of_lt hw]
  have bound := a.isLt
  unfold addPulse
  refine ⟨?_, fun hw fits => ?_, fun hw wraps => ?_⟩
  · dsimp only
    split <;> rfl
  · dsimp only
    rw [if_neg (by rw [sum hw, Nat.mod_eq_of_lt fits]; omega)]
  · dsimp only
    rw [if_pos (by rw [sum hw]; omega)]

/-- A pulse adds its weight to the total and to the accumulator of its tariff (16 R459). -/
theorem countVals_spec (w k : Nat) (v : MeterVals) : let x := (countVals w k v).1
    x.total = v.total + BitVec.ofNat 64 w ∧ x.cmds = v.cmds
      ∧ x.acc0 = (if k = 0 then v.acc0 + BitVec.ofNat 64 w else v.acc0) ∧ x.acc1 = (if k = 1 then v.acc1 + BitVec.ofNat 64 w else v.acc1)
      ∧ x.acc2 = (if k = 2 then v.acc2 + BitVec.ofNat 64 w else v.acc2) ∧ x.acc3 = (if 3 ≤ k then v.acc3 + BitVec.ofNat 64 w else v.acc3)
      ∧ (w < 2 ^ 64 → v.total.toNat + w < 2 ^ 64 → x.wTotal = v.wTotal)
      ∧ (w < 2 ^ 64 → 2 ^ 64 ≤ v.total.toNat + w → x.wTotal = v.wTotal + 1 ∧ (countVals w k v).2 = true) := by
  obtain ⟨total, fits, wraps⟩ := addPulse_spec w v.total v.wTotal
  have wTotal : w < 2 ^ 64 → v.total.toNat + w < 2 ^ 64 → (addPulse w v.total v.wTotal).2.1 = v.wTotal := fun hw h => by rw [fits hw h]
  have wraps : ∀ b, w < 2 ^ 64 → 2 ^ 64 ≤ v.total.toNat + w → (addPulse w v.total v.wTotal).2.1 = v.wTotal + 1
      ∧ ((addPulse w v.total v.wTotal).2.2 || b) = true := fun b hw h => by
    rw [wraps hw h]
    exact ⟨rfl, rfl⟩
  match k with
  | 0 => exact ⟨total, rfl, (addPulse_spec w v.acc0 v.w0).1, rfl, rfl, rfl, wTotal, wraps _⟩
  | 1 => exact ⟨total, rfl, rfl, (addPulse_spec w v.acc1 v.w1).1, rfl, rfl, wTotal, wraps _⟩
  | 2 => exact ⟨total, rfl, rfl, rfl, (addPulse_spec w v.acc2 v.w2).1, rfl, wTotal, wraps _⟩
  | k + 3 =>
    refine ⟨total, rfl, (if_neg (by omega)).symm, (if_neg (by omega)).symm, (if_neg (by omega)).symm, ?_, wTotal, wraps _⟩
    rw [if_pos (Nat.le_add_left 3 k)]
    exact (addPulse_spec w v.acc3 v.w3).1

/-- The interval that a pulse ends, or 0 (16 R461). -/
def Meter.lastInterval (te : Nat) (m : Meter) : Nat :=
  match m.tp with
  | some tp => if te - tp.toNat ≤ rateLimit then te - tp.toNat else 0
  | none => 0

/-- What a counted pulse of tariff `k` makes of its channel (16 R457 to R461). -/
def Meter.counted (c : MeterCfg) (te k iv : Nat) (v : MeterVals) (m : Meter) : Meter :=
  { m with vals := (countVals c.weight k v).1, pulses := m.pulses + 1, interval := iv, tp := some (BitVec.ofNat 64 te)
           rate := if iv = 0 then 0 else pulseRate c.weight iv }

theorem countPulse_eq (c : MeterCfg) (te : Nat) (s : State) : let k := meterTariff s c (secondAt s te)
    ∃ l e, countPulse c te s = { s with evt := e, mtr := { s.mtr with
        saving := l, ch := Store.upd {} s.mtr.ch c.chan
          (Meter.counted c te k ((s.meter c.chan).lastInterval te) (s.meter c.chan).vals) } }
      ∧ ((countVals c.weight k (s.meter c.chan).vals).2 = true → raisedIn e.edge 33) := by
  unfold countPulse
  dsimp only
  split
  · exact ⟨_, _, rfl, fun _ => raisedIn_raise 33 c.chan s⟩
  · rename_i no
    exact ⟨_, s.evt, rfl, fun yes => absurd yes no⟩

/-! ## The obligation -/

theorem qualifyEdge_eq {s : State} {n : Nat} {c : MeterCfg} (hc : meterCfg s n = some c) : qualifyEdge n s =
    if (s.meter n).begun && (s.meter n).fwd != (s.meter n).qs && decide (stableTime c (s.meter n).fwd ≤ s.clk.us.toNat - (s.meter n).fwdAt.toNat) then
      let s' := s.updMeter n fun x => { x with qs := x.fwd }
      if (s.meter n).fwd != c.onToOff then countPulse c (s.meter n).fwdAt.toNat s' else s'
    else s := by
  rw [qualifyEdge, hc]

theorem beginCount_eq {s : State} {n : Nat} {c : MeterCfg} (hc : meterCfg s n = some c) :
    let due := (Store.get 0 s.fio.rawAt c.input).toNat + max (stableTime c true) (stableTime c false)
    ((s.meter n).begun = true ∨ s.clk.us.toNat < due → beginCount n s = s)
      ∧ ((s.meter n).begun = false → due ≤ s.clk.us.toNat → ∃ e j, beginCount n s =
        { s.updMeter n fun x => { x with begun := true, known := true, qs := s.fio.raw.getLsbD c.input } with evt := e, jrn := j }) := by
  rw [beginCount, hc]
  dsimp only
  refine ⟨fun no => if_pos no, fun begun due => ?_⟩
  rw [if_neg (not_or.2 ⟨by rw [begun]; exact Bool.false_ne_true, Nat.not_lt.2 due⟩)]
  split
  · exact ⟨_, _, rfl⟩
  · exact ⟨s.evt, s.jrn, rfl⟩

theorem mergeEnded_eq (us at' : DWord) (raw : Bool) (m : Meter) : m.mergeEnded us at' raw =
    if m.merging = true ∧ merges us m = false then
      (if raw = m.fwd then { m with merging := false }
      else { m with merging := false, fwd := raw, fwdAt := at', fwdTime := m.fwdTime.map (· + 200) })
    else m := by
  unfold Meter.mergeEnded
  simp only [Bool.and_eq_true, Bool.not_eq_true', ne_eq, ite_not]

/-- A pulse input's change as it reaches the logic die (15 R432; 16 R449). -/
def pulseInput (ch : Nat) (v : Bool) (s : State) : State :=
  if s.fio.raw.getLsbD ch == v then s
  else
    let s := mergeEnd ch s
    let s := s.updFio fun f => { f with raw := putBit f.raw ch v, rawAt := Store.set 0 f.rawAt ch s.clk.us }
    if s.start.adopted then pulseChange ch v s else s

theorem exec_pulseInputChange (ch : BitVec 5) (v : Bool) (s : State) :
    exec (.pulseInputChange ch v) s = actOn s (pulseInput ch.toNat v) := rfl

/-- A raw change, after the merge window that is over has ended. -/
theorem pulseInput_spec {s : State} (nodup : ((definedMeters s).map (·.chan)).Nodup) (adopted : s.start.adopted = true) {ch : Nat} {v : Bool}
    (change : s.fio.raw.getLsbD ch ≠ v) : (∃ x, pulseInput ch v s = { s.setMeters x with
        fio := { s.fio with raw := putBit s.fio.raw ch v, rawAt := Store.set 0 s.fio.rawAt ch s.clk.us } })
      ∧ (∀ n, (∀ d ∈ definedMeters s, d.input = ch → d.chan ≠ n) → (pulseInput ch v s).meter n = s.meter n)
      ∧ ∀ c ∈ definedMeters s, c.input = ch →
        (pulseInput ch v s).meter c.chan = ((mergeEnd ch s).meter c.chan).changed s.clk.us v := by
  obtain ⟨⟨x, merged⟩, mergedOthers, -⟩ := mergeEnd_spec nodup ch
  have run : pulseInput ch v s = pulseChange ch v ((mergeEnd ch s).updFio fun f =>
      { f with raw := putBit f.raw ch v, rawAt := Store.set 0 f.rawAt ch s.clk.us }) := by
    unfold pulseInput
    rw [if_neg (by rwa [beq_iff_eq]), merged]
    exact if_pos adopted
  rw [run]
  have defined : definedMeters ((mergeEnd ch s).updFio fun f => { f with raw := putBit f.raw ch v, rawAt := Store.set 0 f.rawAt ch s.clk.us }) =
      definedMeters s := by rw [merged]; rfl
  obtain ⟨⟨y, changed⟩, others, each⟩ := pulseChange_spec (by rw [defined]; exact nodup) ch v
  rw [defined] at others each
  refine ⟨⟨y, ?_⟩, fun n hn => (others n hn).trans (mergedOthers n hn), fun c hc input => (each c hc input).trans ?_⟩
  · rw [changed, merged]
    rfl
  · rw [merged]
    rfl

theorem qualifies {us : DWord} {c : MeterCfg} {m : Meter} (begun : m.begun = true) (differs : m.fwd ≠ m.qs)
    (stable : stableTime c m.fwd ≤ us.toNat - m.fwdAt.toNat) :
    (m.begun && m.fwd != m.qs && decide (stableTime c m.fwd ≤ us.toNat - m.fwdAt.toNat)) = true := by
  rw [begun, bne_iff_ne.2 differs, decide_eq_true stable]
  rfl

/-- Settles O49: from a pulse's raw change through its qualified edge to the totals. -/
theorem meterPulses : Obligations.MeterPulses := by
  intro s h adopted nodup c hc m others
  refine ⟨fun ch input => ?_, fun ch chan begun => ?_, fun ch chan unstable => .of_actOn rfl h.on ?_,
    fun ch chan begun differs stable => ⟨fun off => .of_actOn rfl h.on ?_, fun on => .of_actOn rfl h.on ?_⟩⟩
  · intro raw ended
    obtain ⟨⟨x, merged⟩, mergedOthers, mergedEach⟩ := mergeEnd_spec (s := clearSent s) nodup ch.toNat
    have endedEq : (mergeEnd ch.toNat (clearSent s)).meter c.chan = ended := by
      rw [mergedEach c hc input, mergeEnded_eq]
      simp only [ended, raw, input]
      rfl
    have images := h.clear.images
    refine ⟨.of_actOn (exec_pulseInputChange ..) h.on ?_, .of_actOn (exec_pulseInputChange ..) h.on ?_, .of_actOn rfl h.on ?_⟩
    · have tally : ended.merged = m.merged := by
        simp only [ended]
        split
        · split <;> rfl
        · rfl
      obtain ⟨⟨y, eq⟩, changeOthers, each⟩ := pulseInput_spec (s := clearSent s) nodup adopted (ch := ch.toNat) (v := !raw)
        fun same => (Bool.not_eq_self raw).1 same.symm
      have changed := each c hc input
      rw [endedEq] at changed
      rw [settle_fio, settle_meter, changed, ← tally]
      refine ⟨by rw [eq]; rfl, ⟨fun n hn => ?_, ?_, ?_⟩, ?_, rfl⟩
      · rw [settle_meter]
        exact changeOthers n fun d hd e => hn d hd (e.trans input.symm)
      · rw [settle_start, eq]
        rfl
      · rw [settle_loop _ (by rw [eq]; exact images), eq]
        rfl
      · rw [eq, input]
        exact Store.get_set_same ..
    · have still : pulseInput ch.toNat raw (clearSent s) = clearSent s := if_pos (beq_self_eq_true _)
      rw [still, settle_fio, settle_meter]
      exact ⟨rfl, ⟨fun n _ => settle_meter .., settle_start _, settle_loop _ images⟩, rfl⟩
    · rw [settle_fio, settle_meter, endedEq]
      refine ⟨by rw [merged]; rfl, ⟨fun n hn => ?_, ?_, ?_⟩, rfl⟩
      · rw [settle_meter]
        exact mergedOthers n fun d hd e => hn d hd (e.trans input.symm)
      · rw [settle_start, merged]
        rfl
      · rw [settle_loop _ (by rw [merged]; exact images), merged]
        rfl
  · intro due
    refine .of_actOn rfl h.on ?_
    have cfg : meterCfg (clearSent s) ch.toNat = some c := chan ▸ meterCfg_of_mem nodup hc
    obtain ⟨early, begins⟩ := beginCount_eq cfg
    rw [if_pos (by exact adopted)]
    by_cases now : due ≤ s.clk.us.toNat
    · obtain ⟨e, j, eq⟩ := begins (chan ▸ begun) now
      rw [eq, settle_fio, settle_start, settle_meter]
      refine ⟨rfl, rfl, fun _ => ?_, fun late => absurd now (Nat.not_le.2 late)⟩
      rw [← chan]
      exact updMeter_meter ..
    · rw [early (.inr (Nat.not_le.1 now)), settle_fio, settle_start, settle_meter]
      exact ⟨rfl, rfl, fun due' => absurd due' now, fun _ => rfl⟩
  · have cfg : meterCfg (clearSent s) ch.toNat = some c := chan ▸ meterCfg_of_mem nodup hc
    have run : qualifyEdge ch.toNat (clearSent s) = clearSent s := by
      rw [qualifyEdge_eq cfg, ← chan]
      exact if_neg fun yes => absurd (of_decide_eq_true (Bool.and_eq_true_iff.1 yes).2) (Nat.not_le.2 unstable)
    rw [run, settle_fio, settle_start, settle_meter]
    exact ⟨rfl, rfl, rfl⟩
  · have cfg : meterCfg (clearSent s) ch.toNat = some c := chan ▸ meterCfg_of_mem nodup hc
    rw [qualifyEdge_eq cfg, ← chan, if_pos (by exact qualifies begun differs stable)]
    dsimp only
    rw [if_neg (by rw [bne_iff_ne]; exact Classical.not_not.2 off), settle_fio, settle_start, settle_meter]
    exact ⟨updMeter_meter .., rfl, rfl⟩
  · have cfg : meterCfg (clearSent s) ch.toNat = some c := chan ▸ meterCfg_of_mem nodup hc
    obtain ⟨l, e, eq, raised⟩ := countPulse_eq c m.fwdAt.toNat ((clearSent s).updMeter c.chan fun x => { x with qs := x.fwd })
    have before : ((clearSent s).updMeter c.chan fun x => { x with qs := x.fwd }).meter c.chan = { m with qs := m.fwd } := updMeter_meter ..
    have run : qualifyEdge ch.toNat (clearSent s) =
        countPulse c m.fwdAt.toNat ((clearSent s).updMeter c.chan fun x => { x with qs := x.fwd }) := by
      rw [qualifyEdge_eq cfg, ← chan, if_pos (by exact qualifies begun differs stable)]
      exact if_pos (by rw [bne_iff_ne]; exact on)
    obtain ⟨total, cmds, acc0, acc1, acc2, acc3, fits, wraps⟩ :=
      countVals_spec c.weight (meterTariff s c (secondAt s m.fwdAt.toNat)) m.vals
    rw [before] at eq raised
    have pends := fun yes => (h.clear.of_same (t := countPulse c m.fwdAt.toNat _) (by rw [eq]; rfl) (by rw [eq]; rfl)).pend
      (n := 33) (by rw [eq]; exact raised yes)
    have counted : (settle (qualifyEdge ch.toNat (clearSent s))).meter c.chan =
        Meter.counted c m.fwdAt.toNat (meterTariff s c (secondAt s m.fwdAt.toNat)) (m.lastInterval m.fwdAt.toNat) m.vals { m with qs := m.fwd } := by
      rw [settle_meter, run, eq]
      refine (Store.get_upd_same ({} : Meter) ((clearSent s).updMeter c.chan fun x => { x with qs := x.fwd }).mtr.ch c.chan _).trans ?_
      show Meter.counted _ _ _ _ _ (((clearSent s).updMeter c.chan fun x => { x with qs := x.fwd }).meter c.chan) = _
      rw [before]
      rfl
    dsimp only
    rw [counted, run, settle_fio, settle_start, eq]
    exact ⟨total, rfl, rfl, congrArg some (BitVec.ofNat_toNat ..), cmds, acc0, acc1, acc2, acc3, fits, fun hw wrap => ⟨(wraps hw wrap).1, eq ▸ pends (wraps hw wrap).2⟩, rfl, rfl⟩

end Sys2Proof.Machine
end

section
/-! SUPPORT. Network time (13 R378 to R382): the host's increment and step, and what PTP decides. -/

namespace Sys2Proof.Machine

open Sys2Proof

/-- A command's state, at the end of its edge, where it left the start, the images and the variables. -/
theorem gives_kept {i : Instr} {s u : State} {g : State → State} (h : Calm s) (e : exec i s = actOn s g) (run : g (clearSent s) = u)
    (start : u.start = s.start) (pair : u.pair.images = (clearSent s).pair.images) (data : u.scan.data = s.scan.data) {P : State → Prop}
    (shows : P (settle u)) : Gives i s fun t => P t ∧ t.start = s.start ∧ t.scan.data = s.scan.data := by
  refine .of_actOn e h.on ?_
  rw [run]
  exact ⟨shows, (settle_start u).trans start, (settle_scan_data u (pair.trans h.clear.images)).trans data⟩

theorem clearSent_hostTime (s : State) : hostTime (clearSent s) = hostTime s := by
  unfold hostTime
  rw [clearSent_isStandby]
  rfl

/-! ## Steps -/

/-- The ticks that pass move NTIME where it counts (13 R377). -/
theorem elapse_ntime_eq (n : Nat) (s : State) : (elapse n s).ntime =
    if (s.start.power = .on ∨ s.start.power = .flush) ∧ s.ntime.started = true then s.ntime.elapse n else s.ntime := by
  unfold elapse
  simp only []
  split
  · rename_i on
    split
    · rename_i started
      exact (if_pos ⟨on, started⟩).symm
    · rename_i idle
      exact (if_neg fun e => idle e.2).symm
  · rename_i off
    exact (if_neg fun e => off e.1).symm

/-- They move its count alone. -/
theorem elapse_ntime (n : Nat) (s : State) : ∃ a b c, (elapse n s).ntime = { s.ntime with sec := a, ns := b, frac := c } := by
  rw [elapse_ntime_eq]
  split
  · exact ⟨_, _, _, rfl⟩
  · exact ⟨s.ntime.sec, s.ntime.ns, s.ntime.frac, rfl⟩

theorem elapse_scan (n : Nat) (s : State) : (elapse n s).scan = s.scan ∧ (elapse n s).ports = s.ports ∧ (elapse n s).evt = s.evt := by
  unfold elapse
  simp only []
  (repeat' split) <;> simp only [State.updNtime_scan, State.updTide_scan, State.updJrn_scan, State.updClk_scan, State.updCal_scan,
    State.updNtime_ports, State.updTide_ports, State.updJrn_ports, State.updClk_ports, State.updCal_ports, State.updNtime_evt,
    State.updTide_evt, State.updJrn_evt, State.updClk_evt, State.updCal_evt, and_self]

theorem elapse_clearSent_ntime (n : Nat) (s : State) : (elapse n (clearSent s)).ntime = (elapse n s).ntime := by
  rw [elapse_ntime_eq, elapse_ntime_eq]
  rfl

theorem stampNanos_stampOf {v : Nat} (h : v < 2 ^ 48 * 10 ^ 9) : stampNanos (stampOf v) = v := by
  unfold stampNanos stampOf
  rw [BitVec.toNat_ofNat, BitVec.toNat_ofNat, Nat.mod_eq_of_lt (Nat.div_lt_of_lt_mul (by rwa [Nat.mul_comm] at h)),
    Nat.mod_eq_of_lt (Nat.lt_of_lt_of_le (Nat.mod_lt _ (by decide)) (by decide)), Nat.mul_comm]
  exact Nat.div_add_mod ..

/-- What a step adds to NTIME. -/
def stepDelta (neg : Bool) (sec : BitVec 48) (ns : BitVec 30) : Int :=
  if neg then -((sec.toNat : Int) * 10 ^ 9 + ns.toNat) else (sec.toNat : Int) * 10 ^ 9 + ns.toNat

theorem stepNtime_rejects {neg : Bool} {sec : BitVec 48} {ns : BitVec 30} {s : State} (no : s.ntime.started = false ∨ 999999999 < ns.toNat) :
    stepNtime neg sec ns s = s.updNtime fun t => { t with stepRej := true } := by
  unfold stepNtime
  exact if_pos (no.imp (fun e => by rw [e]; rfl) id)

theorem stepNtime_out {neg : Bool} {sec : BitVec 48} {ns : BitVec 30} {s : State} (started : s.ntime.started = true)
    (valid : ns.toNat ≤ 999999999) {v : Int} (hv : (nowNanos (elapse 1 s) : Int) + stepDelta neg sec ns = v) 
    (out : v < 0 ∨ (2 ^ 48 * 10 ^ 9 : Nat) ≤ v) :
    stepNtime neg sec ns s = (elapse 1 s).updNtime fun t => { t with stepRej := true } := by
  subst hv
  unfold stepNtime
  rw [if_neg (not_or.2 ⟨by rw [started]; exact Bool.false_ne_true, Nat.not_lt.2 valid⟩)]
  exact if_pos out

/-- A step that its limits allow (13 R379). -/
theorem stepNtime_steps {neg : Bool} {sec : BitVec 48} {ns : BitVec 30} {s : State} (started : s.ntime.started = true)
    (valid : ns.toNat ≤ 999999999) {v : Int} (hv : (nowNanos (elapse 1 s) : Int) + stepDelta neg sec ns = v)
    (low : 0 ≤ v) (high : v < (2 ^ 48 * 10 ^ 9 : Nat)) : stepNtime neg sec ns s =
      raise 69 ((shiftMarks (stepDelta neg sec ns) (elapse 1 s)).updNtime fun x =>
        { x with sec := (stampOf v.toNat).sec, ns := (stampOf v.toNat).ns, set := true, steps := x.steps + 1 }) := by
  subst hv
  unfold stepNtime
  rw [if_neg (not_or.2 ⟨by rw [started]; exact Bool.false_ne_true, Nat.not_lt.2 valid⟩)]
  exact if_neg (not_or.2 ⟨Int.not_lt.2 low, Int.not_le.2 high⟩)

theorem stepNtime_ntime {neg : Bool} {sec : BitVec 48} {ns : BitVec 30} {s : State} (started : s.ntime.started = true)
    (valid : ns.toNat ≤ 999999999) {v : Int} (hv : (nowNanos (elapse 1 s) : Int) + stepDelta neg sec ns = v)
    (low : 0 ≤ v) (high : v < (2 ^ 48 * 10 ^ 9 : Nat)) : let t := stepNtime neg sec ns s
    (stampNanos t.ntime.now : Int) = v ∧ t.ntime.set = true ∧ t.ntime.steps = s.ntime.steps + 1 ∧ raisedIn t.evt.edge 69 := by
  obtain ⟨_, _, _, ntime⟩ := elapse_ntime 1 s
  dsimp only
  rw [stepNtime_steps started valid hv low high]
  generalize hz : stampOf v.toNat = z
  have marks : (shiftMarks (stepDelta neg sec ns) (elapse 1 s)).ntime = (elapse 1 s).ntime := rfl
  rw [raise_ntime, State.updNtime_ntime, marks, ntime]
  refine ⟨?_, rfl, rfl, raisedIn_raise ..⟩
  have fits : v.toNat < 2 ^ 48 * 10 ^ 9 := (Int.toNat_lt low).2 high
  have now : stampNanos z = v.toNat := hz ▸ stampNanos_stampOf fits
  exact (congrArg Nat.cast now).trans (Int.toNat_of_nonneg low)

/-! ## PTP -/

theorem shiftMarks_port (d : Int) (s : State) (n : Nat) : (shiftMarks d s).port n = shiftPort d (s.port n) := by
  have mapped : ∀ m : Store Port, Store.get ({} : Port) (m.map fun (n, x) => (n, shiftPort d x)) n = shiftPort d (Store.get {} m n) := by
    intro m
    induction m with
    | nil => rfl
    | cons e l ih =>
      rw [List.map_cons, Store.get, Store.get]
      split
      · rfl
      · exact ih
  exact mapped s.ports

/-- What a step leaves (13 R379). -/
theorem stepNtime_keeps (neg : Bool) (sec : BitVec 48) (ns : BitVec 30) (s : State) : let t := stepNtime neg sec ns s
    t.start = s.start ∧ t.pair = s.pair ∧ t.scan = s.scan ∧ t.ntime.incr = s.ntime.incr ∧ t.ntime.offset = s.ntime.offset
      ∧ t.ntime.servo = s.ntime.servo ∧ ∀ n, (t.port n).tsq = (s.port n).tsq ∧ (t.port n).rxStamp = (s.port n).rxStamp := by
  dsimp only
  by_cases no : s.ntime.started = false ∨ 999999999 < ns.toNat
  · rw [stepNtime_rejects no]
    exact ⟨rfl, rfl, rfl, rfl, rfl, rfl, fun _ => ⟨rfl, rfl⟩⟩
  · obtain ⟨started, valid⟩ := not_or.1 no
    rw [Bool.not_eq_false] at started
    obtain ⟨start, pair, -⟩ := elapse_rest 1 s
    obtain ⟨scan, ports, -⟩ := elapse_scan 1 s
    obtain ⟨_, _, _, ntime⟩ := elapse_ntime 1 s
    have port : ∀ n, (elapse 1 s).port n = s.port n := fun n => congrArg (fun x => Store.get ({} : Port) x n) ports
    by_cases out : (nowNanos (elapse 1 s) : Int) + stepDelta neg sec ns < 0 ∨ ((2 ^ 48 * 10 ^ 9 : Nat) : Int) ≤ nowNanos (elapse 1 s) + stepDelta neg sec ns
    · rw [stepNtime_out started (Nat.not_lt.1 valid) rfl out, State.updNtime_start, State.updNtime_pair, State.updNtime_scan,
        State.updNtime_ntime, ntime]
      exact ⟨start, pair, scan, rfl, rfl, rfl, fun n => by
        rw [show (State.updNtime _ _).port n = (elapse 1 s).port n from rfl, port]
        exact ⟨rfl, rfl⟩⟩
    · obtain ⟨low, high⟩ := not_or.1 out
      rw [stepNtime_steps started (Nat.not_lt.1 valid) rfl (Int.not_lt.1 low) (Int.not_le.1 high), raise_start, raise_pair, raise_scan,
        raise_ntime, State.updNtime_start, State.updNtime_pair, State.updNtime_scan, State.updNtime_ntime]
      refine ⟨start, pair, scan, ?_, ?_, ?_, fun n => ?_⟩
      · exact (by rw [ntime] : (elapse 1 s).ntime.incr = s.ntime.incr)
      · exact (by rw [ntime] : (elapse 1 s).ntime.offset = s.ntime.offset)
      · exact (by rw [ntime] : (elapse 1 s).ntime.servo = s.ntime.servo)
      · have shifted : (raise 69 ((shiftMarks (stepDelta neg sec ns) (elapse 1 s)).updNtime fun x =>
            { x with sec := (stampOf ((nowNanos (elapse 1 s) : Int) + stepDelta neg sec ns).toNat).sec
                     ns := (stampOf ((nowNanos (elapse 1 s) : Int) + stepDelta neg sec ns).toNat).ns
                     set := true, steps := x.steps + 1 })).port n = shiftPort (stepDelta neg sec ns) (s.port n) := by
          rw [← port n, ← shiftMarks_port]
          rfl
        rw [shifted]
        exact ⟨rfl, rfl⟩

/-- The grandmaster's UTC offset as a decision gives it (13 R381; 19 R545). -/
def ptpUtc (a : PtpAction) (s : State) : State :=
  match a.utc with
  | some (o, v) => refreshUtc (keepUtcOffset (s.updNtime fun t => { t with gmUtc := if v then some o else none }))
  | none => s

theorem ptpUtc_eq (a : PtpAction) (s : State) : ∃ c g v o,
    ptpUtc a s = { s with cal := c, ntime := { s.ntime with gmUtc := g, utcValid := v, utcOff := o } } := by
  unfold ptpUtc
  split
  · rename_i o v _
    obtain ⟨o', v', e⟩ := keepUtcOffset_eq (s.updNtime fun t => { t with gmUtc := if v then some o else none })
    rw [e]
    unfold refreshUtc
    split
    · exact ⟨_, _, _, _, rfl⟩
    · exact ⟨_, _, s.ntime.utcValid, s.ntime.utcOff, rfl⟩
  · exact ⟨s.cal, s.ntime.gmUtc, s.ntime.utcValid, s.ntime.utcOff, rfl⟩

/-- The increment that a decision gives (13 R382). -/
def ptpIncr (a : PtpAction) (s : State) : State :=
  match a.incr with
  | some (i, f) => if incrOk i f then putIncr i f s else s
  | none => s

theorem ptpIncr_eq (a : PtpAction) (s : State) : ∃ i f n, ptpIncr a s = { s with ntime := { s.ntime with incrInt := i, incrFrac := f, incr := n } }
    ∧ (a.incr = none → n = s.ntime.incr)
    ∧ ∀ i f, a.incr = some (i, f) → incrOk i f = true → n = BitVec.ofNat 40 (i.toNat * 2 ^ 32 + f.toNat) := by
  unfold ptpIncr
  split
  · rename_i i f e
    by_cases ok : incrOk i f = true
    · rw [if_pos ok]
      refine ⟨_, _, _, rfl, fun no => ?_, fun i' f' e' _ => ?_⟩
      · rw [e] at no
        cases no
      · rw [e] at e'
        cases e'
        rfl
    · rw [if_neg ok]
      refine ⟨s.ntime.incrInt, s.ntime.incrFrac, s.ntime.incr, rfl, fun _ => rfl, fun i' f' e' ok' => ?_⟩
      rw [e] at e'
      cases e'
      exact absurd ok' ok
  · rename_i e
    refine ⟨s.ntime.incrInt, s.ntime.incrFrac, s.ntime.incr, rfl, fun _ => rfl, fun i' f' e' _ => ?_⟩
    rw [e] at e'
    cases e'

/-- The step that a decision gives (13 R382). -/
def ptpStep (a : PtpAction) (s : State) : State :=
  match a.step with
  | some (n, sec, ns) => stepNtime n sec ns s
  | none => s

theorem ptpStep_keeps (a : PtpAction) (s : State) : let t := ptpStep a s
    t.start = s.start ∧ t.pair = s.pair ∧ t.scan = s.scan ∧ t.ntime.incr = s.ntime.incr ∧ t.ntime.offset = s.ntime.offset
      ∧ t.ntime.servo = s.ntime.servo ∧ ∀ n, (t.port n).tsq = (s.port n).tsq ∧ (t.port n).rxStamp = (s.port n).rxStamp := by
  unfold ptpStep
  split
  · exact stepNtime_keeps ..
  · exact ⟨rfl, rfl, rfl, rfl, rfl, rfl, fun _ => ⟨rfl, rfl⟩⟩

/-- A submission as it counts against its kind's rate (13 R382). -/
def ptpTallied (p : Nat) (f : Bytes) (s : State) : State :=
  match ptpCounted (ptpType f) with
  | some k => s.updPort p fun x => { x with ptpOut := (x.ptpOut.filter fun y => decide (s.clk.hfNs < y.2 + 10 ^ 9)) ++ [(k, s.clk.hfNs)] }
  | none => s

theorem ptpTallied_eq (p : Nat) (f : Bytes) (s : State) : ∃ ports out,
    ptpTallied p f s = { s with ports := ports } ∧ Store.get ({} : Port) ports p = { s.port p with ptpOut := out } := by
  unfold ptpTallied
  split
  · rename_i k _
    exact ⟨_, _, rfl, updPort_port s p fun x =>
      { x with ptpOut := (x.ptpOut.filter fun y => decide (s.clk.hfNs < y.2 + 10 ^ 9)) ++ [(k, s.clk.hfNs)] }⟩
  · exact ⟨s.ports, (s.port p).ptpOut, rfl, rfl⟩

theorem ptpSubmit_eq (p : Nat) (ident : BitVec 16) (f : Bytes) (s : State) : ptpSubmit p ident f s =
    if ptpMay s p f then enqueue p 2 { bytes := f, ident := some ident } (ptpTallied p f s) else s := rfl

/-- What a submission changes: its port's launch queue, its rate and its count (13 R382). -/
theorem ptpSubmit_keeps (p : Nat) (ident : BitVec 16) (f : Bytes) (s : State) : let t := ptpSubmit p ident f s
    (∃ ports, t = { s with ports := ports }) ∧ (t.port p).tsq = (s.port p).tsq ∧ (t.port p).rxStamp = (s.port p).rxStamp
      ∧ (ptpMay s p f = true → (s.port p).up = true → (s.port p).q2.length < 32 →
        (t.port p).q2 = (s.port p).q2 ++ [{ bytes := f, ident := some ident }]) := by
  rw [ptpSubmit_eq]
  by_cases may : ptpMay s p f = true
  · dsimp only
    rw [if_pos may]
    obtain ⟨ports, out, eq, port⟩ := ptpTallied_eq p f s
    rw [eq]
    have queued : (enqueue p 2 { bytes := f, ident := some ident } { s with ports := ports }).port p =
        if !(s.port p).up then { s.port p with ptpOut := out, linkdown := satInc (s.port p).linkdown }
        else if (s.port p).q2.length < 32 then
          { s.port p with ptpOut := out, q2 := (s.port p).q2 ++ [{ bytes := f, ident := some ident }] }
        else { s.port p with ptpOut := out } := by
      rw [enqueue, updPort_port]
      rw [show State.port { s with ports := ports } p = { s.port p with ptpOut := out } from port]
      rfl
    refine ⟨⟨_, rfl⟩, ?_, ?_, fun _ up room => ?_⟩
    · rw [queued]
      split
      · rfl
      · split <;> rfl
    · rw [queued]
      split
      · rfl
      · split <;> rfl
    · rw [queued, up, if_neg (by decide), if_pos room]
  · dsimp only
    rw [if_neg may]
    exact ⟨⟨s.ports, rfl⟩, rfl, rfl, fun yes => absurd yes may⟩

/-- The reply that a decision gives (13 R382). -/
def ptpReply (p : Nat) (a : PtpAction) (s : State) : State :=
  match a.reply with
  | some (i, b) => ptpSubmit p i b s
  | none => s

theorem ptpReply_keeps (p : Nat) (a : PtpAction) (s : State) : let t := ptpReply p a s
    (∃ ports, t = { s with ports := ports }) ∧ (t.port p).tsq = (s.port p).tsq ∧ (t.port p).rxStamp = (s.port p).rxStamp
      ∧ (∀ i m, a.reply = some (i, m) → ptpMay s p m = true → (s.port p).up = true → (s.port p).q2.length < 32 →
        (t.port p).q2 = (s.port p).q2 ++ [{ bytes := m, ident := some i }]) := by
  unfold ptpReply
  split
  · rename_i i b e
    obtain ⟨ports, tsq, rxStamp, q2⟩ := ptpSubmit_keeps p i b s
    refine ⟨ports, tsq, rxStamp, fun i' b' e' => ?_⟩
    rw [e] at e'
    cases e'
    exact q2
  · rename_i e
    refine ⟨⟨s.ports, rfl⟩, rfl, rfl, fun i' b' e' => ?_⟩
    rw [e] at e'
    cases e'

/-- The offset, the UTC offset and the increment that a decision gives. -/
def ptpDecided (a : PtpAction) (s : State) : State :=
  ptpIncr a (ptpUtc a (s.updNtime fun t => { t with offset := BitVec.ofInt 32 (max (-2147483648) (min 2147483647 a.offset)) }))

theorem ptpDecided_spec (a : PtpAction) (s : State) : let u := ptpDecided a s
    u.start = s.start ∧ u.pair = s.pair ∧ u.scan = s.scan ∧ (∀ p, u.port p = s.port p) ∧ u.ntime.servo = s.ntime.servo
      ∧ u.ntime.offset = BitVec.ofInt 32 (max (-2147483648) (min 2147483647 a.offset))
      ∧ (u.ntime.now = s.ntime.now ∧ u.ntime.frac = s.ntime.frac ∧ u.ntime.steps = s.ntime.steps) ∧ (∀ p m, ptpMay u p m = ptpMay s p m)
      ∧ (a.incr = none → u.ntime.incr = s.ntime.incr)
      ∧ (∀ i f, a.incr = some (i, f) → incrOk i f = true → u.ntime.incr = BitVec.ofNat 40 (i.toNat * 2 ^ 32 + f.toNat)) := by
  unfold ptpDecided
  obtain ⟨c, g, v, o, e2⟩ := ptpUtc_eq a (s.updNtime fun t => { t with offset := BitVec.ofInt 32 (max (-2147483648) (min 2147483647 a.offset)) })
  rw [e2]
  obtain ⟨i, f, n, e3, keeps, incr⟩ := ptpIncr_eq a { s.updNtime fun t => { t with offset := BitVec.ofInt 32 (max (-2147483648) (min 2147483647 a.offset)) } with
    cal := c, ntime := { (s.updNtime fun t => { t with offset := BitVec.ofInt 32 (max (-2147483648) (min 2147483647 a.offset)) }).ntime with
      gmUtc := g, utcValid := v, utcOff := o } }
  rw [e3]
  exact ⟨rfl, rfl, rfl, fun _ => rfl, rfl, rfl, ⟨rfl, rfl, rfl⟩, fun _ _ => rfl, keeps, incr⟩

theorem ptpAct_eq (p : Nat) (a : PtpAction) (s : State) :
    ptpAct p a s = setServo p a.servo (ptpReply p a (ptpStep a (ptpDecided a s))) := rfl

/-- A servo's state, with its event where it changes (13 R382). -/
theorem setServo_eq (p : Nat) (v : BitVec 2) (s : State) : ∃ e, setServo p v s = { s with evt := e, ntime := { s.ntime with servo := v } }
    ∧ (s.ntime.servo ≠ v → raisedIn e.edge 70) := by
  unfold setServo
  split
  · rename_i same
    refine ⟨s.evt, ?_, fun differs => absurd same differs⟩
    rw [← same]
  · exact ⟨_, rfl, fun _ => raisedIn_raise 70 p s⟩

/-- What PTP decides on a message, as it stands in network time and in the message's port (13 R382). -/
theorem ptpAct_spec (p : Nat) (a : PtpAction) (s : State) : let t := ptpAct p a s
    (t.start = s.start ∧ t.pair = s.pair ∧ t.scan = s.scan) ∧ (t.port p).tsq = (s.port p).tsq ∧ (t.port p).rxStamp = (s.port p).rxStamp
      ∧ t.ntime.servo = a.servo ∧ t.ntime.offset = BitVec.ofInt 32 (max (-2147483648) (min 2147483647 a.offset))
      ∧ (s.ntime.servo ≠ a.servo → raisedIn t.evt.edge 70)
      ∧ (a.incr = none → t.ntime.incr = s.ntime.incr)
      ∧ (∀ i f, a.incr = some (i, f) → incrOk i f = true → t.ntime.incr = BitVec.ofNat 40 (i.toNat * 2 ^ 32 + f.toNat))
      ∧ (a.step = none → t.ntime.now = s.ntime.now ∧ t.ntime.frac = s.ntime.frac ∧ t.ntime.steps = s.ntime.steps)
      ∧ (∀ i m, a.reply = some (i, m) → a.step = none → ptpMay s p m = true → (s.port p).up = true → (s.port p).q2.length < 32 →
        (t.port p).q2 = (s.port p).q2 ++ [{ bytes := m, ident := some i }]) := by
  obtain ⟨start, pair, scan, port, servo, offset, count, may, incrNone, incrSome⟩ := ptpDecided_spec a s
  rw [ptpAct_eq]
  generalize ptpDecided a s = u at start pair scan port servo offset count may incrNone incrSome
  obtain ⟨start', pair', scan', incr', offset', servo', ports'⟩ := ptpStep_keeps a u
  have unstepped : a.step = none → ptpStep a u = u := fun none => by rw [ptpStep, none]
  generalize ptpStep a u = v at start' pair' scan' incr' offset' servo' ports' unstepped
  obtain ⟨⟨q, eq⟩, tsq, rxStamp, q2⟩ := ptpReply_keeps p a v
  have replied : (ptpReply p a v).start = v.start ∧ (ptpReply p a v).pair = v.pair ∧ (ptpReply p a v).scan = v.scan
      ∧ (ptpReply p a v).ntime = v.ntime := by
    rw [eq]
    exact ⟨rfl, rfl, rfl, rfl⟩
  obtain ⟨start'', pair'', scan'', ntime''⟩ := replied
  generalize ptpReply p a v = w at tsq rxStamp q2 start'' pair'' scan'' ntime''
  obtain ⟨e, set, raised⟩ := setServo_eq p a.servo w
  rw [set]
  dsimp only
  rw [ntime'']
  refine ⟨⟨start''.trans (start'.trans start), pair''.trans (pair'.trans pair), scan''.trans (scan'.trans scan)⟩, ?_, ?_, rfl,
    offset'.trans offset, fun differs => raised ?_, fun none => incr'.trans (incrNone none), fun i f some ok => incr'.trans (incrSome i f some ok),
    fun none => ?_, fun i m reply none => ?_⟩
  · exact tsq.trans ((ports' p).1.trans (congrArg Port.tsq (port p)))
  · exact rxStamp.trans ((ports' p).2.trans (congrArg Port.rxStamp (port p)))
  · rwa [ntime'', servo', servo]
  · rw [unstepped none]
    exact count
  · have queued := q2 i m reply
    rw [unstepped none, may, port p] at queued
    exact queued

/-! ## A message as the firmware takes it -/

theorem updPort_eq (s : State) (p : Nat) (f : Port → Port) :
    ∃ ports, s.updPort p f = { s with ports := ports } ∧ Store.get ({} : Port) ports p = f (s.port p) :=
  ⟨_, rfl, updPort_port s p f⟩

/-- What a PTP port holds of a message when the firmware takes it (13 R383). -/
def ptpHeld (p : Nat) (b : Bytes) (s : State) : State :=
  if !(s.port p).ptpIn.any (fun y => y.1 == b) && plainTakes s p b && isPtp b then handPtp p b s else s

theorem ptpHeld_spec {p : Nat} {b : Bytes} {w : Option Stamp} {s : State}
    (held : (s.port p).ptpIn.find? (·.1 == b) = some (b, w)
      ∨ (s.port p).ptpIn.find? (·.1 == b) = none ∧ plainTakes s p b = true ∧ isPtp b = true
        ∧ w = if ptpEvent b then some (stampMoved s.ntime.now (-((portCfg s p).rxLat : Int))) else none) :
    ∃ ports l, ptpHeld p b s = { s with ports := ports } ∧ Store.get ({} : Port) ports p = { s.port p with ptpIn := l }
      ∧ l.find? (fun y => y.1 == b) = some (b, w) := by
  have any : (s.port p).ptpIn.any (fun y => y.1 == b) = ((s.port p).ptpIn.find? (·.1 == b)).isSome :=
    Bool.eq_iff_iff.2 (List.any_eq_true.trans List.find?_isSome.symm)
  unfold ptpHeld
  rw [any]
  obtain found | ⟨absent, takes, ptp, rfl⟩ := held
  · rw [found]
    exact ⟨s.ports, _, if_neg (by rw [Option.isSome_some, Bool.not_true, Bool.false_and, Bool.false_and]; exact Bool.false_ne_true), rfl, found⟩
  · rw [absent, takes, ptp]
    obtain ⟨ports, eq, port⟩ := updPort_eq s p fun x =>
      { x with ptpIn := x.ptpIn ++ [(b, if ptpEvent b then some (stampMoved s.ntime.now (-((portCfg s p).rxLat : Int))) else none)] }
    refine ⟨ports, _, (if_pos rfl).trans eq, port, ?_⟩
    rw [List.find?_append, absent, Option.none_or]
    exact List.find?_cons_of_pos (beq_self_eq_true b)

/-- A message that its port hands on, as it is taken: the firmware acts on it, or does not (13 R382, R383). -/
theorem ptpMessage_eq {p : Nat} {b : Bytes} {a : PtpAction} {w : Option Stamp} {s : State} (enabled : (portCfg s p).enabled = true)
    (ptp : (portCfg s p).ptp = true) (held : (s.port p).ptpIn.find? (·.1 == b) = some (b, w)
      ∨ (s.port p).ptpIn.find? (·.1 == b) = none ∧ plainTakes s p b = true ∧ isPtp b = true
        ∧ w = if ptpEvent b then some (stampMoved s.ntime.now (-((portCfg s p).rxLat : Int))) else none) :
    ∃ ports l, ptpMessage p b a s = (if s.isStandby || !ptpServed s b then { s with ports := ports } else ptpAct p a { s with ports := ports })
      ∧ Store.get ({} : Port) ports p = { s.port p with ptpIn := l, rxStamp := if w.isSome then w else (s.port p).rxStamp, tsq := [] } := by
  obtain ⟨ports, l, eq, port, found⟩ := ptpHeld_spec held
  obtain ⟨ports', eq', port'⟩ := updPort_eq { s with ports := ports } p fun x =>
    { x with ptpIn := x.ptpIn.eraseP fun y => y.1 == b, rxStamp := if w.isSome then w else x.rxStamp, tsq := [] }
  have run : ptpMessage p b a s = (match ((ptpHeld p b s).port p).ptpIn.find? fun y => y.1 == b with
      | none => ptpHeld p b s
      | some (_, t) => if (takePtp p b t (ptpHeld p b s)).isStandby || !ptpServed (takePtp p b t (ptpHeld p b s)) b then takePtp p b t (ptpHeld p b s)
        else ptpAct p a (takePtp p b t (ptpHeld p b s))) := by
    unfold ptpMessage
    rw [if_pos (by rw [enabled, ptp]; rfl)]
    rfl
  have port0 : ({ s with ports := ports } : State).port p = { s.port p with ptpIn := l } := port
  have taken : takePtp p b w { s with ports := ports } = { s with ports := ports' } := eq'
  refine ⟨ports', l.eraseP fun y => y.1 == b, ?_, ?_⟩
  · rw [run, eq, port0, found]
    dsimp only
    rw [taken]
    rfl
  · rw [port', port0]

/-- What the limits of R382 read of a state. -/
theorem ptpMay_congr {s u : State} (man : u.man = s.man) (clk : u.clk = s.clk) {p : Nat} (out : (u.port p).ptpOut = (s.port p).ptpOut) (m : Bytes) :
    ptpMay u p m = ptpMay s p m := by
  unfold ptpMay ptpRecent
  rw [man, clk, out]

/-- Settles O52: the increment, the step and PTP's decisions on NTIME, applied where their conditions hold. -/
theorem networkTimeCommands : Obligations.NetworkTimeCommands := by
  intro s h z gives
  refine ⟨fun path f => ⟨fun host ok => ?_, fun no => ?_⟩, fun path => ?_, fun p b a w enabled ptp held => ?_, fun p first => ?_⟩
  · have run : hostIncr f (clearSent s) = putIncr s.ntime.incrInt f (clearSent s) :=
      if_pos (Bool.and_eq_true_iff.2 ⟨(clearSent_hostTime s).trans host, ok⟩)
    refine gives_kept h (g := hostIncr f) rfl run rfl rfl rfl ?_
    rw [settle_ntime]
    rfl
  · have run : hostIncr f (clearSent s) = rejectHostTime (clearSent s) := by
      refine if_neg fun yes => ?_
      obtain ⟨host, ok⟩ := Bool.and_eq_true_iff.1 yes
      obtain no | no := no
      · rw [clearSent_hostTime, no] at host
        cases host
      · exact absurd ok (by rw [clearSent_ntime, no]; exact Bool.false_ne_true)
    refine gives_kept h (g := hostIncr f) rfl run rfl rfl rfl ?_
    rw [settle_ntime]
    rfl
  · intro m v
    have delta : (nowNanos (elapse 1 (clearSent s)) : Int) + stepDelta z.stepNeg z.stepSec z.stepNs = v := by
      rw [nowNanos, elapse_clearSent_ntime]
      rfl
    obtain ⟨start, pair, scan, incr, -⟩ := stepNtime_keeps z.stepNeg z.stepSec z.stepNs (clearSent s)
    obtain ⟨_, _, _, ntime⟩ := elapse_ntime 1 (clearSent s)
    have host' : hostTime s = true → hostStep (clearSent s) = stepNtime z.stepNeg z.stepSec z.stepNs (clearSent s) := fun host =>
      if_pos ((clearSent_hostTime s).trans host)
    have keyed : exec (.ntimeStep path 0x7143) s = actKey s 0x7143 0x7143 hostStep := rfl
    have e : exec (.ntimeStep path 0x7143) s = actOn s hostStep := keyed.trans (if_pos rfl)
    refine ⟨fun no => ?_, fun host started valid => ⟨fun low high => ?_, fun out => ?_⟩, fun host bad => ?_⟩
    · have run : hostStep (clearSent s) = rejectHostTime (clearSent s) := if_neg (by rw [clearSent_hostTime, no]; exact Bool.false_ne_true)
      refine gives_kept h e run rfl rfl rfl ?_
      rw [settle_ntime]
      rfl
    · refine gives_kept h e (host' host) start (congrArg Pair.images pair) (congrArg Scan.data scan) ?_
      have calm : Calm (stepNtime z.stepNeg z.stepSec z.stepNs (clearSent s)) := h.clear.of_same start (congrArg Pair.images pair)
      obtain ⟨now, set, steps, raised⟩ := stepNtime_ntime (s := clearSent s) started valid delta low high
      rw [settle_ntime]
      exact ⟨now, set, steps, incr, calm.pend raised⟩
    · refine gives_kept h e (host' host) start (congrArg Pair.images pair) (congrArg Scan.data scan) ?_
      rw [settle_ntime, stepNtime_out (s := clearSent s) started valid delta out, State.updNtime_ntime, ← elapse_clearSent_ntime, ntime]
      exact ⟨rfl, rfl, rfl⟩
    · have run := (host' host).trans (stepNtime_rejects (s := clearSent s) (bad.imp id id))
      refine gives_kept h e run rfl rfl rfl ?_
      rw [settle_ntime]
      rfl
  · intro taken
    have held' : ((clearSent s).port p.toNat).ptpIn.find? (·.1 == b) = some (b, w)
        ∨ ((clearSent s).port p.toNat).ptpIn.find? (·.1 == b) = none ∧ plainTakes (clearSent s) p.toNat b = true ∧ isPtp b = true
          ∧ w = if ptpEvent b then some (stampMoved (clearSent s).ntime.now (-((portCfg (clearSent s) p.toNat).rxLat : Int))) else none := held
    obtain ⟨ports, l, run, port⟩ := ptpMessage_eq (a := a) (s := clearSent s) enabled ptp held'
    have role : (clearSent s).isStandby = s.isStandby := clearSent_isStandby s
    have port' : ({ clearSent s with ports := ports } : State).port p.toNat =
        { s.port p.toNat with ptpIn := l, rxStamp := if w.isSome then w else (s.port p.toNat).rxStamp, tsq := [] } := port
    have settled : ∀ u : State, (settle u).port p.toNat = u.port p.toNat := fun u =>
      congrArg (fun x => Store.get ({} : Port) x p.toNat) (settle_ports u)
    constructor
    · intro unserved
      have quiet : ((clearSent s).isStandby || !ptpServed (clearSent s) b) = true := by
        obtain standby | unserved := unserved
        · rw [role, standby, Bool.true_or]
        · rw [show ptpServed (clearSent s) b = false from unserved, Bool.not_false, Bool.or_true]
      rw [if_pos quiet] at run
      refine gives_kept h rfl run rfl rfl rfl ?_
      rw [settle_ntime]
      refine ⟨rfl, ?_, ?_⟩
      · rw [settled, port']
      · rw [settled, port']
    · intro active served
      have acts : ¬((clearSent s).isStandby || !ptpServed (clearSent s) b) = true := by
        rw [role, active, show ptpServed (clearSent s) b = true from served]
        decide
      rw [if_neg acts] at run
      obtain ⟨⟨start, pair, scan⟩, tsq, rxStamp, servo, offset, raised, incrNone, incrSome, unstepped, reply⟩ :=
        ptpAct_spec p.toNat a { clearSent s with ports := ports }
      refine gives_kept h rfl run start (congrArg Pair.images pair) (congrArg Scan.data scan) ?_
      have calm : Calm (ptpAct p.toNat a { clearSent s with ports := ports }) :=
        h.clear.of_same start (congrArg Pair.images pair)
      rw [settle_ntime]
      refine ⟨⟨?_, ?_⟩, servo, offset, fun differs => calm.pend (raised differs), incrNone, incrSome, unstepped, fun i m hr none may up room => ?_⟩
      · rw [settled, tsq, port']
      · rw [settled, rxStamp, port']
      · rw [settled]
        have queued := reply i m hr none
        have may' : ptpMay { clearSent s with ports := ports } p.toNat m = true :=
          (ptpMay_congr (s := s) (u := { clearSent s with ports := ports }) rfl rfl (by rw [port']) m).trans may
        rw [port'] at queued
        exact queued may' up room
  · obtain ⟨e, run, raised⟩ := setServo_eq p (if s.ntime.servo = 2 then 3 else if s.ntime.servo = 1 then 0 else s.ntime.servo)
      ((clearSent s).updNtime fun t => { t with gmUtc := none })
    have timeout : announceTimeout (clearSent s) =
        setServo p (if s.ntime.servo = 2 then 3 else if s.ntime.servo = 1 then 0 else s.ntime.servo)
          ((clearSent s).updNtime fun t => { t with gmUtc := none }) := by
      unfold announceTimeout
      rw [show (List.range 8).find? (fun p => (portCfg (clearSent s) p).enabled && (portCfg (clearSent s) p).ptp) = some p from first]
      rfl
    have run' := timeout.trans run
    refine gives_kept h rfl run' rfl rfl rfl ?_
    refine ⟨?_, fun changes => ?_⟩
    · rw [settle_ntime]
      rfl
    · refine settle_pend _ 70 (by decide) h.on h.clear.images (.inl (raised ?_))
      show s.ntime.servo ≠ _
      obtain two | one := changes
      · rw [show s.ntime.servo = 2 from two]
        decide
      · rw [show s.ntime.servo = 1 from one]
        decide

end Sys2Proof.Machine
end

section
/-! SUPPORT. A frame of a station (12 R345, R352): what the engine makes of it does not turn on what the ports and the crossing link hold. -/

namespace Sys2Proof.Machine

open Sys2Proof

/-- A state with other ports and other messages sent. -/
def State.beside (s : State) (ports : Store Port) (sent : List LinkMsg) (held : Option (Nat × SolverMsg)) (seq : Word) : State :=
  { s with ports := ports, pair := s.pair.sends sent held seq }

/-- Two states that differ in their ports and in what the crossing link has sent alone, the first with the ports `p` and no image
waiting. -/
def Beside (p : Store Port) (s u : State) : Prop := s.ports = p ∧ s.pair.images = [] ∧ ∃ ports sent held seq, u = s.beside ports sent held seq

section Operations

variable {p : Store Port} {s u : State}

theorem Beside.raise (h : Beside p s u) (n k : Nat) : Beside p (raise n s k) (raise n u k) := by
  obtain ⟨ports, images, q, a, b, c, rfl⟩ := h
  exact ⟨ports, images, q, a, b, c, rfl⟩

theorem Beside.addRec (h : Beside p s u) (r : NewRec) : Beside p (addRec r s) (addRec r u) := by
  obtain ⟨ports, images, q, a, b, c, rfl⟩ := h
  exact ⟨ports, images, q, a, b, c, rfl⟩

theorem Beside.updScan (h : Beside p s u) (f : Scan → Scan) : Beside p (s.updScan f) (u.updScan f) := by
  obtain ⟨ports, images, q, a, b, c, rfl⟩ := h
  exact ⟨ports, images, q, a, b, c, rfl⟩

theorem Beside.updTask (h : Beside p s u) (n : Nat) (f : Task → Task) : Beside p (s.updTask n f) (u.updTask n f) := h.updScan _

theorem Beside.updStn (h : Beside p s u) (f : StnEng → StnEng) : Beside p (s.updStn f) (u.updStn f) := by
  obtain ⟨ports, images, q, a, b, c, rfl⟩ := h
  exact ⟨ports, images, q, a, b, c, rfl⟩

theorem Beside.updStation (h : Beside p s u) (n : Nat) (f : Stn → Stn) : Beside p (s.updStation n f) (u.updStation n f) := h.updStn _

theorem Beside.sendLink (h : Beside p s u) (m : LinkMsg) : Beside p (sendLink m s) (sendLink m u) := by
  obtain ⟨ports, images, q, a, b, c, rfl⟩ := h
  obtain ⟨a', b', c', e'⟩ := sendLink_eq m (s.beside q a b c)
  obtain ⟨a'', b'', c'', e''⟩ := sendLink_eq m s
  rw [e', e'']
  exact ⟨ports, images, q, a', b', c', rfl⟩

/-- What such states show alike. -/
theorem Beside.shows (h : Beside p s u) : u.scan = s.scan ∧ u.stn = s.stn ∧ u.man = s.man ∧ u.clk = s.clk ∧ u.tide = s.tide ∧ u.start = s.start
    ∧ u.isStandby = s.isStandby ∧ u.isActive = s.isActive ∧ u.inPair = s.inPair ∧ u.pair.images = s.pair.images := by
  obtain ⟨ports, images, q, a, b, c, rfl⟩ := h
  exact ⟨rfl, rfl, rfl, rfl, rfl, rfl, rfl, rfl, rfl, rfl⟩

theorem Beside.ite (c : Prop) [Decidable c] {s' u' : State} (yes : c → Beside p s u) (no : ¬c → Beside p s' u') :
    Beside p (if c then s else s') (if c then u else u') := by
  split
  · exact yes ‹_›
  · exact no ‹_›

theorem Beside.countEnded (h : Beside p s u) (t : Nat) : Beside p (countEnded t s) (countEnded t u) := by
  obtain ⟨ports, images, q, a, b, c, rfl⟩ := h
  unfold Machine.countEnded
  have same : (s.beside q a b c).task t = s.task t := rfl
  rw [same]
  cases (s.task t).run with
  | none => exact ⟨ports, images, q, a, b, c, rfl⟩
  | some r => exact ⟨ports, images, q, a, b, c, rfl⟩

theorem Beside.queueCause (h : Beside p s u) (c : ErrCause) : Beside p (queueCause c s) (queueCause c u) := by
  unfold Machine.queueCause
  rw [h.shows.1]
  exact .ite _ (fun _ => h.updScan _) fun _ => (h.updScan _).raise _ _

theorem Beside.realFault (h : Beside p s u) (c : ErrCause) : Beside p (realFault c s) (realFault c u) := by
  have faulted := ((((h.countEnded c.task).updTask c.task fun k => { k with run := none }).updTask c.task fun k =>
    { k with faults := satInc k.faults }).addRec { source := 160, sev := 5, sub := c.task
                                                   payload := BitVec.ofNat 64 (c.off + c.code * 2 ^ 32) }).raise 160 0
  exact .ite _ (fun _ => faulted) fun _ => faulted.queueCause c

theorem Beside.tellDecision (h : Beside p s u) (t : Nat) (r : Run) (b : Bool) : Beside p (tellDecision t r b s) (tellDecision t r b u) := by
  obtain ⟨scan, stn, man, clk, tide, start, standby, active, inPair, -⟩ := h.shows
  unfold Machine.tellDecision
  rw [inPair, active, stn]
  exact .ite _ (fun _ => ((h.updTask t _).updStn _).sendLink _) fun _ => h

theorem Beside.confirmScan (h : Beside p s u) (t : Nat) (r : Run) : Beside p (confirmScan t r s) (confirmScan t r u) := by
  have told := (h.updTask t fun k =>
    { k with confirms := satInc k.confirms
             run := some { r with spec := false, watch := [], loads := [], held := none
                                  phase := if r.phase = .reexecuting then .reexecuting else .running } }).tellDecision t r true
  unfold Machine.confirmScan
  cases r.held with
  | none => exact told
  | some c => exact told.realFault c

theorem Beside.replayScan (h : Beside p s u) (t : Nat) (c : TaskCfg) (r : Run) : Beside p (replayScan t c r s) (replayScan t c r u) := by
  obtain ⟨scan, stn, man, -⟩ := h.shows
  unfold Machine.replayScan withActual freshRun
  rw [scan, man]
  exact ((h.updTask t _).tellDecision t r false).raise _ _

theorem Beside.putRun (h : Beside p s u) (t : Nat) (r : Run) : Beside p (putRun t r s) (putRun t r u) := by
  have edge : edgeNow u = edgeNow s := by
    obtain ⟨ports, images, q, a, b, c, rfl⟩ := h
    rfl
  unfold Machine.putRun
  rw [edge, h.shows.1]
  have numbered : Beside p (if s.scan.readyEdge = some (edgeNow s) then s
      else s.updScan fun x => { x with readies := x.readies + 1, readyEdge := some (edgeNow s) })
      (if s.scan.readyEdge = some (edgeNow s) then u
      else u.updScan fun x => { x with readies := x.readies + 1, readyEdge := some (edgeNow s) }) := .ite _ (fun _ => h) fun _ => h.updScan _
  dsimp only
  rw [numbered.shows.1]
  exact numbered.updTask _ _

theorem Beside.resolveScan (h : Beside p s u) (t : Nat) (d : Option Bool) : Beside p (resolveScan t d s) (resolveScan t d u) := by
  obtain ⟨scan, stn, man, -⟩ := h.shows
  have task : u.task t = s.task t := congrArg (fun x : Scan => Store.get ({} : Task) x.tasks t) scan
  have cfg : taskCfg u t = taskCfg s t := by
    obtain ⟨ports, images, q, a, b, c, rfl⟩ := h
    rfl
  unfold Machine.resolveScan
  rw [task, cfg]
  cases (s.task t).run with
  | none => exact h
  | some r =>
    cases taskCfg s t with
    | none => exact h
    | some c =>
      refine .ite _ (fun _ => .ite _ (fun _ => ?_) fun _ => .ite _ (fun _ => ?_) fun _ => h) fun _ => h
      · rw [show speculationHolds u r = speculationHolds s r by unfold speculationHolds; rw [scan]]
        exact .ite _ (fun _ => h.confirmScan t r) fun _ => h.replayScan t c r
      · rw [show withActual u r = withActual s r by unfold withActual; rw [scan]]
        exact h.putRun _ _

theorem Beside.foldl {α : Type} {f : State → α → State} (each : ∀ {s u} a, Beside p s u → Beside p (f s a) (f u a)) (l : List α) (h : Beside p s u) :
    Beside p (l.foldl f s) (l.foldl f u) := by
  induction l generalizing s u with
  | nil => exact h
  | cons a l ih => exact ih (each a h)

/-- A task's scan as a station it awaits has settled (10 R286 to R288). -/
def settledTask (n : Nat) (missed : List Nat) (s : State) (x : Nat × Task) : State :=
  match x.2.run with
  | some r =>
    if r.outstanding.contains n then
      let s := s.updRun x.1 fun r => forgetWords missed { r with outstanding := r.outstanding.filter (· != n) }
      if s.isStandby && r.spec then s else resolveScan x.1 none s
    else s
  | none => s

theorem stationSettled_eq (n : Nat) (missed : List Nat) (s : State) :
    stationSettled n missed s = s.scan.tasks.foldl (settledTask n missed) s := rfl

theorem Beside.settledTask (h : Beside p s u) (n : Nat) (missed : List Nat) (x : Nat × Task) :
    Beside p (settledTask n missed s x) (settledTask n missed u x) := by
  unfold Machine.settledTask
  cases x.2.run with
  | none => exact h
  | some r =>
    have settled : Beside p (s.updRun x.1 fun r => forgetWords missed { r with outstanding := r.outstanding.filter (· != n) })
        (u.updRun x.1 fun r => forgetWords missed { r with outstanding := r.outstanding.filter (· != n) }) := h.updTask _ _
    obtain ⟨-, -, -, -, -, -, standby, -⟩ := settled.shows
    dsimp only
    rw [standby]
    exact .ite _ (fun _ => .ite _ (fun _ => settled) fun _ => settled.resolveScan _ _) fun _ => h

theorem Beside.stationSettled (h : Beside p s u) (n : Nat) (missed : List Nat) : Beside p (stationSettled n missed s) (stationSettled n missed u) := by
  rw [stationSettled_eq, stationSettled_eq, h.shows.1]
  exact h.foldl (fun x h => h.settledTask n missed x) _

theorem Beside.forwardOutcome (h : Beside p s u) (o : StationOutcome) : Beside p (forwardOutcome o s) (forwardOutcome o u) := by
  obtain ⟨-, -, -, -, -, -, -, active, inPair, -⟩ := h.shows
  unfold Machine.forwardOutcome
  rw [active, inPair]
  exact .ite _ (fun _ => h.updStn _) fun _ => h

theorem Beside.acceptReply (h : Beside p s u) (c : StationCfg) (b fs : Bool) (idx : List Nat) (words : List Word) :
    Beside p (acceptReply c b fs idx words s) (acceptReply c b fs idx words u) := by
  have station : u.station c.num = s.station c.num := congrArg (fun x : StnEng => Store.get ({} : Stn) x.stns c.num) h.shows.2.1
  unfold Machine.acceptReply
  rw [station]
  have alarmed : Beside p (if fs && (s.station c.num).heard && !(s.station c.num).failsafe then Machine.raise 100 s c.num else s)
      (if fs && (s.station c.num).heard && !(s.station c.num).failsafe then Machine.raise 100 u c.num else u) :=
    .ite _ (fun _ => h.raise _ _) fun _ => h
  dsimp only
  have scattered := alarmed.updScan fun d => { d with data := scatter d.data idx words }
  rw [scattered.shows.2.2.2.2.1]
  exact scattered.updStation _ _

theorem Beside.rejectStation (h : Beside p s u) : Beside p (rejectStation s) (rejectStation u) := h.updStn _

/-- What a reply's tests read of the state (12 R345). -/
theorem Beside.cfg (h : Beside p s u) (n : Nat) :
    (if u.isStandby then none else stationCfg u n) = if s.isStandby then none else stationCfg s n := by
  obtain ⟨ports, images, q, a, b, c, rfl⟩ := h
  rfl

theorem Beside.tests (h : Beside p s u) (n : Nat) (c : StationCfg) (port : Nat) (src : Bytes) :
    u.station n = s.station n ∧ replyPath u c port src = replyPath s c port src := by
  obtain ⟨ports, images, q, a, b, d, rfl⟩ := h
  exact ⟨rfl, rfl⟩

theorem Beside.ferryReply (h : Beside p s u) (port : Nat) (f : Bytes) : Beside p (ferryReply port f s) (ferryReply port f u) := by
  unfold Machine.ferryReply
  dsimp only
  rw [h.cfg]
  cases hc : (if s.isStandby then none else stationCfg s (fld (splitFrame f).head 2 2)) with
  | none => exact h.rejectStation
  | some c =>
    obtain ⟨station, path⟩ := h.tests (fld (splitFrame f).head 2 2) c port (splitFrame f).src
    dsimp only
    rw [station, path]
    cases replyPath s c port (splitFrame f).src with
    | none => exact h.rejectStation
    | some b =>
      exact .ite _ (fun _ => .ite _ (fun _ => h.updStation _ _) fun _ => ((h.acceptReply ..).forwardOutcome _).stationSettled _ _)
        fun _ => h.rejectStation

theorem Beside.pollReply (h : Beside p s u) (port : Nat) (f : Bytes) : Beside p (pollReply port f s) (pollReply port f u) := by
  unfold Machine.pollReply
  dsimp only
  rw [h.cfg]
  cases hc : (if s.isStandby then none else stationCfg s (fld (splitFrame f).head 2 2)) with
  | none => exact h.rejectStation
  | some c =>
    obtain ⟨station, path⟩ := h.tests (fld (splitFrame f).head 2 2) c port (splitFrame f).src
    dsimp only
    rw [station, path, h.shows.2.2.2.1]
    cases replyPath s c port (splitFrame f).src with
    | none => exact h.rejectStation
    | some b =>
      cases (s.station (fld (splitFrame f).head 2 2)).poll with
      | none => exact h.rejectStation
      | some q =>
        exact .ite _ (fun _ => ((h.acceptReply ..).updStation _ _).forwardOutcome _) fun _ => h.rejectStation

theorem Beside.stationFrameIn (h : Beside p s u) (port : Nat) (f : Bytes) : Beside p (stationFrameIn port f s) (stationFrameIn port f u) := by
  unfold Machine.stationFrameIn
  split
  · exact h.ferryReply port f
  · exact h.pollReply port f
  · exact h.rejectStation

end Operations

end Sys2Proof.Machine
end

section
/-! SUPPORT. Operations on one port (13 R365 to R376, R383, R387 to R390). -/

namespace Sys2Proof.Machine

open Sys2Proof

/-! ## What such an operation keeps -/

/-- A state that an operation on port `n` leaves. -/
structure OnPort (n : Nat) (s u : State) : Prop where
  ntime : u.ntime = s.ntime
  start : u.start = s.start
  scan : u.scan = s.scan
  pair : u.pair = s.pair
  others : ∀ m, m ≠ n → u.port m = s.port m

section Keeps

variable {n : Nat} {s u v : State}

theorem OnPort.refl : OnPort n s s := ⟨rfl, rfl, rfl, rfl, fun _ _ => rfl⟩

theorem OnPort.updPort (h : OnPort n s u) (f : Port → Port) : OnPort n s (u.updPort n f) :=
  ⟨h.ntime, h.start, h.scan, h.pair, fun m hm => (updPort_port_other hm ..).trans (h.others m hm)⟩

theorem OnPort.raise (h : OnPort n s u) (m k : Nat) : OnPort n s (raise m u k) := ⟨h.ntime, h.start, h.scan, h.pair, h.others⟩

theorem OnPort.updStn (h : OnPort n s u) (f : StnEng → StnEng) : OnPort n s (u.updStn f) := ⟨h.ntime, h.start, h.scan, h.pair, h.others⟩

theorem OnPort.trans (h : OnPort n s u) (h' : OnPort n u v) : OnPort n s v :=
  ⟨h'.ntime.trans h.ntime, h'.start.trans h.start, h'.scan.trans h.scan, h'.pair.trans h.pair,
    fun m hm => (h'.others m hm).trans (h.others m hm)⟩

theorem OnPort.calm (h : OnPort n (clearSent s) u) (calm : Calm s) : Calm u := calm.clear.of_same h.start (congrArg Pair.images h.pair)

theorem settle_port (s : State) (n : Nat) : (settle s).port n = s.port n := congrArg (fun x => Store.get ({} : Port) x n) (settle_ports s)

/-- A command on one port. -/
theorem OnPort.gives (h : OnPort n (clearSent s) u) (calm : Calm s) {i : Instr} {g : State → State} (e : exec i s = actOn s g)
    (run : g (clearSent s) = u) {P : State → Port → Prop} (shows : P (settle u) (u.port n)) : Gives i s fun t =>
      P t (t.port n) ∧ (∀ m, m ≠ n → t.port m = s.port m) ∧ t.ntime = s.ntime ∧ t.start = s.start ∧ t.scan.data = s.scan.data := by
  refine .of_actOn e calm.on ?_
  rw [run, settle_port]
  exact ⟨shows, fun m hm => (settle_port u m).trans (h.others m hm), (settle_ntime u).trans h.ntime, (settle_start u).trans h.start,
    (settle_scan_data u (h.calm calm).images).trans (congrArg Scan.data h.scan)⟩

end Keeps

theorem raise_port (m k : Nat) (s : State) (n : Nat) : (raise m s k).port n = s.port n := rfl

theorem portCfg_updPort (s : State) (n m : Nat) (f : Port → Port) (cfg : (f (s.port n)).cfg = (s.port n).cfg) :
    portCfg (s.updPort n f) m = portCfg s m := by
  have same : ((s.updPort n f).port m).cfg = (s.port m).cfg := by
    by_cases here : m = n
    · rw [here, updPort_port, cfg]
    · rw [updPort_port_other here]
  unfold portCfg
  rw [same]
  rfl

/-! ## Links -/

theorem linkOf_eth {p : Nat} (h : p < 4) (c : PortCfg) (m : Nat) (full o : Bool) :
    (linkOf p c (.codeword m full) o).isSome = decide (m = 1000 ∧ full = true) := by
  unfold linkOf
  dsimp only
  by_cases link : m = 1000 ∧ full = true
  · rw [if_pos ⟨h, link⟩, decide_eq_true link]
    rfl
  · rw [if_neg fun e => link e.2, decide_eq_false link]
    rfl

/-- A link that comes up (13 R365, R366). -/
theorem linkChange_up {p : Nat} {g : LinkSignal} {o : Bool} {a : BitVec 2} {s : State} (enabled : (portCfg s p).enabled = true)
    (link : linkOf p (portCfg s p) g o = some a) : let u := linkChange p g o s
    OnPort p s u ∧ u.port p = { s.port p with up := true, ampl := a, changed := (s.port p).changed || !(s.port p).up }
      ∧ ((s.port p).up = false → raisedIn u.evt.edge 64) := by
  have set : linkChange p g o s = if true = (s.port p).up then
        s.updPort p fun x => { x with up := true, ampl := a, changed := x.changed || true != (s.port p).up }
      else raise 64 (s.updPort p fun x => { x with up := true, ampl := a, changed := x.changed || true != (s.port p).up }) p := by
    unfold linkChange
    rw [if_neg (by rw [enabled]; decide), link]
    rfl
  dsimp only
  rw [set, Bool.true_bne]
  by_cases up : true = (s.port p).up
  · rw [if_pos up, updPort_port]
    exact ⟨OnPort.refl.updPort _, rfl, fun down => absurd (up.trans down) (by decide)⟩
  · rw [if_neg up, raise_port, updPort_port]
    exact ⟨(OnPort.refl.updPort _).raise _ _, rfl, fun _ => raisedIn_raise ..⟩

/-- A link that goes down (13 R388, R389). -/
theorem linkChange_down {p : Nat} {g : LinkSignal} {o : Bool} {s : State} (enabled : (portCfg s p).enabled = true)
    (link : linkOf p (portCfg s p) g o = none) : let u := linkChange p g o s
    OnPort p s u ∧ u.port p = { s.port p with up := false, ampl := 0, changed := (s.port p).changed || (s.port p).up, q2 := [], q3 := []
                                              linkdown := satNat 16 ((s.port p).linkdown.toNat + (s.port p).q2.length + (s.port p).q3.length) }
      ∧ ((s.port p).up = true → raisedIn u.evt.edge 64) := by
  have set : linkChange p g o s = if false = (s.port p).up then
        (s.updPort p fun x => { x with up := false, ampl := 0, changed := x.changed || false != (s.port p).up }).updPort p
          fun x => { x with q2 := [], q3 := [], linkdown := satNat 16 (x.linkdown.toNat + x.q2.length + x.q3.length) }
      else raise 64 ((s.updPort p fun x => { x with up := false, ampl := 0, changed := x.changed || false != (s.port p).up }).updPort p
          fun x => { x with q2 := [], q3 := [], linkdown := satNat 16 (x.linkdown.toNat + x.q2.length + x.q3.length) }) p := by
    unfold linkChange
    rw [if_neg (by rw [enabled]; decide), link]
    rfl
  dsimp only
  rw [set, Bool.false_bne]
  by_cases down : false = (s.port p).up
  · rw [if_pos down, updPort_port, updPort_port]
    exact ⟨(OnPort.refl.updPort _).updPort _, rfl, fun up => absurd (down.trans up) (by decide)⟩
  · rw [if_neg down, raise_port, updPort_port, updPort_port]
    exact ⟨((OnPort.refl.updPort _).updPort _).raise _ _, rfl, fun _ => raisedIn_raise ..⟩

/-! ## Launches -/

/-- A port as a frame goes out on it (13 R387). -/
def Port.busy (p now : Nat) (b : Bytes) (x : Port) : Port := { x with tx := x.tx + 1, sent := b, busyTill := now + frameNanos p b.length }

/-- A frame as it goes out: the port's counts, its busy time, and its transmit stamp (13 R383, R387). -/
def frameDone (p : Nat) (f : QFrame) (b : Bytes) (s : State) : State :=
  let s := noteCarried f (s.updPort p (Port.busy p s.clk.hfNs b))
  match f.ident with
  | some i => putStamp p i s
  | none => s

theorem sendFrame_eq (p : Nat) (f : QFrame) (s : State) : sendFrame p f s =
    if protects (portCfg s p) f.bytes then
      match Store.get none (s.port p).txSa (s.port p).txAn.toNat with
      | none => s.updPort p fun x => { x with other := satInc x.other }
      | some a =>
        if !(portCfg s p).xpn ∧ pnStop ≤ a.pn.toNat then s.updPort p fun x => { x with other := satInc x.other }
        else
          let u := s.updPort p fun x => { x with txSa := Store.set none x.txSa (s.port p).txAn.toNat (some { a with pn := a.pn + 1 }) }
          frameDone p f (protectFrame a (portCfg s p) (s.port p).txAn.toNat f.bytes)
            (if !(portCfg s p).xpn ∧ a.pn.toNat + 1 = pnWarn then raise 66 u p else u)
    else frameDone p f f.bytes s := rfl

/-- What a launched frame leaves of its port. -/
structure Sent (p : Nat) (f : QFrame) (b : Bytes) (s u : State) : Prop where
  queues : (u.port p).q0 = (s.port p).q0 ∧ (u.port p).q1 = (s.port p).q1 ∧ (u.port p).q2 = (s.port p).q2 ∧ (u.port p).q3 = (s.port p).q3
  counts : (u.port p).tx = (s.port p).tx + 1 ∧ (u.port p).sent = b ∧ (u.port p).busyTill = s.clk.hfNs + frameNanos p b.length
  stamps : (f.ident = none → (u.port p).tsq = (s.port p).tsq)
    ∧ ∀ i, f.ident = some i → (s.port p).tsq.length < 16 →
      (u.port p).tsq = (s.port p).tsq ++ [(i, stampMoved s.ntime.now ((s.port p).cfg.txLat : Nat))]
  txSa : (u.port p).txSa = (s.port p).txSa
  raised : ∀ n, raisedIn s.evt.edge n → raisedIn u.evt.edge n

theorem noteCarried_eq (f : QFrame) (s : State) : ∃ e, noteCarried f s = { s with stn := e } := by
  unfold noteCarried
  split
  · exact ⟨_, rfl⟩
  · exact ⟨s.stn, rfl⟩

theorem frameDone_spec {p : Nat} {s₀ s : State} (on : OnPort p s₀ s) (f : QFrame) (b : Bytes) :
    OnPort p s₀ (frameDone p f b s) ∧ Sent p f b s (frameDone p f b s) := by
  obtain ⟨e, carried⟩ := noteCarried_eq f (s.updPort p (Port.busy p s.clk.hfNs b))
  have port : ({ s.updPort p (Port.busy p s.clk.hfNs b) with stn := e } : State).port p = (s.port p).busy p s.clk.hfNs b := updPort_port ..
  have noted : OnPort p s₀ { s.updPort p (Port.busy p s.clk.hfNs b) with stn := e } := (on.updPort _).updStn fun _ => e
  have raised : ∀ n, raisedIn s.evt.edge n → raisedIn ({ s.updPort p (Port.busy p s.clk.hfNs b) with stn := e } : State).evt.edge n :=
    fun _ h => h
  have now : ({ s.updPort p (Port.busy p s.clk.hfNs b) with stn := e } : State).ntime = s.ntime := rfl
  unfold frameDone
  dsimp only
  rw [carried]
  generalize ({ s.updPort p (Port.busy p s.clk.hfNs b) with stn := e } : State) = u at port noted raised now
  cases hi : f.ident with
  | none =>
    refine ⟨noted, ?_, ?_, ⟨fun _ => ?_, fun _ some => (by rw [hi] at some; cases some)⟩, ?_, raised⟩ <;> rw [port]
    · exact ⟨rfl, rfl, rfl, rfl⟩
    · exact ⟨rfl, rfl, rfl⟩
    · rfl
    · rfl
  | some i =>
    dsimp only
    unfold putStamp
    rw [port, now, show ((s.port p).busy p s.clk.hfNs b).tsq = (s.port p).tsq from rfl]
    by_cases room : (s.port p).tsq.length < 16
    · rw [if_pos room]
      refine ⟨noted.updPort _, ?_, ?_, ⟨fun no => (by rw [hi] at no; cases no), fun j hj _ => ?_⟩, ?_, raised⟩ <;> rw [updPort_port, port]
      · exact ⟨rfl, rfl, rfl, rfl⟩
      · exact ⟨rfl, rfl, rfl⟩
      · rw [hi] at hj
        cases hj
        rfl
      · rfl
    · rw [if_neg room]
      refine ⟨(noted.updPort _).raise _ _, ?_, ?_, ⟨fun no => (by rw [hi] at no; cases no), fun j hj room' => absurd room' room⟩, ?_, fun n h =>
        raisedIn_raise_of _ _ _ _ (raised n h)⟩ <;> rw [raise_port, updPort_port, port]
      · exact ⟨rfl, rfl, rfl, rfl⟩
      · exact ⟨rfl, rfl, rfl⟩
      · rfl

/-- The port with its due head launched or discarded (13 R387, R388). -/
theorem launchTimed_head {p : Nat} {f : QFrame} {r : List QFrame} {s : State} (q0 : (s.port p).q0 = f :: r) :
    (dropHead p 0 s).port p = { s.port p with q0 := r } := by
  rw [dropHead, updPort_port]
  show { s.port p with q0 := (s.port p).q0.drop 1 } = _
  rw [q0]
  rfl

theorem frameLaunch_timed {p : Nat} {f : QFrame} {r : List QFrame} {s : State} (enabled : (portCfg s p).enabled = true)
    (free : (s.port p).busyTill ≤ s.clk.hfNs) (runs : launchStopped s = false) (q0 : (s.port p).q0 = f :: r) (due : headDue s f = true) :
    frameLaunch p s = launchTimed p 0 f s := by
  have starts : mayStart s p 0 f = true := by
    unfold mayStart
    rw [due]
    rfl
  have heads : ∃ l, ((List.range 4).filterMap fun q => ((s.port p).queue q).head?.map fun f => (q, f)) = (0, f) :: l := by
    refine ⟨[1, 2, 3].filterMap fun q => ((s.port p).queue q).head?.map fun f => (q, f), ?_⟩
    rw [show List.range 4 = 0 :: [1, 2, 3] from rfl, List.filterMap_cons, show (s.port p).queue 0 = (s.port p).q0 from rfl, q0]
    rfl
  obtain ⟨l, heads⟩ := heads
  unfold frameLaunch
  rw [if_neg (by rw [runs, enabled, decide_eq_false (Nat.not_lt.2 free)]; decide)]
  dsimp only
  rw [heads, List.find?_cons_of_pos (p := fun x : Nat × QFrame => mayStart s p x.1 x.2) starts]
  rfl

theorem launchTimed_eq (p : Nat) (f : QFrame) (s : State) : launchTimed p 0 f s =
    let u := dropHead p 0 s
    if f.suppressed || u.isStandby then u
    else if f.launch.any fun t => decide (stampNanos t + (u.port p).lateLimit.toNat * 1000 < nowNanos u) then
      raise 68 (u.updPort p fun x => { x with late := satInc x.late }) p
    else if !(u.port p).up then u.updPort p fun x => { x with linkdown := satInc x.linkdown }
    else sendFrame p f u := rfl

theorem sendFrame_plain {p : Nat} {f : QFrame} {s : State} (plain : protects (portCfg s p) f.bytes = false) :
    sendFrame p f s = frameDone p f f.bytes s := (sendFrame_eq p f s).trans (if_neg (by rw [plain]; exact Bool.false_ne_true))

/-- A protected frame takes its association's next packet number, with a warning at the last quarter (13 R373 to R376). -/
theorem sendFrame_protected {p : Nat} {f : QFrame} {s : State} {a : SecAssoc} (secured : protects (portCfg s p) f.bytes = true)
    (assoc : Store.get none (s.port p).txSa (s.port p).txAn.toNat = some a) (usable : (portCfg s p).xpn = true ∨ a.pn.toNat < 0xFFFFFFFF) :
    ∃ v, sendFrame p f s = frameDone p f (protectFrame a (portCfg s p) (s.port p).txAn.toNat f.bytes) v
      ∧ OnPort p s v ∧ v.clk = s.clk
      ∧ v.port p = { s.port p with txSa := Store.set none (s.port p).txSa (s.port p).txAn.toNat (some { a with pn := a.pn + 1 }) }
      ∧ ((portCfg s p).xpn = false → a.pn.toNat + 1 = 0xC0000000 → raisedIn v.evt.edge 66) := by
  rw [sendFrame_eq, if_pos secured, assoc]
  dsimp only
  have go : ¬((!(portCfg s p).xpn) = true ∧ pnStop ≤ a.pn.toNat) := by
    rintro ⟨xpn, stop⟩
    obtain yes | low := usable
    · rw [yes] at xpn
      cases xpn
    · exact absurd stop (Nat.not_le.2 low)
  rw [if_neg go]
  refine ⟨_, rfl, ?_⟩
  by_cases warn : (!(portCfg s p).xpn) = true ∧ a.pn.toNat + 1 = pnWarn
  · rw [if_pos warn, raise_port, updPort_port]
    exact ⟨(OnPort.refl.updPort _).raise _ _, rfl, rfl, fun _ _ => raisedIn_raise ..⟩
  · rw [if_neg warn, updPort_port]
    exact ⟨OnPort.refl.updPort _, rfl, rfl, fun xpn pn => absurd ⟨by rw [xpn]; rfl, pn⟩ warn⟩

/-! ## Received frames -/

/-- A frame that is no station's, after its tests (13 R367). -/
theorem passFrame_spec {p : Nat} {f : Bytes} {s₀ s : State} (on : OnPort p s₀ s) (own : stationType s f = false) :
    OnPort p s₀ (passFrame p f s) ∧ (passFrame p f s).port p =
      if isPtp f = true then { s.port p with ptpIn := (s.port p).ptpIn
        ++ [(f, if ptpEvent f then some (stampMoved s.ntime.now (-((portCfg s p).rxLat : Int))) else none)] }
      else if (portCfg s p).mgmt = true then s.port p else { s.port p with filter := satInc (s.port p).filter } := by
  unfold passFrame
  rw [if_neg (by rw [own]; exact Bool.false_ne_true)]
  by_cases ptp : isPtp f = true
  · rw [if_pos ptp, if_pos ptp]
    exact ⟨on.updPort _, updPort_port ..⟩
  · rw [if_neg ptp, if_neg ptp]
    by_cases mgmt : (portCfg s p).mgmt = true
    · rw [if_pos mgmt, if_pos mgmt]
      exact ⟨on, rfl⟩
    · rw [if_neg mgmt, if_neg mgmt]
      exact ⟨on.updPort _, updPort_port ..⟩

theorem passFrame_station {p : Nat} {f : Bytes} {s : State} (own : stationType s f = true) : passFrame p f s = stationFrameIn p f s := by
  unfold passFrame
  rw [if_pos own]

/-- A frame that the port takes is counted, and handed on or opened (13 R367, R373, R390). -/
theorem frameReceived_taken {p : Nat} {f : Bytes} {s : State} (enabled : (portCfg s p).enabled = true)
    (sized : (decide (60 ≤ f.length ∧ f.length ≤ 1556) && addressed (portCfg s p) f) = true) :
    let u := s.updPort p fun x => { x with rx := x.rx + 1 }
    (protects (portCfg s p) f = false → frameReceived p f true s = passFrame p f u)
      ∧ (protects (portCfg s p) f = true →
        (openFrame s p (portCfg s p) f = .inr true →
          frameReceived p f true s = raise 65 (u.updPort p fun x => { x with icv := satInc x.icv }) p)
        ∧ (openFrame s p (portCfg s p) f = .inr false →
          frameReceived p f true s = raise 65 (u.updPort p fun x => { x with other := satInc x.other }) p)
        ∧ ∀ j k b, openFrame s p (portCfg s p) f = .inl (j, k, b) → frameReceived p f true s =
          passFrame p b (u.updPort p fun x => { x with rxSa := Store.upd none x.rxSa j fun a => a.map fun a => { a with pn := k } })) := by
  intro u
  have port : u.port p = { s.port p with rx := (s.port p).rx + 1 } := updPort_port ..
  have opened : openFrame u p (portCfg s p) f = openFrame s p (portCfg s p) f := by
    unfold openFrame
    rw [port]
    rfl
  have run : frameReceived p f true s = if protects (portCfg s p) f then
        match openFrame u p (portCfg s p) f with
        | .inl (j, pn, b) =>
          passFrame p b (u.updPort p fun x => { x with rxSa := Store.upd none x.rxSa j fun a => a.map fun a => { a with pn := pn } })
        | .inr true => raise 65 (u.updPort p fun x => { x with icv := satInc x.icv }) p
        | .inr false => raise 65 (u.updPort p fun x => { x with other := satInc x.other }) p
      else passFrame p f u := by
    unfold frameReceived
    rw [if_neg (by rw [enabled]; decide), if_neg (by decide), if_neg (by rw [portTakes, sized]; decide)] <;> rfl
  rw [run, opened]
  refine ⟨fun plain => if_neg (by rw [plain]; exact Bool.false_ne_true), fun secured => ?_⟩
  rw [if_pos secured]
  refine ⟨fun icv => ?_, fun other => ?_, fun j k b open' => ?_⟩
  · rw [icv]
  · rw [other]
  · rw [open']

/-! ## The obligation -/

theorem clearSent_port (s : State) (n : Nat) : (clearSent s).port n = s.port n := rfl

/-- A launch that sends its frame, as O51 reads it. -/
theorem Sent.goes {p : Nat} {f : QFrame} {r : List QFrame} {b : Bytes} {s v u : State} (sent : Sent p f b v u)
    {txSa : Store (Option SecAssoc)} (port : v.port p = { s.port p with q0 := r, txSa := txSa }) (clk : v.clk = s.clk) (ntime : v.ntime = s.ntime) :
    (u.port p).q0 = r ∧ (u.port p).q1 = (s.port p).q1 ∧ (u.port p).q2 = (s.port p).q2 ∧ (u.port p).q3 = (s.port p).q3
      ∧ (u.port p).tx = (s.port p).tx + 1 ∧ (u.port p).sent = b ∧ (u.port p).busyTill = s.clk.hfNs + frameNanos p b.length
      ∧ (f.ident = none → (u.port p).tsq = (s.port p).tsq)
      ∧ ∀ i, f.ident = some i → (s.port p).tsq.length < 16 →
        (u.port p).tsq = (s.port p).tsq ++ [(i, stampMoved s.ntime.now ((s.port p).cfg.txLat : Nat))] := by
  obtain ⟨⟨q0, q1, q2, q3⟩, ⟨tx, bytes, busy⟩, ⟨unstamped, stamped⟩, -, -⟩ := sent
  rw [port] at q0 q1 q2 q3 tx unstamped stamped
  rw [clk] at busy
  rw [ntime] at stamped
  exact ⟨q0, q1, q2, q3, tx, bytes, busy, unstamped, stamped⟩

section Launches

variable {s : State} {p : BitVec 3} {f : QFrame} {r : List QFrame} (h : Calm s) (enabled : (portCfg s p.toNat).enabled = true)
  (free : (s.port p.toNat).busyTill ≤ s.clk.hfNs) (runs : launchStopped s = false) (q0 : (s.port p.toNat).q0 = f :: r) (due : headDue s f = true)
include enabled free runs q0 due

/-- A launch of a due head, up to its discards. -/
theorem frameLaunch_run : frameLaunch p.toNat (clearSent s) =
    let u := dropHead p.toNat 0 (clearSent s)
    if f.suppressed || s.isStandby then u
    else if f.launch.any fun t => decide (stampNanos t + (s.port p.toNat).lateLimit.toNat * 1000 < nowNanos s) then
      raise 68 (u.updPort p.toNat fun x => { x with late := satInc x.late }) p.toNat
    else if !(s.port p.toNat).up then u.updPort p.toNat fun x => { x with linkdown := satInc x.linkdown }
    else sendFrame p.toNat f u := by
  have stopped : launchStopped (clearSent s) = false := by
    obtain ⟨sent, held, seq, e⟩ := clearSent_eq s
    rw [e]
    exact runs
  have head : (dropHead p.toNat 0 (clearSent s)).port p.toNat = { s.port p.toNat with q0 := r } := launchTimed_head (s := clearSent s) q0
  have standby : (dropHead p.toNat 0 (clearSent s)).isStandby = s.isStandby := clearSent_isStandby s
  rw [frameLaunch_timed (s := clearSent s) enabled free stopped q0 due, launchTimed_eq]
  dsimp only
  rw [head, standby]
  rfl

end Launches

/-- A port changed before a station's frame is taken leaves what the station engine makes of the frame. -/
theorem Beside.received {s : State} (h : Calm s) (n : Nat) (f : Port → Port) : Beside s.ports s ((clearSent s).updPort n f) := by
  obtain ⟨sent, held, seq, e⟩ := clearSent_eq s
  rw [e]
  exact ⟨rfl, h.images, _, sent, held, seq, rfl⟩

theorem Beside.self {n : Nat} {s u : State} (on : OnPort n (clearSent s) u) (h : Calm s) : Beside u.ports u u :=
  ⟨rfl, (on.calm h).images, u.ports, u.pair.sent, u.pair.held, u.pair.txSeq, rfl⟩

/-- Settles O51: links, launches, received frames and associations of a port, and the other ports as they were. -/
theorem portCommands : Obligations.PortCommands := by
  intro s p h n x c gives
  have given : ∀ {i : Instr} {P : State → Port → Prop} {g : State → State} {u : State}, OnPort n (clearSent s) u → exec i s = actOn s g →
      g (clearSent s) = u → P (settle u) (u.port n) → gives i P := fun on e run shows => on.gives h e run shows
  clear_value gives
  refine ⟨fun enabled => ⟨fun eth m full o => linkOf_eth eth c m full o, fun t1l o => if_neg (Nat.not_lt.2 t1l), fun g o a link => ?_,
    fun g o link => ?_⟩, fun f r enabled free runs q0 due => ?_, fun f busy _ => ?_, fun enabled f => ?_, fun path an key net => ⟨fun a hkey active assoc => ?_, fun no => ?_⟩⟩
  · obtain ⟨on, port, raised⟩ := linkChange_up (s := clearSent s) enabled link
    exact given on rfl rfl ⟨port, fun down => (on.calm h).pend (raised down)⟩
  · obtain ⟨on, port, raised⟩ := linkChange_down (s := clearSent s) enabled link
    exact given on rfl rfl ⟨port, fun up => (on.calm h).pend (raised up)⟩
  · intro late goes
    have run := frameLaunch_run enabled free runs q0 due
    have on : OnPort n (clearSent s) (dropHead n 0 (clearSent s)) := OnPort.refl.updPort _
    have head : (dropHead n 0 (clearSent s)).port n = { x with q0 := r } := launchTimed_head (s := clearSent s) q0
    have cfg : portCfg (dropHead n 0 (clearSent s)) n = c := portCfg_updPort _ _ _ _ rfl
    refine ⟨fun discard => given on rfl (run.trans (if_pos ?_)) head, fun live active => ?_⟩
    · obtain suppressed | standby := discard
      · rw [suppressed, Bool.true_or]
      · rw [standby, Bool.or_true]
    rw [if_neg (by rw [live, active]; decide)] at run
    refine ⟨fun isLate => ?_, fun timely down => ?_, fun timely up plain => ?_, fun timely up secured a assoc usable => ?_⟩
    · have dropped : OnPort n (clearSent s) (raise 68 ((dropHead n 0 (clearSent s)).updPort n fun x => { x with late := satInc x.late }) n) :=
        (on.updPort _).raise _ _
      refine given dropped rfl (run.trans (if_pos isLate)) ⟨?_, (dropped.calm h).pend (raisedIn_raise ..)⟩
      rw [raise_port, updPort_port, head]
    all_goals rw [if_neg (by rw [show (f.launch.any fun t => decide _) = false from timely]; exact Bool.false_ne_true)] at run
    · refine given (on.updPort fun x => { x with linkdown := satInc x.linkdown }) rfl (run.trans (if_pos ?_)) ?_
      · rw [show (s.port p.toNat).up = false from down]
        rfl
      · rw [updPort_port, head]
    all_goals rw [if_neg (by rw [show (s.port p.toNat).up = true from up]; decide)] at run
    · obtain ⟨done, sent⟩ := frameDone_spec on f f.bytes
      refine given done rfl (run.trans (sendFrame_plain (cfg ▸ plain))) ?_
      exact sent.goes (s := s) (txSa := x.txSa) head rfl rfl
    · have assoc' : Store.get none ((dropHead n 0 (clearSent s)).port n).txSa ((dropHead n 0 (clearSent s)).port n).txAn.toNat = some a := by
        rw [head]
        exact assoc
      obtain ⟨v, eq, onv, clk, port, warns⟩ := sendFrame_protected (cfg ▸ secured) assoc' (cfg ▸ usable)
      rw [cfg, head] at eq
      rw [head] at port
      obtain ⟨done, sent⟩ := frameDone_spec (on.trans onv) f (protectFrame a c x.txAn.toNat f.bytes)
      refine given done rfl (run.trans eq) ⟨?_, ?_, fun xpn warn => (done.calm h).pend (sent.raised 66 (warns (cfg ▸ xpn) warn))⟩
      · exact sent.goes (s := s) port clk onv.ntime
      · rw [sent.txSa, port]
        exact Store.get_set_same none x.txSa x.txAn.toNat (some { a with pn := a.pn + 1 })
  · have still : frameLaunch n (clearSent s) = clearSent s :=
      if_pos (Bool.or_eq_true_iff.2 (.inr (decide_eq_true busy)))
    exact given .refl rfl still rfl
  · intro sized stamp passed
    have counted : OnPort n (clearSent s) ((clearSent s).updPort n fun x => { x with rx := x.rx + 1 }) := OnPort.refl.updPort _
    have port : ((clearSent s).updPort n fun x => { x with rx := x.rx + 1 }).port n = { x with rx := x.rx + 1 } := updPort_port ..
    have cfg : portCfg ((clearSent s).updPort n fun x => { x with rx := x.rx + 1 }) n = c := portCfg_updPort _ _ _ _ rfl
    have taken := fun (sz : sized = true) => frameReceived_taken (s := clearSent s) (f := f) enabled sz
    refine ⟨?_, fun no => ?_, fun sz plain own => ?_, fun sz plain theirs => ?_, fun sz secured => ⟨fun bad => ?_, fun bad => ?_, fun j k b a opens own assoc => ?_⟩⟩
    · have run : frameReceived n f false (clearSent s) = (clearSent s).updPort n fun x => { x with fcs := satInc x.fcs } := by
        unfold frameReceived
        rw [if_neg (by rw [show (portCfg (clearSent s) n).enabled = true from enabled]; decide)]
        rfl
      exact given (OnPort.refl.updPort _) rfl run (updPort_port ..)
    · have run : frameReceived n f true (clearSent s) = (clearSent s).updPort n fun x => { x with filter := satInc x.filter } := by
        unfold frameReceived
        rw [if_neg (by rw [show (portCfg (clearSent s) n).enabled = true from enabled]; decide), if_neg (by decide)]
        exact if_pos (by rw [portTakes, show (decide (60 ≤ f.length ∧ f.length ≤ 1556) && addressed (portCfg (clearSent s) n) f) = false from no]; rfl)
      exact given (OnPort.refl.updPort _) rfl run (updPort_port ..)
    · obtain ⟨on, shows⟩ := passFrame_spec counted (f := f) own
      refine given on rfl ((taken sz).1 plain) ?_
      rw [shows, port, cfg]
      rfl
    · refine .of_actOn rfl h.on ?_
      have handed : passFrame n f ((clearSent s).updPort n fun x => { x with rx := x.rx + 1 })
          = stationFrameIn n f ((clearSent s).updPort n fun x => { x with rx := x.rx + 1 }) := passFrame_station theirs
      rw [(taken sz).1 plain, handed]
      have besideS := (Beside.received h n fun x => { x with rx := x.rx + 1 }).stationFrameIn n f
      have besideU := (Beside.self counted h).stationFrameIn n f
      refine ⟨?_, ?_⟩
      · rw [settle_port]
        exact (congrArg (fun p => (Store.get ({} : Port) p n).rx) besideU.1).trans (congrArg Port.rx port)
      · rw [settle_stn _ besideU.2.1, besideS.shows.2.1]
    · have alarmed : OnPort n (clearSent s) (raise 65 (((clearSent s).updPort n fun x => { x with rx := x.rx + 1 }).updPort n fun x =>
        { x with icv := satInc x.icv }) n) := (counted.updPort _).raise _ _
      refine given alarmed rfl (((taken sz).2 secured).1 bad) ⟨?_, (alarmed.calm h).pend (raisedIn_raise ..)⟩
      rw [raise_port, updPort_port, port]
    · have alarmed : OnPort n (clearSent s) (raise 65 (((clearSent s).updPort n fun x => { x with rx := x.rx + 1 }).updPort n fun x =>
        { x with other := satInc x.other }) n) := (counted.updPort _).raise _ _
      refine given alarmed rfl (((taken sz).2 secured).2.1 bad) ⟨?_, (alarmed.calm h).pend (raisedIn_raise ..)⟩
      rw [raise_port, updPort_port, port]
    · have openedOn := counted.updPort fun x => { x with rxSa := Store.upd none x.rxSa j fun a => a.map fun a => { a with pn := k } }
      obtain ⟨on, shows⟩ := passFrame_spec openedOn (f := b) own
      refine given on rfl (((taken sz).2 secured).2.2 j k b opens) ?_
      rw [shows, updPort_port, port, portCfg_updPort _ _ _ _ rfl, cfg, show (Store.upd none x.rxSa j fun a => a.map fun a => { a with pn := k })
        = Store.set none x.rxSa j (some { a with pn := k }) by rw [Store.upd, assoc]; rfl]
      rfl
  · have run : selectAn (s.path path).net.toNat (key == 0x5A17) an (clearSent s) = (clearSent s).updPort n fun x =>
        { x with txAn := an, txSa := Store.set none x.txSa an.toNat (some { a with pn := 1 }) } := by
      rw [net, selectAn, show Store.get none ((clearSent s).port n).txSa an.toNat = some a from assoc]
      dsimp only
      rw [if_pos (by rw [hkey, clearSent_isStandby, active]; rfl)]
    refine given (OnPort.refl.updPort _) rfl run ?_
    rw [updPort_port]
    exact ⟨rfl, Store.get_set_same none x.txSa an.toNat (some { a with pn := 1 }), rfl, fun m hm => Store.get_set_other none x.txSa an.toNat m (some { a with pn := 1 }) hm.symm⟩
  · have run : selectAn (s.path path).net.toNat (key == 0x5A17) an (clearSent s) = (clearSent s).updPort n fun x => { x with rej := true } := by
      rw [net, selectAn, show Store.get none ((clearSent s).port n).txSa an.toNat = Store.get none x.txSa an.toNat from rfl, clearSent_isStandby]
      cases assoc : Store.get none x.txSa an.toNat with
      | none => rfl
      | some a =>
        refine if_neg fun ok => ?_
        obtain ⟨hkey, active⟩ := Bool.and_eq_true_iff.1 ok
        obtain wrong | standby | missing := no
        · exact wrong (eq_of_beq hkey)
        · rw [standby] at active
          cases active
        · rw [assoc] at missing
          cases missing
    exact given (OnPort.refl.updPort _) rfl run (updPort_port ..)

end Sys2Proof.Machine
end

section
/-! SUPPORT. Journal flushes, extracts, the rebuild and the anchors (17 R483 to R496). -/

namespace Sys2Proof.Machine

open Sys2Proof

/-! ## Operations on the journal -/

/-- A state that differs from `s` in the journal, the router, MRAM and the pair alone; the images stand. -/
structure OnJrn (s u : State) : Prop where
  start : u.start = s.start
  tide : u.tide = s.tide
  cal : u.cal = s.cal
  flash : u.flash = s.flash
  loop : u.loop = s.loop
  images : u.pair.images = s.pair.images

section Keeps

variable {s u : State}

theorem OnJrn.refl : OnJrn s s := ⟨rfl, rfl, rfl, rfl, rfl, rfl⟩

theorem OnJrn.updJrn (h : OnJrn s u) (f : Jrn → Jrn) : OnJrn s (u.updJrn f) := ⟨h.start, h.tide, h.cal, h.flash, h.loop, h.images⟩

theorem OnJrn.updMram (h : OnJrn s u) (f : Mram → Mram) : OnJrn s (u.updMram f) := ⟨h.start, h.tide, h.cal, h.flash, h.loop, h.images⟩

theorem OnJrn.raise (h : OnJrn s u) (n k : Nat) : OnJrn s (raise n u k) := ⟨h.start, h.tide, h.cal, h.flash, h.loop, h.images⟩

theorem OnJrn.calm (h : OnJrn (clearSent s) u) (calm : Calm s) : Calm u := calm.clear.of_same h.start h.images

/-- What a command on the journal keeps, after its edge. -/
theorem OnJrn.keeps (h : OnJrn (clearSent s) u) (calm : Calm s) : (settle u).start = s.start ∧ (settle u).tide = s.tide
    ∧ (settle u).cal = s.cal ∧ (settle u).flash = s.flash ∧ (settle u).loop = s.loop :=
  ⟨(settle_start u).trans h.start, (settle_tide u).trans h.tide, (settle_cal u).trans h.cal, (settle_flash u).trans h.flash,
    (settle_loop u (h.calm calm).images).trans h.loop⟩

end Keeps

/-! ## The journal after an edge -/

theorem settleEvents_of_settled {s : State} (h : Settled s) : settleEvents s = s := by
  obtain ⟨own, peer, recs⟩ := h
  unfold settleEvents
  rw [own, peer, recs]
  rfl

theorem forwardEvents_mram (s : State) : (forwardEvents s).mram = s.mram := by
  unfold forwardEvents
  split
  · rfl
  · extract_lets l u
    split
    · rw [sendLink_mram]
      rfl
    · rfl

/-- An edge without raises and records leaves the journal and MRAM. -/
theorem settle_of_settled {s : State} (h : Settled s) (calm : Calm s) : (settle s).jrn = s.jrn ∧ (settle s).mram = s.mram := by
  rw [settle_jrn calm.on calm.images, settle, if_pos (.inl calm.on), forwardEvents_mram, tryImages_none s calm.images, settleEvents_of_settled h]
  exact ⟨rfl, rfl⟩

/-- A source whose journal route has no effect leaves the journal. -/
theorem settle_recordless {s : State} (h : Settled s) (calm : Calm s) {n : Nat} (quiet : recordless n = true) (sub : Nat) :
    (settle (raise n s sub)).jrn = s.jrn := by
  have edge := performRaise_jrn_edge s (n, sub)
  rw [if_neg (by rw [quiet, Bool.not_true, Bool.and_false]; exact Bool.false_ne_true), h.2.2] at edge
  rw [settle_jrn (calm.raise n sub).on (calm.raise n sub).images, settleEvents_raise h, closeRaise_of_none n edge, performRaise_jrn_rest, edge]
  exact Jrn.eq_of_edge h.2.2

theorem Settled.clear {s : State} (h : Settled s) : Settled (clearSent s) := h

/-! ## Flushes -/

/-- A record's write adds at most to the counts of overwritten and dropped records. -/
theorem writeRec_keeps (s : State) (r : JRec) : OnJrn s (writeRec s r).1 ∧ (writeRec s r).1.evt = s.evt
    ∧ ∃ n, (writeRec s r).1.jrn = { s.jrn with overwrites := n } := by
  unfold writeRec
  dsimp only
  split
  · exact ⟨⟨rfl, rfl, rfl, rfl, rfl, rfl⟩, rfl, _, rfl⟩
  · split
    · exact ⟨⟨rfl, rfl, rfl, rfl, rfl, rfl⟩, rfl, _, rfl⟩
    · exact ⟨⟨rfl, rfl, rfl, rfl, rfl, rfl⟩, rfl, _, rfl⟩

theorem OnJrn.trans {s u v : State} (h : OnJrn s u) (h' : OnJrn u v) : OnJrn s v :=
  ⟨h'.start.trans h.start, h'.tide.trans h.tide, h'.cal.trans h.cal, h'.flash.trans h.flash, h'.loop.trans h.loop, h'.images.trans h.images⟩

theorem writeAll_keeps (l : List JRec) (s : State) : OnJrn s (writeAll l s).1 ∧ (writeAll l s).1.evt = s.evt
    ∧ ∃ n, (writeAll l s).1.jrn = { s.jrn with overwrites := n } := by
  induction l generalizing s with
  | nil => exact ⟨.refl, rfl, _, rfl⟩
  | cons r l ih =>
    obtain ⟨on, evt, n, jrn⟩ := writeRec_keeps s r
    obtain ⟨on', evt', m, jrn'⟩ := ih (writeRec s r).1
    refine ⟨on.trans on', evt'.trans evt, m, jrn'.trans ?_⟩
    rw [jrn]

/-- A record for which a slot is free goes into it (17 R489). -/
theorem writeAll_one {r : JRec} {s : State} {v : Nat} (free : freeSlot 0 s.mram.journal = some v) :
    (writeAll [r] s).1.mram.journal = Store.set [] s.mram.journal v (recBytes r) := by
  simp only [writeAll, writeRec, free]
  rfl

/-- The journal as a flush ends (17 R488, R495). -/
def Jrn.flushed (j : Jrn) : Jrn :=
  if j.hostFlush then { j with flushing := false, hostFlush := false, busy := false, done := true } else { j with flushing := false }

/-- A flush that no further one follows. -/
theorem endFlush_eq {s : State} (flushing : s.jrn.flushing = true) (again : s.jrn.again = false) :
    let u := (writeAll s.jrn.taken (s.updJrn fun j => { j with taken := [] })).1.updJrn Jrn.flushed
    endFlush s = u ∨ endFlush s = raise 216 u := by
  obtain ⟨-, -, n, jrn⟩ := writeAll_keeps s.jrn.taken (s.updJrn fun j => { j with taken := [] })
  have writes : writeTaken s = if (writeAll s.jrn.taken (s.updJrn fun j => { j with taken := [] })).2 then
        raise 216 (writeAll s.jrn.taken (s.updJrn fun j => { j with taken := [] })).1
      else (writeAll s.jrn.taken (s.updJrn fun j => { j with taken := [] })).1 := rfl
  have ends : endFlush s = if (writeTaken s).jrn.flushed.again then
      startFlush (((writeTaken s).updJrn Jrn.flushed).updJrn fun j => { j with again := false, hostFlush := j.hostNext, hostNext := false })
      else (writeTaken s).updJrn Jrn.flushed := if_pos flushing
  have last : (writeTaken s).jrn.flushed.again = false := by
    have same : (writeTaken s).jrn = { s.jrn with taken := [], overwrites := n } := by
      rw [writes]
      split
      · exact jrn
      · exact jrn
    rw [same, Jrn.flushed]
    split
    · exact again
    · exact again
  dsimp only
  rw [ends, last, if_neg Bool.false_ne_true, writes]
  split
  · exact .inr rfl
  · exact .inl rfl

/-! ## The rebuild -/

/-- Slots that hold neither a record nor zeros (17 R489). -/
def corruptSlots (s : State) : Nat := (s.mram.journal.filter fun e => !zeros e.2 0 32 && !slotValid e.2).length

/-- A rebuild that no flush follows. -/
theorem endRebuild_last {s : State} (pending : s.jrn.rebuilt = false) (last : s.jrn.again = false) :
    let u := s.updJrn fun j => { j with rebuilt := true, corrupt := satNat 32 (corruptSlots s) }
    endRebuild s = if corruptSlots s = 0 then u else raise 217 u := by
  intro u
  have ends : endRebuild s = if (if corruptSlots s = 0 then u else raise 217 u).jrn.again
      then startFlush ((if corruptSlots s = 0 then u else raise 217 u).updJrn fun j =>
        { j with again := false, hostFlush := j.hostNext, hostNext := false })
      else if corruptSlots s = 0 then u else raise 217 u := by
    unfold endRebuild
    rw [if_neg (by rw [pending]; exact Bool.false_ne_true)]
    rfl
  rw [ends]
  refine if_neg ?_
  split
  · exact ne_true_of_eq_false last
  · exact ne_true_of_eq_false last

/-! ## The anchor -/

theorem createRec_flushing (s : State) (r : NewRec) :
    (createRec s r).1.jrn.flushing = s.jrn.flushing ∧ (createRec s r).1.jrn.rebuilt = s.jrn.rebuilt := by
  unfold createRec
  split
  · exact ⟨rfl, rfl⟩
  · extract_lets k q
    split
    · exact ⟨rfl, rfl⟩
    · exact ⟨rfl, rfl⟩

/-- The day's anchor on an empty journal is buffered, and a flush takes it (17 R486, R488, R492). -/
theorem settle_anchor {s : State} (h : Settled s) (calm : Calm s) (empty : s.jrn.buffer = [] ∧ s.jrn.taken = [])
    (free : s.jrn.flushing = false ∧ s.jrn.rebuilt = true) (key : (nextKey s.jrn).1 ≤ s.jrn.optime.toNat + 1000) :
    (settle (anchor 4 s)).jrn.taken.map (fun r => (r.source, r.sub, r.sev, r.code, r.payload)) = [(220, 4, 7, 1, anchorPayload s)]
      ∧ (settle (anchor 4 s)).jrn.flushing = true := by
  let r : NewRec := { source := 220, sev := 7, sub := 4, code := 1, payload := anchorPayload s }
  have calm' : Calm (anchor 4 s) := (calm.of_same rfl rfl : Calm (addRec r s)).raise 220 0
  have jrn : (performRaise (addRec r s) (220, 0)).jrn = { s.jrn with edge := [r] } := by
    rw [performRaise_jrn_rest, performRaise_jrn_edge, if_neg (by rw [show recordless 220 = true from rfl, Bool.not_true, Bool.and_false]; exact Bool.false_ne_true)]
    exact congrArg (fun e => { s.jrn with edge := e ++ [r] }) h.2.2
  have same : ((performRaise (addRec r s) (220, 0)).updJrn fun j => { j with edge := [] }).jrn = s.jrn :=
    (congrArg (fun j : Jrn => { j with edge := [] }) jrn).trans (Jrn.eq_of_edge h.2.2)
  rw [settle_jrn calm'.on calm'.images, show anchor 4 s = raise 220 (addRec r s) 0 from rfl, settleEvents_raise_alone (s := addRec r s) h.1 h.2.1,
    closeRaise_of_one (congrArg Jrn.edge jrn) rfl]
  generalize performRaise (addRec r s) (220, 0) = w at jrn same
  obtain ⟨kept, took, buffered⟩ := createRec_appends (s := w.updJrn fun j => { j with edge := [] }) (r := r) (by rw [same, empty.1]; rfl)
    (by rw [bufferCount, same, empty.1, empty.2]; decide) (by rw [same]; exact key)
  obtain ⟨flushing, rebuilt⟩ := createRec_flushing (w.updJrn fun j => { j with edge := [] }) r
  rw [same] at flushing rebuilt buffered
  rw [empty.1, List.nil_append] at buffered
  generalize createRec (w.updJrn fun j => { j with edge := [] }) r = u at kept buffered flushing rebuilt
  have none : urgentRecs w = 0 := by
    rw [urgentRecs, jrn, empty.1]
    rfl
  have one : urgentRecs u.1 = 1 := by
    rw [urgentRecs, buffered]
    rfl
  dsimp only
  rw [kept, if_neg (c := (false && !220 == 216) = true) Bool.false_ne_true, none, one, show decide (0 < 1) = true from rfl, Bool.true_or, if_pos rfl, startFlush,
    if_neg (by rw [flushing, rebuilt, free.1, free.2]; decide)]
  refine ⟨?_, rfl⟩
  show u.1.jrn.buffer.map _ = _
  rw [buffered]
  rfl

/-! ## The obligation -/

/-- Settles O40: flushes, extracts, the rebuild, and the times that the journal keeps. -/
theorem journalCommands : Obligations.JournalCommands := by
  intro s h hs keeps
  have jrn : ∀ {u : State}, OnJrn (clearSent s) u → Settled u → (settle u).jrn = u.jrn :=
    fun on settled => (settle_of_settled settled (on.calm h)).1
  refine ⟨fun p => ⟨fun idle still rebuilt => ?_, fun busy => ⟨?_, ?_⟩, fun k idle some few inside key blob => ?_⟩, fun flushing last => ?_,
    fun work => ?_, fun pending last => ?_, ?_, fun buffer taken still rebuilt key => ?_⟩
  · have run : hostFlush (clearSent s) = (clearSent s).updJrn fun j =>
        { j with flushing := true, taken := j.buffer, buffer := [], busy := true, done := false, reason := 0, hostFlush := true } := by
      have idle' : (clearSent s).jrn.busy = false := idle
      have still' : (clearSent s).jrn.flushing = false := still
      have rebuilt' : (clearSent s).jrn.rebuilt = true := rebuilt
      simp only [hostFlush, startFlush, State.updJrn, idle', still', rebuilt', Bool.false_eq_true, if_false, Bool.not_true, Bool.or_self]
    have on : OnJrn (clearSent s) ((clearSent s).updJrn fun j =>
      { j with flushing := true, taken := j.buffer, buffer := [], busy := true, done := false, reason := 0, hostFlush := true }) := OnJrn.refl.updJrn _
    refine .of_key (k := 0x6A52) (f := hostFlush) rfl h.on ?_
    rw [run]
    exact ⟨jrn on hs, (settle_mram_parts _).1, on.keeps h⟩
  · have run : hostFlush (clearSent s) = (clearSent s).updJrn fun j => { j with reason := 3 } := if_pos busy
    have on : OnJrn (clearSent s) ((clearSent s).updJrn fun j => { j with reason := 3 }) := OnJrn.refl.updJrn _
    refine .of_key (k := 0x6A52) (f := hostFlush) rfl h.on ?_
    rw [run]
    exact ⟨jrn on hs, on.keeps h⟩
  · have run : startExtract (clearSent s) = (clearSent s).updJrn fun j => { j with reason := 3 } := if_pos busy
    have on : OnJrn (clearSent s) ((clearSent s).updJrn fun j => { j with reason := 3 }) := OnJrn.refl.updJrn _
    refine .of_key (k := 0x6A52) (f := startExtract) rfl h.on ?_
    rw [run]
    exact ⟨jrn on hs, on.keeps h⟩
  · have run : startExtract (clearSent s) = (clearSent s).updJrn fun j =>
        { j with reason := 0, busy := true, done := false, extNext := extractBytes s k } := by
      have idle' : (clearSent s).jrn.busy = false := idle
      have sealed : (clearSent s).keys.sealKey.filter (fun _ => (clearSent s).keys.sealBlob != 0xFF) = .some k := by
        show s.keys.sealKey.filter (fun _ => s.keys.sealBlob != 0xFF) = .some k
        rw [key]
        exact if_pos (bne_iff_ne.2 blob)
      unfold startExtract
      dsimp only
      have fits : ¬(s.jrn.extCount.toNat < 1 ∨ 1024 < s.jrn.extCount.toNat ∨ journalSlots < s.jrn.extFirst.toNat + s.jrn.extCount.toNat) := by
        rw [journalSlots]
        omega
      rw [if_neg (by rw [idle']; exact Bool.false_ne_true)]
      refine (if_neg fits).trans ?_
      rw [sealed]
      rfl
    have on : OnJrn (clearSent s) ((clearSent s).updJrn fun j =>
      { j with reason := 0, busy := true, done := false, extNext := extractBytes s k }) := OnJrn.refl.updJrn _
    refine .of_key (k := 0x6A52) (f := startExtract) rfl h.on ?_
    rw [run]
    exact ⟨jrn on hs, on.keeps h⟩
  · obtain ⟨on', evt, n, written⟩ := writeAll_keeps s.jrn.taken ((clearSent s).updJrn fun j => { j with taken := [] })
    have ends := endFlush_eq (s := clearSent s) flushing last
    have slot : ∀ (r : JRec) (v : Nat), s.jrn.taken = [r] → freeSlot 0 s.mram.journal = some v →
        (writeAll s.jrn.taken ((clearSent s).updJrn fun j => { j with taken := [] })).1.mram.journal
          = Store.set [] s.mram.journal v (recBytes r) := by
      rintro r v one free
      rw [one]
      exact writeAll_one (s := (clearSent s).updJrn fun j => { j with taken := [] }) free
    refine .of_actOn (f := endFlush) rfl h.on ?_
    change _ ∨ _ at ends
    rw [show (clearSent s).jrn.taken = s.jrn.taken from rfl] at ends
    generalize (writeAll s.jrn.taken ((clearSent s).updJrn fun j => { j with taken := [] })).1 = w at on' evt written ends slot
    have on : OnJrn (clearSent s) (w.updJrn Jrn.flushed) := (OnJrn.trans (OnJrn.refl.updJrn _) on').updJrn _
    have settled : Settled (w.updJrn Jrn.flushed) := by
      refine ⟨(congrArg Evt.edge evt).trans hs.1, (congrArg Evt.edgePeer evt).trans hs.2.1, ?_⟩
      show w.jrn.flushed.edge = []
      rw [written, Jrn.flushed]
      split
      · exact hs.2.2
      · exact hs.2.2
    have ended : (settle (endFlush (clearSent s))).jrn = w.jrn.flushed ∧ OnJrn (clearSent s) (endFlush (clearSent s))
        ∧ (endFlush (clearSent s)).mram = w.mram := by
      obtain e | e := ends
      · rw [e]
        exact ⟨jrn on settled, on, rfl⟩
      · rw [e]
        exact ⟨settle_recordless settled (on.calm h) rfl 0, on.raise 216 0, rfl⟩
    obtain ⟨same, on, mram⟩ := ended
    have state : w.jrn.flushed.flushing = false ∧ w.jrn.flushed.taken = [] ∧ (s.jrn.hostFlush = true → w.jrn.flushed.busy = false ∧ w.jrn.flushed.done = true) := by
      rw [written, Jrn.flushed]
      split
      · exact ⟨rfl, rfl, fun _ => ⟨rfl, rfl⟩⟩
      · rename_i own
        exact ⟨rfl, rfl, fun host => absurd host own⟩
    rw [same, (settle_mram_parts _).1, mram]
    refine ⟨state.1, state.2.1, on.keeps h, state.2.2, fun r v one free => ?_⟩
    rw [slot r v one free]
    exact ⟨Store.get_set_same [] s.mram.journal v (recBytes r), fun w hw => Store.get_set_other [] s.mram.journal v w (recBytes r) hw.symm⟩
  · have run : endExtract (clearSent s) = raise 218 ((clearSent s).updJrn fun j =>
        { j with extBuf := j.extNext, extNext := [], busy := false, done := true }) := if_neg (by
      show ¬s.jrn.extNext.isEmpty = true
      rw [List.isEmpty_iff]
      exact work)
    have on : OnJrn (clearSent s) ((clearSent s).updJrn fun j => { j with extBuf := j.extNext, extNext := [], busy := false, done := true }) :=
      OnJrn.refl.updJrn _
    refine .of_actOn (f := endExtract) rfl h.on ?_
    rw [run]
    have same := settle_recordless (s := (clearSent s).updJrn fun j => { j with extBuf := j.extNext, extNext := [], busy := false, done := true })
      hs (on.calm h) (n := 218) rfl 0
    refine ⟨?_, ?_, ?_, ?_, ((on.raise 218 0).calm h).pend (raisedIn_raise ..), (on.raise 218 0).keeps h⟩ <;> rw [same] <;> rfl
  · have on : OnJrn (clearSent s) ((clearSent s).updJrn fun j => { j with rebuilt := true, corrupt := satNat 32 (corruptSlots s) }) :=
      OnJrn.refl.updJrn _
    have run : endRebuild (clearSent s) = if corruptSlots s = 0
        then (clearSent s).updJrn fun j => { j with rebuilt := true, corrupt := satNat 32 (corruptSlots s) }
        else raise 217 ((clearSent s).updJrn fun j => { j with rebuilt := true, corrupt := satNat 32 (corruptSlots s) }) :=
      endRebuild_last (s := clearSent s) pending last
    refine .of_actOn (f := endRebuild) rfl h.on ?_
    rw [run]
    split
    · rw [jrn on hs]
      exact ⟨rfl, rfl, (settle_mram_parts _).1, on.keeps h, rfl⟩
    · rw [settle_recordless (s := (clearSent s).updJrn fun j => { j with rebuilt := true, corrupt := satNat 32 (corruptSlots s) })
        hs (on.calm h) (n := 217) rfl 0]
      exact ⟨rfl, rfl, (settle_mram_parts _).1, (on.raise 217 0).keeps h, rfl⟩
  · have run : servePeerOk ((clearSent s).updDev fun d => { d with optime := (clearSent s).jrn.optime }) = (((clearSent s).updDev fun d =>
        { d with optime := s.jrn.optime }).updPair fun p => { p with peerOkOut := p.peerOkOut || decide (1 ≤ s.start.stage) }) := rfl
    have on : OnJrn (clearSent s) (((clearSent s).updDev fun d => { d with optime := s.jrn.optime }).updPair fun p =>
      { p with peerOkOut := p.peerOkOut || decide (1 ≤ s.start.stage) }) := ⟨rfl, rfl, rfl, rfl, rfl, rfl⟩
    refine .of_actOn (f := fun s => servePeerOk (s.updDev fun d => { d with optime := s.jrn.optime })) rfl h.on ?_
    rw [run]
    obtain ⟨same, mram⟩ := settle_of_settled (s := ((clearSent s).updDev fun d => { d with optime := s.jrn.optime }).updPair fun p =>
      { p with peerOkOut := p.peerOkOut || decide (1 ≤ s.start.stage) }) hs (on.calm h)
    exact ⟨mram, same, on.keeps h⟩
  · obtain ⟨said, flushes⟩ := settle_anchor (s := clearSent s) hs h.clear ⟨buffer, taken⟩ ⟨still, rebuilt⟩ key
    have on : OnJrn (clearSent s) (anchor 4 (clearSent s)) := ⟨rfl, rfl, rfl, rfl, rfl, rfl⟩
    exact .of_actOn (f := anchor 4) rfl h.on ⟨said, flushes, (on.calm h).pend (raisedIn_raise ..), on.keeps h⟩

end Sys2Proof.Machine
end

section
/-! SUPPORT. Mooring loops and interlocks (04 R95 to R97). -/

namespace Sys2Proof.Machine

open Sys2Proof

/-! ## One mooring loop -/

/-- A command that changes one mooring loop and updates the dies. -/
theorem gives_moorLoop {s : State} (h : Calm s) {i : Instr} {g : State → State} {n : Nat} {f : MoorRun → MoorRun} {x : MoorRun}
    (e : exec i s = actOn s g)
    (run : g (clearSent s) = applyOutputs ((clearSent s).updMoor fun m => { m with loops := Store.upd {} m.loops n f }))
    (new : f (Store.get {} s.moor.loops n) = x) : Gives i s fun t =>
      Store.get {} t.moor.loops n = x ∧ (∀ m, m ≠ n → Store.get {} t.moor.loops m = Store.get {} s.moor.loops m)
      ∧ t.moor.ilk = s.moor.ilk ∧ t.start = s.start ∧ t.loop = s.loop := by
  have calm : Calm (applyOutputs ((clearSent s).updMoor fun m => { m with loops := Store.upd {} m.loops n f })) :=
    (h.clear.of_same rfl rfl : Calm ((clearSent s).updMoor _)).applyOutputs
  refine .of_actOn e h.on ?_
  rw [run, settle_moor, settle_start, settle_loop _ calm.images, applyOutputs_moor, applyOutputs_start, applyOutputs_loop]
  exact ⟨(Store.get_upd_same {} s.moor.loops n f).trans new, fun m hm => Store.get_upd_other {} s.moor.loops n m f hm.symm, rfl, rfl, rfl⟩

/-! ## The interlocks -/

/-- The states that an evaluation of the interlocks passes through: what their conditions read stands, no raise is undone. -/
structure Evaluating (s u : State) : Prop where
  start : u.start = s.start
  record : u.moor.record = s.moor.record
  loops : u.moor.loops = s.moor.loops
  fio : u.fio = s.fio
  clk : u.clk = s.clk
  images : u.pair.images = s.pair.images

theorem Evaluating.refl {s : State} : Evaluating s s := ⟨rfl, rfl, rfl, rfl, rfl, rfl⟩

theorem Evaluating.trans {s u v : State} (h : Evaluating s u) (h' : Evaluating u v) : Evaluating s v :=
  ⟨h'.start.trans h.start, h'.record.trans h.record, h'.loops.trans h.loops, h'.fio.trans h.fio, h'.clk.trans h.clk, h'.images.trans h.images⟩

theorem Evaluating.conditionHolds {s u : State} (h : Evaluating s u) (k : Interlock) : conditionHolds u k = conditionHolds s k := by
  have pulses : ∀ ch w, pulsesIn u ch w = pulsesIn s ch w := by
    intro ch w
    unfold pulsesIn changesIn
    rw [h.fio, h.clk]
  unfold Machine.conditionHolds
  simp only [h.record, h.loops, h.fio, pulses]

/-- Evaluations for which the condition of interlock `n` has held, this one included (04 R97). -/
def heldFor (s : State) (k : Interlock) (n : Nat) : Nat :=
  if (decide (s.start.stage < 2) || k.persistent) && conditionHolds s k then Store.get 0 s.moor.held n + 1 else 0

/-- Interlock `n` is active at this evaluation (04 R97). -/
def activeNow (s : State) (k : Interlock) (n : Nat) : Bool := decide (k.delay < heldFor s k n) || (s.moor.ilk.getLsbD n && k.latching)

theorem evalInterlock_eq (s : State) (k : Interlock) (n : Nat) : evalInterlock s (k, n) =
    let u := s.updMoor fun m => { m with held := Store.set 0 m.held n (heldFor s k n), ilk := putBit m.ilk n (activeNow s k n) }
    if activeNow s k n && !s.moor.ilk.getLsbD n then raise 3 u n else u := rfl

theorem evalInterlock_spec (s : State) (k : Interlock) (n : Nat) : let u := evalInterlock s (k, n)
    Evaluating s u ∧ (∀ m, m ≠ n → Store.get 0 u.moor.held m = Store.get 0 s.moor.held m ∧ u.moor.ilk.getLsbD m = s.moor.ilk.getLsbD m)
      ∧ (n < 32 → u.moor.ilk.getLsbD n = activeNow s k n)
      ∧ (activeNow s k n = true → s.moor.ilk.getLsbD n = false → raisedIn u.evt.edge 3)
      ∧ (raisedIn s.evt.edge 3 → raisedIn u.evt.edge 3) := by
  have others : ∀ m, m ≠ n → Store.get 0 (Store.set 0 s.moor.held n (heldFor s k n)) m = Store.get 0 s.moor.held m
      ∧ (putBit s.moor.ilk n (activeNow s k n)).getLsbD m = s.moor.ilk.getLsbD m := by
    intro m hm
    refine ⟨Store.get_set_other 0 s.moor.held n m _ hm.symm, ?_⟩
    rw [getLsbD_putBit_all, if_neg fun e => hm e.1]
  have own : n < 32 → (putBit s.moor.ilk n (activeNow s k n)).getLsbD n = activeNow s k n := by
    intro hn
    rw [getLsbD_putBit_all, if_pos ⟨rfl, hn⟩]
  dsimp only
  rw [evalInterlock_eq]
  dsimp only
  split
  · exact ⟨⟨rfl, rfl, rfl, rfl, rfl, rfl⟩, others, own, fun _ _ => raisedIn_raise .., raisedIn_raise_of _ _ _ _⟩
  · rename_i quiet
    exact ⟨⟨rfl, rfl, rfl, rfl, rfl, rfl⟩, others, own, fun now was => absurd (by rw [now, was]; rfl) quiet, id⟩

/-- Interlocks numbered from `m` on are each evaluated on the state before them all. -/
theorem evalInterlocks_spec (l : List Interlock) (m : Nat) (s : State) : let u := (l.zipIdx m).foldl evalInterlock s
    Evaluating s u ∧ (∀ n, n < m → u.moor.ilk.getLsbD n = s.moor.ilk.getLsbD n)
      ∧ (raisedIn s.evt.edge 3 → raisedIn u.evt.edge 3)
      ∧ ∀ (n : Nat) (k : Interlock), l[n]? = some k → m + n < 32 → u.moor.ilk.getLsbD (m + n) = activeNow s k (m + n)
        ∧ (activeNow s k (m + n) = true → s.moor.ilk.getLsbD (m + n) = false → raisedIn u.evt.edge 3) := by
  induction l generalizing m s with
  | nil => exact ⟨.refl, fun _ _ => rfl, id, fun n k hk => absurd hk (by rw [List.getElem?_nil]; exact nofun)⟩
  | cons i l ih =>
    obtain ⟨same, others, own, alarm, kept⟩ := evalInterlock_spec s i m
    obtain ⟨same', below, kept', rest⟩ := ih (m + 1) (evalInterlock s (i, m))
    dsimp only
    rw [List.zipIdx_cons, List.foldl_cons]
    refine ⟨same.trans same', fun n hn => (below n (by omega)).trans (others n (by omega)).2, kept' ∘ kept, fun n k hk hn => ?_⟩
    cases n with
    | zero =>
      cases hk
      exact ⟨(below m (by omega)).trans (own hn), fun now was => kept' (alarm now was)⟩
    | succ n =>
      obtain ⟨held, ilk⟩ := others (m + (n + 1)) (by omega)
      have active : activeNow (evalInterlock s (i, m)) k (m + (n + 1)) = activeNow s k (m + (n + 1)) := by
        unfold activeNow heldFor
        rw [same.start, same.conditionHolds, held, ilk]
      have shown := rest n k hk (by omega)
      rw [show m + 1 + n = m + (n + 1) by omega, active, ilk] at shown
      exact shown

/-! ## The obligation -/

/-- Settles O27: a mooring loop's sample and the end of its on-time, and the evaluation of the interlocks. -/
theorem mooringLoopsAndInterlocks : Obligations.MooringLoopsAndInterlocks := by
  intro s h
  refine ⟨fun n k runs cfg => ?_, ?_⟩
  · have cfg' : ((clearSent s).moor.record.map (·.loops)).bind (·[n.toNat]?) = some k := cfg
    refine ⟨?_, fun pi => ?_⟩
    · refine gives_moorLoop h (g := moorSample n.toNat) (n := n.toNat) (f := fun r => { (if k.pi then piSample s.clk.hfNs k
      (if k.direct then moorPv s k - k.sp else k.sp - moorPv s k) r else twoPosition k
      (if k.direct then moorPv s k - k.sp else k.sp - moorPv s k) r) with pv := moorPv s k }) rfl ?_ rfl
      rw [moorSample, cfg']
      exact if_pos runs
    · refine gives_moorLoop h (g := moorPulseEnd n.toNat) (n := n.toNat) (f := fun r => if r.onMs < k.cycle then { r with out := false } else r) rfl ?_ rfl
      rw [moorPulseEnd, cfg']
      exact if_pos (Bool.and_eq_true_iff.2 ⟨runs, pi⟩)
  · obtain ⟨same, -, -, each⟩ := evalInterlocks_spec ((s.moor.record.map (·.ilks)).getD []) 0 (clearSent s)
    have run : evalInterlocks (clearSent s) = applyOutputs ((((s.moor.record.map (·.ilks)).getD []).zipIdx).foldl evalInterlock (clearSent s)) := rfl
    refine .of_actOn (f := evalInterlocks) rfl h.on ?_
    rw [run]
    generalize (((s.moor.record.map (·.ilks)).getD []).zipIdx).foldl evalInterlock (clearSent s) = u at same each
    have calm : Calm (applyOutputs u) := (h.clear.of_same same.start same.images).applyOutputs
    rw [settle_moor, settle_start, applyOutputs_moor, applyOutputs_start]
    refine ⟨same.loops, same.start, fun n k hk hn => ?_⟩
    obtain ⟨shows, alarm⟩ := each n k hk (by omega)
    rw [Nat.zero_add] at shows alarm
    have now : activeNow (clearSent s) k n = activeNow s k n := rfl
    exact ⟨shows.trans now, fun on off => calm.pend ((congrArg Evt.edge (applyOutputs_evt u)).symm ▸ alarm (now.trans on) off)⟩

end Sys2Proof.Machine
end

section
/-! SUPPORT. The host SPI port and the management service (20 R552 to R564). -/

namespace Sys2Proof.Machine

open Sys2Proof

/-! ## Reads of registers -/

/-- A state that differs from `s` in the registers of path `p` and the longest execution times alone, by what `keeps` says of. -/
structure Reads (p : Path) (s u : State) : Prop where
  hst : ∃ x, u.hst = (s.updPath p fun _ => x).hst
  start : u.start = s.start
  clk : u.clk = s.clk
  tide : u.tide = s.tide
  cal : u.cal = s.cal
  fio : u.fio = s.fio
  flash : u.flash = s.flash
  pair : u.pair = s.pair

section Rules

variable {p : Path} {s u v : State}

theorem Reads.refl : Reads p s s := ⟨⟨s.path p, by cases p <;> rfl⟩, rfl, rfl, rfl, rfl, rfl, rfl, rfl⟩

theorem Reads.updPath (f : PathSt → PathSt) : Reads p s (s.updPath p f) := by
  cases p <;> exact ⟨⟨_, rfl⟩, rfl, rfl, rfl, rfl, rfl, rfl, rfl⟩

theorem Reads.updTask (n : Nat) (f : Task → Task) : Reads p s (s.updTask n f) :=
  ⟨⟨s.path p, by cases p <;> rfl⟩, rfl, rfl, rfl, rfl, rfl, rfl, rfl⟩

theorem Reads.trans (h : Reads p s u) (h' : Reads p u v) : Reads p s v := by
  obtain ⟨x, hx⟩ := h.hst
  obtain ⟨y, hy⟩ := h'.hst
  refine ⟨⟨y, ?_⟩, h'.start.trans h.start, h'.clk.trans h.clk, h'.tide.trans h.tide, h'.cal.trans h.cal, h'.fio.trans h.fio,
    h'.flash.trans h.flash, h'.pair.trans h.pair⟩
  rw [hy]
  cases p
  · exact congrArg (fun h : Hst => { h with spi := y }) hx
  · exact congrArg (fun h : Hst => { h with mgmt := y }) hx

theorem Reads.ite (c : Prop) [Decidable c] (yes : Reads p s u) (no : Reads p s v) : Reads p s (if c then u else v) := by
  split
  · exact yes
  · exact no

/-- A read changes the registers of its path, or a task's longest execution time (20 R563). -/
theorem readEffect_reads (p : Path) (a : Word) (s : State) : Reads p s (readEffect p a s) :=
  .ite _ (.updPath _) <| .ite _ (.updPath _) <| .ite _ (.updPath _) <| .ite _ (.updPath _) <| .ite _ (.updPath _) <|
  .ite _ (.updPath _) <| .ite _ (.updPath _) <| .ite _ (.updPath _) <| .ite _ (.updPath _) <| .ite _ (.updPath _) <|
  .ite _ (.updPath _) <| .ite _ (.updPath _) <| .ite _ (.updPath _) <| .ite _ (.updTask _ _) <| .ite _ (.updPath _) <|
  .ite _ (.updPath _) .refl

theorem readRegs_reads (p : Path) (n : Nat) (a : Word) (s : State) : Reads p s (readRegs p n a s).2 := by
  induction n generalizing a s with
  | zero => exact .refl
  | succ n ih => exact (readEffect_reads p a s).trans (ih (a + 4) _)

end Rules

/-- What a command that changes the host block alone keeps. -/
theorem Reads.keeps {p : Path} {s u : State} (h : Reads p (clearSent s) u) (f : Hst → Hst) : (settle (u.updHst f)).start = s.start
    ∧ (settle (u.updHst f)).clk = s.clk ∧ (settle (u.updHst f)).tide = s.tide ∧ (settle (u.updHst f)).cal = s.cal
    ∧ (settle (u.updHst f)).fio = s.fio ∧ (settle (u.updHst f)).flash = s.flash :=
  ⟨(settle_start _).trans h.start, (settle_clk _).trans h.clk, (settle_tide _).trans h.tide, (settle_cal _).trans h.cal,
    (settle_fio _).trans h.fio, (settle_flash _).trans h.flash⟩

/-! ## Transactions of the host SPI port -/

section Port

variable {s : State} (h : Calm s) (served : spiServed s = true) (mode : s.clk.mode = .run)
include h served mode

/-- A transaction that the port serves, in RUN, changes the host block alone. -/
theorem gives_spi {i : Instr} {f : State → State} {u : State} {g : Hst → Hst} (e : exec i s = actOn s (spiTransaction f))
    (run : f (clearSent s) = u.updHst g) (reads : Reads .spi (clearSent s) u) (mgmt : (g u.hst).mgmt = s.hst.mgmt)
    (session : (g u.hst).session = s.hst.session) {P : State → Prop} (shows : ∀ t : State, t.hst = g u.hst → (t.start = s.start
      ∧ t.clk = s.clk ∧ t.tide = s.tide ∧ t.cal = s.cal ∧ t.fio = s.fio ∧ t.flash = s.flash ∧ t.hst.mgmt = s.hst.mgmt
      ∧ t.hst.session = s.hst.session) → P t) : Gives i s P := by
  have awake : wakeUp .hspiCs (clearSent s) = clearSent s := if_neg (by
    rw [show (clearSent s).clk.mode = .run from mode]
    exact Bool.false_ne_true)
  have open' : spiServed (clearSent s) = true := served
  have go : spiTransaction f (clearSent s) = u.updHst g := by
    unfold spiTransaction
    rw [awake, open', if_pos rfl, run]
  refine .of_actOn e h.on ?_
  rw [go]
  obtain ⟨start, clk, tide, cal, fio, flash⟩ := reads.keeps g
  have hst : (settle (u.updHst g)).hst = g u.hst := settle_hst _
  exact shows _ hst ⟨start, clk, tide, cal, fio, flash, (congrArg Hst.mgmt hst).trans mgmt, (congrArg Hst.session hst).trans session⟩

end Port

/-- A write of a path's TIDE_SEL (20 R563). -/
theorem writeWord_tideSel (p : Path) (v : Word) (s : State) :
    writeWord p 0x40030000 v s = s.updPath p fun x => { x with tide := v.setWidth 8 } := by
  show tideWrite p 0x00 v s = _
  simp only [tideWrite, ofNat_fieldOf_zero]
  rfl

theorem writeRegs_single {p : Path} {go : State → Bool} {v a : Word} {s : State} (goes : go s = true) :
    writeRegs p go [v] a s = writeWord p a v s := if_pos goes

/-- Settles O35: words read and written through the host SPI port, its status, and what it ignores. -/
theorem hostSpiPort : Obligations.HostSpiPort := by
  intro s h served mode keeps
  refine ⟨fun a n => ⟨fun al => ?_, fun mis => ?_, fun al => ?_⟩, fun v part => ?_, fun a l part mis => ?_, ?_, fun c read write status => ?_⟩
  · obtain ⟨x, hst⟩ := (readRegs_reads .spi n a (clearSent s)).hst
    have run : spiRead a n (clearSent s) = (readRegs .spi n a (clearSent s)).2.updHst fun h =>
        { h with spi := { h.spi with out := (readRegs .spi n a (clearSent s)).1 }, spiOut := marked (readRegs .spi n a (clearSent s)).1 } := by
      unfold spiRead
      exact if_pos (beq_iff_eq.2 al)
    have mgmt : (readRegs .spi n a (clearSent s)).2.hst.mgmt = s.hst.mgmt := (congrArg Hst.mgmt hst).trans rfl
    have session : (readRegs .spi n a (clearSent s)).2.hst.session = s.hst.session := (congrArg Hst.session hst).trans rfl
    have port : (readRegs .spi n a (clearSent s)).2.hst.port = s.hst.port := (congrArg Hst.port hst).trans rfl
    refine gives_spi h served mode rfl run (readRegs_reads ..) mgmt session fun t ht keep => ?_
    rw [ht]
    exact ⟨rfl, rfl, port, keep⟩
  · have run : spiRead a n (clearSent s) = (clearSent s).updHst fun h =>
        { h with spiOut := List.replicate n 0x5A, port := putBit h.port 1 true } := by
      unfold spiRead
      exact if_neg fun al => mis (beq_iff_eq.1 al)
    refine gives_spi h served mode rfl run .refl rfl rfl fun t ht keep => ?_
    rw [ht]
    exact ⟨rfl, rfl, rfl, keep⟩
  · have run : spiReadTimeout a (clearSent s) = (clearSent s).updHst fun h =>
        { h with spiOut := [0x5A, 0, 0, 0, 0], port := putBit h.port 0 true } := by
      unfold spiReadTimeout
      exact if_pos (beq_iff_eq.2 al)
    refine gives_spi h served mode rfl run .refl rfl rfl fun t ht keep => ?_
    rw [ht]
    exact ⟨rfl, rfl, rfl, keep⟩
  · have run : spiWrite 0x40030000 [v] part (clearSent s) = (clearSent s).updHst fun h =>
        { h with spi := { h.spi with tide := v.setWidth 8 }, spiOut := [], port := if part then putBit h.port 3 true else h.port } := by
      have go : ∀ f, spiServed ((clearSent s).updHst f) = true := fun _ => served
      unfold spiWrite
      dsimp only
      rw [if_pos (show aligned 0x40030000 = true from rfl), writeRegs_single (go _), writeWord_tideSel]
      cases part
      · rfl
      · exact if_pos served
    refine gives_spi h served mode rfl run .refl rfl rfl fun t ht keep => ?_
    rw [ht]
    exact ⟨rfl, rfl, rfl, keep⟩
  · have run : spiWrite a l part (clearSent s) = (clearSent s).updHst fun h => { h with spiOut := [], port := putBit h.port 1 true } := by
      unfold spiWrite
      exact if_neg fun al => mis (beq_iff_eq.1 al)
    refine gives_spi h served mode rfl run .refl rfl rfl fun t ht keep => ?_
    rw [ht]
    exact ⟨rfl, rfl, keep⟩
  · have run : spiStatus (clearSent s) = (clearSent s).updHst fun h => { h with spiOut := leBytes 4 h.port.toNat, port := 0 } := rfl
    refine gives_spi h served mode rfl run .refl rfl rfl fun t ht keep => ?_
    rw [ht]
    exact ⟨rfl, rfl, rfl, keep⟩
  · have run : spiIgnored c (clearSent s) = (clearSent s).updHst fun h => { h with port := putBit h.port 2 true } :=
      if_neg fun known => known.elim read fun known => known.elim write status
    refine gives_spi h served mode rfl run .refl rfl rfl fun t ht keep => ?_
    rw [ht]
    exact ⟨rfl, rfl, rfl, keep⟩

end Sys2Proof.Machine
end

section
/-! SUPPORT. Management sessions (20 R557 to R561). -/

namespace Sys2Proof.Machine

open Sys2Proof

/-! ## Frames of the service -/

/-- A command of the management service, by what it makes of the host block and by what it raises. -/
theorem gives_mgmt {s u : State} (h : Calm s) {i : Instr} {g : State → State} (e : exec i s = actOn s g) (run : g (clearSent s) = u)
    (calm : Calm u) {P : State → Prop}
    (shows : ∀ t : State, t.hst = u.hst → (∀ n, n < 256 → raisedIn u.evt.edge n → t.evt.pend.getLsbD n = true) → P t) : Gives i s P := by
  refine .of_actOn e h.on ?_
  rw [run]
  exact shows _ (settle_hst u) fun n hn raised => calm.pend raised hn

theorem sendMgmt_hst (p : Nat) (m : Bytes) (s : State) : (sendMgmt p m s).hst = s.hst := rfl

theorem sendMgmt_evt (p : Nat) (m : Bytes) (s : State) : (sendMgmt p m s).evt = s.evt := rfl

theorem Calm.sendMgmt {s : State} (h : Calm s) (p : Nat) (m : Bytes) : Calm (sendMgmt p m s) := h.of_same rfl rfl

theorem Calm.updHst {s : State} (h : Calm s) (f : Hst → Hst) : Calm (s.updHst f) := h.of_same rfl rfl

/-- A failed authentication is counted, and raised where the count has room (20 R560). -/
theorem authFails_spec {s : State} (h : Calm s) : let u := authFails s
    Calm u ∧ u.hst.session = s.hst.session ∧ u.hst.setup = s.hst.setup ∧ u.hst.mgmt = s.hst.mgmt
      ∧ (s.hst.authFail ≠ 0xFFFF → u.hst.authFail = s.hst.authFail + 1 ∧ raisedIn u.evt.edge 21) := by
  dsimp only
  unfold authFails
  split
  · rename_i full
    exact ⟨h, rfl, rfl, rfl, fun room => absurd full room⟩
  · exact ⟨(h.updHst _).raise 21 0, rfl, rfl, rfl, fun _ => ⟨rfl, raisedIn_raise ..⟩⟩

/-! ## Setup -/

/-- A challenge leaves a setup with the host's nonce (20 R558). -/
theorem challenge_setup (p : Nat) (nh : Bytes) (s : State) : ∃ x : Setup, x.nh = nh ∧ (challenge p nh s).hst = { s.hst with setup := some x } :=
  ⟨_, rfl, rfl⟩

theorem Calm.challenge {s : State} (h : Calm s) (p : Nat) (nh : Bytes) : Calm (challenge p nh s) := h.of_same rfl rfl

/-- A request of an open session: accepted with its counter, or discarded and counted (20 R560). -/
theorem mgmtRequest_eq {s : State} {h : MgmtHead} {x : Session} (serves : servesMgmt s h.port.toNat = true) (session : s.hst.session = some x)
    {kind : Byte} {payload : Bytes} (raw : h.raw = requestBytes kind h payload) (f : Session → State → State) :
    mgmtRequest kind h payload f s =
      if x.sid = h.session ∧ x.last.all (· < h.counter) = true ∧ h.tag = frameTag x.key h.raw "UL-7160 mgmt request" then
        f { x with last := some h.counter, lastAt := s.jrn.optime }
          (s.updHst fun t => { t with session := some { x with last := some h.counter, lastAt := s.jrn.optime } })
      else authFails s := by
  unfold mgmtRequest
  rw [if_neg (by rw [serves, ← raw, bne_self_eq_false]; decide), session]

/-! ## The obligation -/

/-- Settles O36: setup, proof and requests of a session, and a frame without a valid tag. -/
theorem managementSessions : Obligations.ManagementSessions := by
  intro s calm
  refine ⟨fun p nonce serves length allowed key idle => ?_, fun p sid tag x kh serves setup key => ⟨fun sids tags => ?_, fun wrong => ?_⟩,
    fun h x serves session => ?_⟩
  · obtain ⟨x, own, hst⟩ := challenge_setup p.toNat nonce (countHello (clearSent s))
    have keyed : ¬(countHello (clearSent s)).keys.hostKey.isNone = true := by
      rw [show (countHello (clearSent s)).keys.hostKey = s.keys.hostKey from rfl, Option.isNone_iff_eq_none]
      exact Option.isSome_iff_ne_none.1 key
    have free : (countHello (clearSent s)).hst.session = none := idle
    have run : helloFrame p.toNat nonce (clearSent s) = challenge p.toNat nonce (countHello (clearSent s)) := by
      unfold helloFrame
      rw [if_neg (by rw [show servesMgmt (clearSent s) p.toNat = true from serves, length, show helloAllowed (clearSent s) = true from allowed]; decide)]
      dsimp only
      rw [if_neg keyed, free]
    refine gives_mgmt calm rfl run ((calm.clear.updHst _).challenge p.toNat nonce) fun t ht _ => ?_
    rw [ht, hst]
    exact ⟨⟨x, rfl, own⟩, idle, rfl, rfl⟩
  · have run : proveFrame p.toNat sid tag (clearSent s) =
        sendMgmt p.toNat (mgmtHeader 0x04 sid 0 32 0 ++ setupTag kh 0x44 x) (openSession kh x (clearSent s)) := by
      unfold proveFrame
      rw [if_neg (by rw [show servesMgmt (clearSent s) p.toNat = true from serves]; decide), show (clearSent s).hst.setup = some x from setup,
        show (clearSent s).keys.hostKey = some kh from key]
      exact if_pos ⟨sids, tags⟩
    refine gives_mgmt calm rfl run (calm.clear.of_same rfl rfl) fun t ht pend => ?_
    rw [ht, sendMgmt_hst]
    exact ⟨⟨_, rfl, sids, rfl⟩, rfl, rfl, rfl, pend 20 (by decide) (raisedIn_raise ..), rfl⟩
  · obtain ⟨calm', session, ended, mgmt, counted⟩ := authFails_spec (calm.clear.updHst fun h => { h with setup := none })
    have run : proveFrame p.toNat sid tag (clearSent s) = refuseMgmt p.toNat sid 5 (authFails ((clearSent s).updHst fun h => { h with setup := none })) := by
      unfold proveFrame
      rw [if_neg (by rw [show servesMgmt (clearSent s) p.toNat = true from serves]; decide), show (clearSent s).hst.setup = some x from setup,
        show (clearSent s).keys.hostKey = some kh from key]
      exact if_neg wrong
    refine gives_mgmt calm rfl run (calm'.sendMgmt ..) fun t ht pend => ?_
    rw [ht, refuseMgmt, sendMgmt_hst]
    exact ⟨session, ended, mgmt, fun room => ⟨(counted room).1, pend 21 (by decide) (counted room).2⟩⟩
  · intro good y
    have request : ∀ {kind : Byte} {payload : Bytes} (f : Session → State → State), h.raw = requestBytes kind h payload →
        (good → mgmtRequest kind h payload f (clearSent s) = f y ((clearSent s).updHst fun t => { t with session := some y }))
        ∧ (¬good → mgmtRequest kind h payload f (clearSent s) = authFails (clearSent s)) := by
      intro kind payload f raw
      have eq := mgmtRequest_eq (s := clearSent s) serves session raw f
      exact ⟨fun ok => eq.trans (if_pos ok), fun bad => eq.trans (if_neg bad)⟩
    refine ⟨fun a n raw => ⟨fun ok status => ?_, fun ok status => ?_, fun bad => ?_⟩, fun v raw ok => ?_, fun raw ok => ?_⟩
    · let u := (clearSent s).updHst fun t => { t with session := some y }
      have reads := readRegs_reads .mgmt n.toNat a u
      obtain ⟨z, hst⟩ := reads.hst
      have run : mgmtRead h a n (clearSent s) = replyMgmt h.port.toNat y 0x06 h.counter 0 (wordsToBytes (readRegs .mgmt n.toNat a u).1)
          ((readRegs .mgmt n.toNat a u).2.updPath .mgmt fun p => { p with out := (readRegs .mgmt n.toNat a u).1 }) := by
        refine ((request _ raw).1 ok).trans ?_
        exact if_pos status
      refine gives_mgmt calm rfl run (calm.clear.of_same reads.start (congrArg Pair.images reads.pair)) fun t ht _ => ?_
      rw [ht, replyMgmt, sendMgmt_hst]
      exact ⟨rfl, (congrArg Hst.session hst).trans rfl, (congrArg Hst.spi hst).trans rfl⟩
    · have run : mgmtRead h a n (clearSent s) = replyMgmt h.port.toNat y 0x06 h.counter (accessStatus a n) []
          ((clearSent s).updHst fun t => { t with session := some y }) := by
        refine ((request _ raw).1 ok).trans ?_
        exact if_neg status
      refine gives_mgmt calm rfl run (calm.clear.of_same rfl rfl) fun t ht _ => ?_
      rw [ht, replyMgmt, sendMgmt_hst]
      exact ⟨rfl, rfl⟩
    · obtain ⟨calm', same, -, mgmt, counted⟩ := authFails_spec calm.clear
      refine gives_mgmt calm rfl ((request _ raw).2 bad) calm' fun t ht _ => ?_
      rw [ht]
      exact ⟨mgmt, same.trans session, fun room => (counted room).1⟩
    · have run : mgmtWrite h 0x40030000 1 [v] (clearSent s) = replyMgmt h.port.toNat y 0x08 h.counter 0 []
          (((clearSent s).updHst fun t => { t with session := some y }).updPath .mgmt fun x => { x with tide := v.setWidth 8 }) := by
        refine (if_neg fun short : [v].length ≠ (1 : BitVec 16).toNat => short rfl).trans (((request _ raw).1 ok).trans ?_)
        dsimp only
        rw [if_pos (show accessStatus 0x40030000 1 = 0 from rfl), writeRegs_single rfl, writeWord_tideSel]
        exact if_pos rfl
      refine gives_mgmt calm rfl run (calm.clear.of_same rfl rfl) fun t ht _ => ?_
      rw [ht, replyMgmt, sendMgmt_hst]
      exact ⟨rfl, rfl, rfl⟩
    · have run : closeFrame h (clearSent s) = raise 20 ((replyMgmt h.port.toNat y 0x08 h.counter 0 []
          ((clearSent s).updHst fun t => { t with session := some y })).updHst fun h => { h with session := none }) := by
        refine ((request _ raw).1 ok).trans ?_
        exact if_pos rfl
      generalize reply : replyMgmt h.port.toNat y 0x08 h.counter 0 [] ((clearSent s).updHst fun t => { t with session := some y }) = w at run
      have calm' : Calm w := reply ▸ (calm.clear.updHst _).sendMgmt ..
      have mgmt : w.hst.mgmt = s.hst.mgmt := reply ▸ rfl
      have spi : w.hst.spi = s.hst.spi := reply ▸ rfl
      refine gives_mgmt calm rfl run ((calm'.updHst _).raise 20 0) fun t ht pend => ?_
      rw [ht]
      exact ⟨rfl, pend 20 (by decide) (raisedIn_raise ..), mgmt, spi⟩

end Sys2Proof.Machine
end

section
/-! SUPPORT. The pair at the end of an edge, and what an operation of the running unit leaves of its role (14 R398, R409). -/

namespace Sys2Proof.Machine

open Sys2Proof

/-! ## The pair at the end of an edge -/

theorem foldl_eq {α β : Type} {p : State → β} {f : State → α → State} (h : ∀ s a, p (f s a) = p s) (l : List α) (s : State) :
    p (l.foldl f s) = p s := by
  induction l generalizing s with
  | nil => rfl
  | cons a l ih => exact (ih _).trans (h s a)

theorem performRaise_pair (s : State) (x : Nat × Nat) : (performRaise s x).pair = s.pair := by
  unfold performRaise
  extract_lets r now u v
  have hv : v.pair = s.pair := by
    show (if r.journal && !recordless x.1 then addRec (routedRec r x.1 x.2 false) u else u).pair = _
    split <;> rfl
  split
  · split
    · exact hv
    · exact hv
  · exact hv

theorem performPeer_pair (s : State) (x : Nat × Nat) : (performPeer s x).pair = s.pair := by
  unfold performPeer
  dsimp only
  split <;> rfl

theorem createRec_pair (s : State) (r : NewRec) : (createRec s r).1.pair = s.pair := by
  unfold createRec
  split
  · rfl
  · extract_lets k q
    split <;> rfl

theorem createAll_pair (l : List NewRec) (s : State) : (createAll l s).1.pair = s.pair := by
  induction l generalizing s with
  | nil => rfl
  | cons r l ih => exact (ih _).trans (createRec_pair s r)

theorem startFlush_pair (s : State) : (startFlush s).pair = s.pair := by
  unfold startFlush
  split <;> rfl

theorem settleEvents_pair (s : State) : (settleEvents s).pair = s.pair := by
  unfold settleEvents
  split
  · rfl
  · extract_lets own peer u v w recs x before urgent
    have hx : x.pair = s.pair := (foldl_eq (p := State.pair) performPeer_pair peer v).trans (foldl_eq (p := State.pair) performRaise_pair own u)
    have hy := (createAll_pair recs x).trans hx
    split
    rename_i y dropped ey
    rw [ey] at hy
    extract_lets z
    have hz : z.pair = s.pair := by
      show (if dropped && !own.any (·.1 == 216) then performRaise y (216, 0) else y).pair = _
      split
      · exact (performRaise_pair _ _).trans hy
      · exact hy
    split
    · exact (startFlush_pair z).trans hz
    · exact hz

theorem sendLink_sent (m : LinkMsg) (s : State) : ∃ l, (sendLink m s).pair.sent = s.pair.sent ++ l := by
  unfold sendLink
  split
  · unfold Pair.sendHeld
    cases h : s.pair.held with
    | none => exact ⟨[m], by simp only [State.updPair, h]; rfl⟩
    | some x => exact ⟨[.solver x.2, m], by simp only [State.updPair, h, Pair.send, List.append_assoc, List.cons_append, List.nil_append]⟩
  · exact ⟨[], (List.append_nil _).symm⟩

/-- A message that goes out while the link is up is among those sent (14 R398). -/
theorem sendLink_mem {m : LinkMsg} {s : State} (up : s.pair.linkUp = true) : m ∈ (sendLink m s).pair.sent := by
  unfold sendLink
  rw [if_pos up]
  exact List.mem_append_right _ List.mem_cons_self

theorem forwardEvents_sent (s : State) {m : LinkMsg} (h : m ∈ s.pair.sent) : m ∈ (forwardEvents s).pair.sent := by
  unfold forwardEvents
  split
  · exact h
  · extract_lets l u
    split
    · obtain ⟨a, e⟩ := sendLink_sent (.events l) u
      rw [e]
      exact List.mem_append_left _ h
    · exact h

/-- What a command has sent stands among what its edge has sent. -/
theorem Calm.sent {u : State} (calm : Calm u) {m : LinkMsg} (h : m ∈ u.pair.sent) : m ∈ (settle u).pair.sent := by
  rw [settle, if_pos (.inl calm.on), tryImages_none u calm.images]
  exact forwardEvents_sent _ (by rw [settleEvents_pair]; exact h)

/-- The pair at the end of an edge but for its messages. -/
theorem Calm.settle_pair {u : State} (calm : Calm u) : ∃ sent held seq, (settle u).pair = u.pair.sends sent held seq := by
  have same : { (settle u).pair with sent := [], held := none, txSeq := 0 } = { u.pair with sent := [], held := none, txSeq := 0 } :=
    congrArg Quiet.pair (settle_quiet u calm.images)
  refine ⟨(settle u).pair.sent, (settle u).pair.held, (settle u).pair.txSeq, ?_⟩
  have put := congrArg (fun p : Pair => p.sends (settle u).pair.sent (settle u).pair.held (settle u).pair.txSeq) same
  exact put

end Sys2Proof.Machine
end

section
/-! SUPPORT. What scans, solves, polls and frames leave of a unit's start, role and epoch (14 R409, R410). -/

namespace Sys2Proof.Machine

open Sys2Proof

/-- A state after operations of a running unit: its start, its lines, its role, its epoch and its waiting images stand, what was raised
stays raised, and with no switch-over commanded FENCE_OUT and the tally of switch-overs stand (14 R412). -/
structure Sails (s u : State) : Prop where
  start : u.start = s.start
  pins : u.pins = s.pins
  role : u.pair.role = s.pair.role
  images : u.pair.images = s.pair.images
  epoch : u.mram.dev.epoch = s.mram.dev.epoch
  takeovers : u.mram.dev.takeovers = s.mram.dev.takeovers
  idle : s.pair.busy = false → u.pair.busy = false ∧ u.pair.fenceOut = s.pair.fenceOut ∧ u.mram.dev.switches = s.mram.dev.switches
  raised : ∀ n, raisedIn s.evt.edge n → raisedIn u.evt.edge n

section Rules

variable {s u v : State}

theorem Sails.same (start : u.start = s.start) (pins : u.pins = s.pins) (pair : u.pair = s.pair) (dev : u.mram.dev = s.mram.dev)
    (evt : u.evt = s.evt) : Sails s u :=
  ⟨start, pins, congrArg Pair.role pair, congrArg Pair.images pair, congrArg DevRec.epoch dev, congrArg DevRec.takeovers dev,
    fun idle => ⟨(congrArg Pair.busy pair).trans idle, congrArg Pair.fenceOut pair, congrArg DevRec.switches dev⟩, fun _ h => evt.symm ▸ h⟩

theorem Sails.refl : Sails s s := .same rfl rfl rfl rfl rfl

theorem Sails.trans (h : Sails s u) (h' : Sails u v) : Sails s v :=
  ⟨h'.start.trans h.start, h'.pins.trans h.pins, h'.role.trans h.role, h'.images.trans h.images, h'.epoch.trans h.epoch,
    h'.takeovers.trans h.takeovers, fun idle =>
      have ⟨busy, fence, switches⟩ := h.idle idle
      have ⟨busy', fence', switches'⟩ := h'.idle busy
      ⟨busy', fence'.trans fence, switches'.trans switches⟩, fun n r => h'.raised n (h.raised n r)⟩

theorem Sails.ite {c : Prop} [Decidable c] (yes : c → Sails s u) (no : ¬c → Sails s v) : Sails s (if c then u else v) := by
  split
  · exact yes ‹_›
  · exact no ‹_›

theorem Sails.foldl {α : Type} {f : State → α → State} (each : ∀ s a, Sails s (f s a)) (l : List α) (s : State) : Sails s (l.foldl f s) := by
  induction l generalizing s with
  | nil => exact .refl
  | cons a l ih => exact (each s a).trans (ih _)

theorem Sails.raise (h : Sails s u) (n k : Nat) : Sails s (raise n u k) :=
  h.trans ⟨rfl, rfl, rfl, rfl, rfl, rfl, fun idle => ⟨idle, rfl, rfl⟩, fun m r => raisedIn_raise_of _ m _ _ r⟩

theorem Sails.addRec (h : Sails s u) (r : NewRec) : Sails s (addRec r u) := h.trans (.same rfl rfl rfl rfl rfl)
theorem Sails.updScan (h : Sails s u) (f : Scan → Scan) : Sails s (u.updScan f) := h.trans (.same rfl rfl rfl rfl rfl)
theorem Sails.updSol (h : Sails s u) (f : Sol → Sol) : Sails s (u.updSol f) := h.trans (.same rfl rfl rfl rfl rfl)
theorem Sails.updStn (h : Sails s u) (f : StnEng → StnEng) : Sails s (u.updStn f) := h.trans (.same rfl rfl rfl rfl rfl)
theorem Sails.updLoop (h : Sails s u) (f : LoopEng → LoopEng) : Sails s (u.updLoop f) := h.trans (.same rfl rfl rfl rfl rfl)
theorem Sails.updTide (h : Sails s u) (f : Tide → Tide) : Sails s (u.updTide f) := h.trans (.same rfl rfl rfl rfl rfl)
theorem Sails.updTask (h : Sails s u) (t : Nat) (f : Task → Task) : Sails s (u.updTask t f) := h.updScan _
theorem Sails.updProb (h : Sails s u) (n : Nat) (f : Problem → Problem) : Sails s (u.updProb n f) := h.updSol _
theorem Sails.updStation (h : Sails s u) (n : Nat) (f : Stn → Stn) : Sails s (u.updStation n f) := h.updStn _
theorem Sails.updPort (h : Sails s u) (n : Nat) (f : Port → Port) : Sails s (u.updPort n f) := h.trans (.same rfl rfl rfl rfl rfl)

theorem Sails.sends (h : Sails s u) (sent : List LinkMsg) (held : Option (Nat × SolverMsg)) (seq : Word) :
    Sails s (u.updPair fun p => p.sends sent held seq) :=
  h.trans ⟨rfl, rfl, rfl, rfl, rfl, rfl, fun idle => ⟨idle, rfl, rfl⟩, fun _ r => r⟩

theorem Sails.sendLink (h : Sails s u) (m : LinkMsg) : Sails s (sendLink m u) := by
  obtain ⟨a, b, c, e⟩ := sendLink_eq m u
  rw [e]
  exact h.sends a b c

theorem Sails.applyOutputs (h : Sails s u) : Sails s (applyOutputs u) :=
  h.trans (.same (applyOutputs_start u) (applyOutputs_pins u) (applyOutputs_pair u) (congrArg Mram.dev (applyOutputs_mram u)) (applyOutputs_evt u))

theorem Sails.calm (h : Sails s u) (calm : Calm s) : Calm u := calm.of_same h.start h.images

end Rules

/-! ## The solver array -/

theorem sendSolver_sails (m : SolverMsg) (s : State) : Sails s (sendSolver m s) :=
  .ite (fun _ => ⟨rfl, rfl, rfl, rfl, rfl, rfl, fun idle => ⟨idle, rfl, rfl⟩, fun _ r => r⟩) fun _ => .refl

theorem stopProblem_sails (n : Nat) (why : Stop) (s : State) : Sails s (stopProblem n why s) :=
  (Sails.refl.updProb _ _).trans (sendSolver_sails _ _)

theorem finishBuild_sails (n : Nat) (c : ProblemCfg) (t : Template) (rescale : Bool) (s : State) : Sails s (finishBuild n c t rescale s) := by
  unfold finishBuild
  extract_lets p
  split
  · exact .refl
  · exact .ite (fun _ => .ite (fun _ => Sails.updProb ((Sails.refl (s := s)).raise 133 n) _ _) fun _ =>
        .ite (fun _ => Sails.trans (Sails.updProb ((Sails.refl (s := s)).raise 133 n) _ _) (stopProblem_sails ..)) fun _ =>
          Sails.updProb ((Sails.refl (s := s)).raise 133 n) _ _)
      fun _ => .ite (fun _ => Sails.updProb (Sails.updProb .refl _ _) _ _) fun _ => Sails.updProb .refl _ _

theorem stopAtMark_sails (n : Nat) (c : ProblemCfg) (t : Template) (s : State) : Sails s (stopAtMark n c t s) := by
  unfold stopAtMark
  extract_lets p u
  have hu : Sails s u := stopProblem_sails ..
  split
  · exact hu
  · split
    · exact hu.trans (finishBuild_sails ..)
    · extract_lets v again
      exact Sails.updProb (.ite (fun _ => hu) fun _ => hu.raise _ _) _ _

theorem withProblem_sails (n : Nat) (s : State) {f : ProblemCfg → Template → State → State} (each : ∀ c t s, Sails s (f c t s)) :
    Sails s (withProblem n s f) := by
  unfold withProblem
  split
  · exact each _ _ s
  · exact .refl

theorem markReached_sails (w : Work) (s : State) : Sails s (markReached w s) := by
  refine .ite (fun _ => .refl) fun _ => .foldl (fun s n => ?_) _ s
  exact .ite (fun _ => .ite (fun _ => Sails.refl.updProb _ _) fun _ => withProblem_sails _ _ fun _ _ _ => stopAtMark_sails ..) fun _ => .refl

/-! ## Stations -/

theorem statusStation_sails (s : State) (c : StationCfg) : Sails s (statusStation s c) := by
  unfold statusStation
  extract_lets u
  have hu : Sails s u := Sails.refl.updStation _ _
  split
  · exact hu.trans (.same rfl rfl rfl rfl rfl)
  · exact hu

theorem pollStation_sails {mark : TideTime} {c : StationCfg} {cur cur' : Store Nat} {s u : State} (h : pollStation mark c cur s = some (cur', u)) :
    Sails s u := by
  unfold pollStation at h
  extract_lets x pl b port seq epoch m head f wire ws t z till v w at h
  split at h
  · cases h
  · simp only [Option.some.injEq, Prod.mk.injEq] at h
    obtain ⟨-, e⟩ := h
    rw [← e]
    exact .same rfl rfl rfl rfl rfl

theorem pollFrom_sails (mark : TideTime) (l : List StationCfg) (fuel budget : Nat) (cur : Store Nat) (s : State) :
    Sails s (pollFrom mark l fuel budget cur s) := by
  induction fuel generalizing budget cur s with
  | zero => exact .refl
  | succ fuel ih =>
    cases budget with
    | zero => exact .refl
    | succ budget =>
      unfold pollFrom
      split
      · exact .refl
      · extract_lets wrap next
        split
        · exact (Sails.refl.updStn _).trans (ih ..)
        · split
          · rename_i cur' u polled
            exact (pollStation_sails polled).trans ((Sails.refl.updStn _).trans (ih ..))
          · exact .refl

theorem stationRound_sails (mark : TideTime) (s : State) : Sails s (stationRound mark s) :=
  (Sails.foldl statusStation_sails _ s).trans (.ite (fun _ => .refl) fun _ => pollFrom_sails ..)

theorem roundMissed_sails (s : State) : Sails s (roundMissed s) := by
  unfold roundMissed
  split
  · exact (stationRound_sails _ s).updStn _
  · exact .refl

/-! ## Scans -/

theorem queueCause_sails (c : ErrCause) (s : State) : Sails s (queueCause c s) :=
  .ite (fun _ => Sails.refl.updScan _) fun _ => (Sails.refl.updScan _).raise _ _

theorem overrun_sails (t : Nat) (s : State) : Sails s (overrun t s) := ((Sails.refl.updTask _ _).raise _ _).trans (queueCause_sails ..)

theorem forceRec_sails (slot code : Nat) (i : BitVec 20) (lo : Word) (s : State) : Sails s (forceRec slot code i lo s) := (Sails.refl.addRec _).raise _ _

theorem releaseForce_sails (n : Nat) (s : State) : Sails s (releaseForce n s) := by
  unfold releaseForce
  split
  · exact .refl
  · exact (Sails.refl.updScan _).trans (forceRec_sails ..)

theorem applyForce_sails (s : State) (c : ForceChange) : Sails s (applyForce c s) := by
  unfold applyForce
  split
  · exact releaseForce_sails ..
  · exact .foldl (fun s n => releaseForce_sails n s) _ s
  · rename_i slot i lo hi
    extract_lets n u v w
    have hu : Sails s u := by
      show Sails s (match Store.get none s.scan.forces n with
        | some (j, _, _) => if j = i then s else releaseForce n s
        | none => s)
      split
      · exact .ite (fun _ => .refl) fun _ => releaseForce_sails ..
      · exact .refl
    have hw : Sails v w := by
      show Sails v (match regionAt v.dataArea i.toNat with
        | some r => if r.kind = 3 then writeWords i.toNat (forceWords r.type (lo, hi)) v else v
        | none => v)
      split
      · exact .ite (fun _ => Sails.refl.updScan _) fun _ => .refl
      · exact .refl
    exact ((hu.updScan _).trans hw).trans (forceRec_sails ..)

theorem applyTest_sails (c : TestChange) (s : State) : Sails s (applyTest c s) := by
  cases c with
  | start n t => exact .same rfl rfl rfl rfl rfl
  | stop n => exact .ite (fun _ => (Sails.refl.updLoop _).raise _ _) fun _ => .refl

theorem releasePending_sails (s : State) : Sails s (releasePending s) := by
  have forced := (Sails.refl (s := s).updScan fun x => { x with frcPending := [], frcBusy := false, frcDone := x.frcDone || !s.scan.frcPending.isEmpty }).trans
    (.foldl applyForce_sails s.scan.frcPending _)
  unfold releasePending releaseTests
  extract_lets l u
  split
  · exact forced
  · exact (forced.updLoop _).trans (applyTest_sails ..)

theorem putRun_sails (t : Nat) (r : Run) (s : State) : Sails s (putRun t r s) :=
  Sails.updTask (.ite (fun _ => .refl) fun _ => Sails.refl.updScan _) _ _

theorem freezeScan_sails (c : TaskCfg) (time : TideTime) (cause : Option ErrCause) (b : Bool) (o w : List Nat) (a : Option (BitVec 48)) (s : State) :
    Sails s (freezeScan c time cause b o w a s) := ((Sails.refl.updTask _ _).updScan _).trans (putRun_sails ..)

theorem forwardImage_sails (t : Nat) (forces : List ForceChange) (tests : List TestChange) (s : State) : Sails s (forwardImage t forces tests s) := by
  unfold forwardImage
  split
  · exact .refl
  · split
    · extract_lets m u v
      have hv : Sails s v := .ite (fun _ => (Sails.refl.updTask _ _).updSol _) fun _ => Sails.refl.updTask _ _
      exact (hv.updStn _).sendLink _
    · exact Sails.refl.updStn _

/-- A switch-over takes effect only where one was commanded (14 R412). -/
theorem switchEdge_sails (s : State) : Sails s (switchEdge s) := by
  unfold switchEdge
  refine .ite (fun go => ?_) fun _ => .refl
  extract_lets a b c
  have busy : ¬s.pair.busy = false := fun idle => absurd (Bool.and_eq_true_iff.1 go).1 (by rw [idle]; decide)
  have sent := (Sails.refl (s := s)).sendLink (.switch s.tideNow)
  exact Sails.raise (u := c.updDev fun d => { d with switches := satInc d.switches }) ⟨sent.start, sent.pins, sent.role, sent.images, sent.epoch, sent.takeovers, fun idle => absurd idle busy, sent.raised⟩ 200 0

theorem beginScan_sails (c : TaskCfg) (time : TideTime) (cause : Option ErrCause) (s : State) : Sails s (beginScan c time cause s) := by
  unfold beginScan
  extract_lets state forces tests u
  have hu : Sails s u := .ite (fun _ => .ite (fun _ => releasePending_sails s) fun _ => (releasePending_sails s).applyOutputs) fun _ => .refl
  split
  have frozen := fun b o w a => (hu.trans (freezeScan_sails c time cause b o w a u)).trans (forwardImage_sails c.num forces tests _)
  exact .ite (fun _ => (frozen ..).trans (switchEdge_sails _)) fun _ => frozen ..

theorem startMissed_sails (s : State) (c : TaskCfg) : Sails s (startMissed s c) := by
  unfold startMissed
  split
  · exact .refl
  · exact (Sails.refl.updTask _ _).trans (.ite (fun _ => overrun_sails ..) fun _ => beginScan_sails ..)

end Sys2Proof.Machine
end

section
/-! SUPPORT. Leases, fencing and takeovers (14 R402, R406 to R413). -/

namespace Sys2Proof.Machine

open Sys2Proof

/-! ## What a command of the pair shows -/

/-- A state after the edge of a command that led to `u`. -/
structure Ended (u t : State) : Prop where
  pair : ∃ sent held seq, t.pair = u.pair.sends sent held seq
  sent : ∀ m ∈ u.pair.sent, m ∈ t.pair.sent
  still : t.still = u.still
  quiet : t.quiet = u.quiet
  pend : ∀ n, n < 256 → raisedIn u.evt.edge n → t.evt.pend.getLsbD n = true

section Shows

variable {u t : State} (h : Ended u t)
include h

theorem Ended.start : t.start = u.start := congrArg Still.start h.still
theorem Ended.fio : t.fio = u.fio := congrArg Still.fio h.still
theorem Ended.pins : t.pins = u.pins := congrArg Still.pins h.still
theorem Ended.clk : t.clk = u.clk := congrArg Still.clk h.still
theorem Ended.ntime : t.ntime = u.ntime := congrArg Still.ntime h.still
theorem Ended.tide : t.tide = u.tide := congrArg Still.tide h.still
theorem Ended.mtr : t.mtr = u.mtr := congrArg Still.mtr h.still
theorem Ended.keys : t.keys = u.keys := congrArg Still.keys h.still
theorem Ended.ports : t.ports = u.ports := congrArg Still.ports h.still
theorem Ended.epoch : t.mram.dev.epoch = u.mram.dev.epoch := congrArg (fun q : Still => q.mram.dev.epoch) h.still
theorem Ended.takeovers : t.mram.dev.takeovers = u.mram.dev.takeovers := congrArg (fun q : Still => q.mram.dev.takeovers) h.still
theorem Ended.switches : t.mram.dev.switches = u.mram.dev.switches := congrArg (fun q : Still => q.mram.dev.switches) h.still
theorem Ended.role : t.pair.role = u.pair.role := congrArg (fun q : Quiet => q.pair.role) h.quiet
theorem Ended.fenceOut : t.pair.fenceOut = u.pair.fenceOut := congrArg (fun q : Quiet => q.pair.fenceOut) h.quiet
theorem Ended.place : t.place = u.place := congrArg Quiet.place h.quiet
theorem Ended.loop : t.loop = u.loop := congrArg Quiet.loop h.quiet
theorem Ended.sol : t.sol = u.sol := congrArg Quiet.sol h.quiet
theorem Ended.stn : t.stn = u.stn := congrArg Quiet.stn h.quiet
theorem Ended.data : t.scan.data = u.scan.data := congrArg (fun q : Quiet => q.scan.data) h.quiet

end Shows

theorem Calm.ended {u : State} (calm : Calm u) : Ended u (settle u) :=
  ⟨calm.settle_pair, fun _ h => calm.sent h, settle_still u, settle_quiet u calm.images, fun _ hn raised => calm.pend raised hn⟩

/-- A command of a running unit, by the state that it leads to. -/
theorem Calm.gives {s u : State} (calm : Calm s) {i : Instr} {g : State → State} (e : exec i s = actOn s g) (run : g (clearSent s) = u)
    (calm' : Calm u) {P : State → Prop} (shows : ∀ t, Ended u t → P t) : Gives i s P := by
  refine .of_actOn e calm.on ?_
  rw [run]
  exact shows _ calm'.ended

/-- The same from the state as its pair's messages stand when the command begins. -/
theorem Calm.gives_from {s u v : State} (calm : Calm s) (cleared : clearSent s = v) {i : Instr} {g : State → State} (e : exec i s = actOn s g)
    (run : g v = u) (calm' : Calm u) {P : State → Prop} (shows : ∀ t, Ended u t → P t) : Gives i s P :=
  calm.gives e (cleared.symm ▸ run) calm' shows

theorem Calm.updPair {s : State} (h : Calm s) {f : Pair → Pair} (images : (f s.pair).images = s.pair.images) : Calm (s.updPair f) :=
  h.of_same rfl images

theorem nextSeq_ne (q : Word) : nextSeq q ≠ 0 := by
  unfold nextSeq
  split <;> bv_omega

/-- The message that comes next in sequence is taken (14 R398). -/
theorem receive_next {s : State} (up : s.pair.linkUp = true) (f : State → State) :
    receive (nextSeq s.pair.rxSeq) f s = f (s.updPair fun p => { p with rxSeq := nextSeq s.pair.rxSeq }) := by
  unfold receive
  dsimp only
  have go : ¬((!s.pair.linkUp) = true ∨ nextSeq s.pair.rxSeq = 0 ∨ 2 ^ 31 ≤ (0#32 : Word).toNat) := by
    rw [up]
    exact not_or.2 ⟨Bool.false_ne_true, not_or.2 ⟨nextSeq_ne _, by decide⟩⟩
  rw [BitVec.sub_self, if_neg go, if_pos (show (0#32 : Word).toNat = 0 from rfl)]

/-- The outputs of a released unit are off (14 R408, R410). -/
theorem applyOutputs_dark {s : State} (kept : s.fio.kept = false) (released : s.pair.fenced = true ∨ s.pins.fenceIn = true) {n : Nat} (hn : n < 32) :
    (applyOutputs s).fio.applied.getLsbD n = false := by
  have kept' : (applyOutputs s).fio.kept = false := by
    obtain ⟨m, d, e⟩ := applyOutputs_eq s
    rw [e]
    exact kept
  have released' : (applyOutputs s).released = true := by
    unfold State.released
    rw [applyOutputs_pair, applyOutputs_pins]
    obtain fenced | high := released
    · rw [fenced]
      rfl
    · rw [high, Bool.or_true]
      rfl
  rw [applyOutputs_applied s hn, dieApplies, kept', released', if_neg Bool.false_ne_true, if_pos rfl, ite_self]

/-! ## Leases -/

/-- The role in which a standby joins (14 R397; 03 R81, R82). -/
def joinRole : JoinAs → PairRole
  | .lockstep => .resync
  | .staging => .staging
  | .apart => .notReady

/-- How a unit joins turns on the manifests alone (03 R81, R82). -/
theorem joinAs_learnPartner {s t : State} (draws : t.draws = s.draws) (mram : t.mram = s.mram) (man : t.man = s.man) :
    joinAs (learnPartner t) = joinAs (learnPartner s) := by
  have own : ownRec (learnPartner t) = ownRec (learnPartner s) := by
    unfold ownRec
    rw [show (learnPartner t).mram = s.mram from mram, show (learnPartner t).man = s.man from man]
    rfl
  have partner : (learnPartner t).pair.partner = (learnPartner s).pair.partner := by
    show PartnerRec.mk (Config.partnerDigest t.draws) (Config.partnerTide t.draws) (Config.partnerPair t.draws) = _
    rw [draws]
    rfl
  unfold joinAs
  rw [own, partner]

/-- The pair of a unit that joins as standby with this partner (14 R397, R416). -/
def Pair.joins (p : Pair) (partner : PartnerRec) (a : JoinAs) (fault : Bool) : Pair :=
  { p with partner := partner, role := joinRole a, digestDiff := decide (a ≠ .lockstep), apart := decide (a = .apart), tideTaken := false
           rounds := 0, images := [], fenceFault := fault }

theorem joinStandby_spec (s : State) : (joinStandby s).start = s.start ∧ (joinStandby s).mram = s.mram
    ∧ ∃ fault, (joinStandby s).pair = s.pair.joins (learnPartner s).pair.partner (joinAs (learnPartner s)) fault := by
  have joins : joinStandby s = applyOutputs (if joinAs (learnPartner s) = .staging
      then fenceTest true (((learnPartner s).updPair fun p => p.joins p.partner (joinAs (learnPartner s)) p.fenceFault).updPlace fun p => { p with taken := false })
      else ((learnPartner s).updPair fun p => p.joins p.partner (joinAs (learnPartner s)) p.fenceFault).updPlace fun p => { p with taken := false }) := rfl
  have start : (learnPartner s).start = s.start := rfl
  have mram : (learnPartner s).mram = s.mram := rfl
  have pair : (learnPartner s).pair = { s.pair with partner := (learnPartner s).pair.partner } := rfl
  rw [joins, applyOutputs_start, applyOutputs_mram, applyOutputs_pair]
  clear joins
  generalize learnPartner s = l at start mram pair
  generalize joinAs l = a
  have joined : ∀ fault, l.pair.joins l.pair.partner a fault = s.pair.joins l.pair.partner a fault := fun fault => by
    rw [pair]
    rfl
  split
  · exact ⟨start, mram, _, joined (l.pair.fenceFault || (l.pins.fenceIn != true))⟩
  · exact ⟨start, mram, _, joined l.pair.fenceFault⟩

theorem stepNtime_mram (neg : Bool) (sec : BitVec 48) (ns : BitVec 30) (s : State) : (stepNtime neg sec ns s).mram = s.mram := by
  have same := (elapse_meter 1 s).2
  by_cases no : s.ntime.started = false ∨ 999999999 < ns.toNat
  · rw [stepNtime_rejects no]
    rfl
  · obtain ⟨started, valid⟩ := not_or.1 no
    rw [Bool.not_eq_false] at started
    by_cases out : (nowNanos (elapse 1 s) : Int) + stepDelta neg sec ns < 0 ∨ ((2 ^ 48 * 10 ^ 9 : Nat) : Int) ≤ nowNanos (elapse 1 s) + stepDelta neg sec ns
    · rw [stepNtime_out started (Nat.not_lt.1 valid) rfl out]
      exact same
    · obtain ⟨low, high⟩ := not_or.1 out
      rw [stepNtime_steps started (Nat.not_lt.1 valid) rfl (Int.not_lt.1 low) (Int.not_le.1 high)]
      generalize elapse 1 s = w at same
      exact same

/-- The servo notes the offset that it steers by (14 R402). -/
theorem followTime_spec (off : Int) (s : State) : (followTime off s).start = s.start ∧ (followTime off s).mram = s.mram
    ∧ (followTime off s).pair = { s.pair with ntoff := BitVec.ofInt 32 (max (-2147483648) (min 2147483647 off)) } := by
  unfold followTime
  extract_lets u
  split
  · exact ⟨(stepNtime_keeps _ _ _ u).1, stepNtime_mram _ _ _ u, (stepNtime_keeps _ _ _ u).2.1⟩
  · exact ⟨rfl, rfl, rfl⟩

theorem leaseFollow_spec (t4 : Stamp) (s : State) : (leaseFollow t4 s).start = s.start ∧ (leaseFollow t4 s).mram = s.mram
    ∧ ∃ off, (leaseFollow t4 s).pair = { s.pair with ntoff := off }
      ∧ ∀ x, s.pair.exch = some x → off = BitVec.ofInt 32 (max (-2147483648) (min 2147483647 (leaseOffset x t4))) := by
  unfold leaseFollow
  cases s.pair.exch with
  | none => exact ⟨rfl, rfl, s.pair.ntoff, rfl, fun x hx => nomatch hx⟩
  | some x =>
    obtain ⟨start, mram, pair⟩ := followTime_spec (leaseOffset x t4) s
    exact ⟨start, mram, _, pair, fun y hy => (by cases hy; rfl)⟩

/-- A standby's unit as a LEASE finds it: it has joined where it waited (14 R397). -/
theorem leaseJoin_spec {s : State} (standby : s.isStandby = true) : let u := if s.pair.role = .waiting then joinStandby s else s
    u.isStandby = true ∧ u.start = s.start ∧ u.mram = s.mram ∧ (s.pair.images = [] → u.pair.images = [])
      ∧ u.pair.rxSeq = s.pair.rxSeq ∧ u.pair.peerActive = s.pair.peerActive ∧ u.pair.exch = s.pair.exch ∧ u.pair.linkUp = s.pair.linkUp
      ∧ (s.pair.role ≠ .waiting → u.pair.role = s.pair.role) ∧ (s.pair.role = .waiting → u.pair.role = joinRole (joinAs (learnPartner s))) := by
  dsimp only
  split
  · rename_i waits
    obtain ⟨start, mram, fault, pair⟩ := joinStandby_spec s
    have joined : (joinStandby s).isStandby = true := by
      rw [State.isStandby, pair]
      cases joinAs (learnPartner s) <;> rfl
    refine ⟨joined, start, mram, ?_⟩
    rw [pair]
    exact ⟨fun _ => rfl, rfl, rfl, rfl, rfl, fun active => absurd waits active, fun _ => rfl⟩
  · rename_i joined
    exact ⟨standby, rfl, rfl, id, rfl, rfl, rfl, rfl, fun _ => rfl, fun waits => absurd waits joined⟩

/-- The acknowledgement of a LEASE (14 R399, R406). -/
def leaseAnswer (l : Word) (t1 : Stamp) (s : State) : State :=
  let t2 := s.ntime.now
  let (k, s) := freeChoice 10001 s
  let t3 := stampMoved t2 (k : Nat)
  sendLink (.leaseAck l t2 t3) (s.updPair fun p => { p with peerOkOut := true, leaseAt := some s.clk.hfNs, expired := false, exch := some (t1, t2, t3) })

theorem leaseAnswer_eq (l : Word) (t1 : Stamp) (s : State) : ∃ t3, leaseAnswer l t1 s = sendLink (.leaseAck l s.ntime.now t3)
    (({ s with draws := s.draws + 1 } : State).updPair fun p =>
      { p with peerOkOut := true, leaseAt := some s.clk.hfNs, expired := false, exch := some (t1, s.ntime.now, t3) }) := ⟨_, rfl⟩

theorem leaseAnswer_spec {s : State} (calm : Calm s) (up : s.pair.linkUp = true) (l : Word) (t1 : Stamp) : let u := leaseAnswer l t1 s
    Calm u ∧ u.start = s.start ∧ u.mram = s.mram ∧ u.pair.rxSeq = s.pair.rxSeq ∧ u.pair.peerActive = s.pair.peerActive ∧ u.pair.role = s.pair.role
      ∧ u.pair.ntoff = s.pair.ntoff ∧ u.pair.leaseAt = some u.clk.hfNs
      ∧ ∃ t2 t3, .leaseAck l t2 t3 ∈ u.pair.sent ∧ u.pair.exch = some (t1, t2, t3) ∧ t2 = u.ntime.now := by
  obtain ⟨t3, eq⟩ := leaseAnswer_eq l t1 s
  dsimp only
  rw [eq]
  have calm' : Calm (({ s with draws := s.draws + 1 } : State).updPair fun p =>
      { p with peerOkOut := true, leaseAt := some s.clk.hfNs, expired := false, exch := some (t1, s.ntime.now, t3) }) := calm.of_same rfl rfl
  have sent : .leaseAck l s.ntime.now t3 ∈ (sendLink (.leaseAck l s.ntime.now t3) (({ s with draws := s.draws + 1 } : State).updPair fun p =>
      { p with peerOkOut := true, leaseAt := some s.clk.hfNs, expired := false, exch := some (t1, s.ntime.now, t3) })).pair.sent := sendLink_mem up
  refine ⟨calm'.sendLink _, ?_⟩
  obtain ⟨a, b, c, eq'⟩ := sendLink_eq (.leaseAck l s.ntime.now t3) (({ s with draws := s.draws + 1 } : State).updPair fun p =>
      { p with peerOkOut := true, leaseAt := some s.clk.hfNs, expired := false, exch := some (t1, s.ntime.now, t3) })
  rw [eq'] at sent ⊢
  exact ⟨rfl, rfl, rfl, rfl, rfl, rfl, rfl, _, _, sent, rfl, rfl⟩

/-- A LEASE on a standby (14 R399, R402, R406). -/
theorem leaseIn_spec {s : State} (calm : Calm s) (standby : s.isStandby = true) (up : s.pair.linkUp = true) (l : Word) (e : DWord) (t1 t4 : Stamp) :
    let u := leaseIn l e t1 t4 s
    Calm u ∧ u.mram.dev.epoch = e ∧ u.pair.rxSeq = s.pair.rxSeq ∧ u.pair.peerActive = true ∧ u.pair.leaseAt = some u.clk.hfNs
      ∧ (s.pair.role ≠ .waiting → u.pair.role = s.pair.role) ∧ (s.pair.role = .waiting → u.pair.role = joinRole (joinAs (learnPartner s)))
      ∧ (∀ x, s.pair.exch = some x → u.pair.ntoff = BitVec.ofInt 32 (max (-2147483648) (min 2147483647 (leaseOffset x t4))))
      ∧ (∃ t2 t3, .leaseAck l t2 t3 ∈ u.pair.sent ∧ u.pair.exch = some (t1, t2, t3) ∧ t2 = u.ntime.now) ∧ u.start = s.start := by
  let v := s.updPair fun p => { p with peerActive := true }
  let w := if v.pair.role = .waiting then joinStandby v else v
  let x := leaseFollow t4 (w.updDev fun d => { d with epoch := e })
  have stages : leaseIn l e t1 t4 s = if w.isStandby then leaseAnswer l t1 x else w := rfl
  have joins : w.isStandby = true ∧ w.start = s.start ∧ w.mram = s.mram ∧ (s.pair.images = [] → w.pair.images = [])
      ∧ w.pair.rxSeq = s.pair.rxSeq ∧ w.pair.peerActive = true ∧ w.pair.exch = s.pair.exch ∧ w.pair.linkUp = s.pair.linkUp
      ∧ (s.pair.role ≠ .waiting → w.pair.role = s.pair.role) ∧ (s.pair.role = .waiting → w.pair.role = joinRole (joinAs (learnPartner s))) :=
    leaseJoin_spec (s := v) standby
  have follows : x.start = w.start ∧ x.mram.dev.epoch = e ∧ ∃ off, x.pair = { w.pair with ntoff := off }
      ∧ ∀ z, w.pair.exch = some z → off = BitVec.ofInt 32 (max (-2147483648) (min 2147483647 (leaseOffset z t4))) := by
    obtain ⟨start, mram, pair⟩ := leaseFollow_spec t4 (w.updDev fun d => { d with epoch := e })
    exact ⟨start, congrArg (fun m : Mram => m.dev.epoch) mram, pair⟩
  dsimp only
  rw [stages]
  clear_value x
  clear_value w
  obtain ⟨standby', start, mram, images, rxSeq, active, exch, linkUp, role, joined⟩ := joins
  obtain ⟨start', epoch, off, pair, offset⟩ := follows
  have calm' : Calm x := calm.of_same (start'.trans start) ((congrArg Pair.images pair).trans ((images calm.images).trans calm.images.symm))
  obtain ⟨calm'', start'', mram'', rxSeq'', active'', role'', off'', at'', answer⟩ :=
    leaseAnswer_spec calm' ((congrArg Pair.linkUp pair).trans (linkUp.trans up)) l t1
  rw [if_pos standby']
  exact ⟨calm'', (congrArg (fun m : Mram => m.dev.epoch) mram'').trans epoch, rxSeq''.trans ((congrArg Pair.rxSeq pair).trans rxSeq),
    active''.trans ((congrArg Pair.peerActive pair).trans active), at'', fun no => role''.trans ((congrArg Pair.role pair).trans (role no)),
    fun yes => role''.trans ((congrArg Pair.role pair).trans (joined yes)),
    fun z hz => off''.trans ((congrArg Pair.ntoff pair).trans (offset z (exch.trans hz))), answer, start''.trans (start'.trans start)⟩

/-- States alike in what an acknowledged lease sets. -/
structure SameLease (s u : State) : Prop where
  start : u.start = s.start
  fio : u.fio = s.fio
  ta : u.pair.ta = s.pair.ta
  t4 : u.pair.t4 = s.pair.t4
  rxSeq : u.pair.rxSeq = s.pair.rxSeq
  fenceOut : u.pair.fenceOut = s.pair.fenceOut
  leases : u.pair.leases = s.pair.leases
  images : u.pair.images = s.pair.images

theorem SameLease.refl (s : State) : SameLease s s := ⟨rfl, rfl, rfl, rfl, rfl, rfl, rfl, rfl⟩

theorem SameLease.trans {s u v : State} (h : SameLease s u) (h' : SameLease u v) : SameLease s v :=
  ⟨h'.start.trans h.start, h'.fio.trans h.fio, h'.ta.trans h.ta, h'.t4.trans h.t4, h'.rxSeq.trans h.rxSeq, h'.fenceOut.trans h.fenceOut,
    h'.leases.trans h.leases, h'.images.trans h.images⟩

theorem fenceTest_sameLease (high : Bool) (s : State) : SameLease s (fenceTest high s) := ⟨rfl, rfl, rfl, rfl, rfl, rfl, rfl, rfl⟩

theorem learnPartner_sameLease (s : State) : SameLease s (learnPartner s) := ⟨rfl, rfl, rfl, rfl, rfl, rfl, rfl, rfl⟩

theorem partnerJoins_sameLease (s : State) : SameLease s (partnerJoins s) := by
  unfold partnerJoins
  split
  · extract_lets v a w start
    have hw : SameLease s w := (learnPartner_sameLease s).trans ⟨rfl, rfl, rfl, rfl, rfl, rfl, rfl, rfl⟩
    have starts : ∀ x, SameLease x (start x) := fun x => ⟨rfl, rfl, rfl, rfl, rfl, rfl, rfl, rfl⟩
    clear_value w start
    cases a with
    | lockstep => exact hw.trans (starts w)
    | staging =>
      have staged : SameLease w (w.updPair fun p => { p with role := .activeStaging }) := ⟨rfl, rfl, rfl, rfl, rfl, rfl, rfl, rfl⟩
      exact ((hw.trans staged).trans (fenceTest_sameLease false _)).trans (starts _)
    | apart => exact hw
  · exact .refl s

/-- An acknowledgement on the active unit (14 R406, R407). -/
theorem leaseAckIn_spec {s : State} {l l' : Word} {a : Nat} (active : activePair s = true) (fenced : s.pair.fenced = false)
    (found : s.pair.leases.find? (·.1 == l) = some (l', a)) : let u := leaseAckIn l s
    u.start = s.start ∧ u.fio = s.fio ∧ u.pair.ta = some a ∧ u.pair.t4 = s.ntime.now ∧ u.pair.rxSeq = s.pair.rxSeq
      ∧ u.pair.fenceOut = (!s.pair.handed && decide (s.clk.hfNs < a + 2800000))
      ∧ u.pair.leases = s.pair.leases.filter (fun x => decide (a < x.2)) ∧ u.pair.images = s.pair.images
      ∧ (s.pair.ta.isSome = true → u.pair.role = s.pair.role) := by
  let v := s.updPair fun p => { p with
    ta := some a, t4 := s.ntime.now, leases := p.leases.filter (fun x => decide (a < x.2)), fenceOut := !p.handed && decide (s.clk.hfNs < a + fenceHold) }
  have run : leaseAckIn l s = if s.pair.ta.isNone then partnerJoins v else v := by
    unfold leaseAckIn
    rw [active, fenced, found]
    rfl
  dsimp only
  rw [run]
  split
  · rename_i first
    obtain ⟨start, fio, ta, t4, rxSeq, fenceOut, leases, images⟩ := partnerJoins_sameLease v
    exact ⟨start, fio, ta, t4, rxSeq, fenceOut, leases, images, fun held => absurd held (by rw [Option.isNone_iff_eq_none.1 first]; decide)⟩
  · exact ⟨rfl, rfl, rfl, rfl, rfl, rfl, rfl, rfl, fun _ => rfl⟩

/-! ## The fence line -/

/-- The unit as FENCE_IN goes high, before its outputs go off (14 R408, R410). -/
def fenceInBefore (s : State) : State :=
  endKept (if activePair s then selfFence (s.updPins fun p => { p with fenceIn := true }) else s.updPins fun p => { p with fenceIn := true })

theorem fenceInHigh_eq (s : State) : fenceInHigh s = applyOutputs (fenceInBefore s) := rfl

theorem fenceInHigh_spec (s : State) : let u := fenceInBefore s
    u.start = s.start ∧ u.pins = { s.pins with fenceIn := true } ∧ u.fio.kept = false ∧ u.pair.role = s.pair.role
      ∧ u.pair.images = s.pair.images ∧ (activePair s = true → u.pair.fenced = true) := by
  dsimp only
  unfold fenceInBefore
  split
  · unfold selfFence
    split
    · rename_i fenced
      exact ⟨rfl, rfl, rfl, rfl, rfl, fun _ => fenced⟩
    · have start := applyOutputs_start (raise 193 ((s.updPins fun p => { p with fenceIn := true }).updPair fun p => { p with fenced := true, fenceOut := false }))
      have pins := applyOutputs_pins (raise 193 ((s.updPins fun p => { p with fenceIn := true }).updPair fun p => { p with fenced := true, fenceOut := false }))
      have pair := applyOutputs_pair (raise 193 ((s.updPins fun p => { p with fenceIn := true }).updPair fun p => { p with fenced := true, fenceOut := false }))
      generalize applyOutputs (raise 193 ((s.updPins fun p => { p with fenceIn := true }).updPair fun p => { p with fenced := true, fenceOut := false })) = w
        at start pins pair
      exact ⟨start, pins, rfl, (congrArg Pair.role pair).trans rfl, (congrArg Pair.images pair).trans rfl, fun _ => congrArg Pair.fenced pair⟩
  · rename_i idle
    exact ⟨rfl, rfl, rfl, rfl, rfl, fun active => absurd active idle⟩

/-! ## Instants -/

theorem taReached_eq {s : State} {a : Nat} (ta : s.pair.ta = some a) (n : Nat) : taReached s n = decide (a + n ≤ s.clk.hfNs) := by
  rw [taReached, ta, Option.any_some]

theorem leaseOver_eq {s : State} {a : Nat} (lease : s.pair.leaseAt = some a) : leaseOver s = decide (a + 3000000 ≤ s.clk.hfNs) := by
  rw [leaseOver, lease, Option.any_some]

theorem leaseDue_eq {s : State} : leaseDue s = (s.pair.peerOkOut && s.pair.ta.all fun t => decide (s.clk.hfNs ≤ t + 1200000)) := rfl

/-! ## Commands by time -/

theorem leaseSend_due {s : State} (active : activePair s = true) (up : s.pair.linkUp = true) (handed : s.pair.handed = false)
    (fenced : s.pair.fenced = false) (served : s.pair.peerOkOut = true) (fresh : ∀ a, s.pair.ta = some a → s.clk.hfNs ≤ a + 1200000) :
    leaseSend s = sendLink (.lease (s.pair.leaseSeq + 1) s.mram.dev.epoch s.ntime.now s.pair.t4) (s.updPair fun p =>
      { p with leaseSeq := p.leaseSeq + 1, leases := p.leases ++ [(p.leaseSeq + 1, s.clk.hfNs)] }) := by
  have due : leaseDue s = true := by
    rw [leaseDue_eq, served, Bool.true_and]
    cases ta : s.pair.ta with
    | none => rfl
    | some x =>
      rw [Option.all_some]
      exact decide_eq_true (fresh x ta)
  exact if_pos (by rw [due, active, up, handed, fenced]; rfl)

theorem leaseSend_stale {s : State} (stale : s.pair.peerOkOut = false ∨ ∃ a, s.pair.ta = some a ∧ a + 1200000 < s.clk.hfNs) : leaseSend s = s := by
  refine if_neg fun go => ?_
  obtain ⟨-, due⟩ := Bool.and_eq_true_iff.1 go
  rw [leaseDue_eq] at due
  obtain ⟨served, fresh⟩ := Bool.and_eq_true_iff.1 due
  obtain unserved | ⟨x, ta, old⟩ := stale
  · exact absurd served (by rw [unserved]; decide)
  · rw [ta, Option.all_some] at fresh
    exact absurd (of_decide_eq_true fresh) (Nat.not_le.2 old)

theorem fenceOutDrop_eq {s : State} {a : Nat} (active : activePair s = true) (ta : s.pair.ta = some a) :
    fenceOutDrop s = s.updPair fun p => { p with fenceOut := p.fenceOut && decide (s.clk.hfNs < a + 2800000) } := by
  unfold fenceOutDrop
  rw [active, Bool.true_and, taReached_eq ta, show fenceHold = 2800000 from rfl]
  by_cases young : s.clk.hfNs < a + 2800000
  · rw [if_neg (by rw [decide_eq_true_eq]; exact Nat.not_le.2 young), decide_eq_true young]
    simp only [Bool.and_true]
    rfl
  · rw [if_pos (decide_eq_true (Nat.not_lt.1 young)), decide_eq_false young]
    simp only [Bool.and_false]

theorem selfFenceByTime_young {s : State} {a : Nat} (ta : s.pair.ta = some a) (young : s.clk.hfNs < a + 4200000) : selfFenceByTime s = s := by
  refine if_neg fun go => ?_
  obtain ⟨-, passed⟩ := Bool.and_eq_true_iff.1 go
  rw [taReached_eq ta] at passed
  exact absurd (of_decide_eq_true passed) (Nat.not_le.2 young)

theorem selfFenceByTime_old {s : State} {a : Nat} (active : activePair s = true) (ta : s.pair.ta = some a) (old : a + 4200000 ≤ s.clk.hfNs)
    (fenced : s.pair.fenced = false) :
    selfFenceByTime s = applyOutputs (raise 193 (s.updPair fun p => { p with fenced := true, fenceOut := false })) := by
  unfold selfFenceByTime
  rw [active, Bool.true_and, taReached_eq ta, if_pos (decide_eq_true old)]
  exact if_neg (ne_true_of_eq_false fenced)

theorem leaseExpired_young {s : State} {a : Nat} (lease : s.pair.leaseAt = some a) (young : s.clk.hfNs < a + 3000000) : leaseExpired s = s := by
  refine if_neg fun go => ?_
  obtain ⟨go, -⟩ := Bool.and_eq_true_iff.1 go
  obtain ⟨-, passed⟩ := Bool.and_eq_true_iff.1 go
  rw [leaseOver_eq lease] at passed
  exact absurd (of_decide_eq_true passed) (Nat.not_le.2 young)

theorem leaseExpired_old {s : State} {a : Nat} (standby : s.isStandby = true) (lease : s.pair.leaseAt = some a) (old : a + 3000000 ≤ s.clk.hfNs)
    (fresh : s.pair.expired = false) : leaseExpired s = if mayTakeOver s then takeover s
      else raise 199 (s.updPair fun p => { p with peerLost := true, expired := true }) := by
  refine if_pos ?_
  rw [standby, leaseOver_eq lease, fresh, decide_eq_true old]
  rfl

/-! ## The obligation -/

theorem takeover_sole {s : State} (calm : Calm s) : let u := takeover s
    Calm u ∧ u.pair.role = .activeAlone ∧ u.mram.dev.epoch = s.mram.dev.epoch + 1 ∧ u.mram.dev.takeovers = satInc s.mram.dev.takeovers
      ∧ u.pins.fenceIn = false ∧ raisedIn u.evt.edge 192 ∧ u.start = s.start
      ∧ (s.pair.busy = false → u.pair.fenceOut = true ∧ u.mram.dev.switches = s.mram.dev.switches)
      ∧ ∀ n, raisedIn s.evt.edge n → raisedIn u.evt.edge n := by
  dsimp only
  unfold takeover
  extract_lets a b c d e f g
  have pair : d.pair = a.pair := applyOutputs_pair _
  have pins : d.pins.fenceIn = false := congrArg Pins.fenceIn (applyOutputs_pins (a.updPins fun p => { p with fenceIn := false }))
  have dev : b.mram.dev = s.mram.dev := congrArg Mram.dev (applyOutputs_mram (a.updPins fun p => { p with fenceIn := false }))
  have start : d.start = s.start := applyOutputs_start _
  have evt : b.evt = s.evt := applyOutputs_evt _
  have sails : Sails d (roundMissed (g.taskTable.foldl startMissed g)) := by
    have he : Sails d e := .foldl (fun s c => .ite (fun _ => Sails.refl.updStation _ _) fun _ => .refl) _ d
    have hf : Sails d f := .ite (fun _ => he.updTide _) fun _ => he
    have hg : Sails d g := .ite (fun _ => hf.trans (markReached_sails ..)) fun _ => hf
    exact (hg.trans (.foldl startMissed_sails _ g)).trans (roundMissed_sails _)
  refine ⟨calm.of_same (sails.start.trans start) (sails.images.trans (congrArg Pair.images pair : d.pair.images = a.pair.images)), sails.role.trans (congrArg Pair.role pair),
    sails.epoch.trans (congrArg (·.epoch + 1) dev), sails.takeovers.trans (congrArg (fun d : DevRec => satInc d.takeovers) dev),
    (congrArg Pins.fenceIn sails.pins).trans pins, sails.raised 192 (raisedIn_raise ..), sails.start.trans start, fun idle => ?_,
    fun n raised => sails.raised n (raisedIn_raise_of 192 n 0 _ (evt.symm ▸ raised))⟩
  obtain ⟨-, fence, switches⟩ := sails.idle ((congrArg Pair.busy pair).trans idle)
  exact ⟨fence.trans (congrArg Pair.fenceOut pair), switches.trans (congrArg DevRec.switches dev : b.mram.dev.switches = s.mram.dev.switches)⟩

section Commands

variable {s : State} (h : Calm s)
include h

theorem gives_leaseSend (active : activePair s = true) (up : s.pair.linkUp = true) (handed : s.pair.handed = false)
    (fenced : s.pair.fenced = false) (served : s.pair.peerOkOut = true) (fresh : ∀ a, s.pair.ta = some a → s.clk.hfNs ≤ a + 1200000) :
    Gives .leaseSend s fun t =>
      t.pair.leaseSeq = s.pair.leaseSeq + 1 ∧ t.pair.peerOkOut = true ∧ t.pair.leases = s.pair.leases ++ [(s.pair.leaseSeq + 1, s.clk.hfNs)]
      ∧ .lease (s.pair.leaseSeq + 1) s.mram.dev.epoch s.ntime.now s.pair.t4 ∈ t.pair.sent
      ∧ t.pair.role = s.pair.role ∧ t.pair.ta = s.pair.ta ∧ t.start = s.start ∧ t.fio = s.fio := by
  obtain ⟨a, b, c, cleared⟩ := clearSent_eq s
  have calm : Calm (s.updPair fun p => p.sends a b c) := cleared ▸ h.clear
  have run : leaseSend (s.updPair fun p => p.sends a b c) = sendLink (.lease (s.pair.leaseSeq + 1) s.mram.dev.epoch s.ntime.now s.pair.t4)
      ((s.updPair fun p => p.sends a b c).updPair fun p => { p with leaseSeq := p.leaseSeq + 1, leases := p.leases ++ [(p.leaseSeq + 1, s.clk.hfNs)] }) :=
    leaseSend_due (s := s.updPair fun p => p.sends a b c) active up handed fenced served fresh
  refine h.gives_from cleared rfl run ((calm.updPair rfl).sendLink _) fun t ended => ?_
  have mem := ended.sent _ (sendLink_mem up)
  obtain ⟨a', b', c', e'⟩ := ended.pair
  obtain ⟨a'', b'', c'', e''⟩ := sendLink_eq (.lease (s.pair.leaseSeq + 1) s.mram.dev.epoch s.ntime.now s.pair.t4)
    ((s.updPair fun p => p.sends a b c).updPair fun p => { p with leaseSeq := p.leaseSeq + 1, leases := p.leases ++ [(p.leaseSeq + 1, s.clk.hfNs)] })
  rw [ended.start, ended.fio, e', e'']
  rw [e'] at mem
  exact ⟨rfl, served, rfl, mem, rfl, rfl, rfl, rfl⟩

theorem gives_leaseSend_stale (stale : s.pair.peerOkOut = false ∨ ∃ a, s.pair.ta = some a ∧ a + 1200000 < s.clk.hfNs) : Gives .leaseSend s fun t =>
    t.pair.leaseSeq = s.pair.leaseSeq ∧ t.pair.leases = s.pair.leases ∧ t.pair.role = s.pair.role ∧ t.start = s.start ∧ t.fio = s.fio := by
  obtain ⟨a, b, c, cleared⟩ := clearSent_eq s
  have calm : Calm (s.updPair fun p => p.sends a b c) := cleared ▸ h.clear
  have run := leaseSend_stale (s := s.updPair fun p => p.sends a b c) stale
  refine h.gives_from cleared rfl run calm fun t ended => ?_
  obtain ⟨a', b', c', e'⟩ := ended.pair
  rw [ended.start, ended.fio, e']
  exact ⟨rfl, rfl, rfl, rfl, rfl⟩

theorem gives_lease (l : Word) (e : DWord) (t1 t4 : Stamp) (up : s.pair.linkUp = true) (standby : s.isStandby = true) :
    Gives (.lease (nextSeq s.pair.rxSeq) l e t1 t4) s fun t =>
      t.mram.dev.epoch = e ∧ t.pair.rxSeq = nextSeq s.pair.rxSeq ∧ t.pair.peerActive = true ∧ t.pair.leaseAt = some t.clk.hfNs
      ∧ (s.pair.role ≠ .waiting → t.pair.role = s.pair.role) ∧ (s.pair.role = .waiting → t.pair.role = joinRole (joinAs (learnPartner s)))
      ∧ (∀ x, s.pair.exch = some x → t.pair.ntoff = BitVec.ofInt 32 (max (-2147483648) (min 2147483647 (leaseOffset x t4))))
      ∧ (∃ t2 t3, .leaseAck l t2 t3 ∈ t.pair.sent ∧ t.pair.exch = some (t1, t2, t3) ∧ t2 = t.ntime.now) ∧ t.start = s.start := by
  obtain ⟨a, b, c, cleared⟩ := clearSent_eq s
  have calm : Calm (s.updPair fun p => p.sends a b c) := cleared ▸ h.clear
  obtain ⟨calm', epoch, rxSeq, peer, at', role, joined, off, answer, start⟩ :=
    leaseIn_spec (s := (s.updPair fun p => p.sends a b c).updPair fun p => { p with rxSeq := nextSeq s.pair.rxSeq }) (calm.updPair rfl) standby up l e t1 t4
  refine h.gives_from cleared rfl (receive_next (s := s.updPair fun p => p.sends a b c) up _) calm' fun t ended => ?_
  obtain ⟨t2, t3, sent, exch, now⟩ := answer
  have mem := ended.sent _ sent
  obtain ⟨a', b', c', e'⟩ := ended.pair
  rw [ended.epoch, ended.start, ended.clk, ended.ntime]
  rw [e'] at mem ⊢
  refine ⟨epoch, rxSeq, peer, at', role, fun waits => (joined waits).trans ?_, off, ⟨t2, t3, mem, exch, now⟩, start⟩
  have same : joinAs (learnPartner ((s.updPair fun p => p.sends a b c).updPair fun p => { p with rxSeq := nextSeq s.pair.rxSeq })) = joinAs (learnPartner s) := joinAs_learnPartner rfl rfl rfl
  rw [same]

theorem gives_leaseAck {l l' : Word} {at' : Nat} (t2 t3 : Stamp) (up : s.pair.linkUp = true) (active : activePair s = true)
    (fenced : s.pair.fenced = false) (found : s.pair.leases.find? (·.1 == l) = some (l', at')) :
    Gives (.leaseAck (nextSeq s.pair.rxSeq) l t2 t3) s fun t => t.pair.ta = some at' ∧ t.pair.t4 = s.ntime.now ∧ t.pair.rxSeq = nextSeq s.pair.rxSeq
      ∧ t.pair.fenceOut = (!s.pair.handed && decide (s.clk.hfNs < at' + 2800000))
      ∧ t.pair.leases = s.pair.leases.filter (fun x => decide (at' < x.2)) ∧ (s.pair.ta.isSome = true → t.pair.role = s.pair.role)
      ∧ t.start = s.start ∧ t.fio = s.fio := by
  obtain ⟨a, b, c, cleared⟩ := clearSent_eq s
  have calm : Calm (s.updPair fun p => p.sends a b c) := cleared ▸ h.clear
  obtain ⟨start, fio, ta, t4, rxSeq, fenceOut, leases, images, role⟩ := leaseAckIn_spec
    (s := (s.updPair fun p => p.sends a b c).updPair fun p => { p with rxSeq := nextSeq s.pair.rxSeq }) active fenced found
  refine h.gives_from cleared rfl (receive_next (s := s.updPair fun p => p.sends a b c) up _) (calm.of_same start images) fun t ended => ?_
  obtain ⟨a', b', c', e'⟩ := ended.pair
  rw [ended.start, ended.fio, e']
  exact ⟨ta, t4, rxSeq, fenceOut, leases, role, start, fio⟩

theorem gives_fenceInHigh : Gives .fenceInHigh s fun t => t.pins = { s.pins with fenceIn := true } ∧ (∀ n, n < 32 → t.fio.applied.getLsbD n = false)
    ∧ t.start = s.start ∧ t.pair.role = s.pair.role ∧ (activePair s = true → t.pair.fenced = true) := by
  obtain ⟨a, b, c, cleared⟩ := clearSent_eq s
  have calm : Calm (s.updPair fun p => p.sends a b c) := cleared ▸ h.clear
  obtain ⟨start, pins, kept, role, images, own⟩ := fenceInHigh_spec (s.updPair fun p => p.sends a b c)
  have calm' : Calm (applyOutputs (fenceInBefore (s.updPair fun p => p.sends a b c))) := (calm.of_same start images).applyOutputs
  refine .of_act (f := fenceInHigh) rfl ?_
  rw [cleared, fenceInHigh_eq]
  have ended := calm'.ended
  refine ⟨?_, fun n hn => ?_, ?_, ?_, fun active => ?_⟩
  · rw [ended.pins, applyOutputs_pins, pins]
    rfl
  · rw [ended.fio]
    exact applyOutputs_dark kept (.inr (by rw [pins])) hn
  · rw [ended.start, applyOutputs_start, start]
    rfl
  · rw [ended.role, applyOutputs_pair, role]
    rfl
  · have fenced := own active
    obtain ⟨a', b', c', e'⟩ := ended.pair
    rw [e', applyOutputs_pair]
    exact fenced

end Commands

/-- Settles O54: leases, the fence, and takeovers. -/
theorem leasesFencingAndTakeover : Obligations.LeasesFencingAndTakeover := by
  intro s h p q dark sole
  obtain ⟨a, b, c, cleared⟩ := clearSent_eq s
  have calm : Calm (s.updPair fun p => p.sends a b c) := cleared ▸ h.clear
  have given : ∀ {i : Instr} {g : State → State} {u : State} {P : State → Prop}, exec i s = actOn s g →
      g (s.updPair fun p => p.sends a b c) = u → Calm u → (∀ t, Ended u t → P t) → Gives i s P :=
    fun e run calm' shows => h.gives_from cleared e run calm' shows
  have soleOf : ∀ (sw : Bool) {u t : State}, Ended u t → u.pair.role = .activeAlone → u.mram.dev.epoch = s.mram.dev.epoch + 1 →
      u.mram.dev.takeovers = satInc s.mram.dev.takeovers → u.pins.fenceIn = false → raisedIn u.evt.edge 192 → u.start = s.start →
      (p.busy = false → u.pair.fenceOut = true ∧ u.mram.dev.switches = if sw then satInc s.mram.dev.switches else s.mram.dev.switches) → sole sw t :=
    fun sw u t ended role epoch takeovers line raised start idle => ⟨ended.role.trans role, ended.epoch.trans epoch, ended.takeovers.trans takeovers,
      (congrArg Pins.fenceIn ended.pins).trans line, ended.pend 192 (by decide) raised, ended.start.trans start,
      fun free => ⟨ended.fenceOut.trans (idle free).1, ended.switches.trans (idle free).2⟩⟩
  clear_value sole
  refine ⟨fun active up handed fenced served fresh => gives_leaseSend h active up handed fenced served fresh, fun stale => gives_leaseSend_stale h stale,
    fun l e t1 t4 up standby => ?_, fun l l' at' t2 t3 up active fenced found => gives_leaseAck h t2 t3 up active fenced found, fun at' active ta => ⟨?_, fun young => ?_, fun fenced kept old => ?_⟩, gives_fenceInHigh h, fun fenced => ?_,
    fun at' standby lease young => ?_, fun at' standby lease old fresh => ⟨fun may => ?_, fun may => ?_⟩, fun x up role => ?_, fun up standby may => ?_⟩
  · obtain ⟨t, run, epoch, rxSeq, peer, at', role, joined, rest⟩ := gives_lease h l e t1 t4 up standby
    refine ⟨t, run, epoch, rxSeq, peer, at', role, fun waits => (joined waits).trans ?_, rest⟩
    cases joinAs (learnPartner s) <;> rfl
  · have run := fenceOutDrop_eq (s := s.updPair fun p => p.sends a b c) active ta
    refine given rfl run (calm.updPair rfl) fun t ended => ?_
    obtain ⟨a', b', c', e'⟩ := ended.pair
    rw [ended.start, ended.fio, e']
    exact ⟨rfl, rfl, rfl⟩
  · have run := selfFenceByTime_young (s := s.updPair fun p => p.sends a b c) ta young
    refine given rfl run calm fun t ended => ?_
    obtain ⟨a', b', c', e'⟩ := ended.pair
    rw [ended.start, ended.fio, e']
    exact ⟨rfl, rfl, rfl⟩
  · have run := selfFenceByTime_old (s := s.updPair fun p => p.sends a b c) active ta old fenced
    have calm' : Calm (applyOutputs (raise 193 ((s.updPair fun p => p.sends a b c).updPair fun p => { p with fenced := true, fenceOut := false }))) :=
      ((calm.updPair rfl : Calm ((s.updPair fun p => p.sends a b c).updPair fun p => { p with fenced := true, fenceOut := false })).raise 193 0).applyOutputs
    refine given rfl run calm' fun t ended => ⟨?_, fun n hn => ?_, ended.pend 193 (by decide) ?_, ?_⟩
    · obtain ⟨a', b', c', e'⟩ := ended.pair
      rw [e', applyOutputs_pair]
      rfl
    · rw [ended.fio]
      exact applyOutputs_dark (s := raise 193 ((s.updPair fun p => p.sends a b c).updPair fun p => { p with fenced := true, fenceOut := false })) kept (.inl rfl) hn
    · rw [applyOutputs_evt]
      exact raisedIn_raise ..
    · rw [ended.start, applyOutputs_start]
      rfl
  · refine .of_actOn (f := fun s => if s.pair.fenced then hostRestart .hostWarm s else s) rfl h.on ?_
    rw [if_pos (show (clearSent s).pair.fenced = true from (congrArg (fun s : State => s.pair.fenced) cleared).trans fenced)]
    refine (restarted_hostRestart (why := .hostWarm) (.inl rfl) ?_ ?_).1
    · exact ⟨rfl, rfl⟩
    · exact ⟨rfl, rfl⟩
  · have run := leaseExpired_young (s := s.updPair fun p => p.sends a b c) lease young
    refine given rfl run calm fun t ended => ?_
    obtain ⟨a', b', c', e'⟩ := ended.pair
    rw [ended.start, ended.fio, e']
    exact ⟨rfl, rfl, rfl⟩
  · have run := (leaseExpired_old (s := s.updPair fun p => p.sends a b c) standby lease old fresh).trans (if_pos may)
    obtain ⟨calm', role, epoch, takeovers, line, raised, start, idle, -⟩ := takeover_sole calm
    exact given rfl run calm' fun t ended => soleOf false ended role epoch takeovers line raised start idle
  · have run := (leaseExpired_old (s := s.updPair fun p => p.sends a b c) standby lease old fresh).trans (if_neg (ne_true_of_eq_false may))
    have calm' : Calm (raise 199 ((s.updPair fun p => p.sends a b c).updPair fun p => { p with peerLost := true, expired := true })) :=
      (calm.updPair rfl : Calm ((s.updPair fun p => p.sends a b c).updPair fun p => { p with peerLost := true, expired := true })).raise 199 0
    refine given rfl run calm' fun t ended => ?_
    rw [ended.start, ended.fio, ended.epoch]
    obtain ⟨a', b', c', e'⟩ := ended.pair
    rw [e']
    exact ⟨rfl, ended.pend 199 (by decide) (raisedIn_raise ..), rfl, rfl, rfl⟩
  · let v := ((s.updPair fun p => p.sends a b c).updPair fun p => { p with rxSeq := q }).updDev fun d => { d with switches := satInc d.switches }
    have run := (receive_next (s := s.updPair fun p => p.sends a b c) up switchIn).trans (if_pos role)
    obtain ⟨calm', role, epoch, takeovers, line, raised, start, idle, -⟩ := takeover_sole (s := v) (calm.of_same rfl rfl)
    refine given rfl run (calm'.raise 200 0) fun t ended => ⟨?_, ended.pend 200 (by decide) (raisedIn_raise ..)⟩
    exact soleOf true ended role epoch takeovers line (raisedIn_raise_of _ _ _ _ raised) start idle
  · let v := (s.updPair fun p => p.sends a b c).updPair fun p => { p with rxSeq := q }
    have run := (receive_next (s := s.updPair fun p => p.sends a b c) up takeIn).trans (if_pos (Bool.and_eq_true_iff.2 ⟨standby, may⟩))
    obtain ⟨calm', role, epoch, takeovers, line, raised, start, idle, -⟩ := takeover_sole (s := v) (calm.of_same rfl rfl)
    exact given rfl run calm' fun t ended => soleOf false ended role epoch takeovers line raised start idle

end Sys2Proof.Machine
end

section
/-! SUPPORT. Pair commands, health frames and self-tests (05 R130, R131; 14 R412, R414, R415, R421). -/

namespace Sys2Proof.Machine

open Sys2Proof

/-! ## Faulty units -/

/-- A state after problems were stopped: the solver array, and what the pair has to report, alone (05 R131). -/
structure Stopped (s u : State) : Prop where
  start : u.start = s.start
  fio : u.fio = s.fio
  place : u.place = s.place
  mram : u.mram = s.mram
  evt : u.evt = s.evt
  pair : ∃ sent held seq, u.pair = s.pair.sends sent held seq

theorem Stopped.refl (s : State) : Stopped s s := ⟨rfl, rfl, rfl, rfl, rfl, s.pair.sent, s.pair.held, s.pair.txSeq, rfl⟩

theorem Stopped.trans {s u v : State} (h : Stopped s u) (h' : Stopped u v) : Stopped s v := by
  obtain ⟨a, b, c, e⟩ := h.pair
  obtain ⟨a', b', c', e'⟩ := h'.pair
  exact ⟨h'.start.trans h.start, h'.fio.trans h.fio, h'.place.trans h.place, h'.mram.trans h.mram, h'.evt.trans h.evt, a', b', c', by rw [e', e]; rfl⟩

theorem stopProblem_stopped (n : Nat) (why : Stop) (s : State) : Stopped s (stopProblem n why s) := by
  unfold stopProblem sendSolver
  extract_lets u p
  split
  · exact ⟨rfl, rfl, rfl, rfl, rfl, _, _, _, rfl⟩
  · exact ⟨rfl, rfl, rfl, rfl, rfl, _, _, _, rfl⟩

theorem stopFaulty_stopped (n : Nat) (s : State) : Stopped s (stopFaulty n s) := by
  unfold stopFaulty
  extract_lets p u
  have hu : Stopped s u := ⟨rfl, rfl, rfl, rfl, rfl, s.pair.sent, s.pair.held, s.pair.txSeq, rfl⟩
  split
  · exact hu.trans (stopProblem_stopped ..)
  · exact hu

theorem foldl_stopped {α : Type} {f : State → α → State} (each : ∀ s a, Stopped s (f s a)) (l : List α) (s : State) : Stopped s (l.foldl f s) := by
  induction l generalizing s with
  | nil => exact .refl s
  | cons a l ih => exact (each s a).trans (ih _)

/-- A tile marked faulty (05 R131, R136). -/
theorem tileFaulty_stopped (n : Nat) (s : State) : Stopped ((raise 150 (s.updPlace fun p => { p with tileFault := putBit p.tileFault n true }) n).updDev
    fun d => { d with faultTiles := putBit d.faultTiles n true }) (tileFaulty n s) := foldl_stopped (fun s k => stopFaulty_stopped k s) _ _

/-- What a tile's fault leaves, which an earlier one anticipates (05 R131). -/
theorem markFaulty_spec (n : Nat) (s : State) (hn : n < 64) : let u := if s.place.tileFault.getLsbD n then s else tileFaulty n s
    u.start = s.start ∧ u.fio = s.fio ∧ (∃ sent held seq, u.pair = s.pair.sends sent held seq)
      ∧ u.place = { s.place with tileFault := (if s.place.tileFault.getLsbD n then s.place.tileFault else putBit s.place.tileFault n true) }
      ∧ u.place.tileFault.getLsbD n = true ∧ (∀ k, raisedIn s.evt.edge k → raisedIn u.evt.edge k)
      ∧ (s.place.tileFault.getLsbD n = false → raisedIn u.evt.edge 150 ∧ u.mram.dev.faultTiles = putBit s.mram.dev.faultTiles n true) := by
  dsimp only
  split
  · rename_i faulty
    exact ⟨rfl, rfl, ⟨s.pair.sent, s.pair.held, s.pair.txSeq, rfl⟩, rfl, faulty, fun _ h => h, fun sound => absurd faulty (ne_true_of_eq_false sound)⟩
  · obtain ⟨start, fio, place, mram, evt, pair⟩ := tileFaulty_stopped n s
    rw [place, evt]
    refine ⟨start, fio, pair, rfl, ?_, fun k h => raisedIn_raise_of 150 k n _ h, fun _ => ⟨raisedIn_raise 150 n _, ?_⟩⟩
    · show (putBit s.place.tileFault n true).getLsbD n = true
      rw [getLsbD_putBit_all, if_pos ⟨rfl, hn⟩]
    · rw [mram]
      rfl

/-! ## Health frames -/

/-- A frame queued in an untimed queue of a port that is up and has room (13 R386, R388). -/
theorem enqueue_three {n : Nat} {f : QFrame} {s : State} (up : (s.port n).up = true) (room : (s.port n).q3.length < 32) :
    (enqueue n 3 f s).port n = { s.port n with q3 := (s.port n).q3 ++ [f] } := by
  unfold enqueue
  rw [updPort_port, if_neg, if_pos]
  · rfl
  · exact room
  · rw [up]
    decide

/-- The health frame of one port of the mask (14 R415). -/
def healthPort (c : PairSetup) (body : Bytes) (s : State) (n : Nat) : State :=
  if c.healthPorts / 2 ^ n % 2 = 1 then
    let f := c.healthDst ++ (portCfg s n).addr ++ beBytes 2 (if c.healthEtype = 0 then 0x88B6 else c.healthEtype) ++ body
    enqueue n 3 { bytes := f } s
  else s

theorem enqueue_cfg (n m : Nat) (f : QFrame) (s : State) : portCfg (enqueue n 3 f s) m = portCfg s m := by
  refine portCfg_updPort s n m _ ?_
  split
  · rfl
  · split <;> rfl

/-- What the frames of the ports below `k` leave. -/
structure Queued (c : PairSetup) (body : Bytes) (k : Nat) (s u : State) : Prop where
  start : u.start = s.start
  pair : u.pair = s.pair
  cfg : ∀ n, portCfg u n = portCfg s n
  ports : ∀ n, u.port n = if n < k then (healthPort c body s n).port n else s.port n

theorem healthPort_other {c : PairSetup} {body : Bytes} {s : State} {n m : Nat} (h : m ≠ n) : (healthPort c body s n).port m = s.port m := by
  unfold healthPort
  split
  · exact updPort_port_other h ..
  · rfl

theorem healthPort_same {c : PairSetup} {body : Bytes} {s u : State} {n : Nat} (cfg : portCfg u n = portCfg s n) (port : u.port n = s.port n) :
    (healthPort c body u n).port n = (healthPort c body s n).port n := by
  unfold healthPort
  rw [cfg]
  split
  · unfold enqueue
    rw [updPort_port, updPort_port, port]
  · exact port

theorem healthPort_keeps (c : PairSetup) (body : Bytes) (s : State) (n : Nat) : (healthPort c body s n).start = s.start
    ∧ (healthPort c body s n).pair = s.pair ∧ ∀ m, portCfg (healthPort c body s n) m = portCfg s m := by
  unfold healthPort
  split
  · exact ⟨rfl, rfl, fun m => enqueue_cfg ..⟩
  · exact ⟨rfl, rfl, fun m => rfl⟩

theorem healthPorts_queued (c : PairSetup) (body : Bytes) (s : State) (k : Nat) :
    Queued c body k s ((List.range k).foldl (healthPort c body) s) := by
  induction k with
  | zero => exact ⟨rfl, rfl, fun _ => rfl, fun _ => rfl⟩
  | succ k ih =>
    rw [List.range_succ, List.foldl_append, List.foldl_cons, List.foldl_nil]
    generalize (List.range k).foldl (healthPort c body) s = u at ih ⊢
    obtain ⟨start, pair, cfg⟩ := healthPort_keeps c body u k
    refine ⟨start.trans ih.start, pair.trans ih.pair, fun n => (cfg n).trans (ih.cfg n), fun n => ?_⟩
    by_cases here : n = k
    · rw [here, if_pos (Nat.lt_succ_self k)]
      exact healthPort_same (ih.cfg k) ((ih.ports k).trans (if_neg (Nat.lt_irrefl k)))
    · rw [healthPort_other here, ih.ports n]
      exact ite_congr (propext (by omega)) (fun _ => rfl) fun _ => rfl

section Clauses

variable {s : State} (h : Calm s)
include h

theorem gives_healthFrame {c : PairSetup} (cfg : s.man.bind (·.pair) = some c) (on : c.healthFrames = true) : Gives .healthFrame s fun t =>
    t.pair.role = s.pair.role ∧ t.start = s.start ∧ ∀ n, n < 8 →
      let head := c.healthDst ++ (portCfg s n).addr ++ beBytes 2 (if c.healthEtype = 0 then 0x88B6 else c.healthEtype)
      let body := healthPayload s (pairStatusReg s) (pairHealthReg s) (pairDigestReg s)
      (c.healthPorts / 2 ^ n % 2 = 0 → t.port n = s.port n)
      ∧ (c.healthPorts / 2 ^ n % 2 = 1 → (s.port n).up = true → (s.port n).q3.length < 32 →
        t.port n = { s.port n with q3 := (s.port n).q3 ++ [{ bytes := head ++ body }] }) := by
  obtain ⟨x, y, z, cleared⟩ := clearSent_eq s
  have calm : Calm (s.updPair fun p => p.sends x y z) := cleared ▸ h.clear
  have body : healthPayload (s.updPair fun p => p.sends x y z) (pairStatusReg (s.updPair fun p => p.sends x y z))
      (pairHealthReg (s.updPair fun p => p.sends x y z)) (pairDigestReg (s.updPair fun p => p.sends x y z))
      = healthPayload s (pairStatusReg s) (pairHealthReg s) (pairDigestReg s) := rfl
  have run : healthFrame (s.updPair fun p => p.sends x y z) = (List.range 8).foldl
      (healthPort c (healthPayload s (pairStatusReg s) (pairHealthReg s) (pairDigestReg s))) (s.updPair fun p => p.sends x y z) := by
    unfold healthFrame
    rw [show (s.updPair fun p => p.sends x y z).man.bind (·.pair) = some c from cfg]
    dsimp only
    rw [if_pos on, body]
    rfl
  obtain ⟨start, pair, -, ports⟩ := healthPorts_queued c (healthPayload s (pairStatusReg s) (pairHealthReg s) (pairDigestReg s))
    (s.updPair fun p => p.sends x y z) 8
  refine h.gives_from cleared rfl run (calm.of_same start (congrArg Pair.images pair)) fun t ended => ⟨?_, ?_, fun n hn => ?_⟩
  · rw [ended.role, pair]
    rfl
  · rw [ended.start, start]
    rfl
  · have port : t.port n = (healthPort c (healthPayload s (pairStatusReg s) (pairHealthReg s) (pairDigestReg s)) (s.updPair fun p => p.sends x y z) n).port n :=
      (congrArg (fun q => Store.get ({} : Port) q n) ended.ports).trans ((ports n).trans (if_pos hn))
    refine ⟨fun unmasked => ?_, fun masked up room => ?_⟩
    · rw [port, healthPort, if_neg (by omega)]
      rfl
    · rw [port, healthPort, if_pos masked]
      exact enqueue_three up room

/-- A command that ends in a state whose tile an uncorrectable word or a failed test marks faulty (05 R131). -/
theorem gives_faulty {i : Instr} {g : State → State} {w : State} {n : Nat} (hn : n < 64) (e : exec i s = actOn s g)
    (run : g (clearSent s) = if w.place.tileFault.getLsbD n then w else tileFaulty n w) (start : w.start = s.start) (fio : w.fio = s.fio)
    (place : w.place = s.place) (dev : w.mram.dev = s.mram.dev) (calm : Calm w) {P : State → Prop}
    (shows : ∀ t sent held seq, t.pair = w.pair.sends sent held seq → (∀ k, k < 256 → raisedIn w.evt.edge k → t.evt.pend.getLsbD k = true) → P t) :
    Gives i s fun t => P t
      ∧ t.place = { s.place with tileFault := (if s.place.tileFault.getLsbD n then s.place.tileFault else putBit s.place.tileFault n true) }
      ∧ t.place.tileFault.getLsbD n = true ∧ t.start = s.start ∧ t.fio = s.fio
      ∧ (s.place.tileFault.getLsbD n = false → t.evt.pend.getLsbD 150 = true ∧ t.mram.dev.faultTiles = putBit s.mram.dev.faultTiles n true) := by
  obtain ⟨start', fio', ⟨a, b, c, pair'⟩, place', bit', raised', fault'⟩ := markFaulty_spec n w hn
  have calm' : Calm (if w.place.tileFault.getLsbD n then w else tileFaulty n w) := calm.of_same start' (by rw [pair']; rfl)
  refine h.gives e run calm' fun t ended => ⟨?_, ?_, ?_, ?_, ?_, fun sound => ?_⟩
  · obtain ⟨a', b', c', e'⟩ := ended.pair
    exact shows t a' b' c' (by rw [e', pair']; rfl) fun k hk raised => ended.pend k hk (raised' k raised)
  · rw [ended.place, place', place]
  · rw [ended.place, bit']
  · rw [ended.start, start', start]
  · rw [ended.fio, fio', fio]
  · obtain ⟨raised, tiles⟩ := fault' (by rw [place]; exact sound)
    refine ⟨ended.pend 150 (by decide) raised, ?_⟩
    rw [show t.mram.dev.faultTiles = _ from congrArg (fun q : Still => q.mram.dev.faultTiles) ended.still]
    exact tiles.trans (congrArg (fun d : DevRec => putBit d.faultTiles n true) dev)

/-- A command that changes what the pair notes, and nothing else. -/
theorem gives_pair {i : Instr} {g : State → State} (e : exec i s = actOn s g) {y : Pair} (images : y.images = s.pair.images)
    (run : ∃ a b c, g (clearSent s) = s.updPair fun _ => y.sends a b c) : Gives i s fun t =>
      t.pair = { y with sent := t.pair.sent, held := t.pair.held, txSeq := t.pair.txSeq } ∧ t.start = s.start ∧ t.fio = s.fio ∧ t.place = s.place := by
  obtain ⟨a, b, c, run⟩ := run
  have calm' : Calm (s.updPair fun _ => y.sends a b c) := h.of_same rfl images
  refine h.gives e run calm' fun t ended => ?_
  obtain ⟨a', b', c', e'⟩ := ended.pair
  rw [ended.start, ended.fio, ended.place, e']
  exact ⟨rfl, rfl, rfl, rfl⟩

/-- A tile whose test ran (14 R414). -/
def tested (n : BitVec 6) (s : State) : State := s.updPair fun p =>
  { p with lastTile := n, bistNext := if s.place.cur.spareTiles.contains n.toNat then p.bistNext else n.toNat + 1 }

/-- A tile whose test failed, before it is marked faulty (14 R414). -/
def testFailed (n : BitVec 6) (s : State) : State := raise 198 ((tested n s).updPair fun p => { p with tileFail := true })

omit h in
theorem testFailed_keeps (n : BitVec 6) (s : State) : (testFailed n s).start = s.start ∧ (testFailed n s).fio = s.fio
    ∧ (testFailed n s).place = s.place ∧ (testFailed n s).mram = s.mram ∧ (testFailed n s).pair.images = s.pair.images := ⟨rfl, rfl, rfl, rfl, rfl⟩

omit h in
theorem tileTest_takes {n : BitVec 6} (does : bistTakes s n.toNat = true) : tileTest n.toNat true s = tested n s
    ∧ tileTest n.toNat false s = if (testFailed n s).place.tileFault.getLsbD n.toNat then testFailed n s else tileFaulty n.toNat (testFailed n s) := by
  unfold testFailed tested tileTest
  rw [does, BitVec.ofNat_toNat, BitVec.setWidth_eq]
  exact ⟨rfl, rfl⟩

omit h in
theorem tileTest_skips {n : Nat} {ok : Bool} (out : bistTakes s n = false) : tileTest n ok s = s := if_pos (congrArg Bool.not out)

theorem gives_tileTests (n : BitVec 6) :
    let pairs := fun (i : Instr) (y : Pair) => Gives i s fun t =>
      t.pair = { y with sent := t.pair.sent, held := t.pair.held, txSeq := t.pair.txSeq } ∧ t.start = s.start ∧ t.fio = s.fio ∧ t.place = s.place
    let bad := fun (i : Instr) (n : BitVec 6) (P : State → Prop) => Gives i s fun t => P t
      ∧ t.place = { s.place with tileFault := (if s.place.tileFault.getLsbD n.toNat then s.place.tileFault
          else putBit s.place.tileFault n.toNat true) }
      ∧ t.place.tileFault.getLsbD n.toNat = true ∧ t.start = s.start ∧ t.fio = s.fio
      ∧ (s.place.tileFault.getLsbD n.toNat = false → t.evt.pend.getLsbD 150 = true
        ∧ t.mram.dev.faultTiles = putBit s.mram.dev.faultTiles n.toNat true)
    let due := if s.place.cur.spareTiles.contains n.toNat then s.pair.bistNext else n.toNat + 1
    (bistTakes s n.toNat = true → pairs (.tileBist n true) { s.pair with lastTile := n, bistNext := due })
    ∧ (bistTakes s n.toNat = false → pairs (.tileBist n true) s.pair ∧ pairs (.tileBist n false) s.pair)
    ∧ (bistTakes s n.toNat = true → bad (.tileBist n false) n fun t => t.pair.lastTile = n ∧ t.pair.tileFail = true ∧ t.evt.pend.getLsbD 198 = true)
    ∧ bad (.eccScrubError (.tile n) false) n (fun t => t.pair.uncorr = true)
    ∧ bad (.uncorrectableError n) n (fun t => t.pair.role = s.pair.role) := by
  intro pairs bad due
  obtain ⟨a, b, c, cleared⟩ := clearSent_eq s
  have calm : Calm (s.updPair fun p => p.sends a b c) := cleared ▸ h.clear
  have hn : n.toNat < 64 := n.isLt
  refine ⟨fun does => ?_, fun out => ⟨?_, ?_⟩, fun does => ?_, ?_, ?_⟩
  · have run := (tileTest_takes (s := s.updPair fun p => p.sends a b c) does).1
    exact gives_pair h rfl rfl ⟨a, b, c, (congrArg (tileTest n.toNat true) cleared).trans run⟩
  · exact gives_pair h rfl rfl ⟨a, b, c, (congrArg (tileTest n.toNat true) cleared).trans (tileTest_skips out)⟩
  · exact gives_pair h rfl rfl ⟨a, b, c, (congrArg (tileTest n.toNat false) cleared).trans (tileTest_skips out)⟩
  · have run := (tileTest_takes (s := s.updPair fun p => p.sends a b c) does).2
    obtain ⟨start, fio, place, mram, images⟩ := testFailed_keeps n (s.updPair fun p => p.sends a b c)
    have calm' : Calm (testFailed n (s.updPair fun p => p.sends a b c)) := calm.of_same start images
    refine gives_faulty h hn (g := tileTest n.toNat false) (w := testFailed n (s.updPair fun p => p.sends a b c)) rfl ((congrArg (tileTest n.toNat false) cleared).trans run) start fio place (congrArg Mram.dev mram) calm' fun t a' b' c' e' raised => ?_
    rw [e']
    exact ⟨rfl, rfl, raised 198 (by decide) (raisedIn_raise ..)⟩
  · have calm' : Calm ((s.updPair fun p => p.sends a b c).updPair fun p => { p with uncorr := true }) := calm.of_same rfl rfl
    refine gives_faulty h hn rfl (congrArg (eccInTile n.toNat) cleared) rfl rfl rfl rfl calm' fun t a' b' c' e' _ => ?_
    rw [e']
    rfl
  · refine gives_faulty h hn (w := s.updPair fun p => p.sends a b c) rfl ?_ rfl rfl rfl rfl calm fun t a' b' c' e' _ => ?_
    · rw [cleared]
    · rw [e']
      rfl

omit h in
theorem coreFault_spec (n : Nat) (hn : n < 5) {w : State} : let u := if w.place.coreFault.getLsbD n then w else coreFaulty n w
    u.start = w.start ∧ u.pair = w.pair ∧ u.place.coreFault.getLsbD n = true ∧ u.place.tileFault = w.place.tileFault
      ∧ (∀ k, raisedIn w.evt.edge k → raisedIn u.evt.edge k) := by
  dsimp only
  split
  · rename_i faulty
    exact ⟨rfl, rfl, faulty, rfl, fun _ h => h⟩
  · refine ⟨rfl, rfl, ?_, rfl, fun k h => raisedIn_raise_of 150 k (64 + n) _ h⟩
    show (putBit w.place.coreFault n true).getLsbD n = true
    rw [getLsbD_putBit_all, if_pos ⟨rfl, hn⟩]

end Clauses

/-! ## The obligation -/

/-- Settles O56: commands of the pair, health frames, self-tests, and marks of the health map. -/
theorem pairCommandsAndTests : Obligations.PairCommandsAndTests := by
  intro s path h p pairs bad
  obtain ⟨a, b, c, cleared⟩ := clearSent_eq s
  have calm : Calm (s.updPair fun p => p.sends a b c) := cleared ▸ h.clear
  have noted : ∀ {i : Instr} {g : State → State} {y : Pair}, exec i s = actOn s g → y.images = s.pair.images →
      g (s.updPair fun p => p.sends a b c) = (s.updPair fun _ => y.sends a b c) → pairs i y :=
    fun e images run => gives_pair h e images ⟨a, b, c, cleared.symm ▸ run⟩
  refine ⟨fun pair => ⟨fun busy => ?_, fun free => ?_⟩, fun c cfg on => gives_healthFrame h cfg on, fun n => ?_, fun n => ?_, fun e => ?_, ?_, ?_, fun n slow fresh => ?_⟩
  · have switch : switchCommand (s.updPair fun p => p.sends a b c) = pairReason 4 (s.updPair fun p => p.sends a b c) :=
      (if_neg (by rw [show (s.updPair fun p => p.sends a b c).inPair = true from pair]; exact Bool.false_ne_true)).trans (if_pos busy)
    have resync : resyncCommand (s.updPair fun p => p.sends a b c) = pairReason 4 (s.updPair fun p => p.sends a b c) :=
      (if_neg (by rw [show (s.updPair fun p => p.sends a b c).inPair = true from pair]; exact Bool.false_ne_true)).trans (if_pos busy)
    exact ⟨noted rfl rfl switch, noted rfl rfl resync⟩
  · have paired : ¬(!(s.updPair fun p => p.sends a b c).inPair) = true := by
      rw [show (s.updPair fun p => p.sends a b c).inPair = true from pair]
      exact Bool.false_ne_true
    have idle : ¬(s.updPair fun p => p.sends a b c).pair.busy = true := ne_true_of_eq_false free
    have switch : switchCommand (s.updPair fun p => p.sends a b c) = _ := (if_neg paired).trans (if_neg idle)
    have resync : resyncCommand (s.updPair fun p => p.sends a b c) = _ := (if_neg paired).trans (if_neg idle)
    refine ⟨fun passive => ?_, fun active unready => ?_, fun ready => ?_, fun heldOut => ?_, fun other => ?_⟩
    · exact noted rfl rfl (switch.trans (if_pos (congrArg Bool.not passive)))
    · refine noted rfl rfl (switch.trans ((if_neg ?_).trans (if_pos (congrArg Bool.not unready))))
      rw [show activePair (s.updPair fun p => p.sends a b c) = true from active]
      exact Bool.false_ne_true
    · have active : activePair s = true := by
        unfold activePair
        obtain lock | stage := (Bool.or_eq_true_iff.1 ready)
        · rw [eq_of_beq lock]
        · rw [eq_of_beq stage]
      refine noted rfl rfl (switch.trans ((if_neg ?_).trans (if_neg ?_)))
      · rw [show activePair (s.updPair fun p => p.sends a b c) = true from active]
        exact Bool.false_ne_true
      · rw [show standbyReady (s.updPair fun p => p.sends a b c) = true from ready]
        exact Bool.false_ne_true
    · exact noted rfl rfl (resync.trans (if_pos heldOut))
    · exact noted rfl rfl (resync.trans (if_neg other))
  · exact gives_tileTests h n
  · refine ⟨noted rfl rfl (if_pos (.inl rfl)), fun busy => noted rfl rfl (if_pos (.inr (congrArg Bool.not busy))), fun hn idle => ?_⟩
    have run : corePairTest n.toNat false (s.updPair fun p => p.sends a b c) = _ := if_neg (not_or.2 ⟨Bool.false_ne_true, by
      rw [show spareIdle (s.updPair fun p => p.sends a b c) n.toNat = true from idle]
      exact Bool.false_ne_true⟩)
    obtain ⟨start, pair, bit, tiles, raised⟩ := coreFault_spec n.toNat hn (w := raise 198 ((s.updPair fun p => p.sends a b c).updPair fun p => { p with coreFail := true }))
    refine h.gives_from cleared rfl run (calm.of_same start ((congrArg Pair.images pair).trans rfl)) fun t ended => ?_
    obtain ⟨a', b', c', e'⟩ := ended.pair
    rw [ended.start, ended.place, e', pair]
    exact ⟨rfl, ended.pend 198 (by decide) (raised 198 (raisedIn_raise ..)), bit, tiles, start⟩
  · exact noted rfl rfl rfl
  · refine .of_actOn (f := fun s => hostRestart .hostWarm (s.updPair fun p => { p with uncorr := true }))
      (congrArg (actOn s) (funext fun _ => if_neg Bool.false_ne_true)) h.on ?_
    refine (restarted_hostRestart (why := .hostWarm) (.inl rfl) ?_ ?_).1
    · exact ⟨rfl, rfl⟩
    · exact ⟨rfl, rfl⟩
  · have calm' : Calm (clearFaultCommand (s.updPair fun p => p.sends a b c)) := calm.of_same rfl rfl
    have e : actKey s 0x9E1D 0x9E1D clearFaultCommand = actOn s clearFaultCommand := if_pos rfl
    refine h.gives_from cleared (i := .clearFault path 0x9E1D) e rfl calm' fun t ended => ⟨?_, ?_, ?_⟩
    · rw [show t.mram.dev.clearFault = _ from congrArg (fun q : Still => q.mram.dev.clearFault) ended.still]
      rfl
    · exact ended.place
    · exact ended.start
  · have run : unitSlow n.toNat (s.updPair fun p => p.sends a b c) = _ := if_pos ⟨slow, congrArg Bool.not fresh⟩
    refine h.gives_from cleared rfl run (calm.of_same rfl rfl) fun t ended => ?_
    rw [ended.place, ended.start, ended.sol]
    exact ⟨rfl, ended.pend 149 (by decide) (raisedIn_raise ..), rfl, rfl⟩

end Sys2Proof.Machine
end

section
/-! SUPPORT. What the operations on problems leave (07 R187 to R207; 08 R229). -/

namespace Sys2Proof.Machine

open Sys2Proof

theorem updProb_same (s : State) (n : Nat) (f : Problem → Problem) : (s.updProb n f).prob n = f (s.prob n) :=
  Store.get_upd_same ({} : Problem) s.sol.probs n f

theorem updProb_other {m n : Nat} (h : m ≠ n) (s : State) (f : Problem → Problem) : (s.updProb n f).prob m = s.prob m :=
  Store.get_upd_other ({} : Problem) s.sol.probs n m f (Ne.symm h)

theorem updSol_prob (s : State) {f : Sol → Sol} (probs : (f s.sol).probs = s.sol.probs) (n : Nat) : (s.updSol f).prob n = s.prob n :=
  congrArg (fun x => Store.get ({} : Problem) x n) probs

/-! ## Operations on problems -/

/-- The solver array after work on its problems: their records, what a standby keeps of them, the host frame's bits, and the constraints
that the outer loop left unmet. -/
def Sol.worked (x : Sol) (probs : Store Problem) (back : Store (List Problem)) (busy done : Bool) (unmet : Nat) : Sol :=
  { x with probs := probs, back := back, hdBusy := busy, hdDone := done, outerNow := (x.outerNow.1, unmet, x.outerNow.2.2) }

/-- A state after work on problems: what each problem keeps is `R`. -/
structure Solves (R : Nat → Problem → Problem → Prop) (s u : State) : Prop where
  start : u.start = s.start
  tide : u.tide = s.tide
  man : u.man = s.man
  clk : u.clk = s.clk
  place : u.place = s.place
  scan : u.scan = s.scan
  mram : u.mram = s.mram
  ports : (u.mtr, u.keys, u.ports) = (s.mtr, s.keys, s.ports)
  pair : ∃ sent held seq, u.pair = s.pair.sends sent held seq
  sol : ∃ probs back busy done unmet, u.sol = s.sol.worked probs back busy done unmet
  raised : ∀ n, raisedIn s.evt.edge n → raisedIn u.evt.edge n
  each : ∀ n, R n (s.prob n) (u.prob n)

/-- What problems keep is kept by nothing done, and by one work after another. -/
structure Order (R : Nat → Problem → Problem → Prop) : Prop where
  refl : ∀ n p, R n p p
  trans : ∀ n p q r, R n p q → R n q r → R n p r

section Rules

variable {R : Nat → Problem → Problem → Prop} (o : Order R) {s u v : State}

theorem Solves.weaken {R' : Nat → Problem → Problem → Prop} (h : Solves R s u) (le : ∀ n p q, R n p q → R' n p q) : Solves R' s u :=
  ⟨h.start, h.tide, h.man, h.clk, h.place, h.scan, h.mram, h.ports, h.pair, h.sol, h.raised, fun n => le n _ _ (h.each n)⟩

theorem Solves.images (h : Solves R s u) : u.pair.images = s.pair.images := by
  obtain ⟨_, _, _, e⟩ := h.pair
  rw [e]
  rfl

theorem Solves.calm (h : Solves R s u) (calm : Calm s) : Calm u := calm.of_same h.start h.images

theorem Solves.role (h : Solves R s u) : u.pair.role = s.pair.role := by
  obtain ⟨_, _, _, e⟩ := h.pair
  rw [e]
  rfl

theorem Solves.nums (h : Solves R s u) : problemNums u = problemNums s := by
  unfold problemNums
  rw [h.man]

theorem Solves.defn (h : Solves R s u) (n : Nat) : problemDef u n = problemDef s n := by
  unfold problemDef problemCfg templateOf
  rw [h.man]

theorem Solves.coupling (h : Solves R s u) : u.coupling = s.coupling := by
  unfold State.coupling
  rw [h.man]

include o

theorem Solves.refl : Solves R s s :=
  ⟨rfl, rfl, rfl, rfl, rfl, rfl, rfl, rfl, ⟨s.pair.sent, s.pair.held, s.pair.txSeq, rfl⟩, ⟨s.sol.probs, s.sol.back, s.sol.hdBusy, s.sol.hdDone, s.sol.outerNow.2.1, rfl⟩,
    fun _ h => h, fun n => o.refl n _⟩

theorem Solves.trans (h : Solves R s u) (h' : Solves R u v) : Solves R s v := by
  obtain ⟨a, b, c, e⟩ := h.pair
  obtain ⟨a', b', c', e'⟩ := h'.pair
  obtain ⟨p, k, f, d, m, x⟩ := h.sol
  obtain ⟨p', k', f', d', m', x'⟩ := h'.sol
  exact ⟨h'.start.trans h.start, h'.tide.trans h.tide, h'.man.trans h.man, h'.clk.trans h.clk, h'.place.trans h.place, h'.scan.trans h.scan,
    h'.mram.trans h.mram, h'.ports.trans h.ports, ⟨a', b', c', by rw [e', e]; rfl⟩, ⟨p', k', f', d', m', by rw [x', x]; rfl⟩, fun n r => h'.raised n (h.raised n r),
    fun n => o.trans n _ _ _ (h.each n) (h'.each n)⟩

theorem Solves.foldl {α : Type} {f : State → α → State} {l : List α} (each : ∀ s, ∀ a ∈ l, Solves R s (f s a)) (s : State) : Solves R s (l.foldl f s) := by
  induction l generalizing s with
  | nil => exact .refl o
  | cons a l ih => exact .trans o (each s a (List.mem_cons_self ..)) (ih (fun s b hb => each s b (List.mem_cons_of_mem _ hb)) _)

theorem Solves.updProb (n : Nat) (f : Problem → Problem) (keeps : R n (u.prob n) (f (u.prob n))) : Solves R u (u.updProb n f) := by
  refine ⟨rfl, rfl, rfl, rfl, rfl, rfl, rfl, rfl, ⟨_, u.pair.held, _, rfl⟩, ⟨_, u.sol.back, _, _, u.sol.outerNow.2.1, rfl⟩, fun _ h => h, fun m => ?_⟩
  by_cases here : m = n
  · rw [here, updProb_same]
    exact keeps
  · rw [updProb_other here]
    exact o.refl m _

theorem Solves.raise (n k : Nat) : Solves R u (raise n u k) :=
  ⟨rfl, rfl, rfl, rfl, rfl, rfl, rfl, rfl, ⟨_, u.pair.held, _, rfl⟩, ⟨_, u.sol.back, _, _, u.sol.outerNow.2.1, rfl⟩, fun _ h => raisedIn_raise_of _ _ _ _ h, fun m => o.refl m _⟩

theorem Solves.updBack (f : Store (List Problem) → Store (List Problem)) : Solves R u (u.updSol fun x => { x with back := f x.back }) :=
  ⟨rfl, rfl, rfl, rfl, rfl, rfl, rfl, rfl, ⟨_, u.pair.held, _, rfl⟩, ⟨_, _, _, _, u.sol.outerNow.2.1, rfl⟩, fun _ h => h, fun m => o.refl m _⟩

theorem Solves.withProblem {n : Nat} {f : ProblemCfg → Template → State → State} (each : ∀ c t, problemDef u n = some (c, t) → Solves R u (f c t u)) :
    Solves R u (withProblem n u f) := by
  unfold Machine.withProblem
  split
  · exact each _ _ ‹_›
  · exact .refl o

theorem sendSolver_solves (m : SolverMsg) : Solves R s (sendSolver m s) := by
  unfold sendSolver
  split
  · exact ⟨rfl, rfl, rfl, rfl, rfl, rfl, rfl, rfl, ⟨_, _, _, rfl⟩, ⟨_, s.sol.back, _, _, s.sol.outerNow.2.1, rfl⟩, fun _ h => h, fun m => o.refl m _⟩
  · exact .refl o

end Rules

/-- What one step of a fold brings about and the others keep holds at its end. -/
theorem foldl_mem {α : Type} {f : State → α → State} {I P : State → Prop} {l : List α} {a : α} (ha : a ∈ l) (keepI : ∀ s b, I s → I (f s b))
    (makes : ∀ s, I s → P (f s a)) (keepP : ∀ s b, I s → P s → P (f s b)) {s : State} (hI : I s) : P (l.foldl f s) := by
  have kept : ∀ (l : List α) (s : State), I s → P s → P (l.foldl f s) := fun l => by
    induction l with
    | nil => exact fun _ _ h => h
    | cons b l ih => exact fun s hI hP => ih _ (keepI s b hI) (keepP s b hI hP)
  induction l generalizing s with
  | nil => cases ha
  | cons b l ih =>
    obtain rfl | ha := List.mem_cons.1 ha
    · exact kept l _ (keepI s _ hI) (makes s hI)
    · exact ih ha (keepI s b hI)

/-! ## Stops -/

/-- What a problem keeps when its work ends (07 R192, R201): its results, its iterates and counts, and what it did. -/
structure Halts (p q : Problem) : Prop where
  acc : q.acc = p.acc
  live : q.live = p.live
  it : q.it = p.it
  steps : q.steps = p.steps
  data : q.data = p.data
  work : q.work = p.work
  pend : q.pend = p.pend
  rest : p.running = false → q.running = false
  ahead : p.ranAhead = false → q.ranAhead = false

theorem halts_order : Order fun _ => Halts :=
  ⟨fun _ _ => ⟨rfl, rfl, rfl, rfl, rfl, rfl, rfl, id, id⟩, fun _ _ _ _ h h' => ⟨h'.acc.trans h.acc, h'.live.trans h.live, h'.it.trans h.it,
    h'.steps.trans h.steps, h'.data.trans h.data, h'.work.trans h.work, h'.pend.trans h.pend, fun r => h'.rest (h.rest r), fun r => h'.ahead (h.ahead r)⟩⟩

/-- One problem halts, and the others stand as they were. -/
def halting (n : Nat) : Nat → Problem → Problem → Prop := fun m p q => (m ≠ n → q = p) ∧ Halts p q

theorem halting_order (n : Nat) : Order (halting n) :=
  ⟨fun m p => ⟨fun _ => rfl, halts_order.refl m p⟩, fun m p q r h h' => ⟨fun other => (h'.1 other).trans (h.1 other), halts_order.trans m p q r h.2 h'.2⟩⟩

section Stops

variable {s : State}

theorem stopProblem_halting (n : Nat) (why : Stop) : Solves (halting n) s (stopProblem n why s) :=
  .trans (halting_order n) (.updProb (halting_order n) n _ ⟨fun other => absurd rfl other, ⟨rfl, rfl, rfl, rfl, rfl, rfl, rfl, fun _ => rfl, id⟩⟩) (sendSolver_solves (halting_order n) _)

theorem finishBuild_halting (n : Nat) (c : ProblemCfg) (t : Template) : Solves (halting n) s (finishBuild n c t false s) := by
  unfold finishBuild
  extract_lets p
  split
  · exact .refl (halting_order n)
  · split
    · have raised : Solves (halting n) s (raise 133 s n) := .raise (halting_order n) 133 n
      split
      · exact .trans (halting_order n) raised (.updProb (halting_order n) n _ ⟨fun other => absurd rfl other, ⟨rfl, rfl, rfl, rfl, rfl, rfl, rfl, id, id⟩⟩)
      · extract_lets u
        have ill : Solves (halting n) s u :=
          .trans (halting_order n) raised (.updProb (halting_order n) n _ ⟨fun other => absurd rfl other, ⟨rfl, rfl, rfl, rfl, rfl, rfl, rfl, id, fun _ => rfl⟩⟩)
        split
        · exact .trans (halting_order n) ill (stopProblem_halting ..)
        · exact ill
    · exact .updProb (halting_order n) n _ ⟨fun other => absurd rfl other, ⟨rfl, rfl, rfl, rfl, rfl, rfl, rfl, id, id⟩⟩

theorem stopAtMark_halting (n : Nat) (c : ProblemCfg) (t : Template) : Solves (halting n) s (stopAtMark n c t s) := by
  unfold stopAtMark
  extract_lets p u
  have stopped : Solves (halting n) s u := stopProblem_halting ..
  split
  · exact stopped
  · split
    · exact .trans (halting_order n) stopped (finishBuild_halting ..)
    · extract_lets v again
      have noted : Solves (halting n) u v := by
        refine iteInduction (motive := Solves (halting n) u) (fun _ => .refl (halting_order n)) fun _ => .raise (halting_order n) 132 n
      exact .trans (halting_order n) (.trans (halting_order n) stopped noted) (.updProb (halting_order n) n _ ⟨fun other => absurd rfl other, ⟨rfl, rfl, rfl, rfl, rfl, rfl, rfl, id, id⟩⟩)

theorem unitEnd_halting (n : Nat) (c : ProblemCfg) (t : Template) : Solves (halting n) s (unitEnd n c t s) := by
  unfold unitEnd
  extract_lets p
  split
  · exact .refl (halting_order n)
  · split
    · exact stopAtMark_halting ..
    · split
      · split
        · exact stopAtMark_halting ..
        · exact .refl (halting_order n)
      · exact .refl (halting_order n)

theorem stopAtMark_halts (n : Nat) (c : ProblemCfg) (t : Template) : Solves (fun _ => Halts) s (stopAtMark n c t s) :=
  (stopAtMark_halting n c t).weaken fun _ _ _ h => h.2

theorem unitEnd_halts (n : Nat) (c : ProblemCfg) (t : Template) : Solves (fun _ => Halts) s (unitEnd n c t s) :=
  (unitEnd_halting n c t).weaken fun _ _ _ h => h.2

theorem markReached_halts (w : Work) : Solves (fun _ => Halts) s (markReached w s) := by
  unfold markReached
  split
  · exact .refl halts_order
  · refine .foldl halts_order (fun s n _ => ?_) s
    extract_lets p
    split
    · split
      · exact .updProb halts_order n _ ⟨rfl, rfl, rfl, rfl, rfl, rfl, rfl, id, id⟩
      · exact .withProblem halts_order fun c t _ => stopAtMark_halts ..
    · exact .refl halts_order

end Stops

end Sys2Proof.Machine
end

section
/-! SUPPORT. The marks of the optimisation period (01 R22; 05 R132; 07 R204; 08 R229, R233). -/

namespace Sys2Proof.Machine

open Sys2Proof

/-! ## A mark fires -/

/-- A state in which a mark fired: time has passed, and the tide counts the mark. -/
structure Fired (s u : State) : Prop where
  start : u.start = s.start
  man : u.man = s.man
  pair : u.pair = s.pair
  sol : u.sol = s.sol
  place : u.place = s.place
  scan : u.scan = s.scan
  loop : u.loop = s.loop
  fio : u.fio = s.fio
  pins : u.pins = s.pins
  evt : u.evt = s.evt
  mram : u.mram = s.mram
  cycle : u.tide.cycle = s.tide.cycle

/-- Blocks that no clock drives. -/
def State.unclocked (s : State) : Pair × Sol × Place × Scan × LoopEng × Fio × Pins := (s.pair, s.sol, s.place, s.scan, s.loop, s.fio, s.pins)

theorem unclocked_updCal (s : State) (f : Cal → Cal) : (s.updCal f).unclocked = s.unclocked := rfl
theorem unclocked_updClk (s : State) (f : Clk → Clk) : (s.updClk f).unclocked = s.unclocked := rfl
theorem unclocked_updJrn (s : State) (f : Jrn → Jrn) : (s.updJrn f).unclocked = s.unclocked := rfl
theorem unclocked_updTide (s : State) (f : Tide → Tide) : (s.updTide f).unclocked = s.unclocked := rfl
theorem unclocked_updNtime (s : State) (f : Ntime → Ntime) : (s.updNtime f).unclocked = s.unclocked := rfl

theorem elapse_unclocked (n : Nat) (s : State) : (elapse n s).unclocked = s.unclocked := by
  unfold elapse
  simp only []
  (repeat' split) <;> simp only [unclocked_updCal, unclocked_updClk, unclocked_updJrn, unclocked_updTide, unclocked_updNtime]

theorem fireMark_fired {m a : Nat} {s u : State} {k : TideMark} (h : fireMark m a s = some (k, u)) : Fired s u := by
  obtain ⟨start, man, -, mram⟩ := fireMark_keeps h
  have reached (x : BitVec 16) : (reach x s).pair = s.pair ∧ (reach x s).sol = s.sol ∧ (reach x s).place = s.place ∧ (reach x s).scan = s.scan
      ∧ (reach x s).loop = s.loop ∧ (reach x s).fio = s.fio ∧ (reach x s).pins = s.pins ∧ (reach x s).evt = s.evt
      ∧ (reach x s).tide.cycle = s.tide.cycle := by
    unfold reach
    split
    · obtain ⟨a, b, tide⟩ := elapse_tide (ticksTo s x.toNat) s
      have blocks := elapse_unclocked (ticksTo s x.toNat) s
      refine ⟨congrArg (·.1) blocks, congrArg (·.2.1) blocks, congrArg (·.2.2.1) blocks, congrArg (·.2.2.2.1) blocks, congrArg (·.2.2.2.2.1) blocks,
        congrArg (·.2.2.2.2.2.1) blocks, congrArg (·.2.2.2.2.2.2) blocks, elapse_evt _ s, ?_⟩
      show (elapse (ticksTo s x.toNat) s).tide.cycle = s.tide.cycle
      rw [tide]
    · exact ⟨rfl, rfl, rfl, rfl, rfl, rfl, rfl, rfl, rfl⟩
  unfold fireMark at h
  split at h
  · cases h
  · dsimp only at h
    split at h
    · cases h
      obtain ⟨pair, sol, place, scan, loop, fio, pins, evt, cycle⟩ := reached _
      exact ⟨start, man, pair, sol, place, scan, loop, fio, pins, evt, mram, cycle⟩
    · cases h

theorem Fired.calm {s u : State} (h : Fired (clearSent s) u) (calm : Calm s) : Calm u := calm.clear.of_same h.start (congrArg Pair.images h.pair)

/-- A command at a mark that fires. -/
theorem gives_mark {s u v : State} {m action : Nat} {k : TideMark} {i : Instr} {g : TideMark → State → State} (calm : Calm s)
    (fires : fireMark m action (clearSent s) = some (k, u)) (e : exec i s = actOn s fun s => atMark m action s g) (run : g k u = v)
    (calm' : Calm v) {P : State → Prop} (shows : ∀ t, Ended v t → P t) : Gives i s P := by
  refine calm.gives e ?_ calm' shows
  unfold atMark
  rw [fires]
  exact run

/-! ## The boundary -/

/-- What the work at a period boundary keeps. -/
structure Bounds (s u : State) : Prop where
  start : u.start = s.start
  tide : u.tide = s.tide
  images : u.pair.images = s.pair.images
  place : u.place = s.place
  waiting : u.sol.waiting = s.sol.waiting
  liveFixed : u.sol.liveFixed = s.sol.liveFixed
  handed : u.sol.handed = s.sol.handed
  opened : u.sol.opened = s.sol.opened
  raised : ∀ n, raisedIn s.evt.edge n → raisedIn u.evt.edge n

section Boundary

variable {s u v : State}

theorem Bounds.refl : Bounds s s := ⟨rfl, rfl, rfl, rfl, rfl, rfl, rfl, rfl, fun _ h => h⟩

theorem Bounds.trans (h : Bounds s u) (h' : Bounds u v) : Bounds s v :=
  ⟨h'.start.trans h.start, h'.tide.trans h.tide, h'.images.trans h.images, h'.place.trans h.place, h'.waiting.trans h.waiting,
    h'.liveFixed.trans h.liveFixed, h'.handed.trans h.handed, h'.opened.trans h.opened, fun n r => h'.raised n (h.raised n r)⟩

theorem Bounds.foldl {α : Type} {f : State → α → State} (each : ∀ s a, Bounds s (f s a)) (l : List α) (s : State) : Bounds s (l.foldl f s) := by
  induction l generalizing s with
  | nil => exact .refl
  | cons a l ih => exact (each s a).trans (ih _)

theorem Solves.bounds {R : Nat → Problem → Problem → Prop} (h : Solves R s u) : Bounds s u := by
  obtain ⟨_, _, _, _, _, sol⟩ := h.sol
  refine ⟨h.start, h.tide, h.images, h.place, ?_, ?_, ?_, ?_, h.raised⟩ <;> (rw [sol]; rfl)

/-- Problems keep nothing in particular. -/
def anyWay : Nat → Problem → Problem → Prop := fun _ _ _ => True

theorem anyWay_order : Order anyWay := ⟨fun _ _ => trivial, fun _ _ _ _ _ _ => trivial⟩

/-- A pending placement takes effect (05 R132). -/
theorem placementEffect_spec (s : State) : let u := placementEffect s
    u.start = s.start ∧ u.tide = s.tide ∧ u.pair.images = s.pair.images ∧ u.place.next = none ∧ u.place.cur = s.place.next.getD s.place.cur
      ∧ u.sol.waiting = s.sol.waiting ∧ u.sol.liveFixed = s.sol.liveFixed ∧ u.sol.handed = s.sol.handed
      ∧ (s.place.next.isSome = true → raisedIn u.evt.edge 148) := by
  intro u
  cases next : s.place.next with
  | none =>
    have same : u = s := by
      show placementEffect s = s
      unfold placementEffect
      rw [next]
    rw [same]
    exact ⟨rfl, rfl, rfl, next, rfl, rfl, rfl, rfl, fun h => absurd h (by decide)⟩
  | some w =>
    have eq : u = raise 148 (w.probs.foldl (fun s (n, x) => if x.moved && !(s.prob n).ill then
        s.updProb n fun p => { p with factor := none, build := none, need := .inPlace } else s)
        (s.updPlace fun p => { takeJoined p with cur := w, next := none, last := s.tide.cycle.setWidth 32 })) := by
      show placementEffect s = _
      unfold placementEffect
      rw [next]
    obtain ⟨start, tide, images, place, waiting, live, handed, -, -⟩ := Solves.bounds (Solves.foldl anyWay_order
      (f := fun s (x : Nat × ProbPlace) => if x.2.moved && !(s.prob x.1).ill then
        s.updProb x.1 fun p => { p with factor := none, build := none, need := .inPlace } else s) (l := w.probs)
      (fun s x _ => iteInduction (motive := Solves anyWay s) (fun _ => .updProb anyWay_order x.1 _ trivial) fun _ => .refl anyWay_order)
      (s.updPlace fun p => { takeJoined p with cur := w, next := none, last := s.tide.cycle.setWidth 32 }))
    rw [eq]
    exact ⟨start, tide, images, congrArg Place.next place, congrArg Place.cur place, waiting, live, handed, fun _ => raisedIn_raise ..⟩

theorem joinLockstep_bounds (s : State) : Bounds s (joinLockstep s) := by
  unfold joinLockstep samePlacement drawFree
  split
  · dsimp only
    split
    · exact ⟨rfl, rfl, rfl, rfl, rfl, rfl, rfl, rfl, fun _ h => h⟩
    · split
      · exact ⟨rfl, rfl, rfl, rfl, rfl, rfl, rfl, rfl, fun n h => raisedIn_raise_of _ _ _ _ h⟩
      · exact ⟨rfl, rfl, rfl, rfl, rfl, rfl, rfl, rfl, fun n h => raisedIn_raise_of _ _ _ _ h⟩
      · exact ⟨rfl, rfl, rfl, rfl, rfl, rfl, rfl, rfl, fun n h => raisedIn_raise_of _ _ _ _ h⟩
      · exact ⟨rfl, rfl, rfl, rfl, rfl, rfl, rfl, rfl, fun _ h => h⟩
  · exact .refl

theorem handOne_bounds (s : State) (h : Handover) : Bounds s (handOne s h) := by
  unfold handOne
  extract_lets p v f
  split <;> exact ⟨rfl, rfl, rfl, rfl, rfl, rfl, rfl, rfl, fun _ h => h⟩

theorem writeInput_bounds (t : Ty) (i : Nat) (v : DWord) (s : State) : Bounds s (writeInput t i v s) :=
  ⟨rfl, rfl, rfl, rfl, rfl, rfl, rfl, rfl, fun _ h => h⟩

/-- The first moves that the units take over at a boundary (08 R233, R235). -/
theorem handover_spec (s : State) : (handover s).start = s.start ∧ (handover s).tide = s.tide ∧ (handover s).pair.images = s.pair.images
    ∧ (handover s).place = s.place ∧ (handover s).sol.waiting = s.sol.waiting ∧ (handover s).sol.handed = (s.sol.handed || s.sol.liveFixed)
    ∧ ∀ n, raisedIn s.evt.edge n → raisedIn (handover s).evt.edge n := by
  unfold handover
  split
  · rename_i live
    extract_lets k u1 u2 u3 u4
    have h1 : Bounds s u1 := .foldl handOne_bounds _ s
    have h2 : Bounds u1 u2 := by
      refine .foldl (fun s a => ?_) _ u1
      dsimp only
      split
      · exact writeInput_bounds ..
      · exact .refl
    have h3 : Bounds u2 u3 := by
      show Bounds u2 (match k.statusVar with | some i => _ | none => _)
      split
      · exact writeInput_bounds ..
      · exact .refl
    have h4 : Bounds u3 u4 := Solves.bounds (.foldl anyWay_order (fun s n _ => .withProblem anyWay_order fun c t _ => .updProb anyWay_order n _ trivial) u3)
    have all := ((h1.trans h2).trans h3).trans h4
    exact ⟨all.start, all.tide, all.images, all.place, all.waiting, by rw [live, Bool.or_true]; rfl, all.raised⟩
  · rename_i dead
    exact ⟨rfl, rfl, rfl, rfl, rfl, by rw [Bool.eq_false_iff.2 dead, Bool.or_false], fun _ h => h⟩

theorem periodBoundary_spec (s : State) : let u := periodBoundary s
    u.start = s.start ∧ u.tide = s.tide ∧ u.pair.images = s.pair.images ∧ u.sol.opened = true ∧ u.sol.waiting = s.sol.waiting
      ∧ u.sol.handed = (s.sol.handed || s.sol.liveFixed) ∧ u.place.next = none ∧ u.place.cur = s.place.next.getD s.place.cur
      ∧ (s.place.next.isSome = true → raisedIn u.evt.edge 148) := by
  unfold periodBoundary
  extract_lets u1 u2 u3
  obtain ⟨start1, tide1, images1, next, cur, waiting1, live1, handed1, raised1⟩ := placementEffect_spec s
  have h2 : Bounds u1 u2 := joinLockstep_bounds u1
  obtain ⟨start3, tide3, images3, place3, waiting3, handed3, raised3⟩ := handover_spec u2
  have h4 : Bounds _ (endAhead (u3.updSol fun x => { x with opened := true, openCycle := u3.tide.cycle })) := (markReached_halts .ahead).bounds
  refine ⟨?_, ?_, ?_, h4.opened, ?_, ?_, ?_, ?_, fun pending => h4.raised _ (raised3 _ (h2.raised _ (raised1 pending)))⟩
  · exact h4.start.trans (start3.trans (h2.start.trans start1))
  · exact h4.tide.trans (tide3.trans (h2.tide.trans tide1))
  · exact h4.images.trans (images3.trans (h2.images.trans images1))
  · exact h4.waiting.trans (waiting3.trans (h2.waiting.trans waiting1))
  · refine h4.handed.trans (handed3.trans ?_)
    rw [h2.handed, h2.liveFixed]
    exact congr (congrArg or handed1) live1
  · exact (congrArg Place.next (h4.place.trans (place3.trans h2.place))).trans next
  · exact (congrArg Place.cur (h4.place.trans (place3.trans h2.place))).trans cur

end Boundary

end Sys2Proof.Machine
end

section
/-! SUPPORT. The deadline mark and the run-ahead start mark (05 R132, R135; 07 R204; 08 R229). -/

namespace Sys2Proof.Machine

open Sys2Proof

/-! ## The deadline -/

section Deadline

variable {s : State}

/-- The solver array from a deadline mark on (07 R204). -/
def Sol.atDeadline (x : Sol) (time : TideTime) (us : DWord) : Sol :=
  { x with marks := x.marks + 1, mark := some (time, us), fixing := true, delivered := false, opened := false }

theorem deadlineReached_solves (time : TideTime) (s : State) :
    Solves anyWay (s.updSol fun x => x.atDeadline time s.clk.us) (deadlineReached time s) := by
  unfold deadlineReached
  extract_lets u
  have start : Solves anyWay (s.updSol fun x => x.atDeadline time s.clk.us) u := .refl anyWay_order
  split
  · exact ((markReached_halts .solve).weaken fun _ _ _ _ => trivial)
  · refine .foldl anyWay_order (fun s n _ => .withProblem anyWay_order fun c t _ => ?_) u
    extract_lets v
    have stopped : Solves anyWay s v :=
      iteInduction (motive := Solves anyWay s) (fun _ => (stopAtMark_halts n c t).weaken fun _ _ _ _ => trivial) fun _ => .refl anyWay_order
    exact .trans anyWay_order stopped (.updProb anyWay_order n _ trivial)

theorem setStage_three {s : State} (two : s.start.stage = 2) : (setStage 3 s).start.stage = 3 ∧ (setStage 3 s).start.deadlines = s.start.deadlines
    ∧ (setStage 3 s).start.power = s.start.power := by
  unfold setStage
  rw [if_neg (by rw [two]; decide)]
  exact ⟨rfl, rfl, rfl⟩

/-- What the rest of the deadline's work keeps. -/
structure Deadlined (s u : State) : Prop where
  sol : u.sol = s.sol
  tide : u.tide = s.tide
  pair : u.pair = s.pair
  man : u.man = s.man
  e0 : u.place.e0Tiles = s.place.e0Tiles

theorem Deadlined.trans {s u v : State} (h : Deadlined s u) (h' : Deadlined u v) : Deadlined s v :=
  ⟨h'.sol.trans h.sol, h'.tide.trans h.tide, h'.pair.trans h.pair, h'.man.trans h.man, h'.e0.trans h.e0⟩

theorem compareRates_deadlined (rates : List (Option Nat)) (s : State) : Deadlined s (compareRates rates s) ∧ (compareRates rates s).start = s.start := by
  unfold compareRates
  extract_lets l m
  split
  · exact ⟨⟨rfl, rfl, rfl, rfl, rfl⟩, rfl⟩
  · exact ⟨⟨rfl, rfl, rfl, rfl, rfl⟩, rfl⟩

theorem stageAtDeadline_deadlined (s : State) : Deadlined s (stageAtDeadline s) ∧ (stageAtDeadline s).start.deadlines = s.start.deadlines
    ∧ (stageAtDeadline s).start.stage = (if s.start.stage = 2 ∧ problemNums s = [] then 3 else s.start.stage)
    ∧ (stageAtDeadline s).start.power = s.start.power := by
  by_cases enters : s.start.stage = 2 ∧ problemNums s = []
  · rw [if_pos enters, stageAtDeadline, if_pos ⟨enters.1, List.isEmpty_iff.2 enters.2⟩]
    obtain ⟨stage, deadlines, power⟩ := setStage_three enters.1
    refine ⟨?_, deadlines, stage, power⟩
    unfold setStage
    split <;> exact ⟨rfl, rfl, rfl, rfl, rfl⟩
  · rw [if_neg enters, stageAtDeadline, if_neg fun h => enters ⟨h.1, List.isEmpty_iff.1 h.2⟩]
    exact ⟨⟨rfl, rfl, rfl, rfl, rfl⟩, rfl, rfl, rfl⟩

/-- The count of deadlines since stage 2 (04 R85). -/
def countDeadline (s : State) : State := if 2 ≤ s.start.stage.toNat then s.updStart fun x => { x with deadlines := x.deadlines + 1 } else s

theorem countDeadline_deadlined (s : State) : Deadlined s (countDeadline s) ∧ (countDeadline s).start.stage = s.start.stage
    ∧ (countDeadline s).start.deadlines = (if 2 ≤ s.start.stage.toNat then s.start.deadlines + 1 else s.start.deadlines)
    ∧ (countDeadline s).start.power = s.start.power := by
  unfold countDeadline
  split
  · exact ⟨⟨rfl, rfl, rfl, rfl, rfl⟩, rfl, rfl, rfl⟩
  · exact ⟨⟨rfl, rfl, rfl, rfl, rfl⟩, rfl, rfl, rfl⟩

/-- The start, the solver array, the tide and the messages after the deadline mark (07 R204; 04 R84). -/
theorem solverDeadline_spec (k : TideMark) (rates : List (Option Nat)) (s : State) : let u := solverDeadline k rates s
    (∃ probs back busy done unmet, u.sol = (s.sol.atDeadline (markTime s k) s.clk.us).worked probs back busy done unmet)
      ∧ u.start.deadlines = (if 2 ≤ s.start.stage.toNat then s.start.deadlines + 1 else s.start.deadlines)
      ∧ u.start.stage = (if s.start.stage = 2 ∧ problemNums s = [] then 3 else s.start.stage) ∧ u.start.power = s.start.power
      ∧ u.tide = s.tide ∧ u.pair.images = s.pair.images
      ∧ (s.inPair = true → s.pair.linkUp = true → ∃ h, .health h ∈ u.pair.sent ∧ h.e0Tiles = s.place.e0Tiles) := by
  have reached := deadlineReached_solves (markTime s k) s
  have eq : solverDeadline k rates s = let w := stageAtDeadline (compareRates rates (countDeadline (deadlineReached (markTime s k) s)))
      if w.inPair then sendLink (.health (healthMessage w)) w else w := rfl
  rw [eq]
  generalize deadlineReached (markTime s k) s = d at reached ⊢
  obtain ⟨a, b, c, pair⟩ := reached.pair
  obtain ⟨counted, stage1, deadlines1, power1⟩ := countDeadline_deadlined d
  obtain ⟨compared, start2⟩ := compareRates_deadlined rates (countDeadline d)
  obtain ⟨staged, deadlines3, stage3, power3⟩ := stageAtDeadline_deadlined (compareRates rates (countDeadline d))
  have all := (counted.trans compared).trans staged
  have nums : problemNums (compareRates rates (countDeadline d)) = problemNums s := by
    unfold problemNums
    rw [compared.man, counted.man, reached.man]
    rfl
  have start : d.start = s.start := reached.start
  generalize stageAtDeadline (compareRates rates (countDeadline d)) = w at *
  have pair' : w.pair = s.pair.sends a b c := all.pair.trans pair
  have sent : let u := if w.inPair then sendLink (.health (healthMessage w)) w else w
      u.sol = w.sol ∧ u.start = w.start ∧ u.tide = w.tide ∧ u.pair.images = w.pair.images := by
    dsimp only
    split
    · exact ⟨sendLink_sol .., sendLink_start .., sendLink_tide .., sendLink_images ..⟩
    · exact ⟨rfl, rfl, rfl, rfl⟩
  dsimp only at sent ⊢
  obtain ⟨sol4, start4, tide4, images4⟩ := sent
  rw [sol4, start4, tide4, images4, all.sol, deadlines3, stage3, power3, nums, start2, deadlines1, stage1, power1, start, pair', all.tide]
  refine ⟨reached.sol, rfl, rfl, rfl, reached.tide, rfl, fun inPair up => ⟨healthMessage w, ?_, ?_⟩⟩
  · rw [if_pos (show w.inPair = true by unfold State.inPair; rw [all.man, reached.man]; exact inPair)]
    exact sendLink_mem (by rw [pair']; exact up)
  · exact all.e0.trans (congrArg Place.e0Tiles reached.place)

end Deadline

/-! ## Run-ahead -/

section Ahead

variable {s : State}

/-- The other problems stand as they were. -/
def othersStand (n : Nat) : Nat → Problem → Problem → Prop := fun m p q => m ≠ n → q = p

theorem othersStand_order (n : Nat) : Order (othersStand n) :=
  ⟨fun _ _ _ => rfl, fun _ _ _ _ h h' other => (h' other).trans (h other)⟩

theorem computePlacement_keeps (s : State) : (computePlacement s).start = s.start ∧ (computePlacement s).tide = s.tide
    ∧ (computePlacement s).pair.images = s.pair.images ∧ (computePlacement s).man = s.man := by
  unfold computePlacement
  split
  · exact ⟨rfl, rfl, rfl, rfl⟩
  · rename_i m man
    extract_lets t c base
    split
    · exact ⟨rfl, rfl, rfl, rfl⟩
    · split
      extract_lets u v x
      have hv : Solves anyWay u v := .foldl anyWay_order (fun s n _ => .raise anyWay_order 151 n) u
      have hx : Solves anyWay v x := .foldl anyWay_order (fun s a _ => iteInduction (motive := Solves anyWay s)
        (fun _ => .updProb anyWay_order a.1 _ trivial) fun _ => .refl anyWay_order) v
      have hu := Solves.trans anyWay_order hv hx
      split
      · exact ⟨hu.start, hu.tide, hu.images, hu.man⟩
      · exact ⟨hu.start, hu.tide, hu.images, hu.man⟩

theorem applyWaiting_solves (l : List (FrameSrc × Bytes)) (s : State) : Solves anyWay s (applyWaiting l s) := by
  unfold applyWaiting
  extract_lets u
  have frames : Solves anyWay s u := by
    refine .foldl anyWay_order (fun s x _ => ?_) s
    obtain ⟨src, b⟩ := x
    unfold applyFrame
    dsimp only
    generalize hv : s.updProb _ _ = v
    have entered : Solves anyWay s v := hv ▸ .updProb anyWay_order _ _ trivial
    split
    · exact entered
    · refine .trans anyWay_order (.trans anyWay_order entered ?_) (.raise anyWay_order 129 _)
      exact ⟨rfl, rfl, rfl, rfl, rfl, rfl, rfl, rfl, ⟨_, v.pair.held, _, rfl⟩, ⟨_, _, _, _, v.sol.outerNow.2.1, rfl⟩, fun _ h => h, fun _ => trivial⟩
    · exact .trans anyWay_order entered (.raise anyWay_order 129 _)
  refine .trans anyWay_order frames (.foldl anyWay_order (fun v n _ => ?_) u)
  unfold noteChange
  extract_lets a p
  exact iteInduction (motive := Solves anyWay v) (fun _ => .refl anyWay_order) fun _ => .updProb anyWay_order n _ trivial

theorem rescaleLive_solves (n : Nat) (t : Template) (s : State) : Solves (othersStand n) s (rescaleLive n t s) :=
  .updProb (othersStand_order n) n _ fun other => absurd rfl other

theorem startWork_solves (n : Nat) (w : Work) (prices : List (Int × Int)) (c : ProblemCfg) (t : Template) (s : State) :
    Solves (othersStand n) s (startWork n w prices c t s) := by
  unfold startWork
  extract_lets p
  split
  extract_lets u
  have begun : Solves (othersStand n) s u := .updProb (othersStand_order n) n _ fun other => absurd rfl other
  exact .trans (othersStand_order n) (.trans (othersStand_order n) begun (.updBack (othersStand_order n) fun b => Store.set [] b n []))
    (rescaleLive_solves ..)

theorem startAhead_solves (n : Nat) (s : State) : Solves (othersStand n) s (startAhead s n) := by
  refine .withProblem (othersStand_order n) fun c t _ => ?_
  split
  · exact .trans (othersStand_order n) (.updProb (othersStand_order n) n _ fun other => absurd rfl other) (startWork_solves ..)
  · exact .updProb (othersStand_order n) n _ fun other => absurd rfl other

/-- A problem without run-ahead is idle at the run-ahead start (08 R229). -/
def Problem.idles (p : Problem) : Prop := p.work = .idle ∧ p.ranAhead = false

theorem startAhead_idles {n : Nat} {c : ProblemCfg} {t : Template} (found : problemDef s n = some (c, t)) (never : c.runAhead = false) :
    ((startAhead s n).prob n).idles := by
  unfold startAhead withProblem
  rw [found]
  dsimp only
  rw [if_neg (by unfold aheadOk; rw [never]; exact Bool.false_ne_true), updProb_same]
  exact ⟨rfl, rfl⟩

theorem stopAtStart_halts (n : Nat) (s : State) : Solves (fun _ => Halts) s (stopAtStart s n) :=
  iteInduction (motive := Solves (fun _ => Halts) s) (fun _ => .withProblem halts_order fun c t _ => unitEnd_halts n c t) fun _ => .refl halts_order

theorem predictState_solves (n : Nat) (s : State) : Solves anyWay s (predictState s n) := by
  refine .withProblem anyWay_order fun c t _ => ?_
  split
  · exact .updProb anyWay_order n _ trivial
  · exact .refl anyWay_order

theorem takePrediction_solves (n : Nat) (s : State) : Solves anyWay s (takePrediction s n) := by
  refine .withProblem anyWay_order fun c t _ => ?_
  split
  · exact .updProb anyWay_order n _ trivial
  · exact .refl anyWay_order

/-- The state on which run-ahead starts: predictions made, the waiting frames applied, the rounds anew (06 R174; 07 R203). -/
def aheadReady (s : State) : State :=
  let ns := problemNums s
  let s := ns.foldl predictState s
  resetRounds (ns.foldl takePrediction (applyWaiting s.sol.waiting (s.updSol fun x => { x with waiting := [] })))

theorem runAheadWork_eq (s : State) :
    runAheadWork s = (problemNums s).foldl stopAtStart ((problemNums s).foldl startAhead (aheadReady s)) := rfl

theorem aheadReady_spec (s : State) : let r := aheadReady s
    r.start = s.start ∧ r.tide = s.tide ∧ r.pair.images = s.pair.images ∧ r.man = s.man ∧ r.sol.waiting = [] ∧ r.sol.rounds = [] := by
  unfold aheadReady
  extract_lets ns u
  have hu : Solves anyWay s u := .foldl anyWay_order (fun s n _ => predictState_solves n s) s
  have applied := applyWaiting_solves u.sol.waiting (u.updSol fun x => { x with waiting := [] })
  have taken : Solves anyWay _ (ns.foldl takePrediction (applyWaiting u.sol.waiting (u.updSol fun x => { x with waiting := [] }))) :=
    .foldl anyWay_order (fun s n _ => takePrediction_solves n s) _
  have both := Solves.trans anyWay_order applied taken
  exact ⟨both.start.trans hu.start, both.tide.trans hu.tide, both.images.trans hu.images, both.man.trans hu.man, both.bounds.waiting, rfl⟩

theorem runAheadWork_spec (s : State) : let u := runAheadWork s
    u.start = s.start ∧ u.tide = s.tide ∧ u.pair.images = s.pair.images ∧ u.sol.waiting = [] ∧ u.sol.rounds = []
      ∧ ∀ n ∈ problemNums s, ∀ c t, problemDef s n = some (c, t) → c.runAhead = false → (u.prob n).idles := by
  rw [runAheadWork_eq]
  obtain ⟨start, tide, images, man, waiting, rounds⟩ := aheadReady_spec s
  generalize aheadReady s = r at *
  have begun : Solves anyWay r ((problemNums s).foldl startAhead r) :=
    .foldl anyWay_order (fun s n _ => (startAhead_solves n s).weaken fun _ _ _ _ => trivial) r
  have stops : Solves (fun _ => Halts) _ ((problemNums s).foldl stopAtStart ((problemNums s).foldl startAhead r)) :=
    .foldl halts_order (fun s n _ => stopAtStart_halts n s) _
  have both := Solves.trans anyWay_order begun (stops.weaken fun _ _ _ _ => trivial)
  obtain ⟨_, _, _, _, _, sol⟩ := both.sol
  refine ⟨both.start.trans start, both.tide.trans tide, both.images.trans images, both.bounds.waiting.trans waiting,
    (congrArg Sol.rounds sol).trans rounds, fun n mem c t found never => ?_⟩
  have idle : (((problemNums s).foldl startAhead r).prob n).idles := by
    refine foldl_mem (I := fun v => problemDef v n = some (c, t)) (P := fun v => (v.prob n).idles) mem (fun v m found => ((startAhead_solves m v).defn n).trans found)
      (fun v found => startAhead_idles found never) (fun v m found idle => ?_) ?_
    · by_cases here : m = n
      · rw [here]
        exact startAhead_idles found never
      · rw [(startAhead_solves m v).each n (Ne.symm here)]
        exact idle
    · unfold problemDef problemCfg templateOf at found ⊢
      rw [man]
      exact found
  have halts := stops.each n
  exact ⟨halts.work.trans idle.1, halts.ahead idle.2⟩

theorem aheadActions_spec (s : State) : let u := aheadActions s
    u.start = s.start ∧ u.tide = s.tide ∧ u.pair.images = s.pair.images ∧ u.sol.waiting = [] ∧ u.sol.rounds = []
      ∧ ∀ n ∈ problemNums s, ∀ c t, problemDef s n = some (c, t) → c.runAhead = false → (u.prob n).idles := by
  obtain ⟨start, tide, images, man⟩ := computePlacement_keeps s
  obtain ⟨start', tide', images', waiting, rounds, idle⟩ := runAheadWork_spec (computePlacement s)
  refine ⟨start'.trans start, tide'.trans tide, images'.trans images, waiting, rounds, fun n mem c t found never => idle n ?_ c t ?_ never⟩
  · unfold problemNums at mem ⊢
    rw [man]
    exact mem
  · unfold problemDef problemCfg templateOf at found ⊢
    rw [man]
    exact found

end Ahead

end Sys2Proof.Machine
end

section
/-! SUPPORT. The delivery pass and the fix instant (07 R206 to R210; 08 R224 to R240). -/

namespace Sys2Proof.Machine

open Sys2Proof

/-! ## Recovery and projection -/

/-- A problem moved on its live set alone (07 R206; 08 R226). -/
def moves : Nat → Problem → Problem → Prop := fun _ p q => q = { p with live := q.live }

theorem moves_order : Order moves := ⟨fun _ _ => rfl, fun _ p q r h h' => by rw [moves] at *; rw [h', h]⟩

theorem projectLive_moves (s : State) (n : Nat) : Solves moves s (projectLive s n) :=
  .withProblem moves_order fun c t _ => .updProb moves_order n _ rfl

theorem adjustTerms_moves (down : Bool) (e : Int) (adj : List CTerm) (s0 s : State) : Solves moves s (adjustTerms down e adj s0 s) := by
  refine .foldl moves_order (fun s t _ => ?_) s
  dsimp only
  exact .updProb moves_order _ _ rfl

/-- The adjustable terms of a constraint moved so that it is met (08 R226). -/
def adjusted (s : State) (c : CConstraint) : State :=
  let u := toAcc c.fmtG c.upper
  let l := toAcc c.fmtG c.lower
  let g := couplingSum s c
  let adj := c.terms.filter fun t => t.recoverable && inSolve s t.problem
  if (c.upper != maxRaw) && decide (u < g) then adjustTerms true (g - u) adj s s
  else if (c.lower != -maxRaw) && decide (g < l) then adjustTerms false (l - g) adj s s else s

/-- A constraint is met by nothing that its terms can do (08 R226). -/
def unmet (s : State) (c : CConstraint) : Bool :=
  ((c.upper != maxRaw) && decide (toAcc c.fmtG c.upper < couplingSum s c))
    || ((c.lower != -maxRaw) && decide (couplingSum s c < toAcc c.fmtG c.lower))

theorem recoverOne_eq (s : State) (c : CConstraint) (k : Nat) : recoverOne s (c, k) = let v := adjusted s c
    if unmet v c then raise 135 (v.updSol fun x => { x with outerNow := (x.outerNow.1, x.outerNow.2.1 + 1, x.outerNow.2.2) }) k else v := rfl

theorem recoverOne_moves (s : State) (x : CConstraint × Nat) : Solves moves s (recoverOne s x) := by
  obtain ⟨c, k⟩ := x
  rw [recoverOne_eq]
  have met : Solves moves s (adjusted s c) := iteInduction (motive := Solves moves s) (fun _ => adjustTerms_moves ..) fun _ =>
    iteInduction (motive := Solves moves s) (fun _ => adjustTerms_moves ..) fun _ => .refl moves_order
  generalize adjusted s c = v at met ⊢
  refine iteInduction (motive := Solves moves s) (fun _ => ?_) fun _ => met
  refine .trans moves_order met (.trans moves_order ?_ (.raise moves_order 135 k))
  exact ⟨rfl, rfl, rfl, rfl, rfl, rfl, rfl, rfl, ⟨_, v.pair.held, _, rfl⟩, ⟨_, v.sol.back, _, _, _, rfl⟩, fun _ h => h, fun _ => rfl⟩

theorem recoverAll_moves (s : State) : Solves moves (s.updSol fun x => { x with recovered := true }) (recoverAll s) :=
  .foldl moves_order (fun s x _ => recoverOne_moves s x) _

/-! ## Delivery -/

section Delivery

variable {s : State}

/-- What a delivery leaves of a problem (07 R207). -/
structure Delivers (p q : Problem) : Prop where
  acc : q.acc = p.acc
  running : q.running = p.running

theorem delivers_order : Order fun _ => Delivers := ⟨fun _ _ => ⟨rfl, rfl⟩, fun _ _ _ _ h h' => ⟨h'.acc.trans h.acc, h'.running.trans h.running⟩⟩

theorem Delivers.of_moves {n : Nat} {p q : Problem} (h : moves n p q) : Delivers p q := by
  rw [moves] at h
  rw [h]
  exact ⟨rfl, rfl⟩

theorem deliverOne_solves (s : State) (n : Nat) : Solves (fun _ => Delivers) s (deliverOne s n) :=
  .withProblem delivers_order fun c t _ => .updProb delivers_order n _ ⟨rfl, rfl⟩

/-- The result that the delivery pass keeps for a problem. -/
def Problem.delivered (started : Bool) (p : Problem) : Prop :=
  p.pend.isSome = true ∧ (started = false → p.pend.map (fun r => (r.1.code, r.2)) = some (10, false))

theorem deliverOne_delivered {n : Nat} (found : (problemDef s n).isSome = true) : ((deliverOne s n).prob n).delivered s.sol.started := by
  obtain ⟨⟨c, t⟩, found⟩ := Option.isSome_iff_exists.1 found
  unfold deliverOne withProblem
  rw [found]
  dsimp only
  rw [updProb_same]
  refine ⟨rfl, fun idle => ?_⟩
  simp only [idle, Bool.not_false, if_true, Option.map_some]

theorem deliverOne_other {n m : Nat} (h : m ≠ n) : (deliverOne s n).prob m = s.prob m := by
  unfold deliverOne withProblem
  split
  · exact updProb_other h ..
  · rfl

theorem stopRest_idle {w : Work} (idle : ∀ n ∈ problemNums s, (s.prob n).running = false) : stopRest w s = s := by
  unfold stopRest
  generalize problemNums s = l at idle
  induction l with
  | nil => rfl
  | cons n l ih =>
    rw [List.foldl_cons, if_neg, ih fun m hm => idle m (List.mem_cons_of_mem _ hm)]
    rw [idle n (List.mem_cons_self ..)]
    exact Bool.false_ne_true

/-- A running outer loop ends with the delivery pass (08 R227). -/
def deliverEnd (s : State) : State :=
  match s.sol.outer with
  | some o => recoverAll (raise 136 (s.updSol fun x => { x with outer := none, outerNow := (o, 0, false) }))
  | none => s

/-- The state on which the results are delivered: projected, and recovered where the outer loop still runs (08 R227). -/
def deliverReady (s : State) : State :=
  deliverEnd (if s.sol.started then ((problemNums s).filter (inSolve s)).foldl projectLive s else s)

theorem deliverReady_spec (s : State) : let u := deliverReady s
    u.start = s.start ∧ u.tide = s.tide ∧ u.man = s.man ∧ u.pair.images = s.pair.images ∧ u.sol.fixing = s.sol.fixing ∧ u.sol.started = s.sol.started
      ∧ ∀ n, Delivers (s.prob n) (u.prob n) := by
  intro w
  have hu : Solves moves s (if s.sol.started then ((problemNums s).filter (inSolve s)).foldl projectLive s else s) := iteInduction (motive := Solves moves s)
    (fun _ => .foldl moves_order (fun s n _ => projectLive_moves s n) s) fun _ => .refl moves_order
  have reached : w = deliverEnd (if s.sol.started then ((problemNums s).filter (inSolve s)).foldl projectLive s else s) := rfl
  generalize (if s.sol.started then ((problemNums s).filter (inSolve s)).foldl projectLive s else s) = u at hu reached
  clear_value w
  have fixing : u.sol.fixing = s.sol.fixing := by
    obtain ⟨_, _, _, _, _, sol⟩ := hu.sol
    rw [sol]
    rfl
  have started : u.sol.started = s.sol.started := by
    obtain ⟨_, _, _, _, _, sol⟩ := hu.sol
    rw [sol]
    rfl
  have each : ∀ n, Delivers (s.prob n) (u.prob n) := fun n => .of_moves (hu.each n)
  obtain outer | ⟨o, outer⟩ := Option.eq_none_or_eq_some u.sol.outer
  · have eq : w = u := by
      rw [reached, deliverEnd, outer]
    rw [eq]
    exact ⟨hu.start, hu.tide, hu.man, hu.images, fixing, started, each⟩
  · have eq : w = recoverAll (raise 136 (u.updSol fun x => { x with outer := none, outerNow := (o, 0, false) })) := by
      rw [reached, deliverEnd, outer]
    rw [eq]
    have moved := recoverAll_moves (raise 136 (u.updSol fun x => { x with outer := none, outerNow := (o, 0, false) }))
    obtain ⟨_, _, _, _, _, sol⟩ := moved.sol
    refine ⟨moved.start.trans hu.start, moved.tide.trans hu.tide, moved.man.trans hu.man, moved.images.trans hu.images, ?_, ?_, fun n => ?_⟩
    · rw [sol]
      exact fixing
    · rw [sol]
      exact started
    · exact delivers_order.trans n _ _ _ (each n) (.of_moves (moved.each n))

/-- The delivery pass once every problem has stopped (07 R207). -/
theorem deliveryPass_spec (fixing : s.sol.fixing = true) (fresh : s.sol.delivered = false)
    (idle : ∀ n ∈ problemNums s, (s.prob n).running = false) : let u := deliveryPass s
    u.start = s.start ∧ u.pair.images = s.pair.images ∧ u.sol.delivered = true ∧ u.sol.fixing = true
      ∧ ∀ n ∈ problemNums s, (problemDef s n).isSome = true → (u.prob n).delivered s.sol.started ∧ (u.prob n).acc = (s.prob n).acc := by
  have run : deliveryPass s = ((problemNums (deliverReady s)).foldl deliverOne (deliverReady s)).updSol fun x => { x with delivered := true } := by
    unfold deliveryPass
    rw [if_neg (by rw [fixing, fresh]; exact Bool.false_ne_true), stopRest_idle idle, ite_self, if_neg]
    · rfl
    · rw [Bool.not_eq_true, List.any_eq_false]
      intro n mem
      rw [idle n mem]
      exact Bool.false_ne_true
  rw [run]
  obtain ⟨start, -, man, images, fixing', started, each⟩ := deliverReady_spec s
  generalize deliverReady s = v at *
  have done : Solves (fun _ => Delivers) v ((problemNums v).foldl deliverOne v) := .foldl delivers_order (fun s n _ => deliverOne_solves s n) v
  have nums : problemNums v = problemNums s := by
    unfold problemNums
    rw [man]
  refine ⟨done.start.trans start, done.images.trans images, rfl, ?_, fun n mem found => ⟨?_, ?_⟩⟩
  · obtain ⟨_, _, _, _, _, sol⟩ := done.sol
    show ((problemNums v).foldl deliverOne v).sol.fixing = true
    rw [sol]
    exact fixing'.trans fixing
  · refine foldl_mem (I := fun x => x.sol.started = s.sol.started ∧ (problemDef x n).isSome = true)
      (P := fun x => (x.prob n).delivered s.sol.started) (nums ▸ mem) (fun x m known => ?_) (fun x known => known.1 ▸ deliverOne_delivered known.2)
      (fun x m known kept => ?_) ⟨started, ?_⟩
    · have step := deliverOne_solves x m
      obtain ⟨_, _, _, _, _, sol⟩ := step.sol
      exact ⟨(congrArg Sol.started sol).trans known.1, (congrArg Option.isSome (step.defn n)).trans known.2⟩
    · by_cases here : n = m
      · rw [← here]
        exact known.1 ▸ deliverOne_delivered known.2
      · rw [deliverOne_other here]
        exact kept
    · unfold problemDef problemCfg templateOf at found ⊢
      rw [man]
      exact found
  · exact (done.each n).acc.trans (each n).acc

end Delivery

end Sys2Proof.Machine
end

section
/-! SUPPORT. The period's marks and the fix instant (01 R22; 07 R204 to R210; 08 R229 to R240). -/

namespace Sys2Proof.Machine

open Sys2Proof

/-! ## The fix instant -/

/-- What the digests of a unit keep (14 R403). -/
structure Digests (s u : State) : Prop where
  start : u.start = s.start
  sol : u.sol = s.sol
  man : u.man = s.man
  images : u.pair.images = s.pair.images
  raised : ∀ n, raisedIn s.evt.edge n → raisedIn u.evt.edge n

section Digest

variable {s u v : State}

theorem Digests.refl : Digests s s := ⟨rfl, rfl, rfl, rfl, fun _ h => h⟩

theorem Digests.trans (h : Digests s u) (h' : Digests u v) : Digests s v :=
  ⟨h'.start.trans h.start, h'.sol.trans h.sol, h'.man.trans h.man, h'.images.trans h.images, fun n r => h'.raised n (h.raised n r)⟩

theorem Digests.updPair (f : Pair → Pair) (images : (f s.pair).images = s.pair.images) : Digests s (s.updPair f) := ⟨rfl, rfl, rfl, images, fun _ h => h⟩

theorem leaveLockstep_digests (s : State) : Digests s (leaveLockstep s) :=
  iteInduction (motive := Digests s) (fun _ => ⟨rfl, rfl, rfl, rfl, fun _ h => raisedIn_raise_of _ _ _ _ h⟩) fun _ => .refl

theorem digestMismatch_digests (s : State) : Digests s (digestMismatch s) := by
  unfold digestMismatch
  extract_lets u v w
  have hu : Digests s u := ⟨rfl, rfl, rfl, rfl, fun _ h => raisedIn_raise_of _ _ _ _ h⟩
  have hv : Digests s v := hu.trans (leaveLockstep_digests u)
  split
  · exact iteInduction (motive := Digests s) (fun _ => hv.trans (.updPair _ rfl)) fun _ => hv
  · split
    · have hw : Digests s w := hu.trans (.updPair _ rfl)
      exact iteInduction (motive := Digests s) (fun _ => hw.trans (.updPair _ rfl)) fun _ => hw
    · exact hu

theorem sendLink_digests (m : LinkMsg) (s : State) : Digests s (sendLink m s) :=
  ⟨sendLink_start .., sendLink_sol .., sendLink_man .., sendLink_images .., fun n h => by rw [sendLink_evt]; exact h⟩

theorem ownDigest_digests (m : DigestMsg) (s : State) : Digests s (ownDigest m s) := by
  unfold ownDigest
  split
  · exact iteInduction (motive := Digests s) (fun _ => sendLink_digests ..) fun _ => .updPair _ rfl
  · split
    · extract_lets u
      have hu : Digests s u := sendLink_digests ..
      split
      · refine hu.trans (.trans (u := u.updPair fun p => { p with peer := p.peer.filter (fun x => !sameDigest m x) }) (.updPair _ rfl) ?_)
        unfold compareDigest
        extract_lets v
        exact iteInduction (motive := Digests _) (fun _ => .updPair _ rfl) fun _ => .trans (.updPair _ rfl) (digestMismatch_digests v)
      · exact hu.trans (.updPair _ rfl)
    · exact .refl

end Digest

/-- A problem's result becomes accepted (07 R207). -/
def Problem.fixed (p : Problem) : Problem :=
  match p.pend with
  | some (r, true) => { p with acc := r, live := p.acc.set, prev := true, pend := none, work := .idle, warm := false }
  | some (r, false) => { p with acc := r, pend := none, work := .idle, warm := false }
  | none => p

theorem Problem.fixed_pend (p : Problem) : p.fixed.pend = none := by
  unfold Problem.fixed
  split
  · rfl
  · rfl
  · assumption

theorem Problem.fixed_fixed (p : Problem) : p.fixed.fixed = p.fixed := by
  have done := p.fixed_pend
  generalize p.fixed = q at done ⊢
  unfold Problem.fixed
  rw [done]

/-- What a problem accepts at the fix instant (07 R207, R210). -/
theorem Problem.fixed_accepts {p : Problem} {r : SolResult} {b : Bool} (pend : p.pend = some (r, b)) :
    p.fixed.acc = r ∧ (b = true → p.fixed.live = p.acc.set) := by
  unfold Problem.fixed
  rw [pend]
  cases b
  · exact ⟨rfl, fun h => absurd h (by decide)⟩
  · exact ⟨rfl, fun _ => rfl⟩

theorem fixOne_eq (s : State) (n : Nat) : fixOne s n = s.updProb n Problem.fixed := rfl

/-- The results of all problems become accepted. -/
theorem fixAll_spec (l : List Nat) (s : State) : Solves anyWay s (l.foldl fixOne s) ∧ ∀ n ∈ l, (l.foldl fixOne s).prob n = (s.prob n).fixed := by
  refine ⟨.foldl anyWay_order (fun s n _ => .updProb anyWay_order n _ trivial) s, fun n mem => ?_⟩
  refine foldl_mem (I := fun u => u.prob n = s.prob n ∨ u.prob n = (s.prob n).fixed) (P := fun u => u.prob n = (s.prob n).fixed) mem
    (fun u m known => ?_) (fun u known => ?_) (fun u m _ done => ?_) (.inl rfl)
  · rw [fixOne_eq]
    by_cases here : n = m
    · rw [← here, updProb_same]
      obtain fresh | done := known
      · exact .inr (congrArg Problem.fixed fresh)
      · exact .inr ((congrArg Problem.fixed done).trans (Problem.fixed_fixed _))
    · rw [updProb_other here]
      exact known
  · rw [fixOne_eq, updProb_same]
    obtain fresh | done := known
    · exact congrArg Problem.fixed fresh
    · exact (congrArg Problem.fixed done).trans (Problem.fixed_fixed _)
  · rw [fixOne_eq]
    by_cases here : n = m
    · rw [← here, updProb_same]
      exact (congrArg Problem.fixed done).trans (Problem.fixed_fixed _)
    · rw [updProb_other here]
      exact done

/-- The number of problems whose accepted result is not good (06 R184). -/
def badResults (s : State) : Nat := ((problemNums s).filter fun n => !goodCode (s.prob n).acc.code).length

/-- What the fix instant keeps once the results are accepted. -/
structure Accepts (s u : State) : Prop where
  probs : u.sol.probs = s.sol.probs
  fixes : u.sol.fixes = s.sol.fixes
  fixing : u.sol.fixing = s.sol.fixing
  delivered : u.sol.delivered = s.sol.delivered
  started : u.sol.started = s.sol.started
  notGood : u.sol.notGood = s.sol.notGood
  ahead : u.sol.aheadLater = s.sol.aheadLater
  commit : u.sol.commitLater = s.sol.commitLater
  images : u.pair.images = s.pair.images
  power : u.start.power = s.start.power
  raised : ∀ n, raisedIn s.evt.edge n → raisedIn u.evt.edge n

theorem Accepts.trans {s u v : State} (h : Accepts s u) (h' : Accepts u v) : Accepts s v :=
  ⟨h'.probs.trans h.probs, h'.fixes.trans h.fixes, h'.fixing.trans h.fixing, h'.delivered.trans h.delivered, h'.started.trans h.started,
    h'.notGood.trans h.notGood, h'.ahead.trans h.ahead, h'.commit.trans h.commit, h'.images.trans h.images, h'.power.trans h.power,
    fun n r => h'.raised n (h.raised n r)⟩

theorem Digests.accepts {s u : State} (h : Digests s u) : Accepts s u :=
  ⟨congrArg _ h.sol, congrArg _ h.sol, congrArg _ h.sol, congrArg _ h.sol, congrArg _ h.sol, congrArg _ h.sol, congrArg _ h.sol, congrArg _ h.sol,
    h.images, congrArg _ h.start, h.raised⟩

theorem nextPhase_accepts (s : State) : Accepts s (nextPhase s) := ⟨rfl, rfl, rfl, rfl, rfl, rfl, rfl, rfl, rfl, rfl, fun _ h => h⟩

theorem stageAtFix_accepts (good : Bool) (s : State) : Accepts s (stageAtFix good s)
    ∧ (stageAtFix good s).start.stage = if s.start.stage = 2 ∧ good = true then 3 else s.start.stage := by
  have same : Accepts s s := ⟨rfl, rfl, rfl, rfl, rfl, rfl, rfl, rfl, rfl, rfl, fun _ h => h⟩
  unfold stageAtFix
  split
  · rename_i two
    cases good with
    | true =>
      rw [if_pos rfl, if_pos ⟨two, rfl⟩, setStage, if_neg (by rw [two]; decide)]
      exact ⟨⟨rfl, rfl, rfl, rfl, rfl, rfl, rfl, rfl, rfl, rfl, fun _ h => raisedIn_raise_of _ _ _ _ h⟩, rfl⟩
    | false =>
      simp only [Bool.false_eq_true, and_false, if_false]
      split
      · exact ⟨⟨rfl, rfl, rfl, rfl, rfl, rfl, rfl, rfl, rfl, rfl, fun _ h => raisedIn_raise_of _ _ _ _ h⟩, rfl⟩
      · exact ⟨same, rfl⟩
  · rename_i other
    rw [if_neg fun h => other h.1]
    exact ⟨same, rfl⟩

theorem beginCheckpoint_accepts (s : State) : Accepts s (beginCheckpoint s) ∧ (beginCheckpoint s).start = s.start := by
  unfold beginCheckpoint
  split
  · exact ⟨⟨rfl, rfl, rfl, rfl, rfl, rfl, rfl, rfl, rfl, rfl, fun _ h => h⟩, rfl⟩
  · exact ⟨⟨rfl, rfl, rfl, rfl, rfl, rfl, rfl, rfl, rfl, rfl, fun _ h => h⟩, rfl⟩

/-- The state in which the results are accepted, before what follows from it. -/
def accepted (s : State) : State :=
  let ns := problemNums s
  let live := ns.any fun n => match (s.prob n).pend with
    | some (_, b) => b
    | none => false
  let older := keepOlder s
  let s := ns.foldl fixOne s
  let bad := (ns.filter fun n => !goodCode (s.prob n).acc.code).length
  let s := s.updSol fun x =>
    { x with older := older, fixes := x.marks, fixing := false, delivered := false
             cycle := (x.mark.map (·.1.cycle.setWidth 32)).getD 0, notGood := bad
             accPrices := if x.started then x.prices else x.accPrices
             outerAcc := if x.started then x.outerNow else x.outerAcc
             liveFixed := x.liveFixed || live, started := false }
  let s := s.updScan fun x =>
    { x with tasks := x.tasks.map fun (n, k) => (n, { k with run := k.run.map fun r => { r with waitFix := false } }) }
  raise 134 s

theorem fixResults_eq (s : State) : fixResults s = let u := accepted s
    beginCheckpoint (stageAtFix (u.sol.notGood == 0 && !(problemNums s).isEmpty) (nextPhase (ownDigest (fixDigest u) u))) := rfl

theorem accepted_spec (s : State) : let u := accepted s
    u.sol.fixes = s.sol.marks ∧ u.sol.fixing = false ∧ u.sol.delivered = false ∧ u.sol.started = false ∧ u.sol.aheadLater = s.sol.aheadLater
      ∧ u.sol.commitLater = s.sol.commitLater ∧ u.pair.images = s.pair.images ∧ u.start = s.start ∧ raisedIn u.evt.edge 134
      ∧ ∀ n ∈ problemNums s, u.prob n = (s.prob n).fixed := by
  obtain ⟨all, each⟩ := fixAll_spec (problemNums s) s
  obtain ⟨_, _, _, _, _, sol⟩ := all.sol
  have marks : ((problemNums s).foldl fixOne s).sol.marks = s.sol.marks := by rw [sol]; rfl
  have ahead : ((problemNums s).foldl fixOne s).sol.aheadLater = s.sol.aheadLater := by rw [sol]; rfl
  have commit : ((problemNums s).foldl fixOne s).sol.commitLater = s.sol.commitLater := by rw [sol]; rfl
  exact ⟨marks, rfl, rfl, rfl, ahead, commit, all.images, all.start, raisedIn_raise .., each⟩

theorem lateFix_digests (s : State) : Digests s (lateFix s) := by
  unfold lateFix
  split
  · exact iteInduction (motive := Digests s) (fun _ => leaveLockstep_digests s) fun _ => .refl
  · exact .refl

/-- What follows once the digest of a fix is sent (07 R207; 04 R85). -/
theorem afterDigest_spec {s a d : State} (digest : Digests a d) (start : a.start = s.start) :
    let u := beginCheckpoint (stageAtFix (a.sol.notGood == 0 && !(problemNums s).isEmpty) (nextPhase d))
    Accepts a u ∧ u.start.stage = (if s.start.stage = 2 ∧ u.sol.notGood = 0 ∧ problemNums s ≠ [] then 3 else s.start.stage) := by
  obtain ⟨staged, stage⟩ := stageAtFix_accepts (a.sol.notGood == 0 && !(problemNums s).isEmpty) (nextPhase d)
  obtain ⟨begun, start'⟩ := beginCheckpoint_accepts (stageAtFix (a.sol.notGood == 0 && !(problemNums s).isEmpty) (nextPhase d))
  have all := ((digest.accepts.trans (nextPhase_accepts d)).trans staged).trans begun
  refine ⟨all, ?_⟩
  rw [all.notGood, start', stage, show (nextPhase d).start.stage = s.start.stage from congrArg Start.stage (digest.start.trans start)]
  refine ite_congr (propext ?_) (fun _ => rfl) fun _ => rfl
  rw [Bool.and_eq_true, beq_iff_eq, Bool.not_eq_true', List.isEmpty_eq_false_iff]

/-- What follows from accepted results (07 R207; 04 R85). -/
theorem fixResults_spec (s : State) : Accepts (accepted s) (fixResults s)
    ∧ (fixResults s).start.stage = (if s.start.stage = 2 ∧ (fixResults s).sol.notGood = 0 ∧ problemNums s ≠ [] then 3 else s.start.stage) := by
  rw [fixResults_eq]
  exact afterDigest_spec (ownDigest_digests _ _) (accepted_spec s).2.2.2.2.2.2.2.1

/-- The fix instant where no run-ahead start and no boundary work waits for it (07 R207; 04 R85). -/
theorem resultsFixed_spec {s : State} (fixing : s.sol.fixing = true) (delivered : s.sol.delivered = true) (ahead : s.sol.aheadLater = false)
    (commit : s.sol.commitLater = none) : let u := resultsFixed s
    u.sol.fixes = s.sol.marks ∧ u.sol.fixing = false ∧ u.sol.delivered = false ∧ u.sol.started = false ∧ raisedIn u.evt.edge 134
      ∧ u.pair.images = s.pair.images ∧ u.start.power = s.start.power
      ∧ (∀ n ∈ problemNums s, u.prob n = (s.prob n).fixed)
      ∧ u.start.stage = (if s.start.stage = 2 ∧ u.sol.notGood = 0 ∧ problemNums s ≠ [] then 3 else s.start.stage) := by
  have late := lateFix_digests s
  have nums : problemNums (lateFix s) = problemNums s := by
    unfold problemNums
    rw [late.man]
  have prob (n : Nat) : (lateFix s).prob n = s.prob n := congrArg (fun x : Sol => Store.get ({} : Problem) x.probs n) late.sol
  obtain ⟨fixes, fixing', delivered', started, ahead', commit', images, start, raised, each⟩ := accepted_spec (lateFix s)
  obtain ⟨all, stage⟩ := fixResults_spec (lateFix s)
  have run : resultsFixed s = fixResults (lateFix s) := by
    unfold resultsFixed
    rw [fixing, delivered, Bool.and_true, if_pos rfl]
    dsimp only
    rw [all.ahead, ahead', late.sol, ahead, if_neg Bool.false_ne_true]
    unfold resumeBoundary
    rw [all.commit, commit', late.sol, commit]
  rw [run]
  generalize fixResults (lateFix s) = u at *
  rw [nums, late.start] at stage
  refine ⟨all.fixes.trans (fixes.trans (congrArg Sol.marks late.sol)), all.fixing.trans fixing', all.delivered.trans delivered',
    all.started.trans started, all.raised _ raised, all.images.trans (images.trans late.images),
    all.power.trans (congrArg Start.power (start.trans late.start)), fun n mem => ?_, stage⟩
  have same : u.prob n = (accepted (lateFix s)).prob n := congrArg (fun x => Store.get ({} : Problem) x n) all.probs
  rw [same, each n (nums ▸ mem), prob]

end Sys2Proof.Machine
end

section
/-! SUPPORT. The optimisation period's marks, delivery, fix instant, checkpoints and host access (01 R22; 06 R172, R183; 07 R204 to
R210; 08 R229 to R240). -/

namespace Sys2Proof.Machine

open Sys2Proof

section Clauses

variable {s : State} (h : Calm s)
include h

theorem gives_periodBoundary (m : BitVec 8) (k : TideMark) (u : State) (fires : fireMark m.toNat 1 (clearSent s) = some (k, u)) :
    Gives (.optimisationPeriodBoundary m) s fun t =>
      (t.sol.opened = true ∧ t.sol.waiting = s.sol.waiting ∧ t.sol.handed = (s.sol.handed || s.sol.liveFixed) ∧ t.place.next = none
        ∧ t.place.cur = s.place.next.getD s.place.cur ∧ (s.place.next.isSome = true → t.evt.pend.getLsbD 148 = true)
        ∧ t.start = s.start)
      ∧ t.tide.fired = u.tide.fired ∧ t.tide.cycle = s.tide.cycle := by
  have fired := fireMark_fired fires
  obtain ⟨start, tide, images, opened, waiting, handed, next, cur, raised⟩ := periodBoundary_spec u
  refine gives_mark h fires rfl rfl ((fired.calm h).of_same start images) fun t ended => ?_
  rw [ended.sol, ended.place, ended.start, ended.tide, start, tide, opened, waiting, handed, next, cur, fired.start, fired.sol, fired.place,
    fired.cycle, clearSent_start, clearSent_sol, clearSent_place, clearSent_tide]
  refine ⟨⟨rfl, rfl, rfl, rfl, rfl, fun pending => ended.pend 148 (by decide) (raised ?_), rfl⟩, rfl, rfl⟩
  rw [fired.place, clearSent_place]
  exact pending

theorem gives_runAheadStart (m : BitVec 8) (k : TideMark) (u : State) (fires : fireMark m.toNat 5 (clearSent s) = some (k, u)) :
    Gives (.runAheadStart m) s fun t =>
      (t.start = s.start ∧ (s.sol.fixing = true → t.sol.aheadLater = true ∧ t.sol.waiting = s.sol.waiting)
        ∧ (s.sol.fixing = false → t.sol.waiting = [] ∧ t.sol.rounds = [] ∧ ∀ n ∈ problemNums s, ∀ c d,
          problemDef s n = some (c, d) → c.runAhead = false → (t.prob n).work = .idle ∧ (t.prob n).ranAhead = false))
      ∧ t.tide.fired = u.tide.fired ∧ t.tide.cycle = s.tide.cycle := by
  have fired := fireMark_fired fires
  have sol : u.sol = s.sol := fired.sol.trans (clearSent_sol s)
  have start' : u.start = s.start := fired.start.trans (clearSent_start s)
  have cycle : u.tide.cycle = s.tide.cycle := by rw [fired.cycle, clearSent_tide]
  cases fixing : s.sol.fixing with
  | true =>
    have run : runAheadStart u = u.updSol fun x => { x with aheadLater := true } := if_pos ((congrArg Sol.fixing sol).trans fixing)
    refine gives_mark h (v := u.updSol fun x => { x with aheadLater := true }) fires rfl run ((fired.calm h).of_same rfl rfl) fun t ended => ?_
    rw [ended.sol, ended.start, ended.tide]
    exact ⟨⟨start', fun _ => ⟨rfl, (congrArg Sol.waiting sol : u.sol.waiting = s.sol.waiting)⟩, fun h => absurd h (by decide)⟩, rfl, cycle⟩
  | false =>
    have run : runAheadStart u = aheadActions u := if_neg (by rw [sol, fixing]; exact Bool.false_ne_true)
    obtain ⟨start, tide, images, waiting, rounds, idle⟩ := aheadActions_spec u
    refine gives_mark h fires rfl run ((fired.calm h).of_same start images) fun t ended => ?_
    have prob (n : Nat) : t.prob n = (aheadActions u).prob n := congrArg (fun x : Sol => Store.get ({} : Problem) x.probs n) ended.sol
    have man : u.man = s.man := fired.man.trans (clearSent_man s)
    rw [ended.sol, ended.start, ended.tide, start, tide, waiting, rounds]
    refine ⟨⟨start', fun h => absurd h (by decide), fun _ => ⟨rfl, rfl, fun n mem c d found never => ?_⟩⟩, rfl, cycle⟩
    rw [prob]
    refine idle n ?_ c d ?_ never
    · unfold problemNums at mem ⊢
      rw [man]
      exact mem
    · unfold problemDef problemCfg templateOf at found ⊢
      rw [man]
      exact found

theorem gives_solverDeadline (rates : List (Option Nat)) (m : BitVec 8) (k : TideMark) (u : State)
    (fires : fireMark m.toNat 6 (clearSent s) = some (k, u)) : Gives (.solverDeadline m rates) s fun t =>
      (t.sol.marks = s.sol.marks + 1 ∧ t.sol.mark = some (markTime u k, u.clk.us) ∧ t.sol.fixing = true ∧ t.sol.delivered = false
        ∧ t.sol.opened = false
        ∧ t.start.deadlines = (if 2 ≤ s.start.stage.toNat then s.start.deadlines + 1 else s.start.deadlines)
        ∧ t.start.stage = (if s.start.stage = 2 ∧ problemNums s = [] then 3 else s.start.stage)
        ∧ (s.inPair = true → s.pair.linkUp = true → ∃ h, .health h ∈ t.pair.sent ∧ h.e0Tiles = s.place.e0Tiles))
      ∧ t.tide.fired = u.tide.fired ∧ t.tide.cycle = s.tide.cycle := by
  have fired := fireMark_fired fires
  obtain ⟨⟨_, _, _, _, _, sol⟩, deadlines, stage, power, tide, images, sent⟩ := solverDeadline_spec k rates u
  have man : u.man = s.man := fired.man.trans (clearSent_man s)
  have pair : u.pair = (clearSent s).pair := fired.pair
  have calm := fired.calm h
  have calm' : Calm (solverDeadline k rates u) := ⟨power.trans calm.on, images.trans calm.images⟩
  refine gives_mark h fires rfl rfl calm' fun t ended => ?_
  have nums : problemNums u = problemNums s := by
    unfold problemNums
    rw [man]
  rw [ended.sol, ended.start, ended.tide, sol, deadlines, stage, tide, nums, fired.start, clearSent_start, fired.cycle, clearSent_tide]
  refine ⟨⟨congrArg (fun x : Sol => x.marks + 1) (fired.sol.trans (clearSent_sol s)), rfl, rfl, rfl, rfl, rfl, rfl, fun inPair up => ?_⟩, rfl, rfl⟩
  obtain ⟨a, b, c, cleared⟩ := clearSent_eq s
  obtain ⟨x, mem, e0⟩ := sent (by unfold State.inPair; rw [man]; exact inPair) (by rw [pair, cleared]; exact up)
  exact ⟨x, ended.sent _ mem, e0.trans (congrArg Place.e0Tiles (fired.place.trans (clearSent_place s)))⟩

theorem gives_deliveryPass (fixing : s.sol.fixing = true) (fresh : s.sol.delivered = false)
    (idle : ∀ n ∈ problemNums s, (s.prob n).running = false) : Gives .deliveryPass s fun t =>
      t.sol.delivered = true ∧ t.sol.fixing = true ∧ t.start = s.start
        ∧ ∀ n ∈ problemNums s, (problemDef s n).isSome = true → (t.prob n).pend.isSome = true
          ∧ (s.sol.started = false → (t.prob n).pend.map (fun r => (r.1.code, r.2)) = some (10, false))
          ∧ (t.prob n).acc = (s.prob n).acc := by
  obtain ⟨a, b, c, cleared⟩ := clearSent_eq s
  have calm : Calm (s.updPair fun p => p.sends a b c) := cleared ▸ h.clear
  obtain ⟨start, images, delivered, fixing', each⟩ := deliveryPass_spec (s := s.updPair fun p => p.sends a b c) fixing fresh idle
  refine h.gives_from cleared rfl rfl (calm.of_same start images) fun t ended => ?_
  have prob (n : Nat) : t.prob n = (deliveryPass (s.updPair fun p => p.sends a b c)).prob n :=
    congrArg (fun x : Sol => Store.get ({} : Problem) x.probs n) ended.sol
  rw [ended.sol, ended.start]
  refine ⟨delivered, fixing', start, fun n mem found => ?_⟩
  obtain ⟨⟨some, none⟩, acc⟩ := each n mem found
  rw [prob]
  exact ⟨some, none, acc⟩

theorem gives_resultsFixed (fixing : s.sol.fixing = true) (delivered : s.sol.delivered = true) (ahead : s.sol.aheadLater = false)
    (commit : s.sol.commitLater = none) : Gives .resultsFixed s fun t =>
      t.sol.fixes = s.sol.marks ∧ t.sol.fixing = false ∧ t.sol.delivered = false
        ∧ t.sol.started = false ∧ t.evt.pend.getLsbD 134 = true
        ∧ (∀ n ∈ problemNums s, (t.prob n).pend = none
          ∧ ∀ r b, (s.prob n).pend = some (r, b) → (t.prob n).acc = r ∧ (b = true → (t.prob n).live = (s.prob n).acc.set))
        ∧ t.start.stage = (if s.start.stage = 2 ∧ t.sol.notGood = 0 ∧ problemNums s ≠ [] then 3 else s.start.stage) := by
  obtain ⟨a, b, c, cleared⟩ := clearSent_eq s
  have calm : Calm (s.updPair fun p => p.sends a b c) := cleared ▸ h.clear
  obtain ⟨fixes, fixing', delivered', started, raised, images, power, each, stage⟩ :=
    resultsFixed_spec (s := s.updPair fun p => p.sends a b c) fixing delivered ahead commit
  refine h.gives_from cleared rfl rfl ⟨power.trans calm.on, images.trans calm.images⟩ fun t ended => ?_
  have prob (n : Nat) : t.prob n = (resultsFixed (s.updPair fun p => p.sends a b c)).prob n :=
    congrArg (fun x : Sol => Store.get ({} : Problem) x.probs n) ended.sol
  rw [ended.sol, ended.start]
  refine ⟨fixes, fixing', delivered', started, ended.pend 134 (by decide) raised, fun n mem => ?_, stage⟩
  have fixed : t.prob n = (s.prob n).fixed := (prob n).trans (each n mem)
  rw [fixed]
  exact ⟨Problem.fixed_pend _, fun r b pend => Problem.fixed_accepts pend⟩

/-- The slot that a complete checkpoint is written to, and its sequence (08 R236). -/
def Mram.checkpointed (m : Mram) (d : Checkpoint) : Mram :=
  match newestCheckpoint m with
  | none => { m with ck0 := some { d with seq := 1 } }
  | some (k, true) => { m with ck0 := some { d with seq := k.seq + 1 } }
  | some (k, false) => { m with ck1 := some { d with seq := k.seq + 1 } }

omit h in
theorem checkpointDone_eq {d : Checkpoint} (draft : s.sol.draft = some d) :
    checkpointDone s = raise 137 ((s.updMram fun m => m.checkpointed d).updSol fun x => { x with draft := none }) := by
  unfold checkpointDone Mram.checkpointed
  rw [draft]
  dsimp only [State.updMram]
  cases newestCheckpoint s.mram with
  | none => rfl
  | some k =>
    obtain ⟨k, one⟩ := k
    cases one <;> rfl

theorem gives_checkpointDone {d : Checkpoint} (draft : s.sol.draft = some d) : Gives .checkpointDone s fun t =>
    t.sol.draft = none ∧ t.evt.pend.getLsbD 137 = true ∧ t.start = s.start
      ∧ t.mram.ck0 = (s.mram.checkpointed d).ck0 ∧ t.mram.ck1 = (s.mram.checkpointed d).ck1 := by
  obtain ⟨a, b, c, cleared⟩ := clearSent_eq s
  have calm : Calm (s.updPair fun p => p.sends a b c) := cleared ▸ h.clear
  have run := checkpointDone_eq (s := s.updPair fun p => p.sends a b c) draft
  refine h.gives_from cleared rfl run (calm.of_same rfl rfl) fun t ended => ?_
  rw [ended.sol, ended.start]
  exact ⟨rfl, ended.pend 137 (by decide) (raisedIn_raise ..), rfl, congrArg (fun q : Still => q.mram.ck0) ended.still,
    congrArg (fun q : Still => q.mram.ck1) ended.still⟩

omit h in
/-- A rejected frame is counted and raised (06 R168, R184). -/
theorem rejectDelta_spec (n k : Nat) (u : State) : let v := rejectDelta n k u
    v.start = u.start ∧ v.pair.images = u.pair.images ∧ v.sol.hdReason = u.sol.hdReason ∧ v.sol.hdBusy = u.sol.hdBusy ∧ v.sol.host = u.sol.host
      ∧ v.sol.rejAll = u.sol.rejAll + 1 ∧ raisedIn v.evt.edge 128 := by
  unfold rejectDelta
  dsimp only
  split
  · exact ⟨rfl, rfl, rfl, rfl, rfl, rfl, raisedIn_raise ..⟩
  · exact ⟨rfl, rfl, rfl, rfl, rfl, rfl, raisedIn_raise ..⟩

theorem gives_submit (p : Path) :
    let b := Store.getMany 0 s.sol.hdBuf 0 (8 + 8 * min (fld (Store.getMany 0 s.sol.hdBuf 4 2) 0 2) 4096)
    let r := deltaReason s b 32776 true
    (s.sol.hdBusy = true → Gives (.submit p) s fun t => t.sol = s.sol ∧ t.start = s.start)
    ∧ (s.sol.hdBusy = false → r = 0 → Gives (.submit p) s fun t =>
      t.sol = { s.sol with hdBusy := true, hdDone := false, hdReason := 0, host := some (frameOf b), hostSent := false } ∧ t.start = s.start)
    ∧ (s.sol.hdBusy = false → r ≠ 0 → Gives (.submit p) s fun t => t.sol.hdReason = BitVec.ofNat 8 r ∧ t.sol.hdBusy = false
      ∧ t.sol.host = s.sol.host ∧ t.sol.rejAll = s.sol.rejAll + 1 ∧ t.evt.pend.getLsbD 128 = true ∧ t.start = s.start) := by
  intro b r
  obtain ⟨x, y, z, cleared⟩ := clearSent_eq s
  have calm : Calm (s.updPair fun p => p.sends x y z) := cleared ▸ h.clear
  have reason : deltaReason (s.updPair fun p => p.sends x y z) b 32776 true = r := rfl
  refine ⟨fun busy => ?_, fun free good => ?_, fun free bad => ?_⟩
  · have run : submitHost (s.updPair fun p => p.sends x y z) = _ := if_pos busy
    refine h.gives_from cleared rfl run calm fun t ended => ?_
    rw [ended.sol, ended.start]
    exact ⟨rfl, rfl⟩
  · have run : submitHost (s.updPair fun p => p.sends x y z) = (s.updPair fun p => p.sends x y z).updSol fun x =>
        { x with hdBusy := true, hdDone := false, hdReason := 0, host := some (frameOf b), hostSent := false } :=
      (if_neg (ne_true_of_eq_false free)).trans (if_pos good)
    refine h.gives_from cleared rfl run (calm.of_same rfl rfl) fun t ended => ?_
    rw [ended.sol, ended.start]
    exact ⟨rfl, rfl⟩
  · have run : submitHost (s.updPair fun p => p.sends x y z) = rejectDelta (fld b 0 2) r ((s.updPair fun p => p.sends x y z).updSol fun x =>
        { x with hdReason := BitVec.ofNat 8 r }) := (if_neg (ne_true_of_eq_false free)).trans (if_neg bad)
    obtain ⟨start, images, reason, busy, host, count, raised⟩ := rejectDelta_spec (fld b 0 2) r
      ((s.updPair fun p => p.sends x y z).updSol fun x => { x with hdReason := BitVec.ofNat 8 r })
    refine h.gives_from cleared rfl run (calm.of_same start images) fun t ended => ?_
    rw [ended.sol, ended.start]
    exact ⟨reason, busy.trans free, host, count, ended.pend 128 (by decide) raised, start⟩

theorem gives_solVdataRead (p : Path) : Gives (.solVdataRead p) s fun t => t.sol = s.sol ∧ (t.path p).out = [solVdata s (s.path p)]
    ∧ (t.path p).solV = (if (s.path p).solV.getLsbD 27 then ((s.path p).solV &&& 0xFFFC0000)
      ||| BitVec.ofNat 32 (((s.path p).solV.toNat % 2 ^ 18 + 1) % 2 ^ 18) else (s.path p).solV) := by
  have calm' : Calm (readSolVdata p (clearSent s)) := h.clear.of_same (State.updPath_start ..) (congrArg Pair.images (State.updPath_pair ..))
  refine .of_actOn rfl h.on ?_
  have word : solVdata (clearSent s) (s.path p) = solVdata s (s.path p) := by
    obtain ⟨a, b, c, cleared⟩ := clearSent_eq s
    rw [cleared]
    rfl
  rw [calm'.ended.sol, settle_path, readSolVdata, updPath_path, clearSent_path, word, State.updPath_sol, clearSent_sol]
  refine ⟨rfl, rfl, ?_⟩
  unfold solVnext fieldOf
  rw [Nat.pow_zero, Nat.div_one]
  split <;> rfl

end Clauses

/-- Settles O57: the period's marks, delivery, the fix instant, checkpoints, and the host's access to vectors. -/
theorem periodMarksAndFix : Obligations.PeriodMarksAndFix := by
  intro s h x fired
  refine ⟨gives_periodBoundary h, gives_runAheadStart h, gives_solverDeadline h, gives_deliveryPass h, gives_resultsFixed h, fun d draft => ?_,
    fun p => ?_⟩
  · obtain ⟨t, e, done, raised, start, ck0, ck1⟩ := gives_checkpointDone h draft
    refine ⟨t, e, done, raised, start, ?_⟩
    rw [ck0, ck1, Mram.checkpointed]
    cases newestCheckpoint s.mram with
    | none => exact ⟨rfl, rfl⟩
    | some k =>
      obtain ⟨k, one⟩ := k
      cases one
      · exact ⟨rfl, rfl⟩
      · exact ⟨rfl, rfl⟩
  · obtain ⟨busy, good, bad⟩ := gives_submit h p
    exact ⟨busy, good, bad, gives_solVdataRead h p⟩

end Sys2Proof.Machine
end

section
/-! SUPPORT. One iteration, one factor step, and one outer iteration (07 R187 to R205; 08 R223 to R227). -/

namespace Sys2Proof.Machine

open Sys2Proof

/-! ## What work units keep -/

/-- A state after work in the turns of the problems: what each problem keeps is `R`; the rounds go on. -/
structure Turns (R : Nat → Problem → Problem → Prop) (s u : State) : Prop where
  start : u.start = s.start
  man : u.man = s.man
  place : u.place = s.place
  scan : u.scan = s.scan
  images : u.pair.images = s.pair.images
  commit : u.sol.commitLater = s.sol.commitLater
  each : ∀ n, R n (s.prob n) (u.prob n)

section Rules

variable {R : Nat → Problem → Problem → Prop} {s u v : State}

theorem Solves.turns (h : Solves R s u) : Turns R s u := by
  obtain ⟨_, _, _, _, _, sol⟩ := h.sol
  exact ⟨h.start, h.man, h.place, h.scan, h.images, by rw [sol]; rfl, h.each⟩

theorem Turns.trans (o : Order R) (h : Turns R s u) (h' : Turns R u v) : Turns R s v :=
  ⟨h'.start.trans h.start, h'.man.trans h.man, h'.place.trans h.place, h'.scan.trans h.scan, h'.images.trans h.images,
    h'.commit.trans h.commit, fun n => o.trans n _ _ _ (h.each n) (h'.each n)⟩

theorem Turns.weaken {R' : Nat → Problem → Problem → Prop} (h : Turns R s u) (le : ∀ n p q, R n p q → R' n p q) : Turns R' s u :=
  ⟨h.start, h.man, h.place, h.scan, h.images, h.commit, fun n => le n _ _ (h.each n)⟩

theorem updRounds_turns (o : Order R) (n : Nat) (f : Rounds → Rounds) : Turns R s (s.updRounds n f) :=
  ⟨rfl, rfl, rfl, rfl, rfl, rfl, fun m => o.refl m _⟩

theorem closeRound_turns (o : Order R) (n : Nat) : Turns R s (closeRound n s) := by
  unfold closeRound
  split
  · exact (Solves.refl o).turns
  · split
    · exact (Solves.refl o).turns
    · exact (updRounds_turns o n _).trans o (sendSolver_solves o _).turns

end Rules

/-- What a problem keeps as a round begins (07 R198, R199): all but its factorisations. -/
def begins : Nat → Problem → Problem → Prop := fun _ p q =>
  q = { p with need := q.need, sats := q.sats, build := q.build }

theorem begins_order : Order begins := ⟨fun _ _ => rfl, fun _ p q r h h' => by rw [begins] at *; rw [h', h]⟩

theorem startNeed_begins (n : Nat) (c : ProblemCfg) (t : Template) (s : State) : Solves begins s (startNeed n c t s) := by
  refine .updProb begins_order n _ ?_
  extract_lets big
  split
  · rfl
  · rfl
  · rfl

theorem beginRound_begins (u : Nat) (s : State) : Turns begins s (beginRound u s) := by
  unfold beginRound
  split
  · exact (Solves.refl begins_order).turns
  · extract_lets ns v w
    have hv : Solves begins s v := by
      refine .foldl begins_order (fun s n _ => ?_) s
      exact iteInduction (motive := Solves begins s) (fun _ => .withProblem begins_order fun c t _ => startNeed_begins n c t s) fun _ => .refl begins_order
    have hw : Solves begins v w := by
      refine iteInduction (motive := Solves begins v) (fun _ => ?_) fun _ => .refl begins_order
      split
      · exact .updProb begins_order _ _ rfl
      · exact .refl begins_order
    exact (Solves.trans begins_order hv hw).turns.trans begins_order (updRounds_turns begins_order u _)

/-- What a problem keeps of a work unit once it is counted: its counts, its data and its accepted result. -/
structure Ends (p q : Problem) : Prop where
  acc : q.acc = p.acc
  it : q.it = p.it
  steps : q.steps = p.steps
  data : q.data = p.data

/-- One problem's work unit goes to its end, and the others stand as they were. -/
def ending (n : Nat) : Nat → Problem → Problem → Prop := fun m p q => (m ≠ n → q = p) ∧ Ends p q

theorem ending_order (n : Nat) : Order (ending n) :=
  ⟨fun _ _ => ⟨fun _ => rfl, rfl, rfl, rfl, rfl⟩, fun _ _ _ _ h h' => ⟨fun other => (h'.1 other).trans (h.1 other), h'.2.acc.trans h.2.acc,
    h'.2.it.trans h.2.it, h'.2.steps.trans h.2.steps, h'.2.data.trans h.2.data⟩⟩

/-- The same with the live set. -/
def endingLive (n : Nat) : Nat → Problem → Problem → Prop := fun m p q => (m ≠ n → q = p) ∧ Ends p q ∧ q.live = p.live

theorem endingLive_order (n : Nat) : Order (endingLive n) :=
  ⟨fun m p => ⟨fun _ => rfl, ((ending_order n).refl m p).2, rfl⟩, fun m p q r h h' => ⟨fun other => (h'.1 other).trans (h.1 other),
    ((ending_order n).trans m p q r ⟨h.1, h.2.1⟩ ⟨h'.1, h'.2.1⟩).2, h'.2.2.trans h.2.2⟩⟩

theorem halting_endingLive {n m : Nat} {p q : Problem} (h : halting n m p q) : endingLive n m p q := by
  obtain ⟨other, acc, live, it, steps, data, -, -, -, -⟩ := h
  exact ⟨other, ⟨acc, it, steps, data⟩, live⟩

section Units

variable {s : State} {n : Nat} {c : ProblemCfg} {t : Template}

theorem updProb_endingLive {f : Problem → Problem} (keeps : endingLive n n (s.prob n) (f (s.prob n))) : Solves (endingLive n) s (s.updProb n f) :=
  .updProb (endingLive_order n) n f keeps

theorem checkLive_endingLive (before : IterSet) : Solves (endingLive n) s (checkLive n c t before s) := by
  have o := endingLive_order n
  unfold checkLive
  extract_lets p rho r inf u coupled last v
  have hu : Solves (endingLive n) s u := .updProb o n _ ⟨fun other => absurd rfl other, ⟨rfl, rfl, rfl, rfl⟩, rfl⟩
  have hv : Solves (endingLive n) u v := iteInduction (motive := Solves (endingLive n) u)
    (fun _ => .updProb o n _ ⟨fun other => absurd rfl other, ⟨rfl, rfl, rfl, rfl⟩, rfl⟩) fun _ => .refl o
  have huv := Solves.trans o hu hv
  have stops (why : Stop) : Solves (endingLive n) s (stopProblem n why v) :=
    .trans o huv ((stopProblem_halting n why).weaken fun _ _ _ => halting_endingLive)
  refine iteInduction (motive := Solves (endingLive n) s) (fun _ => stops _) fun _ => ?_
  refine iteInduction (motive := Solves (endingLive n) s) (fun _ => stops _) fun _ => ?_
  refine iteInduction (motive := Solves (endingLive n) s) (fun _ => stops _) fun _ => ?_
  refine iteInduction (motive := Solves (endingLive n) s) (fun _ => stops _) fun _ => ?_
  split
  · refine .trans o huv (iteInduction (motive := Solves (endingLive n) v) (fun _ => .refl o) fun _ => ?_)
    exact .updProb o n _ ⟨fun other => absurd rfl other, ⟨rfl, rfl, rfl, rfl⟩, rfl⟩
  · exact huv

/-- A factorisation that is made active also rescales the live set (07 R200). -/
theorem finishBuild_true : finishBuild n c t true s = finishBuild n c t false s ∨ finishBuild n c t true s = rescaleLive n t (finishBuild n c t false s) := by
  unfold finishBuild
  extract_lets p
  cases p.build with
  | none => exact .inl rfl
  | some b =>
    dsimp only
    split
    · exact .inl rfl
    · exact .inr rfl

theorem finishBuild_ending (rescale : Bool) : Solves (ending n) s (finishBuild n c t rescale s) := by
  have built : Solves (ending n) s (finishBuild n c t false s) := (finishBuild_halting n c t).weaken fun _ _ _ h => ⟨h.1, (halting_endingLive h).2.1⟩
  cases rescale with
  | false => exact built
  | true =>
    obtain same | rescaled := finishBuild_true (s := s) (n := n) (c := c) (t := t)
    · rw [same]
      exact built
    · rw [rescaled]
      refine .trans (ending_order n) built (.updProb (ending_order n) n _ ⟨fun other => absurd rfl other, ?_⟩)
      split
      · split
        · exact ⟨rfl, rfl, rfl, rfl⟩
        · exact ⟨rfl, rfl, rfl, rfl⟩
      · exact ⟨rfl, rfl, rfl, rfl⟩

theorem endTurn_turns : Turns (endingLive n) s (endTurn n s) := by
  have o := endingLive_order n
  unfold endTurn
  extract_lets u v
  have hv : Solves (endingLive n) s v := .updProb o n _ ⟨fun other => absurd rfl other, ⟨rfl, rfl, rfl, rfl⟩, rfl⟩
  exact (hv.turns.trans o (updRounds_turns o u _)).trans o (closeRound_turns o u)

/-! ## One iteration -/

/-- A problem after one iteration's counts (07 R187). -/
def iterated (n : Nat) (c : ProblemCfg) (t : Template) (f : Factor) (s : State) : State :=
  let p := s.prob n
  let x := iterateSet t c p.data p.qeff f p.live
  s.updProb n fun p =>
    { p with live := x.1, it := p.it + 1, inner := p.inner + 1, sats := p.sats + x.2, regs := max p.regs f.regs
             range := p.range || f.rangeSat }

/-- What follows an iteration in its turn. -/
def afterIteration (n : Nat) (c : ProblemCfg) (t : Template) (p : Problem) (s : State) : State :=
  let it := p.it + 1
  let due := (it % c.checkInterval == 0 || decide (c.itMax ≤ it)) && (s.prob n).running
  let s := if due then checkLive n c t p.live s else s
  let limit := decide (s.coupling.innerLimit ≤ p.inner + 1) && p.work == .solve && isCoupled s n
  let s := if limit then s.updProb n fun p => { p with share := true } else s
  endTurn n (unitEnd n c t s)

theorem iterationWork_eq (f : Factor) : iterationWork n c t f s = let p := s.prob n
    afterIteration n c t p (match p.build with
      | some b => if b.done then finishBuild n c t true (iterated n c t f s) else iterated n c t f s
      | none => iterated n c t f s) := rfl

theorem afterIteration_turns (p : Problem) : Turns (endingLive n) s (afterIteration n c t p s) := by
  have o := endingLive_order n
  unfold afterIteration
  extract_lets it due u limit v
  have hu : Solves (endingLive n) s u := iteInduction (motive := Solves (endingLive n) s) (fun _ => checkLive_endingLive _) fun _ => .refl o
  have hv : Solves (endingLive n) u v := iteInduction (motive := Solves (endingLive n) u)
    (fun _ => .updProb o n _ ⟨fun other => absurd rfl other, ⟨rfl, rfl, rfl, rfl⟩, rfl⟩) fun _ => .refl o
  have unit : Solves (endingLive n) v (unitEnd n c t v) := (unitEnd_halting n c t).weaken fun _ _ _ => halting_endingLive
  exact (Solves.trans o (.trans o hu hv) unit).turns.trans o endTurn_turns

/-- One iteration of a problem (07 R187): its counts, and without a factorisation in progress its live set. -/
theorem iterationWork_spec (f : Factor) : Turns (ending n) (iterated n c t f s) (iterationWork n c t f s)
    ∧ ((s.prob n).build = none → ((iterationWork n c t f s).prob n).live = (iterateSet t c (s.prob n).data (s.prob n).qeff f (s.prob n).live).1) := by
  have o := ending_order n
  rw [iterationWork_eq]
  dsimp only
  have after (v : State) : Turns (endingLive n) v (afterIteration n c t (s.prob n) v) := afterIteration_turns _
  have weak {a b : State} (h : Turns (endingLive n) a b) : Turns (ending n) a b := h.weaken fun _ _ _ h => ⟨h.1, h.2.1⟩
  cases build : (s.prob n).build with
  | none =>
    refine ⟨weak (after _), fun _ => ((after _).each n).2.2.trans ?_⟩
    unfold iterated
    dsimp only
    rw [updProb_same]
  | some b =>
    refine ⟨?_, fun h => nomatch h⟩
    dsimp only
    refine Turns.trans o (iteInduction (motive := fun v => Turns (ending n) (iterated n c t f s) v) (fun _ => ?_) fun _ => ?_) (weak (after _))
    · exact (finishBuild_ending true).turns
    · exact (Solves.refl o).turns

/-! ## One factor step -/

/-- A problem after one factor step (07 R197). -/
def stepped (n : Nat) (c : ProblemCfg) (t : Template) (b : Build) (s : State) : State :=
  let p := s.prob n
  let x := factorStepOf t c p.data { b with f := { b.f with rangeSat := false } }
  let s := if b.f.regs = 0 ∧ 0 < x.1.f.regs then raise 130 s n else s
  let s := if x.1.f.rangeSat then raise 131 s n else s
  s.updProb n fun p =>
    { p with build := some { x.1 with f := { x.1.f with rangeSat := b.f.rangeSat || x.1.f.rangeSat } }, steps := p.steps + 1, sats := p.sats + x.2, stepped := true
             factor := if b.inPlace then none else p.factor }

/-- What follows a factor step in its turn. -/
def afterStep (n : Nat) (c : ProblemCfg) (t : Template) (b : Build) (s : State) : State :=
  let s := if b.inPlace && b.done then finishBuild n c t true s else s
  let s := unitEnd n c t s
  if canIterate (s.prob n) && (s.prob n).running then s else endTurn n s

theorem factorWork_eq (b : Build) : factorWork n c t b s = let x := factorStepOf t c (s.prob n).data { b with f := { b.f with rangeSat := false } }
    afterStep n c t { x.1 with f := { x.1.f with rangeSat := b.f.rangeSat || x.1.f.rangeSat } } (stepped n c t b s) := rfl

theorem canIterate_running_ite {P : State → Prop} {v : State} (stay : P v) (turn : P (endTurn n v)) :
    P (if canIterate (v.prob n) && (v.prob n).running then v else endTurn n v) := iteInduction (motive := P) (fun _ => stay) fun _ => turn

theorem afterStep_turns (b : Build) : Turns (ending n) s (afterStep n c t b s) := by
  have o := ending_order n
  unfold afterStep
  extract_lets u v
  have hu : Solves (ending n) s u := iteInduction (motive := Solves (ending n) s) (fun _ => finishBuild_ending true) fun _ => .refl o
  have hv : Solves (ending n) u v := (unitEnd_halting n c t).weaken fun _ _ _ h => ⟨h.1, (halting_endingLive h).2.1⟩
  have huv := (Solves.trans o hu hv).turns
  exact canIterate_running_ite huv (huv.trans o (endTurn_turns.weaken fun _ _ _ h => ⟨h.1, h.2.1⟩))

/-- Every problem stands as it was. -/
def stands : Nat → Problem → Problem → Prop := fun _ p q => q = p

theorem stands_order : Order stands := ⟨fun _ _ => rfl, fun _ _ _ _ h h' => h'.trans h⟩

theorem endTurn_prob : (endTurn n s).prob n = { s.prob n with stepped := false } := by
  have closed : Turns stands _ (endTurn n s) := (updRounds_turns stands_order (unitOf s n) fun r => { r with pos := some n }).trans stands_order
    (closeRound_turns stands_order (unitOf s n))
  refine (closed.each n).trans ?_
  exact updProb_same ..

/-- A factor step of a problem that goes on leaves its factorisation in progress (07 R197, R201). -/
theorem afterStep_build {b : Build} (apart : b.inPlace = false) (goes : (s.prob n).stopping = false) (open' : (s.prob n).stopAt = none) :
    let q := (afterStep n c t b s).prob n
    q.build = (s.prob n).build ∧ q.factor = (s.prob n).factor ∧ q.live = (s.prob n).live := by
  have unit : unitEnd n c t s = s := by
    unfold unitEnd
    dsimp only
    split
    · rfl
    · rw [goes, if_neg Bool.false_ne_true, open']
  unfold afterStep
  rw [apart, Bool.false_and, if_neg Bool.false_ne_true]
  dsimp only
  rw [unit]
  refine canIterate_running_ite (P := fun w => (w.prob n).build = (s.prob n).build ∧ (w.prob n).factor = (s.prob n).factor ∧ (w.prob n).live = (s.prob n).live)
    ⟨rfl, rfl, rfl⟩ ?_
  rw [endTurn_prob]
  exact ⟨rfl, rfl, rfl⟩

theorem keepBack_stands : Solves stands s (keepBack n s) :=
  iteInduction (motive := Solves stands s) (fun _ => .updBack stands_order fun b => Store.set [] b n ((s.prob n :: Store.get [] b n).take 4))
    fun _ => .refl stands_order

end Units

/-! ## A turn -/

section Clauses

variable {s : State} (h : Calm s)
include h

/-- The state in whose turn a problem's unit of work is made (07 R203). -/
def inTurnOf (u : Nat) (s : State) : State := beginRound u (closeRound u s)

omit h in
theorem inTurnOf_begins (u : Nat) (s : State) : Turns begins s (inTurnOf u s) :=
  ((closeRound_turns stands_order u).weaken fun _ p q h => by rw [begins, h]).trans begins_order (beginRound_begins u _)

/-- A command that makes a unit of one problem's work: the other problems stand as they were (07 R203). -/
theorem gives_unit {n u : Nat} {i : Instr} {g : State → State} {w : State} (e : exec i s = actOn s g) (commit : s.sol.commitLater = none)
    {R : Nat → Problem → Problem → Prop} (work : Turns R (inTurnOf u (clearSent s)) w) (others : ∀ m p q, R m p q → m ≠ n → q = p)
    (run : g (clearSent s) = resumeBoundary w) {P : Problem → Prop} (shows : P (w.prob n)) : Gives i s fun t =>
      (t.start = s.start ∧ t.scan.data = s.scan.data ∧ ∀ m, m ≠ n →
        (t.prob m).live = (s.prob m).live ∧ (t.prob m).it = (s.prob m).it ∧ (t.prob m).acc = (s.prob m).acc) ∧ P (t.prob n) := by
  have begun := inTurnOf_begins u (clearSent s)
  have later : w.sol.commitLater = none := work.commit.trans (begun.commit.trans ((congrArg Sol.commitLater (clearSent_sol s)).trans commit))
  have resumed : resumeBoundary w = w := by
    unfold resumeBoundary
    rw [later]
  have calm : Calm w := h.clear.of_same (work.start.trans begun.start) (work.images.trans begun.images)
  refine h.gives e (run.trans resumed) calm fun t ended => ?_
  have prob (m : Nat) : t.prob m = w.prob m := congrArg (fun x : Sol => Store.get ({} : Problem) x.probs m) ended.sol
  rw [ended.start, ended.data, prob n, work.start, begun.start, clearSent_start, work.scan, begun.scan, clearSent_scan]
  refine ⟨⟨rfl, rfl, fun m other => ?_⟩, shows⟩
  have same : s.prob m = (clearSent s).prob m := congrArg (fun x : Sol => Store.get ({} : Problem) x.probs m) (clearSent_sol s).symm
  have kept : (inTurnOf u (clearSent s)).prob m = _ := begun.each m
  rw [prob m, others m _ _ (work.each m) other, kept, same]
  exact ⟨rfl, rfl, rfl⟩

end Clauses

end Sys2Proof.Machine
end

section
/-! SUPPORT. Outer iterations (08 R221 to R227). -/

namespace Sys2Proof.Machine

open Sys2Proof

section Outer

variable {s : State}

/-- Stops the coupled problem that runs (08 R225). -/
def stopOuter (s : State) (n : Nat) : State := if (s.prob n).running then stopProblem n .outer s else s

theorem stopOuter_halts (s : State) (n : Nat) : Solves (fun _ => Halts) s (stopOuter s n) :=
  iteInduction (motive := Solves (fun _ => Halts) s) (fun _ => (stopProblem_halting n .outer).weaken fun _ _ _ h => h.2) fun _ => .refl halts_order

theorem stopOuter_rests (s : State) (n : Nat) : ((stopOuter s n).prob n).running = false := by
  unfold stopOuter
  split
  · unfold stopProblem
    dsimp only
    rw [(sendSolver_solves stands_order _).each n, updProb_same]
  · exact Bool.eq_false_iff.2 ‹_›

/-- The exit of the outer loop: every coupled problem rests, and the moves are recovered (08 R225, R227). -/
theorem exitOuter_spec (o : Nat) (done limit : Bool) (s : State) : let u := exitOuter o done limit s
    u.start = s.start ∧ u.pair.images = s.pair.images ∧ u.sol.outer = none ∧ u.sol.recovered = true ∧ u.sol.outerNow.1 = o
      ∧ u.sol.outerNow.2.2 = done ∧ u.sol.prices = s.sol.prices ∧ (∀ n ∈ coupledNums s, (u.prob n).running = false)
      ∧ (done = false → limit = true → raisedIn u.evt.edge 136) := by
  have eq : exitOuter o done limit s = let s1 := if limit && !done then raise 136 s else s
      let s2 := (coupledNums s1).foldl stopOuter s1
      let s3 := s2.updSol fun x => { x with outer := none, outerNow := (o, 0, done) }
      recoverAll (((coupledNums s3).filter (inSolve s3)).foldl projectLive s3) := rfl
  rw [eq]
  extract_lets s1 s2 s3 u
  have h1 : Solves stands s s1 := iteInduction (motive := Solves stands s) (fun _ => .raise stands_order 136 0) fun _ => .refl stands_order
  have h2 : Solves (fun _ => Halts) s1 s2 := .foldl halts_order (fun s n _ => stopOuter_halts s n) s1
  have h4 : Solves moves s3 (((coupledNums s3).filter (inSolve s3)).foldl projectLive s3) := .foldl moves_order (fun s n _ => projectLive_moves s n) s3
  have reached : u = recoverAll (((coupledNums s3).filter (inSolve s3)).foldl projectLive s3) := rfl
  clear_value u
  generalize ((coupledNums s3).filter (inSolve s3)).foldl projectLive s3 = s4 at h4 reached
  subst reached
  have h5 := recoverAll_moves s4
  obtain ⟨_, _, _, _, _, sol1⟩ := h1.sol
  obtain ⟨_, _, _, _, _, sol2⟩ := h2.sol
  obtain ⟨_, _, _, _, _, sol4⟩ := h4.sol
  obtain ⟨_, _, _, _, _, sol5⟩ := h5.sol
  have nums : coupledNums s1 = coupledNums s := by
    unfold coupledNums isCoupled
    rw [h1.nums, h1.coupling]
  have sol5' : (s4.updSol fun x => { x with recovered := true }).sol = { s4.sol with recovered := true } := rfl
  refine ⟨?_, ?_, ?_, ?_, ?_, ?_, ?_, fun n mem => ?_, fun open' full => ?_⟩
  · exact h5.start.trans (h4.start.trans (h2.start.trans h1.start))
  · exact h5.images.trans (h4.images.trans (h2.images.trans h1.images))
  · rw [sol5, sol5', sol4]
    rfl
  · rw [sol5]
    rfl
  · rw [sol5, sol5', sol4]
    rfl
  · rw [sol5, sol5', sol4]
    rfl
  · have prices3 : s3.sol.prices = s.sol.prices := by
      show s2.sol.prices = s.sol.prices
      rw [sol2, sol1]
      rfl
    rw [sol5, sol5', sol4]
    exact prices3
  · have rest : (s2.prob n).running = false :=
      foldl_mem (I := fun _ => True) (P := fun u => (u.prob n).running = false) (nums.symm ▸ mem) (fun _ _ _ => trivial)
        (fun u _ => stopOuter_rests u n) (fun u m _ rest => ((stopOuter_halts u m).each n).rest rest) trivial
    have kept4 : s4.prob n = _ := h4.each n
    have kept5 : (recoverAll s4).prob n = _ := h5.each n
    rw [kept5]
    show ((s4.updSol fun x => { x with recovered := true }).prob n).running = false
    rw [updSol_prob _ rfl, kept4]
    exact rest
  · refine h5.raised _ (h4.raised _ (h2.raised _ ?_))
    show raisedIn (if limit && !done then raise 136 s else s).evt.edge 136
    rw [if_pos (by rw [full, open']; rfl)]
    exact raisedIn_raise ..

/-- One problem's share at new prices (08 R221, R225). -/
def shareAnew (prices : List (Int × Int)) (s : State) (n : Nat) : State :=
  withProblem n s fun c t s =>
    let (q, k) := effectiveQ s prices n c t (s.prob n).data
    s.updProb n fun p =>
      if p.running then { p with qeff := q, sats := p.sats + k, share := false, shareConv := false, inner := 0 } else { p with qeff := q }

/-- A problem in a further outer iteration keeps what it runs and its live set. -/
structure Shares (p q : Problem) : Prop where
  running : q.running = p.running
  live : q.live = p.live
  share : p.share = false → q.share = false

theorem shares_order : Order fun _ => Shares :=
  ⟨fun _ _ => ⟨rfl, rfl, id⟩, fun _ _ _ _ h h' => ⟨h'.running.trans h.running, h'.live.trans h.live, fun r => h'.share (h.share r)⟩⟩

theorem shareAnew_shares (prices : List (Int × Int)) (s : State) (n : Nat) : Solves (fun _ => Shares) s (shareAnew prices s n) := by
  refine .withProblem shares_order fun c t _ => .updProb shares_order n _ ?_
  split
  · exact ⟨rfl, rfl, fun _ => rfl⟩
  · exact ⟨rfl, rfl, id⟩

theorem shareAnew_share {prices : List (Int × Int)} {n : Nat} (found : (problemDef s n).isSome = true) (running : (s.prob n).running = true) :
    ((shareAnew prices s n).prob n).share = false := by
  obtain ⟨⟨c, t⟩, found⟩ := Option.isSome_iff_exists.1 found
  unfold shareAnew withProblem
  rw [found]
  dsimp only
  rw [updProb_same, if_pos running]

theorem nextOuter_spec (o : Nat) (prices : List (Int × Int)) (s : State) : let u := nextOuter o prices s
    u.start = s.start ∧ u.pair.images = s.pair.images ∧ u.sol.outer = some (o + 1) ∧ u.sol.prices = prices
      ∧ ∀ n ∈ coupledNums s, (s.prob n).running = true → (problemDef s n).isSome = true →
        (u.prob n).share = false ∧ (u.prob n).running = true ∧ (u.prob n).live = (s.prob n).live := by
  have eq : nextOuter o prices s = (coupledNums s).foldl (shareAnew prices) (s.updSol fun x => { x with outer := some (o + 1), prices := prices }) := rfl
  have all : Solves (fun _ => Shares) (s.updSol fun x => { x with outer := some (o + 1), prices := prices }) (nextOuter o prices s) := by
    rw [eq]
    exact .foldl shares_order (fun s n _ => shareAnew_shares prices s n) _
  obtain ⟨_, _, _, _, _, sol⟩ := all.sol
  refine ⟨all.start, all.images, by rw [sol]; rfl, by rw [sol]; rfl, fun n mem running found => ?_⟩
  refine ⟨?_, ((all.each n).running).trans running, (all.each n).live⟩
  rw [eq]
  refine foldl_mem (I := fun v => (v.prob n).running = true ∧ (problemDef v n).isSome = true) (P := fun v => (v.prob n).share = false) mem
    (fun v m known => ?_) (fun v known => shareAnew_share known.2 known.1) (fun v m known done => ((shareAnew_shares prices v m).each n).share done)
    ⟨running, found⟩
  have step := shareAnew_shares prices v m
  exact ⟨(step.each n).running.trans known.1, (congrArg Option.isSome (step.defn n)).trans known.2⟩

end Outer

/-- The constraints of the coupling with their sums and prices (08 R218, R225). -/
def outerSums (s : State) : List (CConstraint × Int × Int × Int) :=
  s.coupling.cons.zip ((s.coupling.cons.map fun c => (wr c.fmtG (couplingSum s c)).1).zip s.sol.prices)

theorem outerEnd_eq {s : State} {o : Nat} (outer : s.sol.outer = some o) (started : s.sol.started = true) (open' : s.sol.fixing = false)
    (shared : ∀ n ∈ (coupledNums s).filter (fun n => (s.prob n).running), (s.prob n).share = true) :
    let run := (coupledNums s).filter fun n => (s.prob n).running
    let done := (outerSums s).all (fun (c, g, p) => constraintOk c g p) && run.all fun n => (s.prob n).shareConv
    outerEnd s = if done || o == s.coupling.outerLimit || run.isEmpty then exitOuter o done (o == s.coupling.outerLimit) s
      else nextOuter o ((outerSums s).map fun (c, g, p) => nextPrice c g p) s := by
  intro run done
  unfold outerEnd
  rw [outer]
  refine if_neg ?_
  rw [started, open', Bool.not_true, Bool.false_or, Bool.false_or, Bool.not_eq_true, List.any_eq_false]
  intro n mem
  rw [shared n mem]
  exact Bool.false_ne_true

/-- A problem after a factor step: its factorisation, and its count (07 R197). -/
theorem stepped_spec {s : State} {n : Nat} {c : ProblemCfg} {t : Template} (b : Build) :
    let x := factorStepOf t c (s.prob n).data { b with f := { b.f with rangeSat := false } }
    Solves (othersStand n) s (stepped n c t b s)
      ∧ (stepped n c t b s).prob n = { s.prob n with
          build := some { x.1 with f := { x.1.f with rangeSat := b.f.rangeSat || x.1.f.rangeSat } }, steps := (s.prob n).steps + 1
          sats := (s.prob n).sats + x.2, stepped := true, factor := if b.inPlace then none else (s.prob n).factor } := by
  intro x
  have o := stands_order
  have raised : Solves stands s (if x.1.f.rangeSat then raise 131 (if b.f.regs = 0 ∧ 0 < x.1.f.regs then raise 130 s n else s) n
      else if b.f.regs = 0 ∧ 0 < x.1.f.regs then raise 130 s n else s) := by
    have first : Solves stands s (if b.f.regs = 0 ∧ 0 < x.1.f.regs then raise 130 s n else s) :=
      iteInduction (motive := Solves stands s) (fun _ => .raise o 130 n) fun _ => .refl o
    exact iteInduction (motive := Solves stands s) (fun _ => .trans o first (.raise o 131 n)) fun _ => first
  refine ⟨.trans (othersStand_order n) (raised.weaken fun _ _ _ h _ => h) (.updProb (othersStand_order n) n _ fun h => absurd rfl h), ?_⟩
  refine (updProb_same ..).trans ?_
  rw [raised.each n]

section Clauses

variable {s : State} (h : Calm s)
include h

theorem gives_outerIterationEnd {o : Nat} (outer : s.sol.outer = some o) (started : s.sol.started = true) (open' : s.sol.fixing = false)
    (shared : ∀ n ∈ (coupledNums s).filter (fun n => (s.prob n).running), (s.prob n).share = true) :
    let run := (coupledNums s).filter fun n => (s.prob n).running
    let done := (outerSums s).all (fun (c, g, p) => constraintOk c g p) && run.all fun n => (s.prob n).shareConv
    ((done = true ∨ o = s.coupling.outerLimit ∨ run = []) → Gives .outerIterationEnd s fun t =>
      t.sol.outer = none ∧ t.sol.recovered = true ∧ t.sol.outerNow.1 = o ∧ t.sol.outerNow.2.2 = done
      ∧ (∀ n ∈ coupledNums s, (t.prob n).running = false) ∧ t.sol.prices = s.sol.prices ∧ t.start = s.start
      ∧ (done = false → o = s.coupling.outerLimit → t.evt.pend.getLsbD 136 = true))
    ∧ (done = false → o ≠ s.coupling.outerLimit → run ≠ [] → Gives .outerIterationEnd s fun t =>
      t.sol.outer = some (o + 1) ∧ t.sol.prices = ((outerSums s).map fun (c, g, p) => nextPrice c g p)
      ∧ (∀ n ∈ run, (problemDef s n).isSome = true →
        (t.prob n).share = false ∧ (t.prob n).running = true ∧ (t.prob n).live = (s.prob n).live)
      ∧ t.start = s.start) := by
  intro run done
  obtain ⟨x, y, z, cleared⟩ := clearSent_eq s
  have calm : Calm (s.updPair fun p => p.sends x y z) := cleared ▸ h.clear
  have ends : outerEnd (s.updPair fun p => p.sends x y z) = if done || o == s.coupling.outerLimit || run.isEmpty then
      exitOuter o done (o == s.coupling.outerLimit) (s.updPair fun p => p.sends x y z)
      else nextOuter o ((outerSums s).map fun (c, g, p) => nextPrice c g p) (s.updPair fun p => p.sends x y z) :=
    outerEnd_eq (s := s.updPair fun p => p.sends x y z) outer started open' shared
  refine ⟨fun exits => ?_, fun unmet below some => ?_⟩
  · have out : (done || o == s.coupling.outerLimit || run.isEmpty) = true := by
      rw [Bool.or_eq_true, Bool.or_eq_true, beq_iff_eq, List.isEmpty_iff, or_assoc]
      exact exits
    obtain ⟨start, images, outer', recovered, o', done', prices, rest, raised⟩ :=
      exitOuter_spec o done (o == s.coupling.outerLimit) (s.updPair fun p => p.sends x y z)
    refine h.gives_from cleared rfl (ends.trans (if_pos out)) (calm.of_same start images) fun t ended => ?_
    rw [ended.sol, ended.start]
    refine ⟨outer', recovered, o', done', fun n mem => ?_, prices, start, fun open' full => ended.pend 136 (by decide) (raised open' (beq_iff_eq.2 full))⟩
    rw [show t.prob n = _ from congrArg (fun x : Sol => Store.get ({} : Problem) x.probs n) ended.sol]
    exact rest n mem
  · have stays : ¬(done || o == s.coupling.outerLimit || run.isEmpty) = true := by
      rw [Bool.or_eq_true, Bool.or_eq_true, beq_iff_eq, List.isEmpty_iff, unmet]
      exact not_or.2 ⟨not_or.2 ⟨Bool.false_ne_true, below⟩, some⟩
    obtain ⟨start, images, outer', prices, each⟩ := nextOuter_spec o ((outerSums s).map fun (c, g, p) => nextPrice c g p) (s.updPair fun p => p.sends x y z)
    refine h.gives_from cleared rfl (ends.trans (if_neg stays)) (calm.of_same start images) fun t ended => ?_
    rw [ended.sol, ended.start]
    refine ⟨outer', prices, fun n mem found => ?_, start⟩
    obtain ⟨coupled, running⟩ := List.mem_filter.1 mem
    rw [show t.prob n = _ from congrArg (fun x : Sol => Store.get ({} : Problem) x.probs n) ended.sol]
    exact each n coupled running found

theorem gives_iteration (commit : s.sol.commitLater = none) {n : BitVec 11} {c : ProblemCfg} {t : Template} (found : problemDef s n.toNat = some (c, t))
    {v : State} (begun : inTurnOf (unitOf s n.toNat) (clearSent s) = v) (turn : turnOf v (unitOf s n.toNat) = some n.toNat)
    (pace : paced v (unitOf s n.toNat) = true) {f : Factor} (factor : (v.prob n.toNat).factor = some f) (due : stepDue (v.prob n.toNat) = false)
    (can : canIterate (v.prob n.toNat) = true) : Gives (.iteration n) s fun w =>
      (w.start = s.start ∧ w.scan.data = s.scan.data ∧ ∀ m, m ≠ n.toNat →
        (w.prob m).live = (s.prob m).live ∧ (w.prob m).it = (s.prob m).it ∧ (w.prob m).acc = (s.prob m).acc)
      ∧ (w.prob n.toNat).it = (v.prob n.toNat).it + 1 ∧ (w.prob n.toNat).acc = (v.prob n.toNat).acc ∧ (w.prob n.toNat).steps = (v.prob n.toNat).steps
      ∧ (w.prob n.toNat).data = (v.prob n.toNat).data
      ∧ ((v.prob n.toNat).build = none →
        (w.prob n.toNat).live = (iterateSet t c (v.prob n.toNat).data (v.prob n.toNat).qeff f (v.prob n.toNat).live).1) := by
  have kept := keepBack_stands (s := v) (n := n.toNat)
  obtain ⟨work, live⟩ := iterationWork_spec (s := keepBack n.toNat v) (n := n.toNat) (c := c) (t := t) f
  have run : iterationDone n.toNat (clearSent s) = iterationWork n.toNat c t f (keepBack n.toNat v) := by
    unfold iterationDone withProblem
    rw [show problemDef (clearSent s) n.toNat = some (c, t) from found]
    dsimp only
    rw [show beginRound (unitOf (clearSent s) n.toNat) (closeRound (unitOf (clearSent s) n.toNat) (clearSent s)) = v from begun, factor]
    exact if_pos ⟨turn, pace, by rw [due]; rfl, can⟩
  have prob : (keepBack n.toNat v).prob n.toNat = v.prob n.toNat := kept.each _
  have counted : (iterated n.toNat c t f (keepBack n.toNat v)).prob n.toNat = _ := updProb_same ..
  have other : Turns (fun m p q => m ≠ n.toNat → q = p) (inTurnOf (unitOf s n.toNat) (clearSent s)) (iterationWork n.toNat c t f (keepBack n.toNat v)) := by
    have o := othersStand_order n.toNat
    refine Turns.trans o (Turns.trans o ?_ (Solves.updProb (u := keepBack n.toNat v) o n.toNat _ fun h => absurd rfl h).turns) (work.weaken fun m p q h => h.1)
    rw [begun]
    exact kept.turns.weaken fun m p q h _ => h
  refine gives_unit h (g := fun s => resumeBoundary (iterationDone n.toNat s)) rfl commit other (fun m p q h => h) (congrArg resumeBoundary run) (P := fun q => q.it = (v.prob n.toNat).it + 1
    ∧ q.acc = (v.prob n.toNat).acc ∧ q.steps = (v.prob n.toNat).steps ∧ q.data = (v.prob n.toNat).data
    ∧ ((v.prob n.toNat).build = none → q.live = (iterateSet t c (v.prob n.toNat).data (v.prob n.toNat).qeff f (v.prob n.toNat).live).1)) ?_
  obtain ⟨-, acc, it, steps, data⟩ := work.each n.toNat
  rw [counted, prob] at acc it steps data
  rw [prob] at live
  exact ⟨it, acc, steps, data, live⟩

theorem gives_factorStep (commit : s.sol.commitLater = none) {n : BitVec 11} {c : ProblemCfg} {t : Template} (found : problemDef s n.toNat = some (c, t))
    {v : State} (begun : inTurnOf (unitOf s n.toNat) (clearSent s) = v) (turn : turnOf v (unitOf s n.toNat) = some n.toNat)
    (pace : paced v (unitOf s n.toNat) = true) {b : Build} (build : (v.prob n.toNat).build = some b) (due : stepDue (v.prob n.toNat) = true) :
    Gives (.factorStep n) s fun w =>
      (w.start = s.start ∧ w.scan.data = s.scan.data ∧ ∀ m, m ≠ n.toNat →
        (w.prob m).live = (s.prob m).live ∧ (w.prob m).it = (s.prob m).it ∧ (w.prob m).acc = (s.prob m).acc)
      ∧ (w.prob n.toNat).steps = (v.prob n.toNat).steps + 1 ∧ (w.prob n.toNat).it = (v.prob n.toNat).it ∧ (w.prob n.toNat).acc = (v.prob n.toNat).acc
      ∧ (w.prob n.toNat).data = (v.prob n.toNat).data
      ∧ (let b' := (factorStepOf t c (v.prob n.toNat).data { b with f := { b.f with rangeSat := false } }).1
        b.inPlace = false → b'.inPlace = false → (v.prob n.toNat).stopping = false → (v.prob n.toNat).stopAt = none →
          (w.prob n.toNat).build = some { b' with f := { b'.f with rangeSat := b.f.rangeSat || b'.f.rangeSat } }
          ∧ (w.prob n.toNat).factor = (v.prob n.toNat).factor ∧ (w.prob n.toNat).live = (v.prob n.toNat).live) := by
  have kept := keepBack_stands (s := v) (n := n.toNat)
  have run : factorStepDone n.toNat (clearSent s) = factorWork n.toNat c t b (keepBack n.toNat v) := by
    unfold factorStepDone withProblem
    rw [show problemDef (clearSent s) n.toNat = some (c, t) from found]
    dsimp only
    rw [show beginRound (unitOf (clearSent s) n.toNat) (closeRound (unitOf (clearSent s) n.toNat) (clearSent s)) = v from begun, build]
    exact if_pos ⟨turn, pace, due⟩
  have prob : (keepBack n.toNat v).prob n.toNat = v.prob n.toNat := kept.each _
  rw [factorWork_eq, prob] at run
  dsimp only at run
  obtain ⟨made, counted⟩ := stepped_spec (s := keepBack n.toNat v) (n := n.toNat) (c := c) (t := t) b
  rw [prob] at counted
  generalize factorStepOf t c (v.prob n.toNat).data { b with f := { b.f with rangeSat := false } } = x at run counted ⊢
  generalize stepped n.toNat c t b (keepBack n.toNat v) = w at run made counted
  have work := afterStep_turns (s := w) (n := n.toNat) (c := c) (t := t) { x.1 with f := { x.1.f with rangeSat := b.f.rangeSat || x.1.f.rangeSat } }
  have other : Turns (othersStand n.toNat) (inTurnOf (unitOf s n.toNat) (clearSent s))
      (afterStep n.toNat c t { x.1 with f := { x.1.f with rangeSat := b.f.rangeSat || x.1.f.rangeSat } } w) := by
    have o := othersStand_order n.toNat
    refine Turns.trans o (Turns.trans o ?_ made.turns) (work.weaken fun m p q h => h.1)
    rw [begun]
    exact kept.turns.weaken fun m p q h _ => h
  refine gives_unit h (g := fun s => resumeBoundary (factorStepDone n.toNat s)) rfl commit other (fun m p q h => h) (congrArg resumeBoundary run)
    (P := fun q => q.steps = (v.prob n.toNat).steps + 1 ∧ q.it = (v.prob n.toNat).it ∧ q.acc = (v.prob n.toNat).acc
      ∧ q.data = (v.prob n.toNat).data ∧ (b.inPlace = false → x.1.inPlace = false → (v.prob n.toNat).stopping = false →
        (v.prob n.toNat).stopAt = none → q.build = some { x.1 with f := { x.1.f with rangeSat := b.f.rangeSat || x.1.f.rangeSat } }
        ∧ q.factor = (v.prob n.toNat).factor ∧ q.live = (v.prob n.toNat).live)) ?_
  obtain ⟨-, acc, it, steps, data⟩ := work.each n.toNat
  rw [counted] at acc it steps data
  refine ⟨steps, it, acc, data, fun apart apart' goes open' => ?_⟩
  have stays := afterStep_build (s := w) (n := n.toNat) (c := c) (t := t)
    (b := { x.1 with f := { x.1.f with rangeSat := b.f.rangeSat || x.1.f.rangeSat } }) apart' (by rw [counted]; exact goes) (by rw [counted]; exact open')
  rw [counted] at stays
  obtain ⟨build', factor, live⟩ := stays
  exact ⟨build', factor.trans (by rw [apart]; rfl), live⟩

end Clauses

/-- Settles O58: one iteration, one factor step, and one outer iteration. -/
theorem solverWork : Obligations.SolverWork := by
  intro s h commit
  refine ⟨fun n c t found => ?_, fun o outer started open' => ?_⟩
  · intro u v p others turn pace
    refine ⟨fun f factor due can => gives_iteration h commit found rfl turn pace factor due can, fun b build due => ?_⟩
    exact gives_factorStep h commit found rfl turn pace build due
  · intro run gs all done shared
    exact gives_outerIterationEnd h outer started open' shared

end Sys2Proof.Machine
end

section
/-! SUPPORT. Adoption of a verified manifest (03 R71 to R76; 04 R99). -/

namespace Sys2Proof.Machine

open Sys2Proof

/-! ## The routes at the end of an edge -/

theorem performPeer_routes (s : State) (x : Nat × Nat) : (performPeer s x).evt.routes = s.evt.routes := by
  unfold performPeer
  dsimp only
  split <;> rfl

theorem createRec_routes (s : State) (r : NewRec) : (createRec s r).1.evt.routes = s.evt.routes := by
  unfold createRec
  split
  · rfl
  · extract_lets k q
    split <;> rfl

theorem createAll_routes (l : List NewRec) (s : State) : (createAll l s).1.evt.routes = s.evt.routes := by
  induction l generalizing s with
  | nil => rfl
  | cons r l ih => exact (ih _).trans (createRec_routes s r)

theorem startFlush_routes (s : State) : (startFlush s).evt.routes = s.evt.routes := by
  unfold startFlush
  split <;> rfl

theorem settleEvents_routes (s : State) : (settleEvents s).evt.routes = s.evt.routes := by
  have performed (u : State) (x : Nat × Nat) : (performRaise u x).evt.routes = u.evt.routes := by rw [performRaise_evt]
  unfold settleEvents
  split
  · rfl
  · extract_lets own peer u v w recs x before urgent
    have hx : x.evt.routes = s.evt.routes :=
      (foldl_eq (p := fun s => s.evt.routes) performPeer_routes peer v).trans (foldl_eq (p := fun s => s.evt.routes) performed own u)
    have hy := (createAll_routes recs x).trans hx
    split
    rename_i y dropped ey
    rw [ey] at hy
    extract_lets z
    have hz : z.evt.routes = s.evt.routes := by
      show (if dropped && !own.any (·.1 == 216) then performRaise y (216, 0) else y).evt.routes = _
      split
      · exact (performed _ _).trans hy
      · exact hy
    split
    · exact (startFlush_routes z).trans hz
    · exact hz

theorem Calm.settle_routes {u : State} (calm : Calm u) : (settle u).evt.routes = u.evt.routes := by
  rw [settle, if_pos (.inl calm.on), tryImages_none u calm.images]
  refine Eq.trans ?_ (settleEvents_routes u)
  unfold forwardEvents
  split
  · rfl
  · extract_lets l v
    split
    · rw [sendLink_evt]
      rfl
    · rfl

/-! ## Adoption -/

/-- What the blocks' adoption keeps. -/
structure Adopting (s u : State) : Prop where
  start : u.start = s.start
  man : u.man = s.man
  flash : u.flash = s.flash
  hst : u.hst = s.hst
  images : u.pair.images = s.pair.images
  routes : u.evt.routes = s.evt.routes
  journal : u.mram.journal = s.mram.journal
  digest : u.mram.dev.digest = s.mram.dev.digest
  epoch : u.mram.dev.epoch = s.mram.dev.epoch
  manSeq : u.mram.dev.manSeq = s.mram.dev.manSeq
  retainRaw : u.mram.dev.retainRaw = s.mram.dev.retainRaw
  raised : ∀ n, raisedIn s.evt.edge n → raisedIn u.evt.edge n

section Rules

variable {s u v : State}

theorem Adopting.refl : Adopting s s := ⟨rfl, rfl, rfl, rfl, rfl, rfl, rfl, rfl, rfl, rfl, rfl, fun _ h => h⟩

theorem Adopting.trans (h : Adopting s u) (h' : Adopting u v) : Adopting s v :=
  ⟨h'.start.trans h.start, h'.man.trans h.man, h'.flash.trans h.flash, h'.hst.trans h.hst, h'.images.trans h.images, h'.routes.trans h.routes,
    h'.journal.trans h.journal, h'.digest.trans h.digest, h'.epoch.trans h.epoch, h'.manSeq.trans h.manSeq, h'.retainRaw.trans h.retainRaw,
    fun n r => h'.raised n (h.raised n r)⟩

theorem Adopting.foldl {α : Type} {f : State → α → State} (each : ∀ s a, Adopting s (f s a)) (l : List α) (s : State) : Adopting s (l.foldl f s) := by
  induction l generalizing s with
  | nil => exact .refl
  | cons a l ih => exact (each s a).trans (ih _)

theorem raise_adopting (n k : Nat) (s : State) : Adopting s (raise n s k) :=
  ⟨rfl, rfl, rfl, rfl, rfl, rfl, rfl, rfl, rfl, rfl, rfl, fun _ h => raisedIn_raise_of _ _ _ _ h⟩

theorem adoptPlace_adopting (p : FullPlace) (s : State) : Adopting s (adoptPlace p s) := by
  unfold adoptPlace
  split
  · exact .refl
  · exact ⟨rfl, rfl, rfl, rfl, rfl, rfl, rfl, rfl, rfl, rfl, rfl, fun _ h => h⟩

theorem adoptKeys_adopting (v : Verified) (s : State) : Adopting s (adoptKeys v s) := by
  unfold adoptKeys
  extract_lets m pair u sb host old new w x
  have owned : Adopting s u := by
    show Adopting s (match v.owner with | .same => s | .first => _ | .rotate => _)
    split
    · exact .refl
    · exact ⟨rfl, rfl, rfl, rfl, rfl, rfl, rfl, rfl, rfl, rfl, rfl, fun _ h => raisedIn_raise_of _ _ _ _ h⟩
    · exact ⟨rfl, rfl, rfl, rfl, rfl, rfl, rfl, rfl, rfl, rfl, rfl, fun _ h => raisedIn_raise_of _ _ _ _ h⟩
  exact owned.trans ⟨rfl, rfl, rfl, rfl, rfl, rfl, rfl, rfl, rfl, rfl, rfl, fun _ h => h⟩

theorem adoptData_adopting (m : Manifest) (keep : Bool) (s : State) : Adopting s (adoptData m keep s) :=
  ⟨rfl, rfl, rfl, rfl, rfl, rfl, rfl, rfl, rfl, rfl, rfl, fun _ h => h⟩

theorem meters_adopting (s : State) : Adopting s (rawMeters (restoreMeters s)) := by
  have restored : Adopting s (restoreMeters s) := by
    unfold restoreMeters
    split
    · exact ⟨rfl, rfl, rfl, rfl, rfl, rfl, rfl, rfl, rfl, rfl, rfl, fun _ h => h⟩
    · exact ⟨rfl, rfl, rfl, rfl, rfl, rfl, rfl, rfl, rfl, rfl, rfl, fun _ h => h⟩
  refine restored.trans (Adopting.foldl (fun s c => ?_) _ _)
  exact ⟨rfl, rfl, rfl, rfl, rfl, rfl, rfl, rfl, rfl, rfl, rfl, fun _ h => h⟩

theorem adoptLoops_adopting (m : Manifest) (s : State) : Adopting s (adoptLoops m s) :=
  ⟨rfl, rfl, rfl, rfl, rfl, rfl, rfl, rfl, rfl, rfl, rfl, fun _ h => h⟩

theorem closePort_adopting (p : Nat) (s : State) : Adopting s (closePort p s) := by
  unfold closePort
  extract_lets was u
  have closed : Adopting s u := ⟨rfl, rfl, rfl, rfl, rfl, rfl, rfl, rfl, rfl, rfl, rfl, fun _ h => h⟩
  split
  · exact closed.trans (raise_adopting ..)
  · exact closed

theorem adoptPorts_adopting (m : Manifest) (s : State) : Adopting s (adoptPorts m s) := by
  refine .foldl (fun s p => ?_) _ s
  extract_lets cfg chans rx u
  have set : Adopting s u := ⟨rfl, rfl, rfl, rfl, rfl, rfl, rfl, rfl, rfl, rfl, rfl, fun _ h => h⟩
  split
  · exact set
  · exact set.trans (closePort_adopting p u)

theorem updProb_adopting (n : Nat) (f : Problem → Problem) (s : State) : Adopting s (s.updProb n f) :=
  ⟨rfl, rfl, rfl, rfl, rfl, rfl, rfl, rfl, rfl, rfl, rfl, fun _ h => h⟩

theorem stopProblem_adopting (n : Nat) (why : Stop) (s : State) : Adopting s (stopProblem n why s) := by
  unfold stopProblem sendSolver
  extract_lets u p
  split
  · exact ⟨rfl, rfl, rfl, rfl, rfl, rfl, rfl, rfl, rfl, rfl, rfl, fun _ h => h⟩
  · exact updProb_adopting ..

theorem finishBuild_adopting (n : Nat) (c : ProblemCfg) (t : Template) (s : State) : Adopting s (finishBuild n c t false s) := by
  unfold finishBuild
  extract_lets p
  split
  · exact .refl
  · split
    · have raised := raise_adopting 133 n s
      split
      · exact raised.trans (updProb_adopting ..)
      · extract_lets u
        have ill : Adopting s u := raised.trans (updProb_adopting ..)
        split
        · exact ill.trans (stopProblem_adopting ..)
        · exact ill
    · exact updProb_adopting ..

theorem adoptProblem_adopting (ck : Option Checkpoint) (s : State) (c : ProblemCfg) (t : Template) : Adopting s (adoptProblem ck s c t) := by
  have noted (a b : Prop) [Decidable a] [Decidable b] : Adopting s (if b then raise 131 (if a then s else raise 130 s c.num) c.num
      else if a then s else raise 130 s c.num) := by
    have first : Adopting s (if a then s else raise 130 s c.num) := iteInduction (motive := Adopting s) (fun _ => .refl) fun _ => raise_adopting 130 c.num s
    exact iteInduction (motive := Adopting s) (fun _ => first.trans (raise_adopting 131 c.num _)) fun _ => first
  unfold adoptProblem
  dsimp only
  exact ((noted _ _).trans (updProb_adopting ..)).trans (finishBuild_adopting ..)

theorem adoptSolver_adopting (m : Manifest) (ck : Option Checkpoint) (s : State) : Adopting s (adoptSolver m ck s) := by
  unfold adoptSolver
  extract_lets n prices u
  have hu : Adopting s u := ⟨rfl, rfl, rfl, rfl, rfl, rfl, rfl, rfl, rfl, rfl, rfl, fun _ h => h⟩
  refine hu.trans (.foldl (fun s c => ?_) _ u)
  split
  · exact adoptProblem_adopting ..
  · exact .refl

end Rules

/-- The record of an adoption (03 R73; 04 R99). -/
def recordAdopted (v : Verified) (cold : Bool) (s : State) : State :=
  let s := s.updDev fun d =>
    { d with manSlot := v.slot == 2, manSeq := BitVec.ofNat 32 v.seq, floor := satNat 32 (max d.floor.toNat v.floor)
             digest := v.digest, epoch := d.epoch + 1, retainRaw := v.m.retainRaw
             wdogLimit := v.m.policy.wdogLimit }
  let s := s.updStart fun x =>
    { x with adopted := true, refused := false, step := 6, kind := cold, threshold := BitVec.ofNat 13 v.m.policy.pfailMv }
  s.updEvt fun e => { e with routes := v.m.routes }

/-- The oscillator's trim at adoption. -/
def adoptTrim (m : Manifest) (s : State) : State :=
  match m.clock with
  | some k => if k.applyTrim then s.updCal fun c => { c with trim := BitVec.ofInt 11 k.trim } else s
  | none => s

theorem adoptTrim_adopting (m : Manifest) (s : State) : Adopting s (adoptTrim m s) := by
  unfold adoptTrim
  split
  · exact iteInduction (motive := Adopting s) (fun _ => ⟨rfl, rfl, rfl, rfl, rfl, rfl, rfl, rfl, rfl, rfl, rfl, fun _ h => h⟩) fun _ => .refl
  · exact .refl

/-- An adoption in its parts: the keys and data, the record, then the other blocks. -/
theorem adopt_eq (v : Verified) (s : State) : ∃ keep ck, adopt v s =
    let u := adoptData v.m keep (adoptKeys v (adoptPlace v.place { s with man := some v.m }))
    startAcquisition (raise 5 (adoptSolver v.m ck (adoptTrim v.m (adoptPorts v.m (adoptLoops v.m (rawMeters (restoreMeters
      (recordAdopted v (coldStart v.m.policy s.start.cause) u)))))))) := ⟨_, _, rfl⟩

/-- What the adoption of a verified manifest leaves (03 R73; 04 R99). -/
structure Adopted (v : Verified) (s u : State) : Prop where
  man : u.man = some v.m
  start : u.start = { s.start with adopted := true, refused := false, step := 6, kind := coldStart v.m.policy s.start.cause
                                   threshold := BitVec.ofNat 13 v.m.policy.pfailMv }
  routes : u.evt.routes = v.m.routes
  acquires : u.tide.mode = .acquire
  raised : ∀ n, (n = 5 ∨ raisedIn s.evt.edge n) → raisedIn u.evt.edge n
  digest : u.mram.dev.digest = v.digest
  epoch : u.mram.dev.epoch = s.mram.dev.epoch + 1
  manSeq : u.mram.dev.manSeq = BitVec.ofNat 32 v.seq
  retainRaw : u.mram.dev.retainRaw = v.m.retainRaw
  journal : u.mram.journal = s.mram.journal
  flash : u.flash = s.flash
  hst : u.hst = s.hst
  images : u.pair.images = s.pair.images

theorem adopt_adopted (v : Verified) (s : State) : Adopted v s (adopt v s) := by
  obtain ⟨keep, ck, eq⟩ := adopt_eq v s
  rw [eq]
  have first : Adopting { s with man := some v.m } (adoptData v.m keep (adoptKeys v (adoptPlace v.place { s with man := some v.m }))) :=
    ((adoptPlace_adopting ..).trans (adoptKeys_adopting ..)).trans (adoptData_adopting ..)
  generalize adoptData v.m keep (adoptKeys v (adoptPlace v.place { s with man := some v.m })) = a at first ⊢
  have rest (w : State) : Adopting w (adoptSolver v.m ck (adoptTrim v.m (adoptPorts v.m (adoptLoops v.m (rawMeters (restoreMeters w)))))) :=
    ((((meters_adopting w).trans (adoptLoops_adopting ..)).trans (adoptPorts_adopting ..)).trans (adoptTrim_adopting ..)).trans (adoptSolver_adopting ..)
  have after := rest (recordAdopted v (coldStart v.m.policy s.start.cause) a)
  dsimp only
  generalize adoptSolver v.m ck (adoptTrim v.m (adoptPorts v.m (adoptLoops v.m (rawMeters (restoreMeters
    (recordAdopted v (coldStart v.m.policy s.start.cause) a)))))) = w at after ⊢
  refine ⟨after.man.trans first.man, after.start.trans ?_, after.routes, rfl, fun n had => ?_, after.digest, after.epoch.trans ?_, after.manSeq,
    after.retainRaw, after.journal.trans first.journal, after.flash.trans first.flash, after.hst.trans first.hst, after.images.trans first.images⟩
  · show { a.start with adopted := true, refused := false, step := 6, kind := coldStart v.m.policy s.start.cause
                        threshold := BitVec.ofNat 13 v.m.policy.pfailMv } = _
    rw [first.start]
  · obtain rfl | had := had
    · exact raisedIn_raise ..
    · exact raisedIn_raise_of _ _ _ _ (after.raised n (first.raised n had))
  · exact congrArg (· + 1) first.epoch

/-- Blocks that the end of a manifest check leaves. -/
def State.checked (s : State) : Start × Option Manifest × Store Byte × Hst × Pair × Tide × Keys × Mram × Evt :=
  (s.start, s.man, s.flash, s.hst, s.pair, s.tide, s.keys, s.mram, s.evt)

theorem noteInput_checked (t : Ty) (i : Nat) (v : DWord) (s : State) : (noteInput t i v s).checked = s.checked := by
  unfold noteInput
  split <;> rfl

theorem bindInputs_checked (s : State) : (bindInputs s).checked = s.checked := by
  refine foldl_eq (p := State.checked) (fun s x => ?_) _ _
  obtain ⟨c, n⟩ := x
  dsimp only
  split
  · exact noteInput_checked ..
  · rfl

theorem applyOutputs_checked (s : State) : (applyOutputs s).checked = s.checked := by
  simp only [State.checked, applyOutputs_start, applyOutputs_man, applyOutputs_flash, applyOutputs_hst, applyOutputs_pair, applyOutputs_tide,
    applyOutputs_keys, applyOutputs_mram, applyOutputs_evt]

theorem settleAdoption_checked (s : State) : (settleAdoption s).checked = s.checked := by
  unfold settleAdoption
  split
  · refine (applyOutputs_checked _).trans ((bindInputs_checked _).trans ?_)
    split <;> rfl
  · exact applyOutputs_checked s

theorem Adopted.settled {v : Verified} {s u : State} (h : Adopted v s u) : Adopted v s (settleAdoption u) := by
  have same := settleAdoption_checked u
  generalize settleAdoption u = w at same ⊢
  simp only [State.checked, Prod.mk.injEq] at same
  obtain ⟨start, man, flash, hst, pair, tide, -, mram, evt⟩ := same
  exact ⟨man.trans h.man, start.trans h.start, (congrArg Evt.routes evt).trans h.routes, (congrArg Tide.mode tide).trans h.acquires,
    fun n had => evt.symm ▸ h.raised n had, by rw [mram]; exact h.digest, by rw [mram]; exact h.epoch, by rw [mram]; exact h.manSeq,
    by rw [mram]; exact h.retainRaw, by rw [mram]; exact h.journal, flash.trans h.flash, hst.trans h.hst, (congrArg Pair.images pair).trans h.images⟩

theorem Adopted.calm {v : Verified} {s u : State} (h : Adopted v s u) (calm : Calm s) : Calm u :=
  ⟨(congrArg Start.power h.start).trans calm.on, h.images.trans calm.images⟩

/-! ## Verification -/

theorem verifyManifest_clearSent (s : State) (slot expected : Nat) (fail : Option Nat) :
    verifyManifest (clearSent s) slot expected fail = verifyManifest s slot expected fail := rfl

theorem verifyFirmware_clearSent (s : State) (f : Keys → Keys) (p : Pointer) (fail : Option Nat) :
    verifyFirmware ((clearSent s).updKeys f) p fail = verifyFirmware s p fail := rfl

end Sys2Proof.Machine
end

section
/-! SUPPORT. The checks of firmware and manifest, and ACCEPT_OTHER (03 R71 to R80; 18 R507; 20 R569). -/

namespace Sys2Proof.Machine

open Sys2Proof

/-! ## The checks -/

/-- What a verification shows, beside the registers that show it. -/
theorem showVerify_keeps (slot : Nat) (other : Bool) (sig : Option (Bool × Bool)) (failed : Bool) (s : State) : let u := showVerify slot other sig failed s
    u.start = s.start ∧ u.man = s.man ∧ u.flash = s.flash ∧ u.mram = s.mram ∧ u.evt = s.evt ∧ u.pair = s.pair ∧ u.hst.flSeq = s.hst.flSeq
      ∧ u.tide = s.tide := by
  unfold showVerify
  extract_lets u
  cases sig with
  | none => exact ⟨rfl, rfl, rfl, rfl, rfl, rfl, rfl, rfl⟩
  | some g => exact ⟨rfl, rfl, rfl, rfl, rfl, rfl, rfl, rfl⟩

/-- A manifest check that ends in a refusal, on the state `s` (03 R72, R74). -/
structure Refused (n i : Nat) (s u : State) : Prop where
  start : u.start = { s.start with refused := true, step := if n = 0x12 then 4 else 3 }
  man : u.man = s.man
  reason : u.hst.bootReason = BitVec.ofNat 8 n
  index : u.hst.bootIndex = BitVec.ofNat 12 i
  raised : raisedIn u.evt.edge 4
  digest : u.mram.dev.digest = s.mram.dev.digest
  flash : u.flash = s.flash
  images : u.pair.images = s.pair.images

theorem refuseManifest_refused (n i slot : Nat) (other : Bool) (sig : Option (Bool × Bool)) (failed : Bool) (s : State) :
    Refused n i s (refuseManifest n i (showVerify slot other sig failed s)) := by
  obtain ⟨start, man, flash, mram, -, pair, -, -⟩ := showVerify_keeps slot other sig failed s
  generalize showVerify slot other sig failed s = w at *
  refine ⟨?_, man, rfl, rfl, raisedIn_raise .., congrArg (fun m : Mram => m.dev.digest) mram, flash, congrArg Pair.images pair⟩
  show { w.start with refused := true, step := if n = 0x12 then 4 else 3 } = _
  rw [start]

theorem Refused.settled {n i : Nat} {s u : State} (h : Refused n i s u) : Refused n i s (settleAdoption u) := by
  have same := settleAdoption_checked u
  generalize settleAdoption u = w at same ⊢
  simp only [State.checked, Prod.mk.injEq] at same
  obtain ⟨start, man, flash, hst, pair, -, -, mram, evt⟩ := same
  exact ⟨start.trans h.start, man.trans h.man, by rw [hst]; exact h.reason, by rw [hst]; exact h.index, evt.symm ▸ h.raised, by rw [mram]; exact h.digest,
    flash.trans h.flash, (congrArg Pair.images pair).trans h.images⟩

theorem Refused.calm {n i : Nat} {s u : State} (h : Refused n i s u) (calm : Calm s) : Calm u :=
  ⟨(congrArg Start.power h.start).trans calm.on, h.images.trans calm.images⟩

section Clauses

variable {s : State} (h : Calm s)
include h

omit h in
/-- The keys' block once a firmware slot is read. -/
def fwRead (p : Pointer) (s : State) : State := s.updKeys fun k => { k with fwSlot := p.fwSlot == 2 }

theorem gives_firmwareRuns {fail : Option Nat} {p : Pointer} (stage : s.start.stage = 1) (pointer : s.start.pointer = some p)
    (step : s.start.step = 2) (fresh : s.keys.fwReason = 0) {n : Nat} {d : Bytes} (passes : verifyFirmware s p fail = .run n d) :
    Gives (.firmwareVerify fail) s fun t => t.start = { s.start with step := 3 } ∧ t.keys.fwOk = true ∧ t.keys.fwSv = BitVec.ofNat 8 n
      ∧ t.keys.fwDigest = d ∧ t.keys.fwSlot = (p.fwSlot == 2) ∧ t.fuses = s.fuses ∧ t.flash = s.flash := by
  have run : firmwareVerify fail (clearSent s) = ((fwRead p (clearSent s)).updKeys fun k =>
      { k with fwOk := true, fwSv := BitVec.ofNat 8 n, fwDigest := d, sigFw := 0 }).updStart fun x => { x with step := 3 } := by
    unfold firmwareVerify
    rw [if_pos ⟨stage, step, fresh⟩, show (clearSent s).start.pointer = some p from pointer]
    dsimp only
    rw [verifyFirmware_clearSent, passes]
    rfl
  refine h.gives (g := firmwareVerify fail) rfl run ⟨h.on, h.clear.images⟩ fun t ended => ⟨ended.start, ?_⟩
  rw [ended.keys, show t.fuses = _ from congrArg Still.fuses ended.still, show t.flash = _ from congrArg Still.flash ended.still]
  exact ⟨rfl, rfl, rfl, rfl, rfl, rfl⟩

theorem gives_firmwareRefused {fail : Option Nat} {p : Pointer} (stage : s.start.stage = 1) (pointer : s.start.pointer = some p)
    (step : s.start.step = 2) (fresh : s.keys.fwReason = 0) {n : Nat} {g : Option (Bool × Bool)} (fails : verifyFirmware s p fail = .refuse n g) :
    Gives (.firmwareVerify fail) s fun t => t.start = s.start ∧ t.keys.fwOk = false ∧ t.keys.fwReason = BitVec.ofNat 8 n
      ∧ t.evt.pend.getLsbD 201 = true := by
  have run : firmwareVerify fail (clearSent s) = raise 201 ((fwRead p (clearSent s)).updKeys fun k =>
      { k with fwReason := BitVec.ofNat 8 n, fwOk := false, sigFw := (g.map sigBits).getD k.sigFw }) := by
    unfold firmwareVerify
    rw [if_pos ⟨stage, step, fresh⟩, show (clearSent s).start.pointer = some p from pointer]
    dsimp only
    rw [verifyFirmware_clearSent, fails]
    rfl
  refine h.gives (g := firmwareVerify fail) rfl run (h.clear.of_same rfl rfl) fun t ended => ⟨ended.start, ?_⟩
  rw [ended.keys]
  exact ⟨rfl, rfl, ended.pend 201 (by decide) (raisedIn_raise ..)⟩

theorem gives_manifestVerify {fail : Option Nat} {p : Pointer} (stage : s.start.stage = 1) (pointer : s.start.pointer = some p)
    (step : s.start.step = 3) (fresh : s.start.refused = false) :
    (∀ v, verifyManifest s p.manSlot p.manSeq fail = .ok v → Gives (.manifestVerify fail) s fun t =>
      t.man = some v.m ∧ t.evt.routes = v.m.routes ∧ t.tide.mode = .acquire ∧ t.evt.pend.getLsbD 5 = true
      ∧ t.start = { s.start with adopted := true, step := 6, kind := coldStart v.m.policy s.start.cause
                                 threshold := BitVec.ofNat 13 v.m.policy.pfailMv }
      ∧ t.mram.dev.digest = v.digest ∧ t.mram.dev.epoch = s.mram.dev.epoch + 1 ∧ t.mram.dev.manSeq = BitVec.ofNat 32 v.seq
      ∧ t.mram.dev.retainRaw = v.m.retainRaw ∧ t.mram.journal = s.mram.journal ∧ t.flash = s.flash)
    ∧ (∀ n i g, verifyManifest s p.manSlot p.manSeq fail = .refuse n i g → Gives (.manifestVerify fail) s fun t =>
      t.start = { s.start with refused := true, step := if n = 0x12 then 4 else 3 } ∧ t.man = s.man
      ∧ t.hst.bootReason = BitVec.ofNat 8 n ∧ t.hst.bootIndex = BitVec.ofNat 12 i ∧ t.evt.pend.getLsbD 4 = true
      ∧ t.mram.dev.digest = s.mram.dev.digest ∧ t.flash = s.flash) := by
  have awaits : (clearSent s).start.stage = 1 ∧ (clearSent s).start.step = 3 ∧ (!(clearSent s).start.refused) = true :=
    ⟨stage, step, congrArg Bool.not fresh⟩
  refine ⟨fun v passes => ?_, fun n i g fails => ?_⟩
  · have run : manifestVerify fail (clearSent s) = adopt v (showVerify v.slot false (some (true, true)) false (clearSent s)) := by
      unfold manifestVerify
      rw [if_pos awaits, show (clearSent s).start.pointer = some p from pointer]
      dsimp only
      rw [verifyManifest_clearSent, passes]
    obtain ⟨start, -, flash, mram, -, pair, -, -⟩ := showVerify_keeps v.slot false (some (true, true)) false (clearSent s)
    have adopted := (adopt_adopted v (showVerify v.slot false (some (true, true)) false (clearSent s))).settled
    rw [← run] at adopted
    generalize showVerify v.slot false (some (true, true)) false (clearSent s) = w at *
    have calm : Calm (settleAdoption (manifestVerify fail (clearSent s))) := adopted.calm (h.clear.of_same start (congrArg Pair.images pair))
    refine .of_actOn (f := fun s => settleAdoption (manifestVerify fail s)) rfl h.on ?_
    have ended := calm.ended
    have routes := calm.settle_routes
    generalize settleAdoption (manifestVerify fail (clearSent s)) = u at *
    have still := ended.still
    rw [ended.start, ended.tide, routes, ended.epoch, show (settle u).man = u.man from congrArg Still.man still,
      show (settle u).flash = u.flash from congrArg Still.flash still,
      show (settle u).mram.dev.digest = u.mram.dev.digest from congrArg (fun q : Still => q.mram.dev.digest) still,
      show (settle u).mram.dev.manSeq = u.mram.dev.manSeq from congrArg (fun q : Still => q.mram.dev.manSeq) still,
      show (settle u).mram.dev.retainRaw = u.mram.dev.retainRaw from congrArg (fun q : Still => q.mram.dev.retainRaw) still,
      show (settle u).mram.journal = u.mram.journal from congrArg (fun q : Still => q.mram.journal) still]
    refine ⟨adopted.man, adopted.routes, adopted.acquires, ended.pend 5 (by decide) (adopted.raised 5 (.inl rfl)), adopted.start.trans ?_,
      adopted.digest, adopted.epoch.trans ?_, adopted.manSeq, adopted.retainRaw, adopted.journal.trans ?_, adopted.flash.trans flash⟩
    · rw [start, clearSent_start, ← fresh]
    · rw [mram]
      rfl
    · rw [mram]
      rfl
  · have run : manifestVerify fail (clearSent s) = refuseManifest n i (showVerify p.manSlot false g (n == 0x0F) (clearSent s)) := by
      unfold manifestVerify
      rw [if_pos awaits, show (clearSent s).start.pointer = some p from pointer]
      dsimp only
      rw [verifyManifest_clearSent, fails]
    have refused := (refuseManifest_refused n i p.manSlot false g (n == 0x0F) (clearSent s)).settled
    rw [← run] at refused
    have calm := refused.calm h.clear
    refine h.gives (g := fun s => settleAdoption (manifestVerify fail s)) rfl rfl calm fun t ended => ?_
    generalize settleAdoption (manifestVerify fail (clearSent s)) = u at *
    have still := ended.still
    rw [ended.start, show t.man = u.man from congrArg Still.man still, show t.flash = u.flash from congrArg Still.flash still,
      show t.hst = u.hst from congrArg Still.hst still,
      show t.mram.dev.digest = u.mram.dev.digest from congrArg (fun q : Still => q.mram.dev.digest) still]
    exact ⟨refused.start, refused.man, refused.reason, refused.index, ended.pend 4 (by decide) refused.raised, refused.digest, refused.flash⟩

end Clauses

/-- Settles O25: the checks of firmware and manifest. -/
theorem firmwareAndManifestChecks : Obligations.FirmwareAndManifestChecks := by
  intro s fail p h stage pointer
  exact ⟨fun step fresh => ⟨fun n d passes => gives_firmwareRuns h stage pointer step fresh passes,
      fun n g fails => gives_firmwareRefused h stage pointer step fresh fails⟩, fun step fresh => gives_manifestVerify h stage pointer step fresh⟩

end Sys2Proof.Machine
end

section
/-! SUPPORT. ACCEPT_OTHER (03 R76 to R80; 20 R569). -/

namespace Sys2Proof.Machine

open Sys2Proof

theorem pointerBytes_length (p : Pointer) : (pointerBytes p).length = 64 := by
  simp only [pointerBytes, List.length_append, leBytes_length, List.length_cons, List.length_nil, List.length_replicate]

/-- What is written to the flash is read back (03 R58, R63). -/
theorem flashRead_flashWrite {s : State} (wf : Memory.wf 0xFF s.flash = true) (a : Nat) (b : Bytes) :
    flashRead (flashWrite a b s) a b.length = b := by
  refine List.ext_getElem? fun i => ?_
  by_cases hi : i < b.length
  · rw [flashRead_get (flashWrite_wf a b s wf) a b.length hi, List.getElem?_eq_getElem hi]
    exact congrArg some (Store.get_setMany_inside 0xFF s.flash a i b hi)
  · rw [List.getElem?_eq_none (by rw [flashRead_length]; omega), List.getElem?_eq_none (by omega)]

/-- A pointer written to its copy stands in the flash and in the start (03 R63). -/
theorem writePointer_true {s : State} (wf : Memory.wf 0xFF s.flash = true) (p : Pointer) : let u := writePointer true p s
    flashRead u (spareCopy s) 64 = pointerBytes p ∧ u.start = { s.start with pointer := some p, copy1 := !s.start.copy1 } ∧ u.man = s.man
      ∧ u.pair = s.pair ∧ u.hst = s.hst := by
  refine ⟨?_, rfl, rfl, rfl, rfl⟩
  have read := flashRead_flashWrite (s := flashErase (spareCopy s) 65536 s) (flashErase_wf _ _ _ wf) (spareCopy s) (pointerBytes p)
  rw [pointerBytes_length] at read
  exact read

/-- The pointer that names the other slot (03 R76). -/
def Pointer.other (p : Pointer) (seq : Nat) : Pointer :=
  { p with seq := pointerNext p.seq, manSlot := otherSlot p.manSlot, manSeq := seq }

/-- What the end of a flash command shows (20 R569). -/
theorem flashEnds_keeps (r : Byte) (s : State) : (flashEnds r s).start = s.start ∧ (flashEnds r s).man = s.man ∧ (flashEnds r s).tide = s.tide
    ∧ (flashEnds r s).flash = s.flash ∧ (flashEnds r s).pair = s.pair ∧ (flashEnds r s).hst.bootReason = s.hst.bootReason := ⟨rfl, rfl, rfl, rfl, rfl, rfl⟩

/-- What a pointer write that fails leaves: the refusal, with its reason (03 R80). -/
theorem tornPointer_spec (s : State) : let u := flashEnds 4 (refuseManifest 1 0 s)
    u.man = s.man ∧ u.start.adopted = s.start.adopted ∧ u.start.refused = true ∧ u.start.pointer = s.start.pointer ∧ u.start.power = s.start.power
      ∧ u.pair.images = s.pair.images ∧ u.hst.flDone = true ∧ u.hst.flReason = 4 ∧ raisedIn u.evt.edge 22 :=
  ⟨rfl, rfl, rfl, rfl, rfl, rfl, rfl, rfl, raisedIn_raise ..⟩

section Clauses

variable {s : State} (h : Calm s)
include h

/-- The state in which ACCEPT_OTHER verifies the other slot. -/
def accepting (s : State) : State := (clearSent s).updHst fun h => { h with flDone := false }

omit h in
theorem verifyManifest_accepting (s : State) (slot expected : Nat) (fail : Option Nat) :
    verifyManifest (accepting s) slot expected fail = verifyManifest s slot expected fail := rfl

/-- An ACCEPT_OTHER that is taken, by the state that its verification leads to. -/
theorem gives_acceptOther {path : Path} {fail : Option Nat} {ok : Bool} {p : Pointer} (free : s.hst.flBusy = false) (none : s.hst.flLen = 0)
    (refused : s.start.refused = true) (stage : s.start.stage = 1) (pointer : s.start.pointer = some p) {u : State}
    (leads : acceptSlot fail ok p (accepting s) = u) (calm : Calm u) {P : State → Prop} (shows : ∀ t, Ended u t → P t) :
    Gives (.acceptOther path 0xF1A5 fail ok) s P := by
  have e : exec (.acceptOther path 0xF1A5 fail ok) s = actOn s (acceptOther fail ok) := by
    refine (if_neg fun flush => ?_).trans (if_pos rfl)
    rw [h.on] at flush
    exact absurd flush.1 (by decide)
  refine h.gives e ?_ calm shows
  have taken : ¬(!((clearSent s).start.refused && (clearSent s).start.stage == 1)) = true := by
    rw [clearSent_start, refused, stage]
    decide
  have pointer' : (clearSent s).start.pointer = some p := pointer
  unfold acceptOther
  rw [if_neg (ne_true_of_eq_false (show (clearSent s).hst.flBusy = false from free)),
    if_neg (Classical.not_not.2 (show (clearSent s).hst.flLen = 0 from none)), if_neg taken, pointer']
  exact leads

theorem gives_acceptOther_passes {path : Path} {fail : Option Nat} {p : Pointer} (wf : Memory.wf 0xFF s.flash = true) (free : s.hst.flBusy = false)
    (none : s.hst.flLen = 0) (refused : s.start.refused = true) (stage : s.start.stage = 1) (pointer : s.start.pointer = some p) {v : Verified}
    (passes : verifyManifest s (otherSlot p.manSlot) s.hst.flSeq.toNat fail = .ok v) :
    Gives (.acceptOther path 0xF1A5 fail true) s fun t =>
      t.man = some v.m ∧ t.start.adopted = true ∧ t.start.refused = false ∧ t.start.step = 6
      ∧ t.start.pointer = some { p with seq := pointerNext p.seq, manSlot := otherSlot p.manSlot, manSeq := s.hst.flSeq.toNat }
      ∧ t.hst.flDone = true ∧ t.hst.flReason = 0 ∧ t.tide.mode = .acquire ∧ t.evt.pend.getLsbD 22 = true := by
  obtain ⟨start, man, flash, mram, -, pair, -, -⟩ := showVerify_keeps (otherSlot p.manSlot) true (some (true, true)) false (accepting s)
  have leads : acceptSlot fail true p (accepting s) = flashEnds 0 (settleAdoption (adopt v (writePointer true (p.other s.hst.flSeq.toNat)
      (showVerify (otherSlot p.manSlot) true (some (true, true)) false (accepting s))))) := by
    have copy : spareCopy (accepting s) = spareCopy (showVerify (otherSlot p.manSlot) true (some (true, true)) false (accepting s)) := by
      unfold spareCopy
      rw [start]
    unfold acceptSlot
    dsimp only
    rw [show (accepting s).hst.flSeq = s.hst.flSeq from rfl, verifyManifest_accepting, passes]
    dsimp only
    refine if_pos ?_
    rw [copy, Bool.true_and, decide_eq_true_eq]
    exact (writePointer_true (by rw [flash]; exact wf) (p.other s.hst.flSeq.toNat)).1
  obtain ⟨-, start', -, pair', -⟩ := writePointer_true (s := showVerify (otherSlot p.manSlot) true (some (true, true)) false (accepting s))
    (by rw [flash]; exact wf) (p.other s.hst.flSeq.toNat)
  generalize showVerify (otherSlot p.manSlot) true (some (true, true)) false (accepting s) = w at *
  generalize writePointer true (p.other s.hst.flSeq.toNat) w = x at *
  have adopted := (adopt_adopted v x).settled
  generalize settleAdoption (adopt v x) = u at *
  have calm : Calm u := adopted.calm ⟨by rw [start', start]; exact h.on, by rw [pair', pair]; exact h.clear.images⟩
  refine gives_acceptOther h free none refused stage pointer leads (calm.of_same rfl rfl) fun t ended => ?_
  have still := ended.still
  rw [show t.man = (flashEnds 0 u).man from congrArg Still.man still, show t.hst = (flashEnds 0 u).hst from congrArg Still.hst still, ended.start, ended.tide]
  refine ⟨adopted.man, ?_, ?_, ?_, ?_, rfl, rfl, adopted.acquires, ended.pend 22 (by decide) (raisedIn_raise ..)⟩
  · show u.start.adopted = true
    rw [adopted.start]
  · show u.start.refused = false
    rw [adopted.start]
  · show u.start.step = 6
    rw [adopted.start]
  · show u.start.pointer = _
    rw [adopted.start, start']
    rfl

theorem gives_acceptOther_torn {path : Path} {fail : Option Nat} {p : Pointer} (free : s.hst.flBusy = false)
    (none : s.hst.flLen = 0) (refused : s.start.refused = true) (stage : s.start.stage = 1) (pointer : s.start.pointer = some p) {v : Verified}
    (passes : verifyManifest s (otherSlot p.manSlot) s.hst.flSeq.toNat fail = .ok v) :
    Gives (.acceptOther path 0xF1A5 fail false) s fun t =>
      t.man = s.man ∧ t.start.adopted = s.start.adopted ∧ t.start.refused = true ∧ t.start.pointer = s.start.pointer
      ∧ t.hst.flDone = true ∧ t.hst.flReason = 4 ∧ t.evt.pend.getLsbD 22 = true := by
  obtain ⟨start, man, -, -, -, pair, -, -⟩ := showVerify_keeps (otherSlot p.manSlot) true (some (true, true)) false (accepting s)
  have leads : acceptSlot fail false p (accepting s) = flashEnds 4 (refuseManifest 1 0 (writePointer false (p.other s.hst.flSeq.toNat)
      (showVerify (otherSlot p.manSlot) true (some (true, true)) false (accepting s)))) := by
    unfold acceptSlot
    dsimp only
    rw [show (accepting s).hst.flSeq = s.hst.flSeq from rfl, verifyManifest_accepting, passes]
    dsimp only
    exact if_neg (by rw [Bool.false_and]; exact Bool.false_ne_true)
  have torn (x : State) (q : Pointer) : (writePointer false q x).start = x.start ∧ (writePointer false q x).man = x.man
      ∧ (writePointer false q x).pair = x.pair := ⟨rfl, rfl, rfl⟩
  obtain ⟨start', man', pair'⟩ := torn (showVerify (otherSlot p.manSlot) true (some (true, true)) false (accepting s)) (p.other s.hst.flSeq.toNat)
  generalize showVerify (otherSlot p.manSlot) true (some (true, true)) false (accepting s) = w at *
  generalize writePointer false (p.other s.hst.flSeq.toNat) w = x at *
  obtain ⟨man'', adopted'', refused'', pointer'', power'', images'', done, reason, raised⟩ := tornPointer_spec x
  generalize flashEnds 4 (refuseManifest 1 0 x) = u at *
  have begun : x.start = s.start := start'.trans start
  have calm : Calm u := ⟨power''.trans ((congrArg Start.power begun).trans h.on), by rw [images'', pair', pair]; exact h.clear.images⟩
  refine gives_acceptOther h free none refused stage pointer leads calm fun t ended => ?_
  have still := ended.still
  rw [show t.man = u.man from congrArg Still.man still, show t.hst = u.hst from congrArg Still.hst still, ended.start]
  exact ⟨man''.trans (man'.trans man), adopted''.trans (congrArg Start.adopted begun), refused'', pointer''.trans (congrArg Start.pointer begun), done,
    reason, ended.pend 22 (by decide) raised⟩

theorem gives_acceptOther_refused {path : Path} {fail : Option Nat} {ok : Bool} {p : Pointer} (free : s.hst.flBusy = false)
    (none : s.hst.flLen = 0) (refused : s.start.refused = true) (stage : s.start.stage = 1) (pointer : s.start.pointer = some p)
    {n i : Nat} {g : Option (Bool × Bool)} (fails : verifyManifest s (otherSlot p.manSlot) s.hst.flSeq.toNat fail = .refuse n i g) :
    Gives (.acceptOther path 0xF1A5 fail ok) s fun t =>
      t.man = s.man ∧ t.start.adopted = s.start.adopted ∧ t.start.refused = true ∧ t.start.pointer = s.start.pointer
      ∧ t.hst.flDone = true ∧ t.hst.bootReason = BitVec.ofNat 8 n ∧ t.flash = s.flash ∧ t.evt.pend.getLsbD 22 = true := by
  have leads : acceptSlot fail ok p (accepting s) = flashEnds (if n = 1 then 4 else 0)
      (refuseManifest n i (showVerify (otherSlot p.manSlot) true g (n == 0x0F) (accepting s))) := by
    unfold acceptSlot
    dsimp only
    rw [show (accepting s).hst.flSeq = s.hst.flSeq from rfl, verifyManifest_accepting, fails]
  have out := refuseManifest_refused n i (otherSlot p.manSlot) true g (n == 0x0F) (accepting s)
  generalize refuseManifest n i (showVerify (otherSlot p.manSlot) true g (n == 0x0F) (accepting s)) = u at *
  have calm : Calm u := out.calm ⟨h.on, h.clear.images⟩
  refine gives_acceptOther h free none refused stage pointer leads (calm.of_same rfl rfl) fun t ended => ?_
  have still := ended.still
  rw [show t.man = u.man from congrArg Still.man still, show t.flash = u.flash from congrArg Still.flash still,
    show t.hst = (flashEnds (if n = 1 then 4 else 0) u).hst from congrArg Still.hst still, ended.start]
  refine ⟨out.man, ?_, ?_, ?_, rfl, out.reason, out.flash, ended.pend 22 (by decide) (raisedIn_raise ..)⟩
  · show u.start.adopted = _
    rw [out.start]
    rfl
  · show u.start.refused = true
    rw [out.start]
  · show u.start.pointer = _
    rw [out.start]
    rfl

end Clauses

/-- Settles O38: ACCEPT_OTHER takes the other manifest, or leaves the refusal. -/
theorem acceptOtherSlot : Obligations.AcceptOtherSlot := by
  intro s path fail ok p h wf free none refused stage pointer
  exact ⟨fun v passes => gives_acceptOther_passes h wf free none refused stage pointer passes,
    fun v passes => gives_acceptOther_torn h free none refused stage pointer passes,
    fun n i g fails => gives_acceptOther_refused h free none refused stage pointer fails⟩

end Sys2Proof.Machine
end

section
/-! SUPPORT. A sample of a loop group (11 R308 to R325). -/

namespace Sys2Proof.Machine

open Sys2Proof

/-! ## What the work on some loops keeps -/

/-- What the work on loops outside `p` keeps. -/
structure Around (p : Nat → Prop) (s u : State) : Prop where
  start : u.start = s.start
  tide : u.tide = s.tide
  flash : u.flash = s.flash
  images : u.pair.images = s.pair.images
  mtr : u.mtr = s.mtr
  keys : u.keys = s.keys
  ports : u.ports = s.ports
  loops : ∀ n, p n → u.loopSt n = s.loopSt n

section Around

variable {p : Nat → Prop} {s u v : State}

theorem Around.refl : Around p s s := ⟨rfl, rfl, rfl, rfl, rfl, rfl, rfl, fun _ _ => rfl⟩

theorem Around.trans (h : Around p s u) (h' : Around p u v) : Around p s v :=
  ⟨h'.start.trans h.start, h'.tide.trans h.tide, h'.flash.trans h.flash, h'.images.trans h.images, h'.mtr.trans h.mtr, h'.keys.trans h.keys, h'.ports.trans h.ports,
    fun n hn => (h'.loops n hn).trans (h.loops n hn)⟩

theorem Around.weaken {q : Nat → Prop} (h : Around p s u) (le : ∀ n, q n → p n) : Around q s u :=
  ⟨h.start, h.tide, h.flash, h.images, h.mtr, h.keys, h.ports, fun n hn => h.loops n (le n hn)⟩

theorem Around.raise (h : Around p s u) (n k : Nat) : Around p s (raise n u k) := h.trans ⟨rfl, rfl, rfl, rfl, rfl, rfl, rfl, fun _ _ => rfl⟩

/-- The loop engine with its loops as they were. -/
theorem Around.updLoop (h : Around p s u) {f : LoopEng → LoopEng} (same : (f u.loop).loops = u.loop.loops) : Around p s (u.updLoop f) :=
  h.trans ⟨rfl, rfl, rfl, rfl, rfl, rfl, rfl, fun n _ => congrArg (Store.get ({} : LoopSt) · n) same⟩

theorem Around.updLoopSt (h : Around p s u) {n : Nat} (apart : ∀ r, p r → r ≠ n) (f : LoopSt → LoopSt) : Around p s (u.updLoopSt n f) :=
  h.trans ⟨rfl, rfl, rfl, rfl, rfl, rfl, rfl, fun r hr => Store.get_upd_other ({} : LoopSt) u.loop.loops n r f (apart r hr).symm⟩

theorem Around.foldl {α : Type} {f : State → α → State} (each : ∀ s a, Around p s (f s a)) (l : List α) (s : State) : Around p s (l.foldl f s) := by
  induction l generalizing s with
  | nil => exact .refl
  | cons a l ih => exact (each s a).trans (ih _)

end Around

theorem loopSt_updLoopSt (n : Nat) (f : LoopSt → LoopSt) (s : State) : (s.updLoopSt n f).loopSt n = f (s.loopSt n) :=
  Store.get_upd_same ({} : LoopSt) s.loop.loops n f

/-! ## One loop after its group's selection -/

/-- What a loop's law leaves in the loop. -/
structure Took (l : LoopLaw) (cycle : Word) (x : LoopSt) : Prop where
  started : x.started = true
  pv : x.pv = l.pv
  spw : x.spw = l.spw
  e : x.e = l.e
  u : x.u = l.u
  d : x.d = l.d
  kk : x.kk = l.kk
  last : x.last = cycle

theorem Took.drives {l : LoopLaw} {cycle : Word} {x : LoopSt} (h : Took l cycle x) (onUs : Nat) (drive : Bool) :
    Took l cycle { x with onUs := onUs, drive := drive } := ⟨h.started, h.pv, h.spw, h.e, h.u, h.d, h.kk, h.last⟩

theorem Took.phase {l : LoopLaw} {cycle : Word} {x : LoopSt} (h : Took l cycle x) (n : Nat) : Took l cycle { x with phase := n } :=
  ⟨h.started, h.pv, h.spw, h.e, h.u, h.d, h.kk, h.last⟩

theorem captureSample_around {p : Nat → Prop} (l : LoopLaw) (a i : Int) (tested : Bool) (time : TideTime) (s : State) :
    Around p s (captureSample l a i tested time s) := by
  refine .foldl (fun s ch => ?_) _ s
  dsimp only
  split
  · refine iteInduction (motive := Around p s) (fun _ => ?_) fun _ => ?_
    · exact (Around.refl.updLoop rfl).raise _ _
    · exact Around.refl.updLoop rfl
  · exact .refl

theorem advanceTest_around {p : Nat → Prop} (n : Nat) (s : State) : Around p s (advanceTest n s) := by
  unfold advanceTest
  split
  · exact .refl
  · exact iteInduction (motive := Around p s) (fun _ => (Around.refl.updLoop rfl).raise _ _) fun _ => Around.refl.updLoop rfl

theorem writeInput_around {p : Nat → Prop} (t : Ty) (i : Nat) (v : DWord) (s : State) : Around p s (writeInput t i v s) :=
  ⟨rfl, rfl, rfl, rfl, rfl, rfl, rfl, fun _ _ => rfl⟩

theorem writeCommitted_around {p : Nat → Prop} (t : Ty) (i : Nat) (v : DWord) (s : State) : Around p s (writeCommitted t i v s) :=
  iteInduction (motive := Around p s) (fun _ => .refl) fun _ => writeInput_around t i v s

/-- The output stage moves only what drives the loop's own channel. -/
theorem outputStage_spec (c : LoopCfg) (a : Int) (first : Bool) (s : State) : Around (· ≠ c.num) s (outputStage c a first s)
    ∧ ∀ l cycle, Took l cycle (s.loopSt c.num) → Took l cycle ((outputStage c a first s).loopSt c.num) := by
  unfold outputStage
  split
  · refine ⟨Around.refl.updLoopSt (fun _ hr => hr) _, fun l cycle took => ?_⟩
    rw [loopSt_updLoopSt]
    exact (iteInduction (motive := Took l cycle) (fun _ => took.drives _ _) fun _ => took).phase _
  · exact ⟨writeCommitted_around .., fun l cycle took => by rwa [(writeCommitted_around (p := fun _ => True) _ _ _ s).loops _ trivial]⟩
  · exact ⟨writeInput_around .., fun l cycle took => took⟩
  · exact ⟨.refl, fun _ _ took => took⟩

/-- The stages of a loop's sample. -/
theorem finishLoop_stages (time : TideTime) (laws : List LoopLaw) (s : State) (l : LoopLaw) : ∃ (a i : Int) (tested first range : Bool) (f : LoopSt → LoopSt),
    (∀ x, Took l (time.cycle.setWidth 32) (f x)) ∧ finishLoop time laws s l = advanceTest l.cfg.num (captureSample l a i tested time
      (outputStage l.cfg a first ((if range = true then raise 167 s l.cfg.num else s).updLoopSt l.cfg.num f))) := by
  unfold finishLoop
  generalize samplePeriod s l.cfg.group = period
  obtain ⟨tn, td⟩ := period
  extract_lets n x o w a ci
  generalize satQ (a * q24) l.c = back
  obtain ⟨back, b1⟩ := back
  dsimp only
  generalize satQ _ q24 = sum
  obtain ⟨i, b2⟩ := sum
  exact ⟨a, i, _, _, _, _, fun _ => ⟨rfl, rfl, rfl, rfl, rfl, rfl, rfl, rfl⟩, rfl⟩

theorem finishLoop_spec (time : TideTime) (laws : List LoopLaw) (s : State) (l : LoopLaw) : Around (· ≠ l.cfg.num) s (finishLoop time laws s l)
    ∧ Took l (time.cycle.setWidth 32) ((finishLoop time laws s l).loopSt l.cfg.num) := by
  obtain ⟨a, i, tested, first, range, f, takes, e⟩ := finishLoop_stages time laws s l
  rw [e]
  have warned : Around (· ≠ l.cfg.num) s (if range = true then raise 167 s l.cfg.num else s) :=
    iteInduction (motive := Around (· ≠ l.cfg.num) s) (fun _ => Around.refl.raise _ _) fun _ => .refl
  generalize (if range = true then raise 167 s l.cfg.num else s) = v at warned
  have kept := warned.updLoopSt (fun _ hr => hr) f
  have took := loopSt_updLoopSt l.cfg.num f v ▸ takes (v.loopSt l.cfg.num)
  generalize v.updLoopSt l.cfg.num f = v at kept took
  obtain ⟨drives, driven⟩ := outputStage_spec l.cfg a first v
  generalize outputStage l.cfg a first v = w at drives driven
  have rest {p : Nat → Prop} : Around p w (advanceTest l.cfg.num (captureSample l a i tested time w)) :=
    (captureSample_around l a i tested time w).trans (advanceTest_around l.cfg.num _)
  refine ⟨(kept.trans drives).trans rest, ?_⟩
  rw [rest.loops (p := fun _ => True) l.cfg.num trivial]
  exact driven l _ took

/-! ## The group -/

theorem noteWinner_around {p : Nat → Prop} (laws : List LoopLaw) (s : State) (g : Nat × List Nat) : Around p s (noteWinner laws s g) := by
  unfold noteWinner
  split
  · exact .refl
  · exact iteInduction (motive := Around p s) (fun _ => (Around.refl.updLoop rfl).raise _ _) fun _ => Around.refl.updLoop rfl

/-- Loops of different numbers finish one after the other, each with its own law. -/
theorem finishLoops_spec (time : TideTime) (laws : List LoopLaw) (l : List LoopLaw) (distinct : (l.map (·.cfg.num)).Nodup) (s : State) :
    Around (fun n => ∀ x ∈ l, x.cfg.num ≠ n) s (l.foldl (finishLoop time laws) s)
    ∧ ∀ x ∈ l, Took x (time.cycle.setWidth 32) ((l.foldl (finishLoop time laws) s).loopSt x.cfg.num) := by
  induction l generalizing s with
  | nil => exact ⟨.refl, fun _ h => nomatch h⟩
  | cons a l ih =>
    obtain ⟨apart, distinct⟩ := List.nodup_cons.1 distinct
    obtain ⟨kept, took⟩ := finishLoop_spec time laws s a
    obtain ⟨keep, takes⟩ := ih distinct (finishLoop time laws s a)
    rw [List.foldl_cons]
    refine ⟨(kept.weaken fun n hn => (hn a List.mem_cons_self).symm).trans (keep.weaken fun n hn x hx => hn x (List.mem_cons_of_mem _ hx)), fun x hx => ?_⟩
    obtain rfl | hx := List.mem_cons.1 hx
    · rw [keep.loops _ fun y hy e => apart (List.mem_map.2 ⟨y, hy, e⟩)]
      exact took
    · exact takes x hx

/-- Each loop of a sampled group takes the result of its law; the others stand. -/
theorem sampleGroup_spec (group : Nat) (time : TideTime) (meas : List SampleMeas) (volt : Int) (s : State)
    (distinct : (s.loopTable.map (·.num)).Nodup) : let t := sampleGroup group time meas volt s
    Around (fun n => ∀ c ∈ s.loopTable, c.num = n → c.group ≠ group) s t
    ∧ ∀ c ∈ s.loopTable, c.group = group → Took (loopLaw s c meas volt) (time.cycle.setWidth 32) (t.loopSt c.num) := by
  have mem (c : LoopCfg) : c ∈ s.loopTable.filter (·.group == group) ↔ c ∈ s.loopTable ∧ c.group = group := by
    rw [List.mem_filter, beq_iff_eq]
  unfold sampleGroup
  extract_lets laws s1
  have noted {p : Nat → Prop} : Around p s s1 := Around.foldl (fun s (g : List Nat × Nat) => noteWinner_around laws s (g.2, g.1)) _ s
  have nums : laws.map (·.cfg.num) = (s.loopTable.filter (·.group == group)).map (·.num) := List.map_map ..
  obtain ⟨keep, takes⟩ := finishLoops_spec time laws laws (nums ▸ distinct.sublist (List.filter_sublist.map _)) s1
  refine ⟨noted.trans (keep.weaken fun n hn x hx e => ?_), fun c hc hg => takes _ (List.mem_map.2 ⟨c, (mem c).2 ⟨hc, hg⟩, rfl⟩)⟩
  obtain ⟨c, hc, rfl⟩ := List.mem_map.1 hx
  obtain ⟨hc, hg⟩ := (mem c).1 hc
  exact hn c hc e hg

/-! ## The mark -/

theorem elapse_flash (n : Nat) (s : State) : (elapse n s).flash = s.flash := by
  unfold elapse
  simp only []
  (repeat' split) <;> simp only [State.updNtime_flash, State.updTide_flash, State.updJrn_flash, State.updClk_flash, State.updCal_flash]

/-- A mark that fires is counted. -/
theorem fireMark_counts {m a : Nat} {s u : State} {k : TideMark} (h : fireMark m a s = some (k, u)) :
    u.flash = s.flash ∧ Store.get 0 u.tide.fired m = Store.get 0 s.tide.fired m + 1 := by
  have reached (x : BitVec 16) : (reach x s).flash = s.flash ∧ (reach x s).tide.fired = s.tide.fired := by
    unfold reach
    split
    · obtain ⟨a, b, tide⟩ := elapse_tide (ticksTo s x.toNat) s
      refine ⟨elapse_flash (ticksTo s x.toNat) s, ?_⟩
      show (elapse (ticksTo s x.toNat) s).tide.fired = s.tide.fired
      rw [tide]
    · exact ⟨rfl, rfl⟩
  unfold fireMark at h
  split at h
  · cases h
  · dsimp only at h
    split at h
    · cases h
      obtain ⟨flash, fired⟩ := reached (BitVec.ofNat 16 k.angle)
      refine ⟨flash, ?_⟩
      show Store.get 0 (Store.upd 0 (reach _ s).tide.fired m (· + 1)) m = _
      rw [Store.get_upd_same, fired]
    · cases h

/-- A loop in manual follows its manual output where no test runs on it. -/
theorem loopLaw_manual {s : State} {c : LoopCfg} (started : (s.loopSt c.num).started = true) (manual : (s.loopSt c.num).manual = true)
    (untested : testOn s c.num = none) (meas : List SampleMeas) (volt : Int) :
    (loopLaw s c meas volt).u = clampI (s.loopSt c.num).man (s.loopSt c.num).lo (s.loopSt c.num).hi := by
  simp [loopLaw, started, manual, untested]

theorem loopLaw_sendLink (m : LinkMsg) (s : State) (c : LoopCfg) (meas : List SampleMeas) (volt : Int) :
    loopLaw (sendLink m s) c meas volt = loopLaw s c meas volt := by
  obtain ⟨a, b, d, e⟩ := sendLink_eq m s
  rw [e]
  rfl

theorem loopTable_of_man {s u : State} (h : u.man = s.man) : u.loopTable = s.loopTable := by
  unfold State.loopTable
  rw [h]

theorem loopSt_of_loop {s u : State} (h : u.loop = s.loop) (n : Nat) : u.loopSt n = s.loopSt n := by
  unfold State.loopSt
  rw [h]

theorem testOn_of_loop {s u : State} (h : u.loop = s.loop) (n : Nat) : testOn u n = testOn s n := by
  unfold testOn
  rw [h]

/-- A unit that is no standby computes its group, after what it forwards to a partner. -/
theorem loopSample_spec {k : TideMark} {s : State} (mark : Nat) (active : s.isStandby = false) (distinct : (s.loopTable.map (·.num)).Nodup) :
    let t := loopSample k mark s
    Around (fun n => ∀ c ∈ s.loopTable, c.num = n → c.group ≠ k.param) s t
    ∧ ∀ c ∈ s.loopTable, c.group = k.param →
      Took (loopLaw s c (captureMeasures s k.param) s.loop.volt) (s.tide.cycle.setWidth 32) (t.loopSt c.num) := by
  unfold loopSample
  rw [active, if_neg Bool.false_ne_true]
  extract_lets meas time v
  show let t := sampleGroup k.param time meas v.loop.volt v
    Around _ s t ∧ ∀ c ∈ s.loopTable, c.group = k.param → Took (loopLaw s c meas s.loop.volt) (s.tide.cycle.setWidth 32) (t.loopSt c.num)
  have forwards : v = s ∨ ∃ m, v = sendLink m s :=
    iteInduction (motive := fun w => w = s ∨ ∃ m, w = sendLink m s) (fun _ => .inr ⟨_, rfl⟩) fun _ => .inl rfl
  clear_value v
  obtain rfl | ⟨m, rfl⟩ := forwards
  · exact sampleGroup_spec k.param time meas v.loop.volt v distinct
  · have table : (sendLink m s).loopTable = s.loopTable := loopTable_of_man (sendLink_man m s)
    obtain ⟨keep, takes⟩ := sampleGroup_spec k.param time meas s.loop.volt (sendLink m s) (table ▸ distinct)
    rw [table] at keep takes
    rw [show (sendLink m s).loop.volt = s.loop.volt from congrArg LoopEng.volt (sendLink_loop m s)]
    have sent : Around (fun n => ∀ c ∈ s.loopTable, c.num = n → c.group ≠ k.param) s (sendLink m s) :=
      ⟨sendLink_start m s, sendLink_tide m s, sendLink_flash m s, sendLink_images m s, sendLink_mtr m s,
        sendLink_keys m s, sendLink_ports m s, fun n _ => loopSt_of_loop (sendLink_loop m s) n⟩
    exact ⟨sent.trans keep, fun c hc hg => loopLaw_sendLink m s c meas s.loop.volt ▸ takes c hc hg⟩

/-- Settles O45: the laws are those of the state that the mark finds; each loop of the group is finished once, with its own law, and
neither the noted winners nor another loop's output touch what it keeps. -/
theorem loopGroupSample : Obligations.LoopGroupSample := by
  intro s u m k calm active distinct fires
  obtain ⟨flash, count⟩ := fireMark_counts fires
  have fired := fireMark_fired fires
  have loop : u.loop = s.loop := fired.loop.trans (clearSent_loop s)
  have table : u.loopTable = s.loopTable := loopTable_of_man (fired.man.trans (clearSent_man s))
  have stands (n : Nat) : u.loopSt n = s.loopSt n := loopSt_of_loop loop n
  have cycle : u.tide.cycle = s.tide.cycle := fired.cycle.trans (congrArg (·.cycle) (clearSent_tide s))
  have awake : u.isStandby = false := by
    obtain ⟨a, b, c, e⟩ := clearSent_eq s
    unfold State.isStandby
    rw [fired.pair, e]
    exact active
  obtain ⟨keep, takes⟩ := loopSample_spec (k := k) m.toNat awake (table.symm ▸ distinct)
  rw [table] at keep takes
  generalize run : loopSample k m.toNat u = v at keep takes
  have calm' : Calm (applyOutputs v) := ((fired.calm calm).of_same keep.start keep.images).applyOutputs
  refine gives_mark calm fires rfl (congrArg applyOutputs run) calm' fun t ended => ?_
  have loops (n : Nat) : t.loopSt n = v.loopSt n := loopSt_of_loop (ended.loop.trans (applyOutputs_loop v)) n
  have tide : t.tide = u.tide := ended.tide.trans ((applyOutputs_tide v).trans keep.tide)
  refine ⟨fun c hc hg => ?_, fun n hn => ?_, ?_, ?_, ?_, ?_⟩
  · obtain ⟨started, pv, spw, e, output, d, kk, last⟩ := takes c hc hg
    rw [loops]
    refine ⟨started, pv, spw, e, output, d, kk, last.trans (by rw [cycle]), fun began manual untested => output.trans ?_⟩
    have unturned : testOn u c.num = none := (testOn_of_loop loop c.num).trans untested
    rw [loopLaw_manual (stands c.num ▸ began) (stands c.num ▸ manual) unturned, stands]
  · rw [loops, keep.loops n hn, stands]
  · rw [tide, count, clearSent_tide]
  · rw [tide, cycle]
  · exact ended.start.trans ((applyOutputs_start v).trans (keep.start.trans (fired.start.trans (clearSent_start s))))
  · exact (congrArg Still.flash ended.still).trans ((applyOutputs_flash v).trans (keep.flash.trans (flash.trans (clearSent_flash s))))

end Sys2Proof.Machine
end

section
/-! SUPPORT. Messages of the partner in sequence: the tide's, forwarded events, digests and health maps (02 R46; 14 R403; 17 R482). -/

namespace Sys2Proof.Machine

open Sys2Proof

/-! ## A message that comes next -/

/-- The unit as the next message of its partner finds it (14 R398). -/
def State.hears (s : State) (sent : List LinkMsg) (held : Option (Nat × SolverMsg)) (seq : Word) : State :=
  (s.updPair fun p => p.sends sent held seq).updPair fun p => { p with rxSeq := nextSeq s.pair.rxSeq }

/-- Blocks that no message of the partner reaches, but for the meters at a resynchronisation. -/
structure Spares (s u : State) : Prop where
  start : u.start = s.start
  mtr : u.mtr = s.mtr
  keys : u.keys = s.keys
  ports : u.ports = s.ports
  images : u.pair.images = s.pair.images

/-- Those blocks are as they were. -/
def spared (s t : State) : Prop := t.start = s.start ∧ t.mtr = s.mtr ∧ t.keys = s.keys ∧ t.ports = s.ports

section Spares

variable {s u v t : State}

theorem Spares.refl : Spares s s := ⟨rfl, rfl, rfl, rfl, rfl⟩

theorem Spares.trans (h : Spares s u) (h' : Spares u v) : Spares s v :=
  ⟨h'.start.trans h.start, h'.mtr.trans h.mtr, h'.keys.trans h.keys, h'.ports.trans h.ports, h'.images.trans h.images⟩

theorem Spares.calm (h : Spares s u) (calm : Calm s) : Calm u := calm.of_same h.start h.images

theorem Spares.ended (h : Spares s u) (ended : Ended u t) : spared s t :=
  ⟨ended.start.trans h.start, ended.mtr.trans h.mtr, ended.keys.trans h.keys, ended.ports.trans h.ports⟩

theorem Spares.raise (h : Spares s u) (n k : Nat) : Spares s (raise n u k) := h.trans ⟨rfl, rfl, rfl, rfl, rfl⟩

theorem Spares.updPair (h : Spares s u) {f : Pair → Pair} (images : (f u.pair).images = u.pair.images) : Spares s (u.updPair f) :=
  h.trans ⟨rfl, rfl, rfl, rfl, images⟩

theorem Spares.sendLink (h : Spares s u) (m : LinkMsg) : Spares s (sendLink m u) :=
  h.trans ⟨sendLink_start .., sendLink_mtr .., sendLink_keys .., sendLink_ports .., sendLink_images ..⟩

theorem Spares.applyOutputs (h : Spares s u) : Spares s (applyOutputs u) :=
  h.trans ⟨applyOutputs_start u, applyOutputs_mtr u, applyOutputs_keys u, applyOutputs_ports u, congrArg Pair.images (applyOutputs_pair u)⟩

theorem Spares.foldl {α : Type} {f : State → α → State} (each : ∀ s a, Spares s (f s a)) (l : List α) (s : State) : Spares s (l.foldl f s) := by
  induction l generalizing s with
  | nil => exact .refl
  | cons a l ih => exact (each s a).trans (ih _)

end Spares

theorem Spares.hears (s : State) (sent : List LinkMsg) (held : Option (Nat × SolverMsg)) (seq : Word) : Spares s (s.hears sent held seq) :=
  ⟨rfl, rfl, rfl, rfl, rfl⟩

/-- A message that comes in sequence, by what its effect makes of the unit. -/
theorem Calm.gives_heard {s : State} (calm : Calm s) (up : s.pair.linkUp = true) {i : Instr} {f : State → State}
    (e : exec i s = actOn s (receive (nextSeq s.pair.rxSeq) f)) {P : State → Prop}
    (shows : ∀ a b c, Calm (f (s.hears a b c)) ∧ ∀ t, Ended (f (s.hears a b c)) t → P t) : Gives i s P := by
  obtain ⟨a, b, c, cleared⟩ := clearSent_eq s
  obtain ⟨calm', made⟩ := shows a b c
  exact calm.gives_from cleared e (receive_next (s := s.updPair fun p => p.sends a b c) up f) calm' made

/-- One that spares what messages spare. -/
theorem Calm.gives_next {s : State} (calm : Calm s) (up : s.pair.linkUp = true) {i : Instr} {f : State → State}
    (e : exec i s = actOn s (receive (nextSeq s.pair.rxSeq) f)) {P : State → Prop}
    (shows : ∀ a b c, Spares s (f (s.hears a b c)) ∧ ∀ t, spared s t → Ended (f (s.hears a b c)) t → P t) : Gives i s P :=
  calm.gives_heard up e fun a b c =>
    let ⟨spares, made⟩ := shows a b c
    ⟨spares.calm calm, fun t ended => made t (spares.ended ended) ended⟩

/-- A command on the pair that is no message. -/
theorem Calm.gives_link {s : State} (calm : Calm s) {i : Instr} {f : State → State} (e : exec i s = actOn s f) {P : State → Prop}
    (shows : ∀ a b c, Spares s (f (s.updPair fun p => p.sends a b c)) ∧ ∀ t, spared s t → Ended (f (s.updPair fun p => p.sends a b c)) t → P t) : Gives i s P := by
  obtain ⟨a, b, c, cleared⟩ := clearSent_eq s
  obtain ⟨spares, made⟩ := shows a b c
  exact calm.gives_from cleared e rfl (spares.calm calm) fun t ended => made t (spares.ended ended) ended

section Messages

variable {s : State} (calm : Calm s) (up : s.pair.linkUp = true)
include calm up

/-! ## TIDE (02 R43, R46, R47) -/

theorem gives_tide_follow {x : Tracker} (standby : s.isStandby = true) (follows : s.tide.mode = .follow) (free : s.tide.steer = none)
    (valid : validCycle s.tideSetup x = true) : let e := wrapAngle s.tide.angle
    Gives (.tideMessage (nextSeq s.pair.rxSeq) x) s fun t =>
      (e.natAbs ≤ 16 → t.tide.steer = none ∧ t.tide.rate = x.freq * 1000)
      ∧ (16 < e.natAbs → t.tide.steer = some (decide (0 < e)) ∧ t.tide.rate = slewRate (decide (0 < e)) (x.freq * 1000))
      ∧ t.tide.meas = x.freq * 1000 ∧ t.tide.cycle = s.tide.cycle ∧ t.tide.angle = s.tide.angle
      ∧ spared s t := by
  intro e
  refine calm.gives_next up rfl fun a b c => ?_
  have side : steerBy s.tide.steer e = if e.natAbs ≤ 16 then none else some (decide (0 < e)) := by
    rw [free, steerBy]
    by_cases zero : e = 0
    · rw [if_pos zero, if_pos (by rw [zero]; decide)]
    · rw [if_neg zero, if_neg nofun]
  have run : tideIn x (s.hears a b c) = (s.hears a b c).updTide fun y => { y with
      meas := x.freq * 1000, invalidRun := 0, steer := steerBy s.tide.steer e
      rate := match steerBy s.tide.steer e with | some a => slewRate a (x.freq * 1000) | none => x.freq * 1000 } := by
    have rate : followedRate x (s.hears a b c) = (x.freq * 1000, 0) := if_pos valid
    refine (if_pos standby).trans ((if_pos follows).trans ?_)
    unfold steerTide
    rw [rate]
    rfl
  rw [run, side]
  refine ⟨⟨rfl, rfl, rfl, rfl, rfl⟩, fun t keeps ended => ?_⟩
  rw [ended.tide]
  refine ⟨fun near => ?_, fun far => ?_, rfl, rfl, rfl, keeps⟩
  · rw [if_pos near]
    exact ⟨rfl, rfl⟩
  · rw [if_neg (Nat.not_le.2 far)]
    exact ⟨rfl, rfl⟩

theorem gives_tide_active (x : Tracker) (active : s.isStandby = false) : Gives (.tideMessage (nextSeq s.pair.rxSeq) x) s fun t =>
    t.tide = { s.tide with peerTracker := some x } ∧ spared s t := by
  refine calm.gives_next up rfl fun a b c => ?_
  have run : tideIn x (s.hears a b c) = (s.hears a b c).updTide fun y => { y with peerTracker := some x } := if_neg (ne_true_of_eq_false active)
  rw [run]
  exact ⟨⟨rfl, rfl, rfl, rfl, rfl⟩, fun t keeps ended => ⟨ended.tide, keeps⟩⟩

end Messages

/-! ## EVENTS (17 R482) -/

/-- A source that the active unit forwarded pends. -/
theorem settleEvents_peer_pend (s : State) {n : Nat} (hn : n < 256) (h : raisedIn s.evt.edgePeer n) : (settleEvents s).evt.pend.getLsbD n = true := by
  unfold settleEvents
  split
  · rename_i empty
    obtain ⟨k, h⟩ := h
    simp only [Bool.and_eq_true, List.isEmpty_iff] at empty
    simp [empty.1.2] at h
  · extract_lets own peer s1 s2 s3 recs s4 before urgent
    have performed : ∀ (l : List (Nat × Nat)) (v : State), raisedIn l n → (l.foldl performPeer v).evt.pend.getLsbD n = true := by
      intro l
      induction l with
      | nil => exact fun _ ⟨_, h⟩ => nomatch h
      | cons x l ih =>
        rintro v ⟨k, hk⟩
        obtain rfl | hk := List.mem_cons.1 hk
        · refine foldl_performPeer_pend l _ n ?_
          have bit : (performPeer v (n, k)).evt.pend = putBit v.evt.pend n true := by
            unfold performPeer
            extract_lets r w
            split <;> rfl
          rw [bit, getLsbD_putBit]
          simp [hn]
        · exact ih _ ⟨k, hk⟩
    have h4 : s4.evt.pend.getLsbD n = true := performed peer s2 ((raisedIn_foldl_mergeRaise _ _ _).2 (.inl h))
    clear_value s4 recs before urgent
    split
    rename_i s5 d made
    have h5 : s5.evt.pend.getLsbD n = true := by
      have same := createAll_evt recs s4
      rw [made] at same
      rwa [same]
    have h6 : (if (d && !own.any (·.1 == 216)) = true then performRaise s5 (216, 0) else s5).evt.pend.getLsbD n = true :=
      iteInduction (motive := fun v : State => v.evt.pend.getLsbD n = true) (fun _ => by rw [performRaise_pend, h5, Bool.true_or]) fun _ => h5
    extract_lets s7
    exact iteInduction (motive := fun v : State => v.evt.pend.getLsbD n = true) (fun _ => by rw [startFlush_evt]; exact h6) fun _ => h6

theorem forwardEvents_pend (s : State) : (forwardEvents s).evt.pend = s.evt.pend := by
  unfold forwardEvents
  split
  · rfl
  · extract_lets l u
    exact iteInduction (motive := fun v : State => v.evt.pend = s.evt.pend) (fun _ => by rw [sendLink_evt]; rfl) fun _ => rfl

theorem settle_calm {u : State} (calm : Calm u) : settle u = forwardEvents (settleEvents u) := by
  unfold settle
  rw [if_pos (.inl calm.on), tryImages_none u calm.images]

theorem gives_events {s : State} (calm : Calm s) (up : s.pair.linkUp = true) {l : List (BitVec 8 × Nat)} (standby : s.isStandby = true) :
    Gives (.events (nextSeq s.pair.rxSeq) l) s fun t => (∀ e ∈ l, t.evt.pend.getLsbD e.1.toNat = true)
      ∧ t.pair.rxSeq = nextSeq s.pair.rxSeq ∧ t.scan.data = s.scan.data ∧ spared s t := by
  obtain ⟨a, b, c, cleared⟩ := clearSent_eq s
  let u := (s.hears a b c).updEvt fun e => { e with edgePeer := e.edgePeer ++ l.map fun (n, k) => (n.toNat, k) }
  have run : receive (nextSeq s.pair.rxSeq) (eventsIn l) (s.updPair fun p => p.sends a b c) = u :=
    (receive_next (s := s.updPair fun p => p.sends a b c) up (eventsIn l)).trans (if_pos standby)
  have spares : Spares s u := ⟨rfl, rfl, rfl, rfl, rfl⟩
  have told : ∀ e ∈ l, raisedIn u.evt.edgePeer e.1.toNat := fun e he =>
    ⟨e.2, List.mem_append_right _ (List.mem_map.2 ⟨e, he, rfl⟩)⟩
  have rx : u.pair.rxSeq = nextSeq s.pair.rxSeq := rfl
  have data : u.scan.data = s.scan.data := rfl
  refine .of_actOn (f := receive (nextSeq s.pair.rxSeq) (eventsIn l)) rfl calm.on ?_
  rw [cleared, run]
  clear_value u
  have ended := (spares.calm calm).ended
  obtain ⟨_, _, _, pair⟩ := ended.pair
  refine ⟨fun e he => ?_, ?_, ended.data.trans data, spares.ended ended⟩
  · rw [settle_calm (spares.calm calm), forwardEvents_pend]
    exact settleEvents_peer_pend u e.1.isLt (told e he)
  · rw [pair]
    exact rx

/-! ## DIGEST (14 R403, R404) -/

theorem leaveLockstep_spares {s : State} : Spares s (leaveLockstep s) :=
  iteInduction (motive := Spares s) (fun _ => (Spares.refl.updPair rfl).raise _ _) fun _ => .refl

theorem leaveLockstep_other {s : State} (h : s.pair.role ≠ .lockstep) : leaveLockstep s = s := if_neg h

theorem leaveLockstep_standby {s : State} (h : s.pair.role = .lockstep) :
    leaveLockstep s = raise 195 (s.updPair fun p => { p with role := .notReady, joinNext := false, own := [], peer := [] }) := if_pos h

/-- The unit after a mismatch of digests (14 R404). -/
structure Mismatched (s u : State) : Prop where
  spares : Spares s u
  compared : u.pair.compared = s.pair.compared
  mismatch : u.pair.mismatch = satInc s.pair.mismatch
  raised : raisedIn u.evt.edge 196
  own : u.pair.own = []
  peer : u.pair.peer = []

/-- The mismatch as noted, before what follows of it. -/
def State.differs (s : State) : State :=
  raise 196 (s.updPair fun p => { p with mismatch := satInc p.mismatch, mismatchAt := s.jrn.optime :: p.mismatchAt, own := [], peer := [] })

theorem differs_mismatched (s : State) : Mismatched s s.differs := ⟨⟨rfl, rfl, rfl, rfl, rfl⟩, rfl, rfl, raisedIn_raise .., rfl, rfl⟩

theorem digestMismatch_active {s : State} (role : s.pair.role = .activeLockstep) :
    Mismatched s (digestMismatch s) ∧ (digestMismatch s).pair.role = .activeAlone := by
  have awake : s.differs.isStandby = false := by
    unfold State.isStandby
    rw [show s.differs.pair.role = .activeLockstep from role]
  obtain ⟨spares, compared, mismatch, raised, own, peer⟩ := differs_mismatched s
  have alone : Mismatched s (s.differs.updPair fun p => { p with role := .activeAlone }) :=
    ⟨spares.updPair rfl, compared, mismatch, raised, own, peer⟩
  have run : digestMismatch s = if mismatchesHour (s.differs.updPair fun p => { p with role := .activeAlone })
        < mismatchLimit (s.differs.updPair fun p => { p with role := .activeAlone })
      then beginResync (s.differs.updPair fun p => { p with role := .activeAlone }) else s.differs.updPair fun p => { p with role := .activeAlone } :=
    (if_neg (ne_true_of_eq_false awake)).trans (if_pos role)
  rw [run]
  split
  · exact ⟨⟨alone.spares.updPair rfl, alone.compared, alone.mismatch, alone.raised, alone.own, alone.peer⟩, rfl⟩
  · exact ⟨alone, rfl⟩

theorem digestMismatch_standby {s : State} (role : s.pair.role = .lockstep) : Mismatched s (digestMismatch s)
    ∧ ((digestMismatch s).pair.role = .notReady ∨ (digestMismatch s).pair.role = .heldOut) ∧ raisedIn (digestMismatch s).evt.edge 195 := by
  have asleep : s.differs.isStandby = true := by
    unfold State.isStandby
    rw [show s.differs.pair.role = .lockstep from role]
  obtain ⟨spares, compared, mismatch, raised, -, -⟩ := differs_mismatched s
  let u := raise 195 (s.differs.updPair fun p => { p with role := .notReady, joinNext := false, own := [], peer := [] })
  have left : Mismatched s u := ⟨(spares.updPair rfl).raise _ _, compared, mismatch, raisedIn_raise_of _ _ _ _ raised, rfl, rfl⟩
  have told : raisedIn u.evt.edge 195 := raisedIn_raise ..
  have run : digestMismatch s = if mismatchLimit u ≤ mismatchesHour u ∧ u.pair.role = .notReady then u.updPair fun p => { p with role := .heldOut } else u := by
    have leaves : leaveLockstep s.differs = u := if_pos role
    rw [← leaves]
    exact if_pos asleep
  have ready : u.pair.role = .notReady := rfl
  rw [run]
  clear_value u
  split
  · exact ⟨⟨left.spares.updPair rfl, left.compared, left.mismatch, left.raised, left.own, left.peer⟩, .inr rfl, told⟩
  · exact ⟨left, .inl ready, told⟩

/-- A digest of the partner meets its comparison on the same pair (01 R23). -/
theorem digestIn_eq (m : DigestMsg) (s : State) : ∃ u, digestIn m s = peerDigest m u ∧ Spares s u ∧ u.pair = s.pair := by
  unfold digestIn
  extract_lets u
  refine ⟨u, rfl, ?_⟩
  exact iteInduction (motive := fun u : State => Spares s u ∧ u.pair = s.pair) (fun _ => ⟨⟨rfl, rfl, rfl, rfl, rfl⟩, rfl⟩) fun _ => ⟨.refl, rfl⟩

theorem peerDigest_first {s : State} {m : DigestMsg} (compares : comparing s = true) (first : s.pair.own.find? (sameDigest m) = none) :
    peerDigest m s = s.updPair fun p => { p with peer := p.peer ++ [m] } := by
  unfold peerDigest
  rw [if_pos compares, first]

theorem peerDigest_found {s : State} {m d : DigestMsg} (compares : comparing s = true) (found : s.pair.own.find? (sameDigest m) = some d) :
    peerDigest m s = compareDigest d m (s.updPair fun p => { p with own := p.own.filter (fun x => !sameDigest m x) }) := by
  unfold peerDigest
  rw [if_pos compares, found]

theorem comparing_of {s u : State} (h : u.pair.role = s.pair.role) : comparing u = comparing s := by
  unfold comparing
  rw [h]

section Digests

variable {s : State} (calm : Calm s) (up : s.pair.linkUp = true) {m : DigestMsg} (compares : comparing s = true)
include calm up compares

theorem gives_digest_first (first : s.pair.own.find? (sameDigest m) = none) : Gives (.digest (nextSeq s.pair.rxSeq) m) s fun t =>
    t.pair = { s.pair with rxSeq := nextSeq s.pair.rxSeq, peer := s.pair.peer ++ [m], sent := t.pair.sent, held := t.pair.held, txSeq := t.pair.txSeq }
    ∧ spared s t := by
  refine calm.gives_next up rfl fun a b c => ?_
  obtain ⟨u, run, spares, same⟩ := digestIn_eq m (s.hears a b c)
  rw [run, peerDigest_first ((comparing_of (congrArg Pair.role same)).trans compares) ((congrArg (fun p : Pair => p.own.find? (sameDigest m)) same).trans first)]
  refine ⟨((Spares.hears s a b c).trans spares).updPair rfl, fun t keeps ended => ?_⟩
  obtain ⟨x, y, z, pair⟩ := ended.pair
  rw [pair, State.updPair_pair, same]
  exact ⟨rfl, keeps⟩

omit calm up in
/-- What the partner's second digest of a work is compared with. -/
theorem digestIn_found {d : DigestMsg} (found : s.pair.own.find? (sameDigest m) = some d) (a : List LinkMsg) (b : Option (Nat × SolverMsg)) (c : Word) :
    ∃ u, digestIn m (s.hears a b c) = (if d.digest = m.digest then u else digestMismatch u) ∧ Spares s u ∧ u.pair.compared = s.pair.compared + 1
      ∧ u.pair.mismatch = s.pair.mismatch ∧ u.pair.role = s.pair.role := by
  obtain ⟨v, run, spares, same⟩ := digestIn_eq m (s.hears a b c)
  rw [run, peerDigest_found ((comparing_of (congrArg Pair.role same)).trans compares) ((congrArg (fun p : Pair => p.own.find? (sameDigest m)) same).trans found)]
  refine ⟨_, rfl, (((Spares.hears s a b c).trans spares).updPair rfl).updPair rfl, ?_⟩
  rw [State.updPair_pair, State.updPair_pair, same]
  exact ⟨rfl, rfl, rfl⟩

theorem gives_digest_same {d : DigestMsg} (found : s.pair.own.find? (sameDigest m) = some d) (same : d.digest = m.digest) :
    Gives (.digest (nextSeq s.pair.rxSeq) m) s fun t => t.pair.compared = s.pair.compared + 1
      ∧ t.pair.mismatch = s.pair.mismatch ∧ t.pair.role = s.pair.role ∧ spared s t := by
  refine calm.gives_next up rfl fun a b c => ?_
  obtain ⟨u, run, spares, compared, mismatch, role⟩ := digestIn_found compares found a b c
  rw [run, if_pos same]
  refine ⟨spares, fun t keeps ended => ?_⟩
  obtain ⟨x, y, z, pair⟩ := ended.pair
  rw [pair]
  exact ⟨compared, mismatch, role, keeps⟩

theorem gives_digest_differs {d : DigestMsg} (found : s.pair.own.find? (sameDigest m) = some d) (differ : d.digest ≠ m.digest) :
    Gives (.digest (nextSeq s.pair.rxSeq) m) s fun t => t.pair.compared = s.pair.compared + 1
      ∧ t.pair.mismatch = satInc s.pair.mismatch ∧ t.evt.pend.getLsbD 196 = true ∧ t.pair.own = [] ∧ t.pair.peer = []
      ∧ (s.pair.role = .activeLockstep → t.pair.role = .activeAlone)
      ∧ (s.pair.role = .lockstep → (t.pair.role = .notReady ∨ t.pair.role = .heldOut) ∧ t.evt.pend.getLsbD 195 = true) ∧ spared s t := by
  refine calm.gives_next up rfl fun a b c => ?_
  obtain ⟨u, run, spares, compared, mismatch, role⟩ := digestIn_found compares found a b c
  rw [run, if_neg differ]
  have roles : Mismatched u (digestMismatch u) ∧ (s.pair.role = .activeLockstep → (digestMismatch u).pair.role = .activeAlone)
      ∧ (s.pair.role = .lockstep → ((digestMismatch u).pair.role = .notReady ∨ (digestMismatch u).pair.role = .heldOut)
        ∧ raisedIn (digestMismatch u).evt.edge 195) := by
    obtain active | standby := Bool.or_eq_true_iff.1 compares
    · have active : s.pair.role = .activeLockstep := eq_of_beq active
      obtain ⟨after, alone⟩ := digestMismatch_active (role.trans active)
      exact ⟨after, fun _ => alone, fun h => (nomatch active.symm.trans h)⟩
    · have standby : s.pair.role = .lockstep := eq_of_beq standby
      obtain ⟨after, leaves, told⟩ := digestMismatch_standby (role.trans standby)
      exact ⟨after, fun h => (nomatch standby.symm.trans h), fun _ => ⟨leaves, told⟩⟩
  obtain ⟨after, active, standby⟩ := roles
  refine ⟨spares.trans after.spares, fun t keeps ended => ?_⟩
  have pend := ended.pend
  obtain ⟨x, y, z, pair⟩ := ended.pair
  rw [pair]
  exact ⟨after.compared.trans compared, after.mismatch.trans (by rw [mismatch]), pend 196 (by decide) after.raised, after.own, after.peer, active,
    fun h => ⟨(standby h).1, pend 195 (by decide) (standby h).2⟩, keeps⟩

end Digests

/-! ## HEALTH (05 R129, R135; 14 R414) -/

theorem joinPlacement_spec (x : Manifest) (epoch : Word) (tiles : BitVec 64) (cores : BitVec 5) (s : State) :
    let u := joinPlacement x epoch tiles cores s
    Spares s u ∧ u.pair = s.pair ∧ u.place.peer = s.place.peer ∧ u.place.taken = s.place.taken ∧ u.place.cur = s.place.cur := by
  dsimp only
  unfold joinPlacement
  split
  · exact ⟨.refl, rfl, rfl, rfl, rfl⟩
  · exact ⟨⟨rfl, rfl, rfl, rfl, rfl⟩, rfl, rfl, rfl, rfl⟩

theorem takeEpoch_spec (m : HealthMsg) (s : State) : let u := takeEpoch m s
    Spares s u ∧ u.pair = s.pair ∧ u.place.peer = s.place.peer ∧ (s.man.isSome = true → u.place.taken = true) ∧ u.place.cur = s.place.cur := by
  dsimp only
  cases man : s.man with
  | none =>
    have run : takeEpoch m s = s := by
      unfold takeEpoch
      rw [man]
    rw [run]
    exact ⟨.refl, rfl, rfl, nofun, rfl⟩
  | some x =>
    have run : takeEpoch m s = joinPlacement x (BitVec.ofNat 32 (drawFree s).1) m.e0Tiles m.e0Cores
        (((drawFree s).2.updPlace fun p => { p with taken := true }).updDev fun d => { d with placeEpoch := BitVec.ofNat 32 (drawFree s).1 }) := by
      unfold takeEpoch
      rw [man]
    rw [run]
    generalize takes : (((drawFree s).2.updPlace fun p => { p with taken := true }).updDev fun d => { d with placeEpoch := BitVec.ofNat 32 (drawFree s).1 }) = u
    obtain ⟨spares, pair, peer, taken, cur⟩ := joinPlacement_spec x (BitVec.ofNat 32 (drawFree s).1) m.e0Tiles m.e0Cores u
    have first : Spares s u ∧ u.pair = s.pair ∧ u.place = { s.place with taken := true } := by
      subst takes
      exact ⟨⟨rfl, rfl, rfl, rfl, rfl⟩, rfl, rfl⟩
    obtain ⟨first, pair', place⟩ := first
    rw [place] at peer taken cur
    exact ⟨first.trans spares, pair.trans pair', peer, fun _ => taken, cur⟩

theorem healthIn_spec (m : HealthMsg) (s : State) {u : State} (run : healthIn m s = u) : Spares s u ∧ u.place.peer = m ∧ u.pair = { s.pair with peerFail := m.selfTest &&& 0xF != 0 }
    ∧ (epochDue s = false → u.place = { s.place with peer := m, peerSeen := true })
    ∧ (epochDue s = true → s.man.isSome = true → u.place.taken = true ∧ u.place.cur = s.place.cur) := by
  unfold healthIn at run
  extract_lets v w at run
  have noted : Spares s w := ⟨rfl, rfl, rfl, rfl, rfl⟩
  have place : w.place = { s.place with peer := m, peerSeen := true } := rfl
  have pair : w.pair = { s.pair with peerFail := m.selfTest &&& 0xF != 0 } := rfl
  have man : w.man = s.man := rfl
  have due : epochDue w = epochDue s := rfl
  clear_value v w
  rw [due] at run
  split at run <;> subst run
  · rename_i due
    obtain ⟨spares, same, peer, taken, cur⟩ := takeEpoch_spec m w
    rw [place] at peer cur
    exact ⟨noted.trans spares, peer, same.trans pair, fun idle => absurd (due.symm.trans idle) (by decide), fun _ adopted => ⟨taken (man ▸ adopted), cur⟩⟩
  · rename_i idle
    exact ⟨noted, congrArg Place.peer place, pair, fun _ => place, fun due => absurd due idle⟩

theorem gives_health {s : State} (calm : Calm s) (up : s.pair.linkUp = true) (m : HealthMsg) : Gives (.health (nextSeq s.pair.rxSeq) m) s fun t =>
    t.place.peer = m ∧ t.pair.peerFail = (m.selfTest &&& 0xF != 0) ∧ t.pair.role = s.pair.role ∧ spared s t
    ∧ (epochDue s = false → t.place = { s.place with peer := m, peerSeen := true })
    ∧ (epochDue s = true → s.man.isSome = true → t.place.taken = true ∧ t.place.cur = s.place.cur) := by
  refine calm.gives_next up rfl fun a b c => ?_
  obtain ⟨spares, peer, pair, idle, due⟩ := healthIn_spec m (s.hears a b c) rfl
  refine ⟨(Spares.hears s a b c).trans spares, fun t keeps ended => ?_⟩
  obtain ⟨x, y, z, pair'⟩ := ended.pair
  rw [pair', ended.place, pair]
  exact ⟨peer, rfl, rfl, keeps, idle, due⟩

end Sys2Proof.Machine
end

section
/-! SUPPORT. The crossing link's own events and the partner's keep-alive line (04 R89; 14 R396 to R399). -/

namespace Sys2Proof.Machine

open Sys2Proof

section Link

variable {s : State} (calm : Calm s)
include calm

theorem gives_linkDown (up : s.pair.linkUp = true) : Gives .crossingLinkDown s fun t => t.pair.linkUp = false ∧ t.pair.laneUp = 0
    ∧ t.evt.pend.getLsbD 197 = true ∧ (s.pair.role = .lockstep → t.pair.role = .notReady)
    ∧ (s.pair.role = .activeLockstep ∨ s.pair.role = .activeStaging → t.pair.role = .activeAlone)
    ∧ (s.pair.role ≠ .lockstep → s.pair.role ≠ .activeLockstep → s.pair.role ≠ .activeStaging → t.pair.role = s.pair.role) ∧ spared s t := by
  refine calm.gives_link rfl fun a b c => ?_
  let u := s.updPair fun p => p.sends a b c
  let v := leaveLockstep u
  have run : linkDown u = raise 197 (v.updPair fun p =>
      { p with linkUp := false, laneUp := 0, held := none, peerActive := false, joining := false, joinNext := false
               role := if standbyReady v then .activeAlone else p.role }) := if_pos up
  have spares : Spares s v := .trans (u := u) ⟨rfl, rfl, rfl, rfl, rfl⟩ leaveLockstep_spares
  have stays : s.pair.role ≠ .lockstep → v.pair.role = s.pair.role := fun h =>
    (congrArg (fun w : State => w.pair.role) (leaveLockstep_other (s := u) h)).trans rfl
  have leaves : s.pair.role = .lockstep → v.pair.role = .notReady := fun h => congrArg (fun w : State => w.pair.role) (leaveLockstep_standby (s := u) h)
  show Spares s (linkDown u) ∧ ∀ t, spared s t → Ended (linkDown u) t → _
  rw [run]
  clear_value v
  refine ⟨(spares.updPair rfl).raise _ _, fun t keeps ended => ?_⟩
  have pend := ended.pend 197 (by decide) (raisedIn_raise ..)
  obtain ⟨x, y, z, pair⟩ := ended.pair
  have role : t.pair.role = if standbyReady v then .activeAlone else v.pair.role := congrArg Pair.role pair
  rw [role, pair]
  refine ⟨rfl, rfl, pend, fun h => ?_, fun h => ?_, fun h h' h'' => ?_, keeps⟩
  · have none : ¬standbyReady v = true := by
      unfold standbyReady
      rw [leaves h]
      decide
    rw [if_neg none, leaves h]
  · have same : v.pair.role = s.pair.role := stays fun lock => by obtain h | h := h <;> exact nomatch h.symm.trans lock
    refine if_pos ?_
    unfold standbyReady
    obtain h | h := h <;> rw [same, h] <;> decide
  · rw [if_neg, stays h]
    unfold standbyReady
    rw [stays h, Bool.or_eq_true, beq_iff_eq, beq_iff_eq]
    exact not_or.2 ⟨h', h''⟩

omit calm in
/-- A link that comes up begins on a lane or on both (14 R398, R399). -/
theorem linkUp_first {s : State} (down : s.pair.linkUp = false) : ∃ k < 3, linkUp s = raise 197 (({ s with draws := s.draws + 1 } : State).updPair fun p =>
    { p with linkUp := true, laneUp := BitVec.ofNat 2 (k + 1), txSeq := 0, rxSeq := 0, ta := none, leases := [], exch := none }) :=
  ⟨(freeChoice 3 s).1, Nat.mod_lt _ (by decide), if_neg (ne_true_of_eq_false down)⟩

theorem gives_linkUp (down : s.pair.linkUp = false) : Gives .crossingLinkUp s fun t => t.pair.linkUp = true ∧ t.pair.laneUp ≠ 0 ∧ t.pair.rxSeq = 0
    ∧ t.pair.ta = none ∧ t.pair.leases = [] ∧ t.pair.role = s.pair.role ∧ t.evt.pend.getLsbD 197 = true ∧ spared s t := by
  refine calm.gives_link rfl fun a b c => ?_
  obtain ⟨k, few, run⟩ := linkUp_first (s := s.updPair fun p => p.sends a b c) down
  rw [run]
  refine ⟨⟨rfl, rfl, rfl, rfl, rfl⟩, fun t keeps ended => ?_⟩
  have pend := ended.pend 197 (by decide) (raisedIn_raise ..)
  obtain ⟨x, y, z, pair⟩ := ended.pair
  rw [pair]
  refine ⟨rfl, ?_, rfl, rfl, rfl, rfl, pend, keeps⟩
  show BitVec.ofNat 2 (k + 1) ≠ 0
  obtain rfl | rfl | rfl : k = 0 ∨ k = 1 ∨ k = 2 := by omega
  all_goals decide

theorem gives_linkUp_second (up : s.pair.linkUp = true) (one : s.pair.laneUp ≠ 3) : Gives .crossingLinkUp s fun t =>
    t.pair = { s.pair with laneUp := 3, sent := t.pair.sent, held := t.pair.held, txSeq := t.pair.txSeq } ∧ t.evt.pend.getLsbD 197 = true ∧ spared s t := by
  refine calm.gives_link rfl fun a b c => ?_
  have run : linkUp (s.updPair fun p => p.sends a b c) = raise 197 ((s.updPair fun p => p.sends a b c).updPair fun p => { p with laneUp := 3 }) :=
    (if_pos up).trans (if_neg one)
  rw [run]
  refine ⟨⟨rfl, rfl, rfl, rfl, rfl⟩, fun t keeps ended => ?_⟩
  have pend := ended.pend 197 (by decide) (raisedIn_raise ..)
  obtain ⟨x, y, z, pair⟩ := ended.pair
  rw [pair]
  exact ⟨rfl, pend, keeps⟩

theorem gives_laneRecover {lane : Bool} (bad : s.pair.laneBad.getLsbD (if lane then 1 else 0) = true) : Gives (.laneRecover lane) s fun t =>
    t.pair = { s.pair with laneBad := putBit s.pair.laneBad (if lane then 1 else 0) false, sent := t.pair.sent, held := t.pair.held, txSeq := t.pair.txSeq }
    ∧ t.evt.pend.getLsbD 197 = true ∧ spared s t := by
  refine calm.gives_link rfl fun a b c => ?_
  have run : laneRecover lane (s.updPair fun p => p.sends a b c) = raise 197 ((s.updPair fun p => p.sends a b c).updPair
      fun p => { p with laneBad := putBit p.laneBad (if lane then 1 else 0) false }) := if_pos bad
  rw [run]
  refine ⟨⟨rfl, rfl, rfl, rfl, rfl⟩, fun t keeps ended => ?_⟩
  have pend := ended.pend 197 (by decide) (raisedIn_raise ..)
  obtain ⟨x, y, z, pair⟩ := ended.pair
  rw [pair]
  exact ⟨rfl, pend, keeps⟩

omit calm in
/-- A discarded copy is counted against its lane, which the seventeenth in a second marks bad (14 R399). -/
theorem badCopy_spec (lane : Bool) (s : State) : let u := badCopy lane s
    let n := ((if lane then s.pair.bad1 else s.pair.bad0).filter fun t => decide (s.clk.hfNs < t + 10 ^ 9)).length + 1
    Spares s u ∧ u.pair.crc0 = (if lane then s.pair.crc0 else satInc s.pair.crc0) ∧ u.pair.crc1 = (if lane then satInc s.pair.crc1 else s.pair.crc1)
    ∧ (16 < n → u.pair.laneBad.getLsbD (if lane then 1 else 0) = true) ∧ (n ≤ 16 → u.pair.laneBad = s.pair.laneBad) ∧ u.pair.role = s.pair.role := by
  intro u n
  generalize run : u = v
  unfold u badCopy at run
  extract_lets i l w at run
  have length : l.length = n := List.length_append
  have counted : Spares s w ∧ w.pair.crc0 = (if lane then s.pair.crc0 else satInc s.pair.crc0)
      ∧ w.pair.crc1 = (if lane then satInc s.pair.crc1 else s.pair.crc1) ∧ w.pair.laneBad = s.pair.laneBad ∧ w.pair.role = s.pair.role := by
    cases lane <;> exact ⟨⟨rfl, rfl, rfl, rfl, rfl⟩, rfl, rfl, rfl, rfl⟩
  have bit : i < 2 := by
    cases lane <;> decide
  have place : (if lane = true then 1 else 0) = i := rfl
  clear_value u w i l n
  subst length
  rw [place]
  obtain ⟨spares, crc0, crc1, bad, role⟩ := counted
  rw [← bad]
  split at run <;> subst run
  · rename_i marks
    refine ⟨(spares.updPair rfl).raise _ _, crc0, crc1, fun _ => ?_, fun few => absurd marks.1 (Nat.not_lt.2 few), role⟩
    show (putBit w.pair.laneBad i true).getLsbD i = true
    rw [getLsbD_putBit, decide_eq_true ⟨bit, rfl⟩, Bool.or_true]
  · rename_i stands
    refine ⟨spares, crc0, crc1, fun many => ?_, fun _ => rfl, role⟩
    refine Classical.byContradiction fun good => ?_
    rw [Bool.not_eq_true] at good
    exact stands ⟨many, by rw [good]; rfl⟩

theorem gives_badCopy (lane : Bool) : let n := ((if lane then s.pair.bad1 else s.pair.bad0).filter fun t => decide (s.clk.hfNs < t + 10 ^ 9)).length + 1
    Gives (.badCrcCopy lane) s fun t =>
      t.pair.crc0 = (if lane then s.pair.crc0 else satInc s.pair.crc0) ∧ t.pair.crc1 = (if lane then satInc s.pair.crc1 else s.pair.crc1)
      ∧ (16 < n → t.pair.laneBad.getLsbD (if lane then 1 else 0) = true) ∧ (n ≤ 16 → t.pair.laneBad = s.pair.laneBad)
      ∧ t.pair.role = s.pair.role ∧ spared s t := by
  refine calm.gives_link rfl fun a b c => ?_
  obtain ⟨spares, crc0, crc1, many, few, role⟩ := badCopy_spec lane (s.updPair fun p => p.sends a b c)
  refine ⟨.trans (u := s.updPair fun p => p.sends a b c) ⟨rfl, rfl, rfl, rfl, rfl⟩ spares, fun t keeps ended => ?_⟩
  obtain ⟨x, y, z, pair⟩ := ended.pair
  rw [pair]
  exact ⟨crc0, crc1, many, few, role, keeps⟩

theorem gives_peerOkInLow (waits : s.pair.role = .waiting) (low : s.pins.peerOkIn = false) (down : s.pair.linkUp = false) :
    Gives .peerOkInLow s fun t => t.pair.role = .activeAlone ∧ t.pins.fenceIn = false ∧ spared s t := by
  refine calm.gives_link rfl fun a b c => ?_
  let u := (((s.updPair fun p => p.sends a b c).updPins fun p => { p with fenceIn := false }).updPair fun p => { p with role := .activeAlone, handed := false })
  have run : peerLow (s.updPair fun p => p.sends a b c) = applyOutputs u :=
    if_pos ⟨waits, congrArg (! ·) low, congrArg (! ·) down⟩
  rw [run]
  refine ⟨Spares.applyOutputs (u := u) ⟨rfl, rfl, rfl, rfl, rfl⟩, fun t keeps ended => ⟨?_, ?_, keeps⟩⟩
  · exact ended.role.trans (congrArg Pair.role (applyOutputs_pair u))
  · exact congrArg Pins.fenceIn (ended.pins.trans (applyOutputs_pins u))

theorem gives_peerOkInChange (v : Bool) : Gives (.peerOkInChange v) s fun t =>
    t.pins = { s.pins with peerOkIn := v } ∧ t.pair.role = s.pair.role ∧ spared s t := by
  obtain ⟨a, b, c, cleared⟩ := clearSent_eq s
  let u := (s.updPair fun p => p.sends a b c).updPins fun p => { p with peerOkIn := v }
  have spares : Spares s (applyOutputs u) := Spares.applyOutputs (u := u) ⟨rfl, rfl, rfl, rfl, rfl⟩
  have ended := (spares.calm calm).ended
  refine .of_act (f := peerOkChange v) rfl ?_
  rw [cleared]
  exact ⟨ended.pins.trans (applyOutputs_pins u), ended.role.trans ((congrArg Pair.role (applyOutputs_pair u)).trans rfl), spares.ended ended⟩

theorem gives_peerOkTimeout : Gives .peerOkTimeout s fun t =>
    t.pair = { s.pair with peerOkOut := false, sent := t.pair.sent, held := t.pair.held, txSeq := t.pair.txSeq } ∧ t.fio = s.fio ∧ spared s t := by
  refine calm.gives_link rfl fun a b c => ⟨⟨rfl, rfl, rfl, rfl, rfl⟩, fun t keeps ended => ?_⟩
  obtain ⟨x, y, z, pair⟩ := ended.pair
  rw [pair, ended.fio]
  exact ⟨rfl, rfl, keeps⟩

end Link

end Sys2Proof.Machine
end

section
/-! SUPPORT. Forwarded samples, reports of the solver, and pages of a resynchronisation (01 R23; 11 R323; 14 R417, R418). -/

namespace Sys2Proof.Machine

open Sys2Proof

/-! ## SAMPLE (11 R323) -/

theorem Around.spares {p : Nat → Prop} {s u : State} (h : Around p s u) : Spares s u := ⟨h.start, h.mtr, h.keys, h.ports, h.images⟩

theorem gives_sample {s : State} (calm : Calm s) (up : s.pair.linkUp = true) {m : SampleMsg} {k : TideMark} (standby : s.isStandby = true)
    (mark : s.mark? m.mark.toNat = some k) (distinct : (s.loopTable.map (·.num)).Nodup) : Gives (.sample (nextSeq s.pair.rxSeq) m) s fun t =>
      (∀ c ∈ s.loopTable, c.group = k.param → (t.loopSt c.num).started = true ∧ (t.loopSt c.num).last = m.time.cycle.setWidth 32)
      ∧ (∀ n, (∀ c ∈ s.loopTable, c.num = n → c.group ≠ k.param) → t.loopSt n = s.loopSt n) ∧ spared s t := by
  refine calm.gives_next up rfl fun a b c => ?_
  let u := (s.hears a b c).updLoop fun e => { e with tstPending := m.tests.head? }
  have run : sampleIn m (s.hears a b c) = applyOutputs (sampleGroup k.param m.time m.meas m.volt u) := by
    refine (if_pos standby).trans ?_
    have mark' : (s.hears a b c).mark? m.mark.toNat = some k := mark
    rw [mark']
  have first : Spares s u := ⟨rfl, rfl, rfl, rfl, rfl⟩
  obtain ⟨keep, takes⟩ := sampleGroup_spec k.param m.time m.meas m.volt u distinct
  rw [run]
  generalize sampleGroup k.param m.time m.meas m.volt u = v at keep takes
  refine ⟨(first.trans keep.spares).applyOutputs, fun t keeps ended => ?_⟩
  have loops (n : Nat) : t.loopSt n = v.loopSt n := loopSt_of_loop (ended.loop.trans (applyOutputs_loop v)) n
  refine ⟨fun c hc hg => ?_, fun n hn => (loops n).trans (keep.loops n hn), keeps⟩
  rw [loops]
  exact ⟨(takes c hc hg).started, (takes c hc hg).last⟩

/-! ## SOLVER (01 R23, 07 R205) -/

/-- The rounds of a unit as one report leaves them. -/
def noteRound {w : Nat} (l : Store Nat) (e : BitVec w × Nat) : Store Nat := Store.set 0 l e.1.toNat (max e.2 (Store.get 0 l e.1.toNat))

theorem noteRound_le {w : Nat} (l : Store Nat) (e : BitVec w × Nat) (n : Nat) : Store.get 0 l n ≤ Store.get 0 (noteRound l e) n := by
  unfold noteRound
  rw [Store.get_set]
  split
  · rename_i here
    exact here ▸ Nat.le_max_right ..
  · exact Nat.le_refl _

theorem noteRound_self {w : Nat} (l : Store Nat) (e : BitVec w × Nat) : e.2 ≤ Store.get 0 (noteRound l e) e.1.toNat := by
  unfold noteRound
  rw [Store.get_set_same]
  exact Nat.le_max_left ..

/-- Rounds never fall, and each report is reached. -/
theorem foldl_noteRound {w : Nat} (r : List (BitVec w × Nat)) (l : Store Nat) : (∀ n, Store.get 0 l n ≤ Store.get 0 (r.foldl noteRound l) n)
    ∧ ∀ e ∈ r, e.2 ≤ Store.get 0 (r.foldl noteRound l) e.1.toNat := by
  induction r generalizing l with
  | nil => exact ⟨fun _ => Nat.le_refl _, nofun⟩
  | cons x r ih =>
    obtain ⟨rises, reached⟩ := ih (noteRound l x)
    refine ⟨fun n => Nat.le_trans (noteRound_le l x n) (rises n), fun e he => ?_⟩
    obtain rfl | he := List.mem_cons.1 he
    · exact Nat.le_trans (noteRound_self l e) (rises _)
    · exact reached e he

/-- All rounds of one report. -/
def reportRounds (m : SolverMsg) (l : Store Nat) : Store Nat := m.spans.foldl noteRound (m.tiles.foldl noteRound l)

theorem reportRounds_reached (m : SolverMsg) (l : Store Nat) : (∀ e ∈ m.tiles, e.2 ≤ Store.get 0 (reportRounds m l) e.1.toNat)
    ∧ ∀ e ∈ m.spans, e.2 ≤ Store.get 0 (reportRounds m l) e.1.toNat := by
  obtain ⟨-, tiles⟩ := foldl_noteRound m.tiles l
  obtain ⟨rises, spans⟩ := foldl_noteRound m.spans (m.tiles.foldl noteRound l)
  exact ⟨fun e he => Nat.le_trans (tiles e he) (rises _), spans⟩

theorem noteRounds_same {m : SolverMsg} {x : Sol} (same : x.peerPhase = x.phase) : noteRounds m x = { x with reported := reportRounds m x.reported } :=
  (if_neg (same ▸ Nat.lt_irrefl _)).trans (if_pos same)

theorem noteRounds_ahead {m : SolverMsg} {x : Sol} (ahead : x.phase < x.peerPhase) :
    noteRounds m x = { x with reportedNext := reportRounds m x.reportedNext } :=
  (if_neg (Nat.lt_asymm ahead)).trans (if_neg (Nat.ne_of_gt ahead))

theorem noteRounds_commitLater (m : SolverMsg) (x : Sol) : (noteRounds m x).commitLater = x.commitLater := by
  unfold noteRounds
  extract_lets note all
  split
  · rfl
  · split <;> rfl

theorem goBack_solves (n : Nat) (x : Nat × Nat) (s : State) : Solves anyWay s (goBack n x s) := by
  unfold goBack
  extract_lets p
  split
  · exact .refl anyWay_order
  · split
    · exact .updProb anyWay_order _ _ trivial
    · exact .refl anyWay_order

theorem stopReported_solves (s : State) (x : BitVec 11 × Nat × Nat) : Solves anyWay s (stopReported s x) := by
  unfold stopReported
  refine .withProblem anyWay_order fun c t _ => ?_
  extract_lets u p v
  have counted : Solves anyWay s u := .updProb anyWay_order _ _ trivial
  clear_value u
  have back : Solves anyWay s v := counted.trans anyWay_order (goBack_solves ..)
  clear_value v
  refine iteInduction (motive := Solves anyWay s) (fun _ => counted.trans anyWay_order (.updProb anyWay_order _ _ trivial)) fun _ =>
    iteInduction (motive := Solves anyWay s) (fun _ => counted) fun _ => iteInduction (motive := Solves anyWay s) (fun _ => ?_) fun _ => back
  exact (back.trans anyWay_order (.updProb anyWay_order _ _ trivial)).trans anyWay_order ((unitEnd_halts _ c t).weaken fun _ _ _ _ => trivial)

theorem Solves.spares {R : Nat → Problem → Problem → Prop} {s u : State} (h : Solves R s u) : Spares s u :=
  ⟨h.start, congrArg (·.1) h.ports, congrArg (·.2.1) h.ports, congrArg (·.2.2) h.ports, h.images⟩

theorem gives_solver {s : State} (calm : Calm s) (up : s.pair.linkUp = true) (m : SolverMsg) (standby : s.isStandby = true)
    (free : s.sol.commitLater = none) : Gives (.solver (nextSeq s.pair.rxSeq) m) s fun t =>
      t.scan.data = s.scan.data ∧ spared s t
      ∧ (s.sol.peerPhase = s.sol.phase → (∀ e ∈ m.tiles, e.2 ≤ Store.get 0 t.sol.reported e.1.toNat)
        ∧ ∀ e ∈ m.spans, e.2 ≤ Store.get 0 t.sol.reported e.1.toNat)
      ∧ (s.sol.phase < s.sol.peerPhase → t.sol.reported = s.sol.reported
        ∧ (∀ e ∈ m.tiles, e.2 ≤ Store.get 0 t.sol.reportedNext e.1.toNat)
        ∧ ∀ e ∈ m.spans, e.2 ≤ Store.get 0 t.sol.reportedNext e.1.toNat) := by
  refine calm.gives_next up rfl fun a b c => ?_
  let u := (s.hears a b c).updSol (noteRounds m)
  let v := m.stopped.foldl stopReported u
  have works : Solves anyWay u v := .foldl anyWay_order (fun s x _ => stopReported_solves s x) u
  obtain ⟨probs, back, busy, done, unmet, sol⟩ := works.sol
  have idle : v.sol.commitLater = none := (congrArg Sol.commitLater sol).trans ((noteRounds_commitLater m s.sol).trans free)
  have run : solverIn m (s.hears a b c) = v := by
    refine (if_pos standby).trans ?_
    show resumeBoundary v = v
    unfold resumeBoundary
    rw [idle]
  have reported : v.sol.reported = (noteRounds m s.sol).reported := (congrArg Sol.reported sol).trans rfl
  have next : v.sol.reportedNext = (noteRounds m s.sol).reportedNext := (congrArg Sol.reportedNext sol).trans rfl
  have data : v.scan.data = s.scan.data := congrArg Scan.data works.scan
  have spares : Spares s v := .trans (u := u) ⟨rfl, rfl, rfl, rfl, rfl⟩ works.spares
  rw [run]
  clear_value v
  refine ⟨spares, fun t keeps ended => ?_⟩
  rw [ended.data, ended.sol, reported, next]
  refine ⟨data, keeps, fun same => ?_, fun ahead => ?_⟩
  · rw [noteRounds_same same]
    exact reportRounds_reached m s.sol.reported
  · rw [noteRounds_ahead ahead]
    exact ⟨rfl, reportRounds_reached m s.sol.reportedNext⟩

/-! ## RESYNC (14 R417, R418) -/

/-- Blocks that the regions of a resynchronisation leave. -/
def State.outside (s : State) : Start × Keys × Store Port × Store Word × Pair := (s.start, s.keys, s.ports, s.scan.data, s.pair)

theorem updLoop_outside (s : State) (f : LoopEng → LoopEng) : (s.updLoop f).outside = s.outside := rfl
theorem updSeq_outside (s : State) (q : Word) : (s.updScan fun x => { x with seq := q }).outside = s.outside := rfl
theorem updLoopSt_outside (n : Nat) (f : LoopSt → LoopSt) (s : State) : (s.updLoopSt n f).outside = s.outside := rfl
theorem updStation_outside (n : Nat) (f : Stn → Stn) (s : State) : (s.updStation n f).outside = s.outside := rfl
theorem updTask_outside (n : Nat) (f : Task → Task) (s : State) : (s.updTask n f).outside = s.outside := rfl
theorem updMeter_outside (n : Nat) (f : Meter → Meter) (s : State) : (s.updMeter n f).outside = s.outside := rfl

theorem takeCounters_outside (s : State) : (takeCounters s).outside = s.outside := by
  unfold takeCounters
  dsimp only
  generalize pageVal s 5 = v
  rw [updSeq_outside, updLoop_outside, foldl_eq (p := State.outside) fun _ _ => updMeter_outside .., foldl_eq (p := State.outside) fun _ _ => updTask_outside ..,
    foldl_eq (p := State.outside) fun _ _ => updStation_outside .., foldl_eq (p := State.outside) fun _ _ => updLoopSt_outside ..]

theorem dropStale_outside {s : State} (none : s.pair.images = []) : (dropStale s).outside = s.outside := by
  obtain ⟨keeps, filtered⟩ : ∃ keeps, (dropStale s).pair = { s.pair with images := s.pair.images.filter keeps } := ⟨_, rfl⟩
  have same : (dropStale s).pair = s.pair := by
    rw [filtered, none, List.filter_nil, ← none]
  unfold State.outside
  rw [same]
  rfl

theorem takeSolver_outside (s : State) : (takeSolver s).outside = s.outside := rfl

theorem takeRegions_outside {s : State} (none : s.pair.images = []) : (takeRegions s).outside = s.outside := by
  have taken : (takeCounters (takeSolver s)).outside = s.outside := (takeCounters_outside (takeSolver s)).trans (takeSolver_outside s)
  unfold takeRegions
  generalize takeCounters (takeSolver s) = u at taken
  split
  · have none' : u.pair.images = [] := (congrArg (fun x : Start × Keys × Store Port × Store Word × Pair => Pair.images x.2.2.2.2) taken).trans none
    exact (dropStale_outside none').trans taken
  · exact taken
  · rfl

/-- A page as it comes: the standby that was not ready takes part, and keeps the page. -/
def State.pages (g n : Word) (b : Bytes) (s : State) : State :=
  (if s.pair.role = .notReady then s.updPair fun p => { p with role := .resync, rounds := 0 } else s).updPair
    fun p => { p with received := (g, n, b) :: p.received.filter fun x => !(x.1 == g && x.2.1 == n) }

/-- A page of region 0x01 is written into data memory. -/
def State.pageWritten (g n : Word) (b : Bytes) (s : State) : State :=
  if g = 1 ∧ s.pair.role = .resync then
    s.updScan fun x => { x with data := Store.setMany 0 x.data (n.toNat * 1024) (bytesToWords (slice b 0 4096)) }
  else s

/-- The last page of a round. -/
def State.roundOver (g n : Word) (s : State) : State :=
  if g = 5 ∧ n = 0 then
    (takeRegions s).updPair fun p =>
      { p with rounds := satInc p.rounds, joinNext := decide (p.role = .resync), resynced := p.resynced || decide (p.role = .staging) }
  else s

theorem resyncIn_taken {s : State} (standby : s.isStandby = true) (held : s.pair.role ≠ .heldOut) (apart : s.pair.apart = false) (g n : Word) (b : Bytes) :
    resyncIn g n b s = ((s.pages g n b).pageWritten g n b).roundOver g n := by
  refine if_pos ?_
  rw [standby, apart, beq_eq_false_iff_ne.2 held]
  rfl

theorem pages_spec (g n : Word) (b : Bytes) (s : State) : let u := s.pages g n b
    Spares s u ∧ u.loop = s.loop ∧ u.stn = s.stn ∧ u.sol = s.sol ∧ u.scan = s.scan ∧ (g, n, b) ∈ u.pair.received
    ∧ (s.pair.role = .notReady → u.pair.role = .resync) ∧ (s.pair.role = .resync → u.pair.role = .resync ∧ u.pair.rounds = s.pair.rounds) := by
  dsimp only
  unfold State.pages
  by_cases unready : s.pair.role = .notReady
  · rw [if_pos unready]
    exact ⟨⟨rfl, rfl, rfl, rfl, rfl⟩, rfl, rfl, rfl, rfl, List.mem_cons_self, fun _ => rfl, fun h => (nomatch unready.symm.trans h)⟩
  · rw [if_neg unready]
    exact ⟨⟨rfl, rfl, rfl, rfl, rfl⟩, rfl, rfl, rfl, rfl, List.mem_cons_self, fun h => absurd h unready, fun h => ⟨h, rfl⟩⟩

theorem pageWords_length (b : Bytes) : (bytesToWords (slice b 0 4096)).length = 1024 := by
  simp only [bytesToWords, slice, List.length_map, List.length_range]

theorem pageWritten_spec (g n : Word) (b : Bytes) (s : State) : let u := s.pageWritten g n b
    Spares s u ∧ u.loop = s.loop ∧ u.stn = s.stn ∧ u.sol = s.sol ∧ u.pair = s.pair ∧ (g ≠ 1 → u.scan.data = s.scan.data)
    ∧ (g = 1 → s.pair.role = .resync → (∀ i, i < 1024 → Store.get 0 u.scan.data (n.toNat * 1024 + i) = (bytesToWords (slice b 0 4096)).getD i 0)
      ∧ ∀ i, i < n.toNat * 1024 ∨ n.toNat * 1024 + 1024 ≤ i → Store.get 0 u.scan.data i = Store.get 0 s.scan.data i) := by
  dsimp only
  unfold State.pageWritten
  split
  · rename_i takes
    refine ⟨⟨rfl, rfl, rfl, rfl, rfl⟩, rfl, rfl, rfl, rfl, fun h => absurd takes.1 h, fun _ _ => ⟨fun i hi => ?_, fun i hi => ?_⟩⟩
    · have inside : i < (bytesToWords (slice b 0 4096)).length := (pageWords_length b).symm ▸ hi
      exact (Store.get_setMany_inside 0 s.scan.data (n.toNat * 1024) i _ inside).trans (by rw [List.getD_eq_getElem?_getD, List.getElem?_eq_getElem inside, Option.getD_some])
    · exact Store.get_setMany_outside 0 s.scan.data (n.toNat * 1024) i _ (pageWords_length b ▸ hi)
  · rename_i stands
    exact ⟨.refl, rfl, rfl, rfl, rfl, fun _ => rfl, fun h h' => absurd ⟨h, h'⟩ stands⟩

theorem roundOver_spec (g n : Word) {s : State} (none : s.pair.images = []) : let u := s.roundOver g n
    (u.start = s.start ∧ u.keys = s.keys ∧ u.ports = s.ports ∧ u.scan.data = s.scan.data ∧ u.pair.images = s.pair.images
      ∧ u.pair.received = s.pair.received ∧ u.pair.role = s.pair.role)
    ∧ (g ≠ 5 ∨ n ≠ 0 → u = s)
    ∧ (g = 5 → n = 0 → s.pair.role = .resync → u.pair.rounds = satInc s.pair.rounds ∧ u.pair.joinNext = true) := by
  dsimp only
  unfold State.roundOver
  split
  · rename_i last
    have taken := takeRegions_outside none
    generalize takeRegions s = u at taken
    obtain ⟨start, keys, ports, data, pair⟩ : u.start = s.start ∧ u.keys = s.keys ∧ u.ports = s.ports ∧ u.scan.data = s.scan.data ∧ u.pair = s.pair :=
      ⟨congrArg (·.1) taken, congrArg (·.2.1) taken, congrArg (·.2.2.1) taken, congrArg (·.2.2.2.1) taken, congrArg (·.2.2.2.2) taken⟩
    refine ⟨⟨start, keys, ports, data, ?_⟩, fun other => (other.elim (· last.1) (· last.2)).elim, fun _ _ resync => ?_⟩ <;> rw [State.updPair_pair, pair]
    · exact ⟨rfl, rfl, rfl⟩
    · exact ⟨rfl, decide_eq_true resync⟩
  · rename_i other
    exact ⟨⟨rfl, rfl, rfl, rfl, rfl, rfl, rfl⟩, fun _ => rfl, fun h h' => absurd ⟨h, h'⟩ other⟩

theorem gives_resync {s : State} (calm : Calm s) (up : s.pair.linkUp = true) (g n : Word) (b : Bytes) (standby : s.isStandby = true)
    (held : s.pair.role ≠ .heldOut) (apart : s.pair.apart = false) : Gives (.resync (nextSeq s.pair.rxSeq) g n b) s fun t =>
      (g, n, b) ∈ t.pair.received ∧ (s.pair.role = .notReady → t.pair.role = .resync)
      ∧ t.start = s.start ∧ t.keys = s.keys ∧ t.ports = s.ports
      ∧ (g ≠ 5 ∨ n ≠ 0 → t.mtr = s.mtr ∧ t.loop = s.loop ∧ t.stn = s.stn ∧ t.sol = s.sol)
      ∧ (g = 1 → s.pair.role = .resync → (∀ i, i < 1024 →
          Store.get 0 t.scan.data (n.toNat * 1024 + i) = (bytesToWords (slice b 0 4096)).getD i 0)
        ∧ ∀ i, i < n.toNat * 1024 ∨ n.toNat * 1024 + 1024 ≤ i → Store.get 0 t.scan.data i = Store.get 0 s.scan.data i)
      ∧ (g ≠ 1 → t.scan.data = s.scan.data)
      ∧ (g = 5 → n = 0 → s.pair.role = .resync → t.pair.rounds = satInc s.pair.rounds ∧ t.pair.joinNext = true) := by
  refine calm.gives_heard up rfl fun x y z => ?_
  have run := resyncIn_taken (s := s.hears x y z) standby held apart g n b
  obtain ⟨heard, loop, stn, sol, scan, kept, joins, stays⟩ := pages_spec g n b (s.hears x y z)
  generalize (s.hears x y z).pages g n b = u at run heard loop stn sol scan kept joins stays
  obtain ⟨wrote, loop', stn', sol', pair, same, words⟩ := pageWritten_spec g n b u
  generalize u.pageWritten g n b = v at run wrote loop' stn' sol' pair same words
  have calm' : Calm v := (((Spares.hears s x y z).trans heard).trans wrote).calm calm
  obtain ⟨⟨start, keys, ports, data, images, received, role⟩, only, over'⟩ := roundOver_spec g n calm'.images
  rw [run]
  generalize v.roundOver g n = w at start keys ports data images received role only over'
  have spares := (((Spares.hears s x y z).trans heard).trans wrote)
  rw [pair] at received role over'
  refine ⟨calm'.of_same start images, fun t ended => ?_⟩
  obtain ⟨x', y', z', sent⟩ := ended.pair
  rw [sent, ended.start, ended.keys, ended.ports, ended.mtr, ended.loop, ended.stn, ended.sol, ended.data, start, keys, ports, data]
  refine ⟨received ▸ kept, fun h => role.trans (joins h), spares.start, spares.keys, spares.ports, fun other => ?_, fun h h' => ?_, fun h => ?_,
    fun h h' h'' => ?_⟩
  · rw [only other]
    exact ⟨spares.mtr, loop'.trans loop, stn'.trans stn, sol'.trans sol⟩
  · obtain ⟨inside, outside⟩ := words h (stays h').1
    exact ⟨inside, fun i hi => (outside i hi).trans (congrArg (fun q : Scan => Store.get 0 q.data i) scan)⟩
  · exact (same h).trans (congrArg Scan.data scan)
  · obtain ⟨rounds, next⟩ := over' h h' (stays h'').1
    exact ⟨rounds.trans (congrArg satInc (stays h'').2), next⟩

end Sys2Proof.Machine
end

section
/-! SUPPORT. What the active unit's image brings besides its scan leaves the scan's task alone (10 R288; 12 R350). -/

namespace Sys2Proof.Machine

open Sys2Proof

/-- Work that starts no scan of task `n`, commits none, and leaves the pair but for its messages. -/
structure Apart (n : Nat) (s u : State) : Prop where
  start : u.start = s.start
  man : u.man = s.man
  pair : ∃ sent held seq, u.pair = s.pair.sends sent held seq
  seq : u.scan.seq = s.scan.seq
  idle : (s.task n).run = none → (u.task n).run = none

section Rules

variable {n : Nat} {s u v : State}

theorem Apart.refl : Apart n s s := ⟨rfl, rfl, ⟨s.pair.sent, s.pair.held, s.pair.txSeq, rfl⟩, rfl, id⟩

theorem Apart.trans (h : Apart n s u) (h' : Apart n u v) : Apart n s v := by
  obtain ⟨a, b, c, e⟩ := h.pair
  obtain ⟨a', b', c', e'⟩ := h'.pair
  exact ⟨h'.start.trans h.start, h'.man.trans h.man, ⟨a', b', c', by rw [e', e]; rfl⟩, h'.seq.trans h.seq, fun idle => h'.idle (h.idle idle)⟩

theorem Apart.foldl {α : Type} {f : State → α → State} (each : ∀ s a, Apart n s (f s a)) (l : List α) (s : State) : Apart n s (l.foldl f s) := by
  induction l generalizing s with
  | nil => exact .refl
  | cons a l ih => exact (each s a).trans (ih _)

/-- Blocks beside the scans. -/
theorem Apart.same (h : Apart n s u) (start : v.start = u.start) (man : v.man = u.man) (pair : v.pair = u.pair) (seq : v.scan.seq = u.scan.seq)
    (tasks : v.scan.tasks = u.scan.tasks) : Apart n s v :=
  h.trans ⟨start, man, ⟨u.pair.sent, u.pair.held, u.pair.txSeq, pair⟩, seq, fun idle => by unfold State.task; rw [tasks]; exact idle⟩

theorem Apart.raise (h : Apart n s u) (k j : Nat) : Apart n s (raise k u j) := h.same rfl rfl rfl rfl rfl
theorem Apart.addRec (h : Apart n s u) (r : NewRec) : Apart n s (addRec r u) := h.same rfl rfl rfl rfl rfl
theorem Apart.updStn (h : Apart n s u) (f : StnEng → StnEng) : Apart n s (u.updStn f) := h.same rfl rfl rfl rfl rfl
theorem Apart.updStation (h : Apart n s u) (k : Nat) (f : Stn → Stn) : Apart n s (u.updStation k f) := h.same rfl rfl rfl rfl rfl
theorem Apart.updSol (h : Apart n s u) (f : Sol → Sol) : Apart n s (u.updSol f) := h.same rfl rfl rfl rfl rfl

theorem Apart.updScan (h : Apart n s u) {f : Scan → Scan} (seq : (f u.scan).seq = u.scan.seq) (tasks : (f u.scan).tasks = u.scan.tasks) :
    Apart n s (u.updScan f) := h.same rfl rfl rfl seq tasks

theorem Apart.updTask (h : Apart n s u) {t : Nat} {f : Task → Task} (idle : (u.task n).run = none → t ≠ n ∨ (f (u.task n)).run = none) :
    Apart n s (u.updTask t f) := by
  refine h.trans ⟨rfl, rfl, ⟨u.pair.sent, u.pair.held, u.pair.txSeq, rfl⟩, rfl, fun none => ?_⟩
  by_cases here : t = n
  · obtain other | keeps := idle none
    · exact absurd here other
    · exact (congrArg Task.run ((congrArg (fun t => (u.updTask t f).task n) here).trans (Store.get_upd_same ({} : Task) u.scan.tasks n f))).trans keeps
  · exact (congrArg Task.run (Store.get_upd_other ({} : Task) u.scan.tasks t n f here)).trans none

theorem Apart.sendLink (h : Apart n s u) (m : LinkMsg) : Apart n s (sendLink m u) := by
  obtain ⟨a, b, c, e⟩ := sendLink_eq m u
  rw [e]
  exact h.trans ⟨rfl, rfl, ⟨a, b, c, rfl⟩, rfl, id⟩

end Rules

/-! ## Scans resolved -/

section Resolves

variable {n : Nat} {s : State}

theorem countEnded_apart (t : Nat) : Apart n s (countEnded t s) := by
  unfold countEnded
  split
  · exact Apart.refl.same rfl rfl rfl rfl rfl
  · exact .refl

theorem queueCause_apart (c : ErrCause) : Apart n s (queueCause c s) :=
  iteInduction (motive := Apart n s) (fun _ => Apart.refl.updScan rfl rfl) fun _ => (Apart.refl.updScan rfl rfl).raise _ _

theorem realFault_apart (c : ErrCause) : Apart n s (realFault c s) := by
  unfold realFault
  extract_lets s1 s2 s3 s4
  have h1 : Apart n s s1 := (countEnded_apart c.task).updTask fun _ => .inr rfl
  have h2 : Apart n s s2 := h1.updTask .inr
  have h4 : Apart n s s4 := (h2.addRec _).raise _ _
  exact iteInduction (motive := Apart n s) (fun _ => h4) fun _ => h4.trans (queueCause_apart c)

theorem tellDecision_apart (t : Nat) (r : Run) (confirm : Bool) : Apart n s (tellDecision t r confirm s) := by
  unfold tellDecision
  split
  · exact ((Apart.refl.updTask .inr).updStn _).sendLink _
  · exact .refl

theorem confirmScan_apart {t : Nat} (other : (s.task n).run = none → t ≠ n) (r : Run) : Apart n s (confirmScan t r s) := by
  unfold confirmScan
  extract_lets s1 s2
  have told : Apart n s s2 := (Apart.refl.updTask fun idle => .inl (other idle)).trans (tellDecision_apart t r true)
  split
  · exact told.trans (realFault_apart _)
  · exact told

theorem replayScan_apart {t : Nat} (other : (s.task n).run = none → t ≠ n) (c : TaskCfg) (r : Run) : Apart n s (replayScan t c r s) :=
  ((Apart.refl.updTask fun idle => .inl (other idle)).trans (tellDecision_apart t r false)).raise _ _

theorem putRun_apart {t : Nat} (other : (s.task n).run = none → t ≠ n) (r : Run) : Apart n s (putRun t r s) := by
  unfold putRun
  extract_lets e u
  have readied : Apart n s u := iteInduction (motive := Apart n s) (fun _ => .refl) fun _ => Apart.refl.same rfl rfl rfl rfl rfl
  refine readied.updTask fun idle => .inl (other ?_)
  have tasks : u.scan.tasks = s.scan.tasks := iteInduction (motive := fun v : State => v.scan.tasks = s.scan.tasks) (fun _ => rfl) fun _ => rfl
  unfold State.task at idle ⊢
  rwa [tasks] at idle

/-- A scan that is resolved is that of a task with a scan. -/
theorem resolveScan_apart (t : Nat) (d : Option Bool) : Apart n s (resolveScan t d s) := by
  unfold resolveScan
  split
  · rename_i r c scans cfg
    have other : (s.task n).run = none → t ≠ n := by
      rintro idle rfl
      exact nomatch idle.symm.trans scans
    refine iteInduction (motive := Apart n s) (fun _ => ?_) fun _ => .refl
    refine iteInduction (motive := Apart n s) (fun _ => ?_) fun _ => ?_
    · exact iteInduction (motive := Apart n s) (fun _ => confirmScan_apart other r) fun _ => replayScan_apart other c r
    · exact iteInduction (motive := Apart n s) (fun _ => putRun_apart other _) fun _ => .refl
  · exact .refl

theorem updRun_apart (t : Nat) (f : Run → Run) : Apart n s (s.updRun t f) :=
  Apart.refl.updTask fun idle => .inr (by rw [idle]; rfl)

theorem stationSettled_apart (k : Nat) (missed : List Nat) : Apart n s (stationSettled k missed s) := by
  rw [stationSettled_eq]
  refine .foldl (fun s x => ?_) _ s
  unfold settledTask
  split
  · refine iteInduction (motive := Apart n s) (fun _ => ?_) fun _ => .refl
    exact iteInduction (motive := Apart n s) (fun _ => updRun_apart ..) fun _ => (updRun_apart ..).trans (resolveScan_apart ..)
  · exact .refl

end Resolves

/-! ## Outcomes, decisions and rounds -/

section News

variable {n : Nat} {s : State}

theorem acceptReply_apart (c : StationCfg) (b fs : Bool) (idx : List Nat) (words : List Word) : Apart n s (acceptReply c b fs idx words s) := by
  unfold acceptReply
  extract_lets x u v
  have alarmed : Apart n s u := iteInduction (motive := Apart n s) (fun _ => Apart.refl.raise _ _) fun _ => .refl
  exact (alarmed.updScan rfl rfl : Apart n s v).updStation _ _

theorem missStation_apart (c : StationCfg) : Apart n s (missStation c s) := by
  unfold missStation
  extract_lets x u
  have counted : Apart n s u := Apart.refl.updStation _ _
  exact iteInduction (motive := Apart n s) (fun _ => counted.raise _ _) fun _ => counted

theorem dropStation_apart (c : StationCfg) : Apart n s (dropStation c s) :=
  ((Apart.refl.updStation _ _).raise _ _).trans (queueCause_apart _)

/-- What a known station's outcome does is done by its entry. -/
theorem applyOutcome_apart (o : StationOutcome) : Apart n s (applyOutcome s o) := by
  have known (k : Nat) (f : StationCfg → State) (each : ∀ c, Apart n s (f c)) : Apart n s ((stationCfg s k).elim s f) := by
    cases stationCfg s k with
    | none => exact .refl
    | some c => exact each c
  cases o with
  | accepted k b fs ws =>
    exact known _ _ fun c => ((acceptReply_apart c b fs _ ws).updStation _ _).trans (stationSettled_apart ..)
  | missed k => exact known _ _ fun c => ((Apart.refl.updStation _ _).trans (missStation_apart c)).trans (stationSettled_apart ..)
  | pathLost k b => exact known _ _ fun c => (Apart.refl.updStation _ _).raise _ _
  | dropped k => exact known _ _ fun c => dropStation_apart c
  | rejoined k => exact known _ _ fun c => (Apart.refl.updStation _ _).raise _ _
  | rejoinPermitted k => exact Apart.refl.updStation _ _

theorem applyDecision_apart (scan : Word) (x : BitVec 5 × Bool) : Apart n s (applyDecision scan s x) := by
  unfold applyDecision
  refine iteInduction (motive := Apart n s) (fun _ => (updRun_apart ..).trans (resolveScan_apart ..)) fun _ => ?_
  exact iteInduction (motive := Apart n s) (fun _ => Apart.refl.updTask .inr) fun _ => .refl

theorem statusStation_apart (c : StationCfg) : Apart n s (statusStation s c) := by
  unfold statusStation
  extract_lets u
  have noted : Apart n s u := Apart.refl.updStation _ _
  split
  · exact noted.same rfl rfl rfl rfl rfl
  · exact noted

theorem pollStation_apart {mark : TideTime} {c : StationCfg} {cur cur' : Store Nat} {u : State} (h : pollStation mark c cur s = some (cur', u)) :
    Apart n s u := by
  unfold pollStation at h
  extract_lets x pl b port seq epoch m head f wire ws t z till v w at h
  split at h
  · cases h
  · simp only [Option.some.injEq, Prod.mk.injEq] at h
    obtain ⟨-, e⟩ := h
    rw [← e]
    exact (Apart.refl.same rfl rfl rfl rfl rfl : Apart n s v).updStation _ _

theorem pollFrom_apart (mark : TideTime) (l : List StationCfg) (fuel budget : Nat) (cur : Store Nat) (s : State) :
    Apart n s (pollFrom mark l fuel budget cur s) := by
  induction fuel generalizing budget cur s with
  | zero => exact .refl
  | succ fuel ih =>
    cases budget with
    | zero => exact .refl
    | succ budget =>
      unfold pollFrom
      split
      · exact .refl
      · extract_lets wrap next
        split
        · exact (Apart.refl.updStn _).trans (ih ..)
        · split
          · rename_i cur' u polled
            exact ((pollStation_apart polled).updStn _).trans (ih ..)
          · exact .refl

theorem stationRound_apart (mark : TideTime) : Apart n s (stationRound mark s) :=
  (Apart.foldl (fun _ c => statusStation_apart c) _ s).trans (iteInduction (motive := Apart n _) (fun _ => .refl) fun _ => pollFrom_apart ..)

theorem standbyRound_apart (mark : TideTime) (image : Bool) : Apart n s (standbyRound mark image s) := by
  unfold standbyRound
  extract_lets u
  have due : Apart n s u := by
    unfold u
    split
    · exact iteInduction (motive := Apart n s) (fun _ => .refl) fun _ => stationRound_apart _
    · exact .refl
  exact iteInduction (motive := Apart n s) (fun _ => (due.trans (stationRound_apart mark)).updStn _) fun _ => due.updStn _

theorem imageNews_apart (m : ImageMsg) : Apart n s (imageNews m s) := by
  unfold imageNews
  extract_lets again u v
  have told : Apart n s v := (Apart.foldl (fun s o => applyOutcome_apart o) _ s).trans (.foldl (fun s x => applyDecision_apart _ x) _ _)
  exact iteInduction (motive := Apart n s) (fun _ => told.trans (standbyRound_apart ..)) fun _ => told

end News

/-! ## An image that comes while its task has no scan -/

theorem Apart.role {n : Nat} {s u : State} (h : Apart n s u) : u.pair.role = s.pair.role := by
  obtain ⟨a, b, c, e⟩ := h.pair
  exact (congrArg Pair.role e).trans rfl

theorem Apart.images {n : Nat} {s u : State} (h : Apart n s u) : u.pair.images = s.pair.images := by
  obtain ⟨a, b, c, e⟩ := h.pair
  exact (congrArg Pair.images e).trans rfl

theorem updPair_congr {s : State} {f g : Pair → Pair} (h : f s.pair = g s.pair) : s.updPair f = s.updPair g := by
  unfold State.updPair
  rw [h]

theorem isStandby_of {s : State} (role : s.pair.role = .lockstep ∨ s.pair.role = .staging) : s.isStandby = true := by
  unfold State.isStandby
  obtain h | h := role <;> rw [h]

theorem runsImages_of {s : State} (role : s.pair.role = .lockstep ∨ s.pair.role = .staging) : runsImages s = true := by
  unfold runsImages
  obtain h | h := role <;> rw [h]

theorem imageAgain_idle {s : State} {m : ImageMsg} (empty : s.pair.images = []) (idle : (s.task m.task.toNat).run = none) : imageAgain s m = false := by
  unfold imageAgain
  rw [empty, idle]
  rfl

theorem imageLate_idle {s : State} {m : ImageMsg} (empty : s.pair.images = []) (idle : (s.task m.task.toNat).run = none) : imageLate m s = false := by
  unfold imageLate
  rw [empty, idle]
  rfl

theorem imageCame_apart (n : Nat) (m : ImageMsg) (s : State) : Apart n s (imageCame m s) := Apart.refl.updTask .inr

theorem noteBoundary_apart (n : Nat) (m : ImageMsg) (s : State) : Apart n s (noteBoundary m s) :=
  iteInduction (motive := Apart n s) (fun _ => Apart.refl.updSol _) fun _ => .refl

/-- What an image brings, before the image itself. -/
def broughtBy (m : ImageMsg) (s : State) : State := imageNews m (noteBoundary m (imageCame m s))

theorem broughtBy_apart (m : ImageMsg) (n : Nat) (s : State) : Apart n s (broughtBy m s) :=
  ((imageCame_apart n m s).trans (noteBoundary_apart n m _)).trans (imageNews_apart m)

/-- An image that is neither late nor again waits, after its news. -/
theorem imageIn_new {s : State} {m : ImageMsg} (role : s.pair.role = .lockstep ∨ s.pair.role = .staging) (taken : s.pair.tideTaken = true)
    (fresh : imageAgain s m = false) (timely : imageLate m (broughtBy m s) = false) :
    imageIn m s = (broughtBy m s).updPair fun p => { p with images := p.images ++ [m] } := by
  have adopted : adoptTide m.start s = s := if_pos taken
  have runs : runsImages (broughtBy m s) = true := runsImages_of ((broughtBy_apart m 0 s).role ▸ role)
  unfold imageIn
  rw [if_pos (isStandby_of role), fresh, adopted]
  show (if false = true then _ else if runsImages (if (runsImages (broughtBy m s) && imageLate m (broughtBy m s)) = true then _ else broughtBy m s) = true
    then State.updPair (if (runsImages (broughtBy m s) && imageLate m (broughtBy m s)) = true then _ else broughtBy m s) _ else _) = _
  rw [timely, Bool.and_false, if_neg Bool.false_ne_true, if_neg Bool.false_ne_true, if_pos runs]

/-- An image that finds no scan and no image of its task waits, after its news (14 R400, R405). -/
theorem imageIn_waits {s : State} {m : ImageMsg} (role : s.pair.role = .lockstep ∨ s.pair.role = .staging) (taken : s.pair.tideTaken = true)
    (empty : s.pair.images = []) (idle : (s.task m.task.toNat).run = none) : ∃ u, Apart m.task.toNat s u
      ∧ imageIn m s = u.updPair fun p => { p with images := [m] } := by
  have apart := broughtBy_apart m m.task.toNat s
  have empty' := apart.images.trans empty
  refine ⟨broughtBy m s, apart, (imageIn_new role taken (imageAgain_idle empty idle) (imageLate_idle empty' (apart.idle idle))).trans ?_⟩
  exact updPair_congr (congrArg (fun l => { (broughtBy m s).pair with images := l ++ [m] }) empty')

end Sys2Proof.Machine
end

section
/-! SUPPORT. A scan that starts on the active unit's image (10 R282, R288; 14 R400). -/

namespace Sys2Proof.Machine

open Sys2Proof

/-! ## What the start of a scan leaves alone -/

section Starts

variable {n : Nat} {s : State}

theorem forceRec_apart {u : State} (h : Apart n s u) (slot code : Nat) (i : BitVec 20) (lo : Word) : Apart n s (forceRec slot code i lo u) :=
  (h.addRec _).raise _ _

theorem releaseForce_apart (k : Nat) : Apart n s (releaseForce k s) := by
  unfold releaseForce
  split
  · exact .refl
  · refine forceRec_apart ?_ ..
    exact Apart.refl.same rfl rfl rfl rfl rfl

theorem applyForce_apart (c : ForceChange) : Apart n s (applyForce c s) := by
  unfold applyForce
  split
  · exact releaseForce_apart _
  · exact .foldl (fun s k => releaseForce_apart k) (List.range 256) s
  · extract_lets k u v w
    have h1 : Apart n s u := by
      unfold u
      split
      · exact iteInduction (motive := Apart n s) (fun _ => .refl) fun _ => releaseForce_apart k
      · exact .refl
    have h2 : Apart n s v := h1.updScan rfl rfl
    have h3 : Apart n s w := by
      unfold w
      split
      · exact iteInduction (motive := Apart n s) (fun _ => h2.same rfl rfl rfl rfl rfl) fun _ => h2
      · exact h2
    exact forceRec_apart h3 ..

theorem applyTest_apart (c : TestChange) : Apart n s (applyTest c s) := by
  cases c with
  | start k t => exact Apart.refl.same rfl rfl rfl rfl rfl
  | stop k =>
    refine iteInduction (motive := Apart n s) (fun _ => ?_) fun _ => .refl
    exact Apart.trans (u := s.updLoop fun e => { e with tests := e.tests.filter (·.loop != k.toNat), tstDone := true })
      (Apart.refl.same rfl rfl rfl rfl rfl) (Apart.refl.raise _ _)

theorem stateImage_apart (m : ImageMsg) : Apart n s (stateImage m s) := by
  unfold stateImage
  extract_lets u v
  have forced : Apart n s u := .foldl (fun s c => applyForce_apart c) _ s
  have tested : Apart n s v := Apart.trans (u := u.updLoop fun e => { e with tstPending := none }) (forced.same rfl rfl rfl rfl rfl)
    (.foldl (fun s c => applyTest_apart c) _ _)
  exact tested.updSol _

theorem applyTold_apart (t : Nat) (scan : Word) : Apart n s (applyTold t scan s) := by
  unfold applyTold
  split
  · extract_lets u
    have heard : Apart n s u := Apart.refl.updTask .inr
    exact iteInduction (motive := Apart n s) (fun _ => (heard.trans (updRun_apart ..)).trans (resolveScan_apart ..)) fun _ => heard
  · exact .refl

end Starts

/-! ## The scan that starts -/

theorem task_updTask (t : Nat) (f : Task → Task) (s : State) : (s.updTask t f).task t = f (s.task t) := Store.get_upd_same ({} : Task) s.scan.tasks t f

theorem run_updTask (k : Nat) {f : Task → Task} (keeps : ∀ x, (f x).run = x.run) (s : State) (t : Nat) : ((s.updTask k f).task t).run = (s.task t).run := by
  by_cases here : k = t
  · subst here
    exact (congrArg Task.run (task_updTask k f s)).trans (keeps _)
  · exact congrArg Task.run (Store.get_upd_other ({} : Task) s.scan.tasks k t f here)

/-- A scan on an image, which holds no fault (14 R400). -/
structure Images (m : ImageMsg) (r : Run) : Prop where
  scan : r.scan = m.scan
  start : r.start = m.start
  seen : r.seen = m.commitSeen
  now : r.now = m.timerNow
  lds : r.lds = m.lds
  held : r.held = none

/-- The task's scan in progress is on the image. -/
def Runs (m : ImageMsg) (t : Nat) (s : State) : Prop := ∃ r, (s.task t).run = some r ∧ Images m r

section Scan

variable {m : ImageMsg} {t : Nat} {s : State} {r : Run}

theorem tellDecision_run (k : Nat) (r : Run) (b : Bool) : ((tellDecision k r b s).task t).run = (s.task t).run := by
  unfold tellDecision
  split
  · extract_lets q u
    have kept : (u.task t).run = (s.task t).run := run_updTask k (f := fun k => { k with decision := some b }) (fun _ => rfl) s t
    have scans : (sendLink (.image q) (u.updStn fun e => { e with forward := e.forward.filter fun o => !goesNow false o })).scan = u.scan := sendLink_scan ..
    unfold State.task at kept ⊢
    rw [scans]
    exact kept
  · rfl

theorem Runs.updTask {f : Task → Task} (h : ∃ r, (f (s.task t)).run = some r ∧ Images m r) : Runs m t (s.updTask t f) := by
  obtain ⟨r, run, on⟩ := h
  exact ⟨r, (congrArg Task.run (task_updTask t f s)).trans run, on⟩

theorem Runs.tellDecision (h : Runs m t s) (r : Run) (b : Bool) : Runs m t (tellDecision t r b s) := by
  obtain ⟨r', run, on⟩ := h
  exact ⟨r', (tellDecision_run t r b).trans run, on⟩

theorem confirmScan_runs (on : Images m r) : Runs m t (confirmScan t r s) := by
  unfold confirmScan
  extract_lets u v
  have confirmed : Runs m t v := by
    refine Runs.tellDecision (.updTask ⟨_, rfl, ?_⟩) r true
    exact ⟨on.scan, on.start, on.seen, on.now, on.lds, rfl⟩
  rw [on.held]
  exact confirmed

theorem replayScan_runs (on : Images m r) (c : TaskCfg) : Runs m t (replayScan t c r s) := by
  refine Runs.tellDecision (.updTask ⟨_, rfl, ?_⟩) r false
  exact ⟨on.scan, on.start, on.seen, on.now, on.lds, rfl⟩

theorem putRun_runs (on : Images m r) : Runs m t (putRun t r s) := by
  unfold putRun
  extract_lets e u
  exact .updTask ⟨_, rfl, on.scan, on.start, on.seen, on.now, on.lds, on.held⟩

theorem resolveScan_runs (h : Runs m t s) (d : Option Bool) : Runs m t (resolveScan t d s) := by
  obtain ⟨r, run, on⟩ := id h
  unfold resolveScan
  rw [run]
  cases taskCfg s t with
  | none => exact h
  | some c =>
    refine iteInduction (motive := Runs m t) (fun _ => ?_) fun _ => h
    refine iteInduction (motive := Runs m t) (fun _ => ?_) fun _ => ?_
    · exact iteInduction (motive := Runs m t) (fun _ => confirmScan_runs on) fun _ => replayScan_runs on c
    · exact iteInduction (motive := Runs m t) (fun _ => putRun_runs ⟨on.scan, on.start, on.seen, on.now, on.lds, on.held⟩) fun _ => h

theorem applyTold_runs (h : Runs m t s) (scan : Word) : Runs m t (applyTold t scan s) := by
  obtain ⟨r, run, on⟩ := id h
  unfold applyTold
  split
  · extract_lets u
    have heard : (u.task t).run = some r := (congrArg Task.run (task_updTask t _ s)).trans run
    refine iteInduction (motive := Runs m t) (fun _ => resolveScan_runs ?_ _) fun _ => ⟨r, heard, on⟩
    exact .updTask ⟨_, congrArg (Option.map _) heard, on.scan, on.start, on.seen, on.now, on.lds, on.held⟩
  · exact h

/-- The scan of an image starts on its numbers and values. -/
theorem startImage_spec (c : TaskCfg) (m : ImageMsg) (s : State) {n : Nat} (other : c.num ≠ n) :
    Apart n s (startImage c m s) ∧ Runs m c.num (startImage c m s) := by
  unfold startImage
  extract_lets state u boundary v cause w x image y z
  have h1 : Apart n s u := iteInduction (motive := Apart n s) (fun _ => stateImage_apart m) fun _ => .refl
  have h2 : Apart n s v := iteInduction (motive := Apart n s) (fun _ => h1.updScan rfl rfl) fun _ => h1
  have h3 : Apart n s w := iteInduction (motive := Apart n s) (fun _ => h2.updTask .inr) fun _ => h2
  have h4 : Apart n s x := iteInduction (motive := Apart n s) (fun _ => h3.updScan rfl rfl) fun _ => h3
  have h5 : Apart n s z := (h4.updTask .inr : Apart n s y).updScan rfl rfl
  clear_value x y z
  generalize awaitedOf x c m.start = waits
  obtain ⟨outst, awaited⟩ := waits
  dsimp only
  generalize starts : freshRun z c _ = r
  have on : Images m r := by
    rw [← starts]
    exact ⟨rfl, rfl, rfl, rfl, rfl, rfl⟩
  exact ⟨(h5.trans (putRun_apart (fun _ => other) r)).trans (applyTold_apart ..), applyTold_runs (putRun_runs on) m.scan⟩

end Scan

end Sys2Proof.Machine
end

section
/-! SUPPORT. IMAGE (14 R400, R405; 10 R282, R288). -/

namespace Sys2Proof.Machine

open Sys2Proof

/-! ## The edge of an image -/

/-- A message that comes in sequence, by its edge. -/
theorem Calm.gives_edge {s : State} (calm : Calm s) (up : s.pair.linkUp = true) {i : Instr} {f : State → State}
    (e : exec i s = actOn s (receive (nextSeq s.pair.rxSeq) f)) {P : State → Prop} (shows : ∀ a b c, P (settle (f (s.hears a b c)))) : Gives i s P := by
  obtain ⟨a, b, c, cleared⟩ := clearSent_eq s
  have heard : receive (nextSeq s.pair.rxSeq) f (clearSent s) = f (s.hears a b c) :=
    cleared ▸ receive_next (s := s.updPair fun p => p.sends a b c) up f
  refine .of_actOn e calm.on ?_
  rw [heard]
  exact shows a b c

theorem Gives.imp {i : Instr} {s : State} {P Q : State → Prop} (h : Gives i s P) (le : ∀ t, P t → Q t) : Gives i s Q := by
  obtain ⟨t, e, p⟩ := h
  exact ⟨t, e, le t p⟩

section Edge

variable {s : State} {m : ImageMsg} {c : TaskCfg}

/-- The edge that ends with images changes no more than quiet blocks once they are tried. -/
theorem settle_tried (on : s.start.power = .on) : (settle s).quiet = (tryImages s).quiet := by
  unfold settle
  rw [if_pos (.inl on), forwardEvents_quiet, settleEvents_quiet]

/-- The one waiting image is tried. -/
theorem tryImages_one (role : s.pair.role = .lockstep ∨ s.pair.role = .staging) (one : s.pair.images = [m]) :
    tryImages s = tryImage (s.updPair fun p => { p with images := [] }) m := by
  unfold tryImages
  rw [runsImages_of role, one]
  rfl

theorem taskCfg_num {n : Nat} (cfg : taskCfg s n = some c) : c.num = n := by
  unfold taskCfg at cfg
  obtain ⟨l, -, found⟩ := Option.bind_eq_some_iff.1 cfg
  have num := List.find?_some found
  exact eq_of_beq num

theorem taskCfg_of_man {u : State} (h : u.man = s.man) (n : Nat) : taskCfg u n = taskCfg s n := by
  unfold taskCfg
  rw [h]

theorem tryImage_ready (cfg : taskCfg s m.task.toNat = some c) (empty : s.pair.images = []) (ready : imageReady s m = true) :
    tryImage s m = startImage c m s := by
  unfold tryImage
  rw [cfg, empty, ready]
  rfl

theorem tryImage_early (cfg : taskCfg s m.task.toNat = some c) (empty : s.pair.images = []) (ready : imageReady s m = false) :
    tryImage s m = s.updPair fun p => { p with images := [m] } := by
  unfold tryImage
  rw [cfg, ready, Bool.not_false, Bool.or_true]
  exact (if_pos rfl).trans (updPair_congr (congrArg (fun l => { s.pair with images := l ++ [m] }) empty))

theorem imageReady_of {u : State} (role : u.pair.role = s.pair.role) (seq : u.scan.seq = s.scan.seq) (idle : (u.task m.task.toNat).run = none)
    (ready : imageReady s m = true) : imageReady u m = true := by
  unfold imageReady at ready ⊢
  rw [role, seq, idle]
  exact (Bool.and_eq_true_iff.1 ready).2

theorem imageReady_idle (ready : imageReady s m = true) : (s.task m.task.toNat).run = none :=
  Option.isNone_iff_eq_none.1 (Bool.and_eq_true_iff.1 ready).1

end Edge

/-! ## An image whose scan starts -/

theorem gives_image_ready {s : State} (calm : Calm s) (up : s.pair.linkUp = true) {m : ImageMsg} {c : TaskCfg}
    (role : s.pair.role = .lockstep ∨ s.pair.role = .staging) (taken : s.pair.tideTaken = true) (cfg : taskCfg s m.task.toNat = some c)
    (ready : imageReady s m = true) : Gives (.image (nextSeq s.pair.rxSeq) m) s fun t => t.pair.images = [] ∧ t.pair.rxSeq = nextSeq s.pair.rxSeq
      ∧ ∃ r, (t.task m.task.toNat).run = some r ∧ r.scan = m.scan ∧ r.start = m.start ∧ r.seen = m.commitSeen
        ∧ r.now = m.timerNow ∧ r.lds = m.lds := by
  have idle := imageReady_idle ready
  refine calm.gives_edge up rfl fun x y z => ?_
  obtain ⟨u, apart, waits⟩ := imageIn_waits (s := s.hears x y z) role taken calm.images idle
  let v := u.updPair fun p => { p with images := [] }
  have shown : Apart m.task.toNat (s.hears x y z) v := by
    refine apart.trans ⟨rfl, rfl, ⟨u.pair.sent, u.pair.held, u.pair.txSeq, ?_⟩, rfl, id⟩
    exact congrArg (fun l => { u.pair with images := l }) (apart.images.trans calm.images).symm
  have tried : tryImages (u.updPair fun p => { p with images := [m] }) = startImage c m v := by
    have role' : u.pair.role = .lockstep ∨ u.pair.role = .staging := apart.role.symm ▸ role
    refine (tryImages_one (s := u.updPair fun p => { p with images := [m] }) role' rfl).trans ?_
    exact tryImage_ready (s := v) ((taskCfg_of_man shown.man _).trans cfg) rfl
      (imageReady_of (s := s.hears x y z) shown.role shown.seq (shown.idle idle) ready)
  have num := taskCfg_num cfg
  obtain ⟨starts, r, run, on⟩ := startImage_spec c m v (n := c.num + 1) (by omega)
  rw [num] at run
  have on' : (u.updPair fun p => { p with images := [m] }).start.power = .on := (congrArg Start.power shown.start).trans calm.on
  have quiet := settle_tried on'
  rw [tried] at quiet
  have images : (startImage c m v).pair.images = [] := starts.images
  have heard : (startImage c m v).pair.rxSeq = nextSeq s.pair.rxSeq := by
    obtain ⟨a, b, d, e⟩ := starts.pair
    obtain ⟨a', b', d', e'⟩ := shown.pair
    rw [e, e']
    rfl
  rw [waits]
  generalize settle (u.updPair fun p => { p with images := [m] }) = t at quiet
  exact ⟨(congrArg (fun q : Quiet => q.pair.images) quiet).trans images, (congrArg (fun q : Quiet => q.pair.rxSeq) quiet).trans heard,
    r, (congrArg (fun q : Quiet => (q.task m.task.toNat).run) quiet).trans run, on.scan, on.start, on.seen, on.now, on.lds⟩

/-! ## An image that comes while its task's scan goes on -/

/-- A scan whose number the image follows is not behind it (14 R405). -/
theorem behind_next {m : ImageMsg} {k : Word} (next : m.scan = k + 1) : behind m k = false := by
  unfold behind
  rw [next, show k + 1 - k = 1#32 by bv_omega]
  decide

theorem imageAgain_next {s : State} {m : ImageMsg} {r : Run} (empty : s.pair.images = []) (run : (s.task m.task.toNat).run = some r)
    (next : m.scan = r.scan + 1) : imageAgain s m = false := by
  unfold imageAgain
  rw [empty, run, Option.any_some, next, beq_eq_false_iff_ne.2 (by bv_omega : r.scan ≠ r.scan + 1)]
  rfl

theorem imageLate_next {s : State} {m : ImageMsg} {r : Run} (empty : s.pair.images = []) (run : (s.task m.task.toNat).run = some r)
    (next : m.scan = r.scan + 1) : imageLate m s = false := by
  unfold imageLate
  rw [empty, run, Option.any_some, behind_next next]
  rfl

/-- What a task keeps at the end of an edge. -/
structure SameScan (k k' : Task) : Prop where
  run : k'.run = k.run
  confirms : k'.confirms = k.confirms

/-- The image waits for its task's scan; what it brought stands (14 R400). -/
theorem gives_image_early {s : State} (calm : Calm s) (up : s.pair.linkUp = true) {m : ImageMsg} {c : TaskCfg} {r : Run}
    (role : s.pair.role = .lockstep ∨ s.pair.role = .staging) (taken : s.pair.tideTaken = true) (cfg : taskCfg s m.task.toNat = some c)
    (run : (s.task m.task.toNat).run = some r) (next : m.scan = r.scan + 1) {k : Task} {r' : Run} (going : k.run = some r') (scan : r'.scan = r.scan)
    (brought : ∀ x y z, let u := broughtBy m (s.hears x y z)
      Spares s u ∧ u.man = s.man ∧ u.pair = (s.hears x y z).pair ∧ u.task m.task.toNat = k) :
    Gives (.image (nextSeq s.pair.rxSeq) m) s fun t =>
      t.pair.images = [m] ∧ t.pair.role = s.pair.role ∧ SameScan k (t.task m.task.toNat) ∧ spared s t := by
  refine calm.gives_edge up rfl fun x y z => ?_
  obtain ⟨spares, man, pair, task⟩ := brought x y z
  have empty : (broughtBy m (s.hears x y z)).pair.images = [] := spares.images.trans calm.images
  have late := imageLate_next empty ((congrArg Task.run task).trans going) (next.trans (by rw [scan]))
  rw [imageIn_new (s := s.hears x y z) role taken (imageAgain_next calm.images run next) late]
  generalize broughtBy m (s.hears x y z) = u at spares man pair task empty
  have waits : (u.updPair fun p => { p with images := p.images ++ [m] }) = u.updPair fun p => { p with images := [m] } :=
    updPair_congr (congrArg (fun l => { u.pair with images := l ++ [m] }) empty)
  rw [waits]
  have role' : u.pair.role = s.pair.role := (congrArg Pair.role pair).trans rfl
  have early : imageReady (u.updPair fun p => { p with images := [] }) m = false := by
    unfold imageReady
    rw [show ((u.updPair fun p => { p with images := [] }).task m.task.toNat).run = some r' from (congrArg Task.run task).trans going]
    rfl
  have tried : tryImages (u.updPair fun p => { p with images := [m] }) = (u.updPair fun p => { p with images := [] }).updPair fun p => { p with images := [m] } :=
    (tryImages_one (s := u.updPair fun p => { p with images := [m] }) (role'.symm ▸ role) rfl).trans
      (tryImage_early (s := u.updPair fun p => { p with images := [] }) ((taskCfg_of_man man _).trans cfg) rfl early)
  have quiet := settle_tried (s := u.updPair fun p => { p with images := [m] }) ((congrArg Start.power spares.start).trans calm.on)
  rw [tried] at quiet
  generalize settle (u.updPair fun p => { p with images := [m] }) = t at quiet
  refine ⟨congrArg (fun q : Quiet => q.pair.images) quiet, (congrArg (fun q : Quiet => q.pair.role) quiet).trans role', ⟨?_, ?_⟩,
    (congrArg (fun q : Quiet => q.still.start) quiet).trans spares.start, (congrArg (fun q : Quiet => q.still.mtr) quiet).trans spares.mtr,
    (congrArg (fun q : Quiet => q.still.keys) quiet).trans spares.keys, (congrArg (fun q : Quiet => q.still.ports) quiet).trans spares.ports⟩
  · exact (congrArg (fun q : Quiet => (q.task m.task.toNat).run) quiet).trans ((rfl : _ = (u.task m.task.toNat).run).trans (congrArg Task.run task))
  · exact (congrArg (fun q : Quiet => (q.task m.task.toNat).confirms) quiet).trans ((rfl : _ = (u.task m.task.toNat).confirms).trans (congrArg Task.confirms task))

theorem stateTask_of_man {s u : State} (h : u.man = s.man) : u.stateTask = s.stateTask := by
  unfold State.stateTask
  rw [h]

/-- What an image without outcomes brings to another task than the state task (10 R288). -/
theorem broughtBy_eq {s : State} {m : ImageMsg} (fresh : imageAgain (imageCame m s) m = false) (quiet : m.outcomes = [])
    (other : m.task.toNat ≠ s.stateTask) : broughtBy m s = m.decisions.foldl (applyDecision (m.scan - 1)) (imageCame m s) := by
  have plain : noteBoundary m (imageCame m s) = imageCame m s := if_neg fun h => other h.1
  have man : (m.decisions.foldl (applyDecision (m.scan - 1)) (imageCame m s)).man = s.man :=
    (Apart.foldl (n := 0) (fun s x => applyDecision_apart (m.scan - 1) x) m.decisions (imageCame m s)).man
  have task := stateTask_of_man man
  unfold broughtBy imageNews
  rw [plain, fresh, quiet]
  generalize folded : m.decisions.foldl (applyDecision (m.scan - 1)) (imageCame m s) = u at task
  show (if (!false && m.task.toNat == State.stateTask (m.decisions.foldl (applyDecision (m.scan - 1)) (imageCame m s))) = true then _
    else m.decisions.foldl (applyDecision (m.scan - 1)) (imageCame m s)) = u
  rw [folded, task, beq_eq_false_iff_ne.2 other]
  rfl

/-- A task whose image has come (14 R410). -/
def Task.came (m : ImageMsg) (k : Task) : Task := { k with due := if k.due = some m.start then none else k.due }

/-- A task whose speculated scan `r` is confirmed (10 R287). -/
def Task.confirmed (r : Run) (k : Task) : Task :=
  { k with confirms := satInc k.confirms
           run := some { r with spec := false, watch := [], loads := [], held := none
                                phase := if r.phase = .reexecuting then .reexecuting else .running } }

theorem imageCame_task (m : ImageMsg) (s : State) : (imageCame m s).task m.task.toNat = (s.task m.task.toNat).came m := task_updTask ..

theorem isActive_of {s : State} (role : s.pair.role = .lockstep ∨ s.pair.role = .staging) : s.isActive = false := by
  unfold State.isActive
  obtain h | h := role <;> rw [h, Bool.and_false]

/-- The active unit's confirmation of a speculated scan that holds no fault (10 R287, R288). -/
theorem applyDecision_confirms {s : State} {n : BitVec 5} {c : TaskCfg} {r : Run} (role : s.pair.role = .lockstep ∨ s.pair.role = .staging)
    (cfg : taskCfg s n.toNat = some c) (run : (s.task n.toNat).run = some r) (spec : r.spec = true) (held : r.held = none) :
    applyDecision r.scan s (n, true) = (s.updRun n.toNat fun r => { r with outstanding := [] }).updTask n.toNat
      (Task.confirmed { r with outstanding := [] }) := by
  have run' : ((s.updRun n.toNat fun r => { r with outstanding := [] }).task n.toNat).run = some { r with outstanding := [] } :=
    (congrArg Task.run (task_updTask ..)).trans (congrArg (Option.map fun r : Run => { r with outstanding := [] }) run)
  have cfg' : taskCfg (s.updRun n.toNat fun r => { r with outstanding := [] }) n.toNat = some c := cfg
  unfold applyDecision
  dsimp only
  rw [run, Option.any_some, beq_self_eq_true, if_pos rfl]
  unfold resolveScan
  rw [run', cfg']
  dsimp only
  rw [if_pos (by rfl), if_pos spec, if_pos (by rfl)]
  unfold confirmScan
  extract_lets u v
  have silent : v = u := if_neg (by
    rw [show u.isActive = false from isActive_of (s := u) role, Bool.and_false]
    exact Bool.false_ne_true)
  rw [held, silent]
  rfl

section Early

variable {s : State} (calm : Calm s) (up : s.pair.linkUp = true) {m : ImageMsg} {c : TaskCfg} {r : Run}
  (role : s.pair.role = .lockstep ∨ s.pair.role = .staging) (taken : s.pair.tideTaken = true) (cfg : taskCfg s m.task.toNat = some c)
  (run : (s.task m.task.toNat).run = some r) (next : m.scan = r.scan + 1) (quiet : m.outcomes = []) (other : m.task.toNat ≠ s.stateTask)
include calm run next quiet other

omit calm in
/-- The decisions that an image brings apply to the scan before its own (10 R288). -/
theorem broughtBy_next (empty : s.pair.images = []) : broughtBy m s = m.decisions.foldl (applyDecision r.scan) (imageCame m s) := by
  have fresh : imageAgain (imageCame m s) m = false :=
    imageAgain_next (s := imageCame m s) empty ((congrArg Task.run (imageCame_task m s)).trans run) next
  rw [broughtBy_eq fresh quiet other, next, BitVec.add_sub_cancel]

include up role taken cfg

theorem gives_image_undecided (undecided : m.decisions = []) : Gives (.image (nextSeq s.pair.rxSeq) m) s fun t =>
    t.pair.images = [m] ∧ t.pair.role = s.pair.role ∧ (t.task m.task.toNat).run = some r ∧ spared s t := by
  refine (gives_image_early calm up role taken cfg run next (k := (s.task m.task.toNat).came m) run rfl fun x y z => ?_).imp ?_
  · have brought := broughtBy_next (s := s.hears x y z) run next quiet other calm.images
    rw [undecided] at brought
    rw [brought]
    exact ⟨⟨rfl, rfl, rfl, rfl, rfl⟩, rfl, rfl, imageCame_task m (s.hears x y z)⟩
  · exact fun t ⟨images, role, same, keeps⟩ => ⟨images, role, same.run.trans run, keeps⟩

theorem gives_image_confirmed (decided : m.decisions = [(m.task, true)]) (spec : r.spec = true) (held : r.held = none) :
    Gives (.image (nextSeq s.pair.rxSeq) m) s fun t => t.pair.images = [m] ∧ t.pair.role = s.pair.role ∧ spared s t
      ∧ (t.task m.task.toNat).confirms = satInc (s.task m.task.toNat).confirms
      ∧ ∃ r', (t.task m.task.toNat).run = some r' ∧ r'.spec = false ∧ r'.scan = r.scan ∧ r'.pc = r.pc ∧ r'.stack = r.stack := by
  let k := Task.confirmed { r with outstanding := [] } (((s.task m.task.toNat).came m) |> fun k => { k with run := k.run.map fun r => { r with outstanding := [] } })
  refine (gives_image_early calm up role taken cfg run next (k := k) rfl rfl fun x y z => ?_).imp ?_
  · have brought := broughtBy_next (s := s.hears x y z) run next quiet other calm.images
    rw [decided] at brought
    have came := imageCame_task m (s.hears x y z)
    have confirms := applyDecision_confirms (s := imageCame m (s.hears x y z)) (n := m.task) role cfg ((congrArg Task.run came).trans run) spec held
    have spares : Spares s (imageCame m (s.hears x y z)) := ⟨rfl, rfl, rfl, rfl, rfl⟩
    have man : (imageCame m (s.hears x y z)).man = s.man := rfl
    have pair : (imageCame m (s.hears x y z)).pair = (s.hears x y z).pair := rfl
    rw [brought, List.foldl_cons, List.foldl_nil, confirms]
    clear confirms brought
    generalize imageCame m (s.hears x y z) = u at came spares man pair
    refine ⟨spares.trans ⟨rfl, rfl, rfl, rfl, rfl⟩, man, pair, ?_⟩
    rw [task_updTask, State.updRun, task_updTask, came]
    rfl
  · exact fun t ⟨images, role, same, keeps⟩ => ⟨images, role, keeps, same.confirms, _, same.run, rfl, rfl, rfl, rfl⟩

end Early

end Sys2Proof.Machine
end

section
/-! SUPPORT. Messages of the partner and events of the crossing link, put together (14 R396 to R418). -/

namespace Sys2Proof.Machine

open Sys2Proof

/-- Settles O55: each message in sequence leaves what it spares and is settled by its own effect; an image waits for its task's scan, or
starts it on the numbers and values it carries. -/
theorem linkMessages : Obligations.LinkMessages := by
  intro s calm p q keeps
  refine ⟨fun up => ⟨fun m c role taken cfg => ⟨gives_image_ready calm up role taken cfg, fun r run next quiet other =>
        ⟨gives_image_undecided calm up role taken cfg run next quiet other, gives_image_confirmed calm up role taken cfg run next quiet other⟩⟩,
      fun m k standby mark distinct => gives_sample calm up standby mark distinct,
      fun x => ⟨gives_tide_follow calm up, gives_tide_active calm up x⟩, fun l standby => gives_events calm up standby,
      fun m standby free => gives_solver calm up m standby free,
      fun m compares => ⟨gives_digest_first calm up compares,
        fun a found => ⟨gives_digest_same calm up compares found, gives_digest_differs calm up compares found⟩⟩,
      gives_health calm up, fun g n b standby held apart => gives_resync calm up g n b standby held apart⟩,
    gives_linkDown calm, gives_linkUp calm, gives_linkUp_second calm, fun lane bad => gives_laneRecover calm bad, gives_badCopy calm,
    gives_peerOkInLow calm, gives_peerOkInChange calm, gives_peerOkTimeout calm⟩

end Sys2Proof.Machine
end
